-- ==== Sys2Proof/Word.lean ====
section
/-! DEFINITION. The words of the machine (registers are 32 bits wide, 00_scope) and the keyed tables that hold
sparse state: a table is a list of (key, value) pairs, its keys rising. -/
namespace Sys2Proof

abbrev Byte := BitVec 8
abbrev W16 := BitVec 16
abbrev W32 := BitVec 32
abbrev W48 := BitVec 48
abbrev W64 := BitVec 64

/-- A sparse table: pairs of a key and a value. -/
abbrev Tbl (α : Type) := List (Nat × α)

namespace Tbl

/-- The value listed under a key. -/
def get? {α : Type} : Tbl α → Nat → Option α
  | [], _ => none
  | (a, v) :: t, k => if a = k then some v else get? t k

/-- The value listed under a key, or `d`. -/
def getD {α : Type} (t : Tbl α) (k : Nat) (d : α) : α := (get? t k).getD d

/-- List a value under a key, in place of the one it had. -/
def set {α : Type} : Tbl α → Nat → α → Tbl α
  | [], k, v => [(k, v)]
  | (a, w) :: t, k, v =>
    if k < a then (k, v) :: (a, w) :: t
    else if a = k then (k, v) :: t
    else (a, w) :: set t k v

/-- Remove a key. -/
def del {α : Type} : Tbl α → Nat → Tbl α
  | [], _ => []
  | (a, w) :: t, k => if a = k then t else (a, w) :: del t k

/-- Change the value listed under a key, if one is. -/
def upd {α : Type} (t : Tbl α) (k : Nat) (f : α → α) : Tbl α :=
  match get? t k with
  | some v => set t k (f v)
  | none => t

/-- Whether a key is listed. -/
def has {α : Type} (t : Tbl α) (k : Nat) : Bool := (get? t k).isSome

/-- Change every value. -/
def mapVals {α β : Type} (t : Tbl α) (f : Nat → α → β) : Tbl β := t.map (fun p => (p.1, f p.1 p.2))

/-- The least key not listed, from `k` on, below `k + n`. -/
def leastFree {α : Type} (t : Tbl α) (k : Nat) : Nat → Option Nat
  | 0 => none
  | n + 1 => if has t k then leastFree t (k + 1) n else some k

end Tbl

end Sys2Proof
end

