-- ==== Sys2Proof/Syntax.lean ====
section
/-! DEFINITION. The commands of the module: one constructor for each row of the table of operations and events, with
what the row leaves to its surroundings as operands. -/
namespace Sys2Proof

/-! ### What comes from outside with a command of the cartridges -/

/-- R485: a certificate of a cartridge's chain, by what its check looks at. A key is named by a number, the cartridge root's
by 0 (DESIGN CHOICE, log entry 126). -/
structure CartCert where
  signer : Nat            -- the key that signed it
  key : Nat               -- the key that it certifies
  form : Bool             -- X.509 v3 in DER, for an ECDSA P-384 key, signed with ecdsa-with-SHA384
  digitalSignature : Bool -- its key usage
  serial : Nat            -- its serialNumber attribute
  deriving DecidableEq, Repr

/-- R408: what the identity element of a cartridge holds and never changes. -/
structure CartIdent where
  serial : Nat
  chain : List CartCert   -- the device certificate, then the intermediate one where there is one
  paramsOk : Bool         -- R409: the parameter data is valid
  table : List (List Nat) -- R426: for 4 × age bin + change bin, the threshold set and those of the retries in their order
  deriving DecidableEq, Repr

/-- R485: a signature of the element: the key that made it and the digest that it signs. -/
structure CartSig where
  key : Nat
  digest : List Byte
  deriving DecidableEq, Repr

/-- R420, R487: what the reads of a mount found otherwise than as it was written: the bytes of segments of checkpoint `k` (0 the
last), of spare records, by page, and of the wrapped keys in the key table, by namespace. -/
structure MountRead where
  segs : List (Nat × List Byte)
  spares : List (Nat × List Byte)
  keys : List (Nat × List Byte)
  deriving DecidableEq, Repr

/-- R426: how one attempt to read a page went: its codewords were corrected, and the temperature of the die. -/
structure ReadTry where
  ok : Bool
  temp : Nat
  deriving DecidableEq, Repr

/-- R421, R423: how the program of a wordline went: it was verified; the temperature of the die; the classes (R427) in which
the pages that it moves were read, by their place in the wordline. -/
structure ProgReport where
  ok : Bool
  temp : Nat
  classes : List Nat
  deriving DecidableEq, Repr

/-- R141, R156, R427: what the reads of a tier operation met: the address of an uncorrectable error; the classes of its flash
pages, in the order of the pages. -/
structure TierReport where
  err : Option Nat
  classes : List Nat
  deriving DecidableEq, Repr

/-- A command. The comment gives the row's mnemonic and the rule that governs it. An operand names an instance (a queue pair,
a slot, a run of a plot), carries a value that is written or received, or gives an outcome that lies outside the module
(an error met, a reading, a training result). Commands on a selected instance take it from its selection register. -/
inductive Instr where
  | regWrite (addr value : Nat) -- REG_WRITE (R9)
  | regUnmappedAccess (addr : Nat) (write : Bool) -- REG_UNMAPPED_ACCESS (R8)
  | regLoRead (addr : Nat) -- REG_LO_READ (R10)
  | regHiRead (addr : Nat) -- REG_HI_READ (R10)
  | regLoWrite (addr value : Nat) -- REG_LO_WRITE (R10)
  | regHiWrite (addr value : Nat) -- REG_HI_WRITE (R10)
  | furrowInEdge (clk : Nat) -- FURROW_IN_EDGE (R32)
  | refclkLoss (clk : Nat) -- REFCLK_LOSS (R27)
  | pllLock -- PLL_LOCK (R27)
  | captureWindowClose -- CAPTURE_WINDOW_CLOSE (R32)
  | realignDecision -- REALIGN_DECISION (R41)
  | furrowBoundary (temps powers : List Nat) (seen : List (Nat × Nat)) -- FURROW_BOUNDARY (R42)
  | sowingFreeze -- SOWING_FREEZE (R76)
  | furSourceWrite (source : Nat) -- FUR_SOURCE_WRITE (R31)
  | setApply -- SET_APPLY (R30)
  | furCntClr -- FUR_CNT_CLR (R48)
  | plotLoad (req : Nat) -- PLOT_LOAD (R62)
  | plotUnload (req : Nat) -- PLOT_UNLOAD (R63)
  | plotStart (n : Nat) -- PLOT_START (R66)
  | bundleIssue (run ecc addr : Nat) -- BUNDLE_ISSUE (R98)
  | plotEnd (run : Nat) -- PLOT_END (R53)
  | overrunCheck (run : Nat) -- OVERRUN_CHECK (R108)
  | trowelBudget (run core : Nat) -- TROWEL_BUDGET (R119)
  | rampup (run kind arr : Nat) -- RAMPUP (R104)
  | rampdn (run kind arr : Nat) -- RAMPDN (R104)
  | rampDone (run kind arr : Nat) -- RAMP_DONE (R108)
  | ldw (run kind arr fmt sw sa soff : Nat) -- LDW (R104)
  | ldwDone (run kind arr : Nat) -- LDW_DONE (R178)
  | swapw (run kind arr : Nat) -- SWAPW (R109)
  | mm (run kind arr accf fmt pack sw sa soff drow rows : Nat) -- MM (R176)
  | mmRowFinal (run : Nat) -- MM_ROW_FINAL (R198)
  | replayPauseEnd (run : Nat) -- REPLAY_PAUSE_END (R199)
  | seta (run a imm : Nat) -- SETA (R113)
  | adda (run a b simm : Nat) -- ADDA (R113)
  | lda (run a port sw sa soff : Nat) -- LDA (R113)
  | copy (run port sw sa dw da soff doff len : Nat) -- COPY (R113)
  | fill (run port dw da pr doff len : Nat) -- FILL (R113)
  | rkset (run sw sa dw da soff doff : Nat) -- RKSET (R113)
  | pdld (run port sw sa soff p : Nat) -- PDLD (R113)
  | drain (run kind arr ofmt dw da rbase rcnt : Nat) -- DRAIN (R115)
  | sexp (run kind arr exp : Nat) -- SEXP (R188)
  | amax (run len sfmt lanes : Nat) (mn : Bool) -- AMAX (R219)
  | topk (run len k sfmt lanes : Nat) (mn : Bool) -- TOPK (R218)
  | merge (run len k sfmt lanes : Nat) (mn : Bool) -- MERGE (R226)
  | rakeResultDone (run : Nat) -- RAKE_RESULT_DONE (R117)
  | tload (run tc w a size : Nat) -- TLOAD (R118)
  | tgo (run tc entry budget : Nat) -- TGO (R119)
  | waitclk (run clk : Nat) -- WAITCLK (R121)
  | hoff (run decl w a hr : Nat) -- HOFF (R122)
  | rdfur (run a : Nat) -- RDFUR (R120)
  | rdclk (run a : Nat) -- RDCLK (R120)
  | itemLand (handoff item : Nat) (err : Option (Bool × Nat)) -- ITEM_LAND (R80)
  | handoffLateItem (handoff : Nat) -- HANDOFF_LATE_ITEM (R82)
  | landingCutoff -- LANDING_CUTOFF (R81)
  | addSubLogic (run core : Nat) -- ADD_SUB_LOGIC (R127)
  | mul (run core : Nat) -- MUL (R127)
  | div (run core : Nat) -- DIV (R127)
  | addi (run core : Nat) -- ADDI (R127)
  | andi (run core : Nat) -- ANDI (R127)
  | ori (run core : Nat) -- ORI (R127)
  | xori (run core : Nat) -- XORI (R127)
  | shiftImmediate (run core : Nat) -- SHIFT_IMMEDIATE (R127)
  | slti (run core : Nat) -- SLTI (R127)
  | li (run core : Nat) -- LI (R127)
  | lih (run core : Nat) -- LIH (R127)
  | beq (run core : Nat) -- BEQ (R127)
  | bne (run core : Nat) -- BNE (R127)
  | blt (run core : Nat) -- BLT (R127)
  | bge (run core : Nat) -- BGE (R127)
  | bltu (run core : Nat) -- BLTU (R127)
  | bgeu (run core : Nat) -- BGEU (R127)
  | jal (run core : Nat) -- JAL (R127)
  | jalr (run core : Nat) -- JALR (R127)
  | ldD (run core : Nat) -- LD_D (R126)
  | ldW (run core : Nat) -- LD_W (R126)
  | ldH (run core : Nat) -- LD_H (R126)
  | ldB (run core : Nat) -- LD_B (R126)
  | stD (run core : Nat) -- ST_D (R126)
  | stW (run core : Nat) -- ST_W (R126)
  | stH (run core : Nat) -- ST_H (R126)
  | stB (run core : Nat) -- ST_B (R126)
  | vld (run core : Nat) -- VLD (R126)
  | vst (run core : Nat) -- VST (R126)
  | vst32 (run core : Nat) -- VST_32 (R126)
  | vectorArith (run core : Nat) -- VECTOR_ARITH (R127)
  | vfma (run core : Nat) -- VFMA (R127)
  | vexpVrcpVrsqrt (run core : Nat) -- VEXP_VRCP_VRSQRT (R127)
  | vreduce (run core : Nat) -- VREDUCE (R127)
  | vcvt (run core : Nat) -- VCVT (R128)
  | vbcast (run core : Nat) -- VBCAST (R127)
  | vperm (run core : Nat) -- VPERM (R127)
  | vext (run core : Nat) -- VEXT (R127)
  | rdflg (run core : Nat) -- RDFLG (R127)
  | trowelRdclk (run core : Nat) -- TROWEL_RDCLK (R127)
  | ldDWide (run core : Nat) -- LD_D_WIDE (R127)
  | vldWide (run core : Nat) -- VLD_WIDE (R127)
  | stDWide (run core : Nat) -- ST_D_WIDE (R127)
  | vstWide (run core : Nat) -- VST_WIDE (R127)
  | tend (run core : Nat) -- TEND (R127)
  | trowelIllegal (run core : Nat) -- TROWEL_ILLEGAL (R127)
  | tableCopyDone (coll ctx : Nat) -- TABLE_COPY_DONE (R248)
  | engineIssue (engine : Nat) -- ENGINE_ISSUE (R237)
  | readRound -- READ_ROUND (R239)
  | flashPageDelivered (coll ctx cls temp : Nat) -- FLASH_PAGE_DELIVERED (R239)
  | lpddrReadDelivered (coll ctx : Nat) (ecc : Option Nat) -- LPDDR_READ_DELIVERED (R240)
  | searchLand (coll : Nat) -- SEARCH_LAND (R254)
  | searchHarvest (shard : Bool) -- SEARCH_HARVEST (R254)
  | sieveIdxStage -- SIEVE_IDX_STAGE (R259)
  | sieveIdxCancel -- SIEVE_IDX_CANCEL (R264)
  | sieveCntClr -- SIEVE_CNT_CLR (R264)
  | portEnable (port : Nat) -- PORT_ENABLE (R269)
  | portDisable (port : Nat) -- PORT_DISABLE (R269)
  | portTrainingDone (port : Nat) -- PORT_TRAINING_DONE (R269)
  | portTrainingTimeout (port : Nat) -- PORT_TRAINING_TIMEOUT (R269)
  | portLinkFault (port : Nat) (lock : Bool) (uncorr : Nat) -- PORT_LINK_FAULT (R270)
  | time (pkt : List Byte) -- TIME (R29)
  | hello (port : Nat) (pkt : List Byte) -- HELLO (R269)
  | heartbeat (pkt : List Byte) -- HEARTBEAT (R277)
  | heartbeatEval -- HEARTBEAT_EVAL (R278)
  | query (pkt : List Byte) -- QUERY (R285)
  | result (pkt : List Byte) -- RESULT (R286)
  | textReq (pkt : List Byte) -- TEXT_REQ (R287)
  | textData (pkt : List Byte) -- TEXT_DATA (R287)
  | nack (pkt : List Byte) -- NACK (R283)
  | gatherReq (pkt : List Byte) -- GATHER_REQ (R301)
  | gatherData (pkt : List Byte) -- GATHER_DATA (R300)
  | tableWrite (pkt : List Byte) -- TABLE_WRITE (R311)
  | tableAck (pkt : List Byte) -- TABLE_ACK (R310)
  | reservedClassPacket (pkt : List Byte) -- RESERVED_CLASS_PACKET (R274)
  | fallbackSending (handoff : Nat) -- FALLBACK_SENDING (R283)
  | brxServeWrite (serve : Nat) -- BRX_SERVE_WRITE (R277)
  | brxFanoutWrite (fanout : Nat) -- BRX_FANOUT_WRITE (R292)
  | brxCntClr -- BRX_CNT_CLR (R292)
  | brxTagStage -- BRX_TAG_STAGE (R276)
  | brxTagCancel -- BRX_TAG_CANCEL (R292)
  | gatherRowRead (served : Bool) (id : Nat) (ecc : Option Nat) -- GATHER_ROW_READ (R300)
  | gathBuildGo -- GATH_BUILD_GO (R307)
  | gathBatchDone -- GATH_BATCH_DONE (R307)
  | mirrorAckTimeout -- MIRROR_ACK_TIMEOUT (R310)
  | gathTblStage -- GATH_TBL_STAGE (R305)
  | gathTblCancel -- GATH_TBL_CANCEL (R314)
  | gathCntClr -- GATH_CNT_CLR (R314)
  | textVocLoad -- TEXT_VOC_LOAD (R319)
  | textVocUnload -- TEXT_VOC_UNLOAD (R319)
  | vocCheckDone (slot : Nat) -- VOC_CHECK_DONE (R319)
  | segmentStart -- SEGMENT_START (R327)
  | segmentDone (lane : Nat) -- SEGMENT_DONE (R327)
  | textCntClr -- TEXT_CNT_CLR (R346)
  | espGrmLoad -- ESP_GRM_LOAD (R336)
  | espGrmRelease -- ESP_GRM_RELEASE (R336)
  | grammarCompileDone (slot : Nat) -- GRAMMAR_COMPILE_DONE (R336)
  | espMaskDone (ast : Nat) -- ESP_MASK_DONE (R337)
  | espCntClr -- ESP_CNT_CLR (R346)
  | pasmTplLoad -- PASM_TPL_LOAD (R339)
  | pasmTplRelease -- PASM_TPL_RELEASE (R339)
  | templateLoadDone (slot : Nat) -- TEMPLATE_LOAD_DONE (R339)
  | assemblyStart -- ASSEMBLY_START (R343)
  | assemblyDone -- ASSEMBLY_DONE (R341)
  | pasmCntClr -- PASM_CNT_CLR (R346)
  | seqMdlLoad -- SEQ_MDL_LOAD (R349)
  | seqMdlRelease -- SEQ_MDL_RELEASE (R349)
  | seqStageRes -- SEQ_STAGE_RES (R364)
  | seqCancelRes -- SEQ_CANCEL_RES (R372)
  | seqGrfLoad -- SEQ_GRF_LOAD (R354)
  | seqGrfRelease -- SEQ_GRF_RELEASE (R354)
  | seqCntClr -- SEQ_CNT_CLR (R372)
  | astData0Read -- AST_DATA0_READ (R372)
  | kvWaitExpiry (ast : Nat) -- KV_WAIT_EXPIRY (R353)
  | doorbellSqTail (qp value : Nat) -- DOORBELL_SQ_TAIL (R377)
  | doorbellCqHead (qp value : Nat) -- DOORBELL_CQ_HEAD (R377)
  | pipeline (req : Nat) -- PIPELINE (R384)
  | cancel (qp tag target : Nat) -- CANCEL (R398)
  | qpEnable (qp : Nat) -- QP_ENABLE (R376)
  | qpDisable (qp mode : Nat) -- QP_DISABLE (R399)
  | qpIrqArm (qp irq : Nat) -- QP_IRQ_ARM (R502)
  | ctxEnable -- CTX_ENABLE (R404)
  | ctxDisable (mode : Nat) -- CTX_DISABLE (R399)
  | ctxReset -- CTX_RESET (R401)
  | ctxResume -- CTX_RESUME (R400)
  | winCommit -- WIN_COMMIT (R374)
  | winFetch -- WIN_FETCH (R404)
  | winCheckDone -- WIN_CHECK_DONE (R374)
  | qmResWrite (addr value : Nat) -- QM_RES_WRITE (R395)
  | qmCntClr -- QM_CNT_CLR (R404)
  | tierCreate -- TIER_CREATE (R160)
  | tierSeal -- TIER_SEAL (R150)
  | tierCopy -- TIER_COPY (R160)
  | tierFill -- TIER_FILL (R160)
  | tierRelease -- TIER_RELEASE (R150)
  | tierOpDone (op : Nat) (rep : TierReport) -- TIER_OP_DONE (R159)
  | stagedDirectWrite (addr value : Nat) -- STAGED_DIRECT_WRITE (R463)
  | cartInsert (slot : Nat) (ident : CartIdent) (life tWriteMax : Nat) (foreign blank : Bool) -- CART_INSERT (R517)
  | cartPull (slot : Nat) -- CART_PULL (R517)
  | slotPowerGood (slot : Nat) -- SLOT_POWER_GOOD (R411)
  | authDone (slot : Nat) (sig : CartSig) -- AUTH_DONE (R409)
  | authTimeout (slot : Nat) -- AUTH_TIMEOUT (R409)
  | mountDone (slot : Nat) (found : MountRead) -- MOUNT_DONE (R420)
  | remove -- REMOVE (R412)
  | forceRemove -- FORCE_REMOVE (R412)
  | drainDone (slot : Nat) -- DRAIN_DONE (R412)
  | slotReset -- SLOT_RESET (R429)
  | slotResetOffDone (slot : Nat) -- SLOT_RESET_OFF_DONE (R429)
  | health -- HEALTH (R431)
  | nsCreate -- NS_CREATE (R414)
  | nsDelete -- NS_DELETE (R417)
  | flashCntClr -- FLASH_CNT_CLR (R434)
  | flashReadDone (read : Nat) (res : ReadTry) -- FLASH_READ_DONE (R427)
  | flashProgramDone (slot channel stream : Nat) (rep : ProgReport) -- FLASH_PROGRAM_DONE (R421)
  | flashEraseDone (slot channel block : Nat) (ok : Bool) -- FLASH_ERASE_DONE (R424)
  | foldStart (slot channel : Nat) -- FOLD_START (R422)
  | foldCommit (slot channel : Nat) -- FOLD_COMMIT (R423)
  | checkpoint (slot : Nat) -- CHECKPOINT (R420)
  | relocationStart (slot channel : Nat) -- RELOCATION_START (R425)
  | refreshStart (slot channel block : Nat) -- REFRESH_START (R425)
  | tempHoldEnter (slot temp : Nat) -- TEMP_HOLD_ENTER (R428)
  | tempHoldExit (slot temp : Nat) -- TEMP_HOLD_EXIT (R428)
  | hwr (addr : Nat) (data : List Byte) -- HWR (R441)
  | hrd (tag addr len : Nat) (err : Bool) -- HRD (R441)
  | dcpl (tag status : Nat) (data : List Byte) -- DCPL (R440)
  | linkTrainingDone (trained : Nat) (repairs : List (Nat × Nat)) (spares : List Nat) -- LINK_TRAINING_DONE (R436)
  | adapterRetryLimit (module retries crc : Nat) -- ADAPTER_RETRY_LIMIT (R438)
  | laneCheckFail (module : Nat) -- LANE_CHECK_FAIL (R438)
  | hostRetrain (module : Nat) -- HOST_RETRAIN (R438)
  | retrainDone (module : Nat) (lanes : List Nat) (spares : Nat) -- RETRAIN_DONE (R437)
  | retrainTimeout (module : Nat) -- RETRAIN_TIMEOUT (R438)
  | devAccessTimeout (access : Nat) -- DEV_ACCESS_TIMEOUT (R439)
  | hostCntClr -- HOST_CNT_CLR (R452)
  | funcEnable (domain : Nat) -- FUNC_ENABLE (R458)
  | funcDisable (domain mode : Nat) -- FUNC_DISABLE (R458)
  | stgArm (count : Nat) -- STG_ARM (R460)
  | stgCancel -- STG_CANCEL (R477)
  | stgStepLimit -- STG_STEP_LIMIT (R462)
  | domainPowered -- DOMAIN_POWERED (R455)
  | porstRelease (straps : Nat) -- PORST_RELEASE (R465)
  | bootClear -- BOOT_CLEAR (R466)
  | bootData (word : Nat) -- BOOT_DATA (R466)
  | bootVerify -- BOOT_VERIFY (R481)
  | verifyDone (sigOk : Bool) -- VERIFY_DONE (R481)
  | bringupStep -- BRINGUP_STEP (R465)
  | memcTrainingDone (failed : List Nat) -- MEMC_TRAINING_DONE (R156)
  | porstAssert -- PORST_ASSERT (R514)
  | supplyLoss (vstby : Bool) -- SUPPLY_LOSS (R514)
  | coldReset -- COLD_RESET (R468)
  | warmReset -- WARM_RESET (R470)
  | wrstFall -- WRST_FALL (R514)
  | warmResetEnd -- WARM_RESET_END (R470)
  | pwrCntClr -- PWR_CNT_CLR (R477)
  | sleepArm -- SLEEP_ARM (R471)
  | sleepCancel -- SLEEP_CANCEL (R477)
  | dormantEntryLimit -- DORMANT_ENTRY_LIMIT (R471)
  | wakeAtExpiry -- WAKE_AT_EXPIRY (R473)
  | wakeStep -- WAKE_STEP (R473)
  | wakeDone -- WAKE_DONE (R473)
  | entdaa (addr : Nat) -- ENTDAA (R474)
  | i3cWake -- I3C_WAKE (R474)
  | i3cColdReset -- I3C_COLD_RESET (R474)
  | i3cStatusRead -- I3C_STATUS_READ (R474)
  | i3cOtherWrite -- I3C_OTHER_WRITE (R474)
  | raiseSvn (value : Nat) -- RAISE_SVN (R482)
  | revoke (key : Nat) -- REVOKE (R482)
  | fuseBurnDone -- FUSE_BURN_DONE (R482)
  | cartReinit (slot : Nat) -- CART_REINIT (R487)
  | attestGo -- ATTEST_GO (R488)
  | attestDone -- ATTEST_DONE (R488)
  | rngTestFail -- RNG_TEST_FAIL (R484)
  | rngRecover -- RNG_RECOVER (R484)
  | secCntClr -- SEC_CNT_CLR (R492)
  | arrSowCntClr -- ARR_SOW_CNT_CLR (R88)
  | arrCntClr (die : Nat) -- ARR_CNT_CLR (R185)
  | arrAccCntClr (die : Nat) -- ARR_ACC_CNT_CLR (R209)
  | trwCntClr (die : Nat) -- TRW_CNT_CLR (R231)
  | rakeCntClr (die : Nat) -- RAKE_CNT_CLR (R231)
  | eventRecordWrite -- EVENT_RECORD_WRITE (R497)
  | evtRingHeadWrite (value : Nat) -- EVT_RING_HEAD_WRITE (R496)
  | evtEnableWrite (enable : Nat) -- EVT_ENABLE_WRITE (R500)
  | evtIrqWrite (irq : Nat) -- EVT_IRQ_WRITE (R502)
  | evtCntClr -- EVT_CNT_CLR (R506)
  | tierCmdCheckDone -- TIER_CMD_CHECK_DONE (R159)
  | tierReservedOp -- TIER_RESERVED_OP (R161)
  | onfiTrainingDone (slot : Nat) -- ONFI_TRAINING_DONE (R411)
  | vcartSwitchOpen (slot : Nat) -- VCART_SWITCH_OPEN (R517)
  deriving DecidableEq, Repr

end Sys2Proof
end

