-- ==== Sys2Proof/Config.lean ====
section
/-! DEFINITION. What one unit of the hardware fixes (fuses, certificates), the published algorithms the spec names
and does not restate, and the values the spec leaves open. Every free value is a constant with no body: nothing
is known of it. -/
namespace Sys2Proof.Config

/-- A value the spec leaves open, one for each count of the machine's free-value counter. -/
opaque freeValue : Nat → W64

/-- R492, R511: the module's serial number, fused before shipment, but for its never being 0 (`serial` of the operations). -/
opaque serialFuses : W64

/-- R492: the device certificate, fused. -/
opaque certificate : List Byte

/-- R483: the public keys in the boot ROM: K0 to K3, by number, and the cartridge root (the key 0 of a chain's signers, log entry 126). -/
opaque rootKey : Nat → List Byte
opaque cartridgeRoot : List Byte

/-- R483: the module secret, 256 bits of the fuses. -/
opaque moduleSecret : List Byte

/-- R484: what the CTR_DRBG draws: the entropy that seeds it is the module's own, so its state is told by the reseeds and the
draws so far. -/
opaque drbg : Nat → Nat → W64

/-- AES-256 (FIPS 197) of a block of 16 bytes: encryption and decryption under a key of 32 bytes. -/
opaque aesEnc : List Byte → List Byte → List Byte
opaque aesDec : List Byte → List Byte → List Byte

/-- The wrapped system key that stands in the element of a cartridge that was in use before it is first inserted, by serial. -/
opaque elementKey : Nat → List Byte

/-- ECDSA over P-384 with SHA-384: whether a signature (R480: r, then s) of a message is good under a public key. -/
opaque ecdsaVerify : List Byte → List Byte → List Byte → Bool

/-- ECDSA over P-384 with the module's private device key: signature bytes (R488) of a message, by the draw of the
random number generator (R484). -/
opaque ecdsaSign : Nat → List Byte → List Byte

/-- The payload and the sign of a NaN that an operation gives (format width, operands): R128 does not state them. -/
opaque nanPayload : Nat → Nat → Nat → Nat → Nat

/-- Whether underflow is detected before rounding: IEEE 754 leaves it to the implementation. -/
opaque tinyBeforeRounding : Bool

/-- vmin (0) and vmax (1) of a NaN operand, or of zeros of both signs: not stated (width, which, operands). -/
opaque minMaxOpen : Nat → Nat → Nat → Nat → Nat
opaque minMaxFlags : Nat → Nat → Nat → Nat

/-- Whether vfma of 0, an infinity and a quiet NaN addend sets invalid: IEEE 754 leaves it to the implementation. -/
opaque fmaNanInvalid : Bool

/-- vredsum over floating-point lanes where the order of the additions, which is not stated, could matter (width, lanes). -/
opaque redSum : Nat → List Nat → Nat
opaque redSumFlags : Nat → List Nat → Nat

/-- vredmax and vredmin with a NaN among the lanes, or zeros of both signs (width, which, lanes). -/
opaque redOpen : Nat → Nat → List Nat → Nat

/-- vcvt to a type wider than the source lanes: 512 bits that the spec does not lay out (type, destination, operand). -/
opaque vcvtWide : Nat → Nat → Nat → Nat

/-- The value of a saturated column none of whose partial sums went out of range, from its sum and exponent. -/
opaque satOpen : Int → Int → Nat

/-- What a plot reads of an open landing area (handoff, request of the plot, machine clk, address). -/
opaque openLanding : Nat → Nat → Nat → Nat → Nat

/-- A scalar shift by 64 or more (function, operand, amount). -/
opaque shiftOver : Nat → Nat → Nat → Nat

/-- The signed quotient of the most negative number by −1, which does not fit 64 bits. -/
opaque divOver : Nat

/-- vext of a lane number at or above the lane count (lane width, operand, lane). -/
opaque vextOver : Nat → Nat → Nat → Nat

/-- The number by which BRX_PORT_DOWN carries its cause (0 loss of lock, 1 uncorrectable codewords): the spec gives none. -/
opaque portDownCause : Nat → Nat

/-- The number by which HOST_MODULE_RETRAIN carries its cause (0 retries, 1 a lane, 2 a write of RETRAIN): the spec gives
none. -/
opaque retrainCause : Nat → Nat

/-- A byte of a page that another key encrypted than the one it is read with (R416): key of the page, key of the read, page,
byte. -/
opaque wrongKeyByte : Nat → Nat → Nat → Nat → Byte

end Sys2Proof.Config
end

