-- ==== Sys2Proof/Machine/RegIndex.lean ====
section
/-! DEFINITION. The register index of R509 (20_address_reference) with the fields of every register table of
the chapters: address, number of instances and their stride, reset domain (R12), the selection register that
addresses the instance (R510), and the fields with their access codes (R9), reset values and, where the
field's meaning states a range, that range (R525). Bits that no field covers are RSV: they read 0. -/
namespace Sys2Proof.Machine

/-- R9: the access codes of the register tables. -/
inductive Access where
  | rw | ro | wo | w1c | w1s
  deriving DecidableEq, Repr

/-- R12: the reset domains. -/
inductive ResetDomain where
  | cold | warm | context
  deriving DecidableEq, Repr

/-- R510: which selection register names the instance a register address stands for (`none`: the address alone does). -/
inductive RegSel where
  | none | ctx | win | ast | mdl | grf | obj | page | eng | idx | slot | nsslot | ns | ch | tbl | voc | grm | tpl
  | peer | port | mod | stg | tel
  deriving DecidableEq, Repr

/-- One field: its top and bottom bit, access code, reset value, and the least and greatest value a write may store (R525). -/
structure Field where
  hi : Nat
  lo : Nat
  acc : Access
  rst : Nat
  least : Nat
  most : Nat
  deriving DecidableEq, Repr

/-- One row of the register index: `count` instances from `addr` on, `stride` bytes apart. -/
structure RegDesc where
  addr : Nat
  count : Nat
  stride : Nat
  dom : ResetDomain
  sel : RegSel
  fields : List Field
  deriving DecidableEq, Repr

def fRW (hi lo rst : Nat) : Field := ⟨hi, lo, .rw, rst, 0, 2 ^ (hi - lo + 1) - 1⟩
def fRO (hi lo rst : Nat) : Field := ⟨hi, lo, .ro, rst, 0, 2 ^ (hi - lo + 1) - 1⟩
def fWO (hi lo rst : Nat) : Field := ⟨hi, lo, .wo, rst, 0, 2 ^ (hi - lo + 1) - 1⟩
def fW1C (hi lo rst : Nat) : Field := ⟨hi, lo, .w1c, rst, 0, 2 ^ (hi - lo + 1) - 1⟩
/-- An RW field whose meaning states the range of values it takes (R525). -/
def fIn (hi lo rst least most : Nat) : Field := ⟨hi, lo, .rw, rst, least, most⟩

def regsGLB : List RegDesc := [
  -- GLB_ID
  ⟨0x0, 1, 4, .cold, .none, [fRO 23 16 0xB0, fRO 15 0 0x12]⟩,
  -- GLB_SERIAL_LO
  ⟨0x4, 1, 4, .cold, .none, [fRO 31 0 0]⟩,
  -- GLB_SERIAL_HI
  ⟨0x8, 1, 4, .cold, .none, [fRO 31 0 0]⟩,
  -- GLB_SCRATCH0
  ⟨0x10, 4, 4, .warm, .none, [fRW 31 0 0]⟩]

def regsFUR : List RegDesc := [
  -- FUR_STATUS
  ⟨0x10000, 1, 4, .cold, .none, [fRO 15 8 0, fRO 7 7 0, fRO 6 4 0, fRO 3 3 0, fRO 2 2 0, fRO 1 0 2]⟩,
  -- FUR_CTRL
  ⟨0x10004, 1, 4, .cold, .none, [fWO 7 7 0, fWO 6 6 0, fRW 0 0 0]⟩,
  -- FUR_COUNT_LO
  ⟨0x10008, 1, 4, .cold, .none, [fRO 31 0 0]⟩,
  -- FUR_COUNT_HI
  ⟨0x1000C, 1, 4, .cold, .none, [fRO 15 0 0]⟩,
  -- FUR_OFFSET_CAP
  ⟨0x10010, 1, 4, .cold, .none, [fRO 17 0 0]⟩,
  -- FUR_PHASE
  ⟨0x10014, 1, 4, .cold, .none, [fRO 31 31 0, fRO 17 0 0]⟩,
  -- FUR_SET_LO
  ⟨0x10018, 1, 4, .cold, .none, [fRW 31 0 0]⟩,
  -- FUR_SET_HI
  ⟨0x1001C, 1, 4, .cold, .none, [fRW 15 0 0]⟩,
  -- FUR_SLIP_COUNT
  ⟨0x10020, 1, 4, .cold, .none, [fRO 31 0 0]⟩,
  -- FUR_MISS_COUNT
  ⟨0x10024, 1, 4, .cold, .none, [fRO 31 0 0]⟩,
  -- FUR_TC_ERR_COUNT
  ⟨0x10028, 1, 4, .cold, .none, [fRO 31 0 0]⟩,
  -- FUR_LOCK_AT_LO
  ⟨0x1002C, 1, 4, .cold, .none, [fRO 31 0 0]⟩,
  -- FUR_LOCK_AT_HI
  ⟨0x10030, 1, 4, .cold, .none, [fRO 15 0 0]⟩]

def regsPWR : List RegDesc := [
  -- PWR_STATUS
  ⟨0x20000, 1, 4, .cold, .none, [fRO 4 4 0, fRO 3 0 0]⟩,
  -- PWR_CTRL
  ⟨0x20004, 1, 4, .warm, .none, [fWO 31 31 0, fWO 30 30 0, fWO 0 0 0]⟩,
  -- PWR_BOOT_CTRL
  ⟨0x20008, 1, 4, .cold, .none, [fWO 1 1 0, fWO 0 0 0]⟩,
  -- PWR_BOOT_DATA
  ⟨0x2000C, 1, 4, .cold, .none, [fWO 31 0 0]⟩,
  -- PWR_BOOT_STATUS
  ⟨0x20010, 1, 4, .cold, .none, [fRO 31 28 0, fRO 23 0 0]⟩,
  -- PWR_DOM_TARGET
  ⟨0x20014, 1, 4, .cold, .none, [fRW 22 22 1, fRW 21 20 3, fRW 18 18 1, fRW 15 0 0xFFFF]⟩,
  -- PWR_DOM_STATE0
  ⟨0x20018, 1, 4, .cold, .none, [fRO 31 0 0]⟩,
  -- PWR_DOM_STATE1
  ⟨0x2001C, 1, 4, .cold, .none, [fRO 31 0 2]⟩,
  -- PWR_FUNC_CMD
  ⟨0x20020, 1, 4, .warm, .none, [fWO 9 9 0, fWO 8 8 0, fWO 5 5 0, fWO 4 0 0]⟩,
  -- PWR_FUNC_STATE0
  ⟨0x20024, 2, 4, .cold, .none, [fRO 31 0 0]⟩,
  -- PWR_CFG_LIMIT
  ⟨0x20030, 1, 4, .warm, .none, [fRW 15 0 0x40]⟩,
  -- PWR_STG_SEL
  ⟨0x20040, 1, 4, .warm, .none, [fRW 7 0 0]⟩,
  -- PWR_STG_W0
  ⟨0x20044, 4, 4, .warm, .stg, [fRW 31 0 0]⟩,
  -- PWR_STG_AT_LO
  ⟨0x20054, 1, 4, .warm, .none, [fRW 31 0 0]⟩,
  -- PWR_STG_AT_HI
  ⟨0x20058, 1, 4, .warm, .none, [fRW 15 0 0]⟩,
  -- PWR_STG_CTRL
  ⟨0x2005C, 1, 4, .warm, .none, [fWO 31 31 0, fWO 30 30 0, fIn 8 0 0 1 256]⟩,
  -- PWR_STG_STATUS
  ⟨0x20060, 1, 4, .warm, .none, [fRO 31 30 0, fRO 29 24 0, fRO 23 16 0xFF, fRO 15 8 0, fRO 7 0 0]⟩,
  -- PWR_SLEEP_AT_LO
  ⟨0x20070, 1, 4, .warm, .none, [fRW 31 0 0]⟩,
  -- PWR_SLEEP_AT_HI
  ⟨0x20074, 1, 4, .warm, .none, [fRW 15 0 0]⟩,
  -- PWR_SLEEP_CTRL
  ⟨0x20078, 1, 4, .warm, .none, [fRO 17 16 0, fRW 2 2 0, fWO 1 1 0, fWO 0 0 0]⟩,
  -- PWR_WAKE_AT_LO
  ⟨0x2007C, 1, 4, .warm, .none, [fRW 31 0 0]⟩,
  -- PWR_WAKE_AT_HI
  ⟨0x20080, 1, 4, .warm, .none, [fRW 15 0 0]⟩,
  -- PWR_WAKES
  ⟨0x20090, 1, 4, .cold, .none, [fRO 31 0 0]⟩,
  -- PWR_WARM_RESETS
  ⟨0x20094, 1, 4, .cold, .none, [fRO 31 0 0]⟩]

def regsPWR2 : List RegDesc := [
  -- PWR_STG_FAILS
  ⟨0x20098, 1, 4, .cold, .none, [fRO 31 0 0]⟩,
  -- PWR_DORMANT_FURROWS
  ⟨0x2009C, 1, 4, .cold, .none, [fRO 31 0 0]⟩]

def regsSEC : List RegDesc := [
  -- SEC_STATUS
  ⟨0x30000, 1, 4, .cold, .none, [fRO 31 31 1, fRO 30 30 0, fRO 29 29 0, fRO 23 22 0, fRO 21 16 0, fRO 15 12 0, fRO 5 0 0]⟩,
  -- SEC_CTRL
  ⟨0x30004, 1, 4, .warm, .none, [fWO 0 0 0]⟩,
  -- SEC_RUN_BUILD_LO
  ⟨0x30008, 1, 4, .cold, .none, [fRO 31 0 0]⟩,
  -- SEC_RUN_BUILD_HI
  ⟨0x3000C, 1, 4, .cold, .none, [fRO 31 0 0]⟩,
  -- SEC_FUSE_CMD
  ⟨0x30010, 1, 4, .cold, .none, [fWO 31 31 0, fRO 23 16 0, fIn 9 8 0 1 2, fRW 5 0 0]⟩,
  -- SEC_CART_CMD
  ⟨0x30014, 1, 4, .warm, .none, [fWO 31 31 0, fRW 1 0 0]⟩,
  -- SEC_ATTEST_NONCE0
  ⟨0x30020, 12, 4, .warm, .none, [fRW 31 0 0]⟩,
  -- SEC_ATTEST_CTRL
  ⟨0x30050, 1, 4, .warm, .none, [fRO 31 31 0, fWO 0 0 0]⟩,
  -- SEC_ATTEST_OUT0
  ⟨0x30100, 64, 4, .warm, .none, [fRO 31 0 0]⟩,
  -- SEC_CERT_SEL
  ⟨0x30200, 1, 4, .warm, .none, [fRW 7 0 0]⟩,
  -- SEC_CERT_DATA
  ⟨0x30204, 1, 4, .warm, .none, [fRO 31 0 0]⟩,
  -- SEC_CERT_LEN
  ⟨0x30208, 1, 4, .warm, .none, [fRO 31 0 0]⟩,
  -- SEC_UNWRAP_FAILS
  ⟨0x30300, 1, 4, .cold, .none, [fRO 31 0 0]⟩,
  -- SEC_RNG_FAILS
  ⟨0x30304, 1, 4, .cold, .none, [fRO 31 0 0]⟩,
  -- SEC_ATTESTS
  ⟨0x30308, 1, 4, .cold, .none, [fRO 31 0 0]⟩]

def regsEVT : List RegDesc := [
  -- EVT_STATUS
  ⟨0x40000, 1, 4, .warm, .none, [fW1C 31 31 0, fRO 8 0 0]⟩,
  -- EVT_CTRL
  ⟨0x40004, 1, 4, .warm, .none, [fRW 31 31 0, fRW 30 30 0, fWO 29 29 0, fIn 20 16 6 6 16, fRW 14 0 0x7FFF]⟩,
  -- EVT_RING_BASE_LO
  ⟨0x40008, 1, 4, .warm, .none, [fRW 31 12 0]⟩,
  -- EVT_RING_BASE_HI
  ⟨0x4000C, 1, 4, .warm, .none, [fRW 31 0 0]⟩,
  -- EVT_RING_HEAD
  ⟨0x40010, 1, 4, .warm, .none, [fRW 31 0 0]⟩,
  -- EVT_RING_TAIL
  ⟨0x40014, 1, 4, .warm, .none, [fRO 31 0 0]⟩,
  -- EVT_SEQ
  ⟨0x40018, 1, 4, .cold, .none, [fRO 31 0 0]⟩,
  -- EVT_LOST
  ⟨0x4001C, 1, 4, .cold, .none, [fRO 31 0 0]⟩,
  -- EVT_THROTTLED
  ⟨0x40020, 1, 4, .cold, .none, [fRO 31 0 0]⟩,
  -- EVT_RAISED
  ⟨0x40024, 1, 4, .cold, .none, [fRO 31 0 0]⟩,
  -- EVT_TEL_SEL
  ⟨0x40040, 1, 4, .warm, .none, [fRW 3 0 0]⟩,
  -- EVT_TEL_TEMP
  ⟨0x40044, 1, 4, .cold, .tel, [fRO 15 8 0x80, fRO 7 0 0x80]⟩,
  -- EVT_TEL_POWER
  ⟨0x40048, 1, 4, .cold, .tel, [fRO 31 16 0, fRO 15 0 0]⟩,
  -- EVT_THERM_CFG
  ⟨0x4004C, 1, 4, .cold, .none, [fIn 7 0 95 60 105]⟩,
  -- EVT_PWR_LIMIT
  ⟨0x40050, 1, 4, .cold, .none, [fRW 15 0 0x3A98]⟩]

def regsQM : List RegDesc := [
  -- QM_QP_CTRL
  ⟨0x100000, 4096, 0x40, .context, .none, [fRW 31 31 0, fRW 30 30 0, fIn 29 28 0 0 2, fRW 27 27 0, fIn 23 20 4 4 12, fIn 19 16 4 4 12, fRW 9 0 0]⟩,
  -- QM_QP_STATUS
  ⟨0x100004, 4096, 0x40, .context, .none, [fRO 31 30 0, fRO 23 16 0]⟩,
  -- QM_QP_SQ_BASE_LO
  ⟨0x100008, 4096, 0x40, .context, .none, [fRW 31 12 0]⟩,
  -- QM_QP_SQ_BASE_HI
  ⟨0x10000C, 4096, 0x40, .context, .none, [fRW 31 0 0]⟩,
  -- QM_QP_CQ_BASE_LO
  ⟨0x100010, 4096, 0x40, .context, .none, [fRW 31 12 0]⟩,
  -- QM_QP_CQ_BASE_HI
  ⟨0x100014, 4096, 0x40, .context, .none, [fRW 31 0 0]⟩,
  -- QM_QP_SQ_TAIL
  ⟨0x100018, 4096, 0x40, .context, .none, [fRO 15 0 0]⟩,
  -- QM_QP_SQ_HEAD
  ⟨0x10001C, 4096, 0x40, .context, .none, [fRO 15 0 0]⟩,
  -- QM_QP_CQ_TAIL
  ⟨0x100020, 4096, 0x40, .context, .none, [fRO 15 0 0]⟩,
  -- QM_QP_CQ_HEAD
  ⟨0x100024, 4096, 0x40, .context, .none, [fRO 15 0 0]⟩,
  -- QM_QP_INFLIGHT
  ⟨0x100028, 4096, 0x40, .context, .none, [fRO 31 16 0, fRO 15 0 0]⟩,
  -- QM_CTX_SEL
  ⟨0x140000, 1, 4, .warm, .none, [fRW 9 0 0]⟩,
  -- QM_CTX_CTRL
  ⟨0x140004, 1, 4, .context, .ctx, [fRW 31 31 0, fRW 30 30 0, fWO 29 29 0, fWO 28 28 0, fRW 27 25 6, fRW 24 24 0]⟩,
  -- QM_CTX_STATUS
  ⟨0x140008, 1, 4, .context, .ctx, [fRO 31 29 0, fRO 15 0 0]⟩,
  -- QM_CTX_LIMITS
  ⟨0x14000C, 1, 4, .context, .ctx, [fRW 31 16 0x100]⟩,
  -- QM_CTX_RES
  ⟨0x140010, 1, 4, .context, .ctx, [fIn 28 16 8000 0 8000, fIn 11 0 0 0 4000]⟩,
  -- QM_CTX_PREEMPT
  ⟨0x140014, 1, 4, .context, .ctx, [fRO 31 0 0]⟩,
  -- QM_CTX_ADMITTED
  ⟨0x140018, 1, 4, .context, .ctx, [fRO 31 0 0]⟩,
  -- QM_CTX_REJECTED
  ⟨0x14001C, 1, 4, .context, .ctx, [fRO 31 0 0]⟩,
  -- QM_CTX_FAULTS
  ⟨0x140020, 1, 4, .context, .ctx, [fRO 31 0 0]⟩,
  -- QM_CTX_HIST0
  ⟨0x140040, 16, 4, .context, .ctx, [fRO 31 0 0]⟩,
  -- QM_WIN_SEL
  ⟨0x140080, 1, 4, .warm, .none, [fRW 3 0 0]⟩,
  -- QM_WIN_ATTR
  ⟨0x140084, 1, 4, .context, .win, [fRW 31 30 0, fRW 29 29 0]⟩,
  -- QM_WIN_BASE_LO
  ⟨0x140088, 1, 4, .context, .win, [fRW 31 0 0]⟩]

def regsQM2 : List RegDesc := [
  -- QM_WIN_BASE_HI
  ⟨0x14008C, 1, 4, .context, .win, [fRW 31 0 0]⟩,
  -- QM_WIN_SIZE_LO
  ⟨0x140090, 1, 4, .context, .win, [fRW 31 0 0]⟩,
  -- QM_WIN_SIZE_HI
  ⟨0x140094, 1, 4, .context, .win, [fRW 31 0 0]⟩,
  -- QM_WIN_CMD
  ⟨0x140098, 1, 4, .context, .win, [fWO 1 1 0, fWO 0 0 0]⟩,
  -- QM_WIN_STATUS
  ⟨0x14009C, 1, 4, .context, .win, [fRO 31 31 0, fRO 23 16 0]⟩,
  -- QM_STATUS
  ⟨0x180000, 1, 4, .warm, .none, [fRO 31 31 0, fRO 10 0 0]⟩,
  -- QM_CTRL
  ⟨0x180004, 1, 4, .warm, .none, [fWO 0 0 0]⟩,
  -- QM_C0_PREFILL
  ⟨0x180008, 1, 4, .warm, .none, [fIn 11 0 0 0 4000]⟩,
  -- QM_C0_DEPTH
  ⟨0x18000C, 1, 4, .warm, .none, [fIn 7 0 240 1 240]⟩,
  -- QM_C0_SIEVE
  ⟨0x180010, 1, 4, .warm, .none, [fIn 13 8 0 0 21, fIn 5 0 0 0 32]⟩,
  -- QM_C0_UNITS
  ⟨0x180014, 1, 4, .warm, .none, [fIn 16 0 0 0 81920]⟩,
  -- QM_C0_BUCKET
  ⟨0x180018, 1, 4, .warm, .none, [fRO 19 0 0]⟩,
  -- QM_CFG_STATUS
  ⟨0x18001C, 1, 4, .warm, .none, [fRO 23 16 0]⟩,
  -- QM_ADMITTED
  ⟨0x180020, 1, 4, .warm, .none, [fRO 31 0 0]⟩,
  -- QM_REJECTED
  ⟨0x180024, 1, 4, .warm, .none, [fRO 31 0 0]⟩,
  -- QM_C0_IN_RES
  ⟨0x180028, 1, 4, .warm, .none, [fRO 31 0 0]⟩,
  -- QM_C0_BEYOND
  ⟨0x18002C, 1, 4, .warm, .none, [fRO 31 0 0]⟩,
  -- QM_BOUND_MISSES
  ⟨0x180030, 1, 4, .warm, .none, [fRO 31 0 0]⟩,
  -- QM_DOORBELL_DISCARDS
  ⟨0x180034, 1, 4, .warm, .none, [fRO 31 0 0]⟩,
  -- QM_CANCELS
  ⟨0x180038, 1, 4, .warm, .none, [fRO 31 0 0]⟩]

def regsSEQ : List RegDesc := [
  -- SEQ_STATUS
  ⟨0x200000, 1, 4, .warm, .none, [fRO 29 16 0, fRO 13 0 0]⟩,
  -- SEQ_CTRL
  ⟨0x200004, 1, 4, .warm, .none, [fRW 15 8 0x10, fWO 0 0 0]⟩,
  -- SEQ_AST_SEL
  ⟨0x200008, 1, 4, .warm, .none, [fRW 12 0 0]⟩,
  -- SEQ_ENTRIES
  ⟨0x200010, 1, 4, .warm, .none, [fRO 31 0 0]⟩,
  -- SEQ_STAGES
  ⟨0x200014, 1, 4, .warm, .none, [fRO 31 0 0]⟩,
  -- SEQ_TOKENS
  ⟨0x200018, 1, 4, .warm, .none, [fRO 31 0 0]⟩,
  -- SEQ_DEFERRALS
  ⟨0x20001C, 1, 4, .warm, .none, [fRO 31 0 0]⟩,
  -- SEQ_CANCELS
  ⟨0x200020, 1, 4, .warm, .none, [fRO 31 0 0]⟩,
  -- SEQ_KV_WAITS
  ⟨0x200024, 1, 4, .warm, .none, [fRO 31 0 0]⟩,
  -- SEQ_BAD_TOKENS
  ⟨0x200028, 1, 4, .warm, .none, [fRO 31 0 0]⟩,
  -- SEQ_AST_DATA0
  ⟨0x200040, 16, 4, .warm, .ast, [fRO 31 0 0]⟩,
  -- SEQ_MDL_SEL
  ⟨0x200100, 1, 4, .warm, .none, [fRW 7 0 0]⟩,
  -- SEQ_MDL_CFG
  ⟨0x200104, 1, 4, .warm, .mdl, [fRO 31 30 0, fRW 29 27 0, fRW 26 25 0, fRW 24 19 0, fRW 9 0 0]⟩,
  -- SEQ_MDL_ID
  ⟨0x200108, 1, 4, .warm, .mdl, [fRW 31 0 0]⟩,
  -- SEQ_MDL_GEOM
  ⟨0x20010C, 1, 4, .warm, .mdl, [fRW 31 21 0, fRW 20 13 0, fRW 12 0 0]⟩,
  -- SEQ_MDL_MAXPOS
  ⟨0x200110, 1, 4, .warm, .mdl, [fRW 19 0 0]⟩,
  -- SEQ_MDL_AREA
  ⟨0x200114, 1, 4, .warm, .mdl, [fRW 19 16 0, fRW 15 0 0]⟩,
  -- SEQ_MDL_POOL_LO
  ⟨0x200118, 1, 4, .warm, .mdl, [fRW 31 16 0, fRW 15 0 0]⟩,
  -- SEQ_MDL_POOL_HI
  ⟨0x20011C, 1, 4, .warm, .mdl, [fRW 31 16 0, fRW 15 0 0]⟩,
  -- SEQ_MDL_CHAIN
  ⟨0x200120, 1, 4, .warm, .mdl, [fRW 31 24 0, fRW 23 16 0, fRW 15 0 0]⟩,
  -- SEQ_MDL_STREAM
  ⟨0x200124, 1, 4, .warm, .mdl, [fRW 31 24 0, fIn 16 0 0 0 81920]⟩,
  -- SEQ_MDL_WEIGHTS
  ⟨0x200128, 1, 4, .warm, .mdl, [fRO 31 16 0, fRW 15 0 0]⟩,
  -- SEQ_MDL_RES_NEXT
  ⟨0x20012C, 1, 4, .warm, .mdl, [fRW 15 0 0]⟩,
  -- SEQ_MDL_APPLY_LO
  ⟨0x200130, 1, 4, .warm, .mdl, [fRW 31 0 0]⟩]

def regsSEQ2 : List RegDesc := [
  -- SEQ_MDL_APPLY_HI
  ⟨0x200134, 1, 4, .warm, .mdl, [fRW 15 0 0]⟩,
  -- SEQ_MDL_CMD
  ⟨0x200138, 1, 4, .warm, .mdl, [fRO 23 16 0, fRO 15 14 0, fRO 13 13 0, fRO 12 12 0, fWO 3 3 0, fWO 2 2 0, fWO 1 1 0, fWO 0 0 0]⟩,
  -- SEQ_GRF_SEL
  ⟨0x200200, 1, 4, .warm, .none, [fRW 11 0 0]⟩,
  -- SEQ_GRF_CFG
  ⟨0x200204, 1, 4, .warm, .grf, [fRO 31 30 0, fRW 29 29 0, fRW 25 16 0, fRW 15 0 0]⟩,
  -- SEQ_GRF_TOKENS
  ⟨0x200208, 1, 4, .warm, .grf, [fIn 19 0 0 1 1048575]⟩,
  -- SEQ_GRF_ID
  ⟨0x20020C, 1, 4, .warm, .grf, [fRW 31 0 0]⟩,
  -- SEQ_GRF_CMD
  ⟨0x200210, 1, 4, .warm, .grf, [fRO 23 16 0, fWO 1 1 0, fWO 0 0 0]⟩]

def regsTIER : List RegDesc := [
  -- TIER_CMD_W0
  ⟨0x300000, 8, 4, .warm, .none, [fRW 31 0 0]⟩,
  -- TIER_CMD_CTRL
  ⟨0x300020, 1, 4, .warm, .none, [fWO 0 0 0]⟩,
  -- TIER_CMD_STATUS
  ⟨0x300024, 1, 4, .warm, .none, [fRO 31 31 0, fRO 23 16 0, fRO 15 0 0]⟩,
  -- TIER_OBJ_SEL
  ⟨0x300028, 1, 4, .warm, .none, [fRW 15 0 0]⟩,
  -- TIER_OBJ_INFO
  ⟨0x30002C, 1, 4, .cold, .obj, [fRO 31 28 0, fRO 27 26 0, fRO 25 22 0, fRO 21 21 0, fRO 20 20 0, fRO 9 0 0]⟩,
  -- TIER_OBJ_SIZE_LO
  ⟨0x300030, 1, 4, .cold, .obj, [fRO 31 0 0]⟩,
  -- TIER_OBJ_SIZE_HI
  ⟨0x300034, 1, 4, .cold, .obj, [fRO 31 0 0]⟩,
  -- TIER_OBJ_BASE_LO
  ⟨0x300038, 1, 4, .cold, .obj, [fRO 31 0 0]⟩,
  -- TIER_OBJ_BASE_HI
  ⟨0x30003C, 1, 4, .cold, .obj, [fRO 31 0 0]⟩,
  -- TIER_OBJ_LAST_LO
  ⟨0x300040, 1, 4, .cold, .obj, [fRO 31 0 0]⟩,
  -- TIER_OBJ_LAST_HI
  ⟨0x300044, 1, 4, .cold, .obj, [fRO 31 0 0]⟩,
  -- TIER_EVICTIONS
  ⟨0x300048, 1, 4, .cold, .none, [fRO 31 0 0]⟩,
  -- TIER_POOL_FULL
  ⟨0x30004C, 1, 4, .cold, .none, [fRO 31 0 0]⟩,
  -- TIER_OPS
  ⟨0x300050, 1, 4, .warm, .none, [fRO 22 16 0, fRO 9 0 0x280]⟩]

def regsSTORE : List RegDesc := [
  -- STORE_STATUS
  ⟨0x400000, 1, 4, .warm, .none, [fRO 29 16 0, fRO 13 0 0x2000]⟩,
  -- STORE_SET_WIDE_LO
  ⟨0x400008, 1, 4, .cold, .none, [fRW 31 0 0xFFFFFFFF]⟩,
  -- STORE_SET_WIDE_HI
  ⟨0x40000C, 1, 4, .cold, .none, [fRW 31 0 0xFFFFFFFF]⟩,
  -- STORE_PAGE_SEL
  ⟨0x400010, 1, 4, .warm, .none, [fRW 12 0 0]⟩,
  -- STORE_PAGE_OWNER
  ⟨0x400014, 1, 4, .warm, .page, [fRW 31 30 0, fRW 25 16 0, fRO 15 0 0]⟩,
  -- STORE_ECC_CORR
  ⟨0x400020, 4, 8, .cold, .none, [fRO 31 0 0]⟩,
  -- STORE_ECC_UNCORR
  ⟨0x400024, 4, 8, .cold, .none, [fRO 31 0 0]⟩,
  -- STORE_CONFLICTS
  ⟨0x400040, 1, 4, .cold, .none, [fRO 31 0 0]⟩,
  -- STORE_CTX_SHARE
  ⟨0x401000, 1024, 4, .context, .none, [fRO 13 0 0]⟩]

def regsARR : List RegDesc := [
  -- ARR_STATE
  ⟨0x500000, 4, 0x10000, .warm, .none, [fRO 31 16 0, fRO 15 0 0]⟩,
  -- ARR_CTRL
  ⟨0x500004, 4, 0x10000, .warm, .none, [fWO 0 0 0]⟩,
  -- ARR_P_BUSY_LO
  ⟨0x500008, 4, 0x10000, .warm, .none, [fRO 31 0 0]⟩,
  -- ARR_P_BUSY_HI
  ⟨0x50000C, 4, 0x10000, .warm, .none, [fRO 31 0 0]⟩,
  -- ARR_D_BUSY_LO
  ⟨0x500010, 4, 0x10000, .warm, .none, [fRO 31 0 0]⟩,
  -- ARR_D_BUSY_HI
  ⟨0x500014, 4, 0x10000, .warm, .none, [fRO 31 0 0]⟩,
  -- ARR_P_UP_LO
  ⟨0x500018, 4, 0x10000, .warm, .none, [fRO 31 0 0]⟩,
  -- ARR_P_UP_HI
  ⟨0x50001C, 4, 0x10000, .warm, .none, [fRO 31 0 0]⟩,
  -- ARR_D_UP_LO
  ⟨0x500020, 4, 0x10000, .warm, .none, [fRO 31 0 0]⟩,
  -- ARR_D_UP_HI
  ⟨0x500024, 4, 0x10000, .warm, .none, [fRO 31 0 0]⟩,
  -- ARR_WLOADS
  ⟨0x500028, 4, 0x10000, .warm, .none, [fRO 31 0 0]⟩,
  -- ARR_NONFINITE
  ⟨0x50002C, 4, 0x10000, .warm, .none, [fRO 31 0 0]⟩,
  -- ARR_RAMPS
  ⟨0x500030, 4, 0x10000, .warm, .none, [fRO 31 0 0]⟩,
  -- ARR_ACC_CTRL
  ⟨0x501000, 4, 0x10000, .warm, .none, [fWO 0 0 0]⟩,
  -- ARR_ACC_REPLAYS
  ⟨0x501004, 4, 0x10000, .warm, .none, [fRO 31 0 0]⟩,
  -- ARR_ACC_SAT
  ⟨0x501008, 4, 0x10000, .warm, .none, [fRO 31 0 0]⟩,
  -- ARR_ACC_EXP_LIMIT
  ⟨0x50100C, 4, 0x10000, .warm, .none, [fRO 31 0 0]⟩,
  -- ARR_ACC_DRAIN_SAT
  ⟨0x501010, 4, 0x10000, .warm, .none, [fRO 31 0 0]⟩,
  -- ARR_ACC_LAST
  ⟨0x501014, 4, 0x10000, .warm, .none, [fRO 31 31 0, fRO 30 30 0, fRO 29 20 0, fRO 19 10 0, fRO 4 4 0, fRO 2 0 0]⟩,
  -- ARR_ACC_LAST_PLOT
  ⟨0x501018, 4, 0x10000, .warm, .none, [fRO 15 0 0]⟩,
  -- ARR_PSQ_STATUS
  ⟨0x50F000, 4, 0x10000, .warm, .none, [fRO 20 16 0, fRO 15 8 0, fRO 0 0 0]⟩,
  -- ARR_PSQ_STARTS
  ⟨0x50F004, 4, 0x10000, .warm, .none, [fRO 31 0 0]⟩,
  -- ARR_PSQ_ABORTS
  ⟨0x50F008, 4, 0x10000, .warm, .none, [fRO 31 0 0]⟩,
  -- ARR_SOW_CTRL
  ⟨0x540000, 1, 4, .warm, .none, [fRW 23 16 0x40, fWO 0 0 0]⟩]

def regsARR2 : List RegDesc := [
  -- ARR_SOW_STATUS
  ⟨0x540004, 1, 4, .warm, .none, [fRO 29 16 0, fRO 11 0 0]⟩,
  -- ARR_SOW_RR
  ⟨0x540008, 1, 4, .warm, .none, [fRO 11 0 0]⟩,
  -- ARR_SOW_LOADED
  ⟨0x54000C, 1, 4, .warm, .none, [fRO 13 0 0]⟩,
  -- ARR_SOW_DEFERRED
  ⟨0x540010, 1, 4, .warm, .none, [fRO 31 0 0]⟩,
  -- ARR_SOW_PREEMPT
  ⟨0x540014, 1, 4, .warm, .none, [fRO 31 0 0]⟩,
  -- ARR_SOW_LATE_ITEMS
  ⟨0x540018, 1, 4, .warm, .none, [fRO 31 0 0]⟩,
  -- ARR_SOW_HO_SHORT
  ⟨0x54001C, 1, 4, .warm, .none, [fRO 31 0 0]⟩,
  -- ARR_SOW_HO_NONE
  ⟨0x540020, 1, 4, .warm, .none, [fRO 31 0 0]⟩]

def regsRAKE : List RegDesc := [
  -- RAKE_STATUS
  ⟨0x600000, 4, 0x10000, .warm, .none, [fRO 0 0 0]⟩,
  -- RAKE_LANES
  ⟨0x600004, 4, 0x10000, .warm, .none, [fRO 31 0 0]⟩,
  -- RAKE_CTRL
  ⟨0x600008, 4, 0x10000, .warm, .none, [fWO 0 0 0]⟩,
  -- RAKE_OPS
  ⟨0x60000C, 4, 0x10000, .warm, .none, [fRO 31 0 0]⟩,
  -- RAKE_TWO_PASS
  ⟨0x600010, 4, 0x10000, .warm, .none, [fRO 31 0 0]⟩,
  -- RAKE_NAN
  ⟨0x600014, 4, 0x10000, .warm, .none, [fRO 31 0 0]⟩,
  -- RAKE_DUPS
  ⟨0x600018, 4, 0x10000, .warm, .none, [fRO 31 0 0]⟩,
  -- RAKE_ELEMS_LO
  ⟨0x60001C, 4, 0x10000, .warm, .none, [fRO 31 0 0]⟩,
  -- RAKE_ELEMS_HI
  ⟨0x600020, 4, 0x10000, .warm, .none, [fRO 31 0 0]⟩]

def regsSIEVE : List RegDesc := [
  -- SIEVE_STATUS
  ⟨0x700000, 1, 4, .warm, .none, [fRO 23 12 0, fRO 11 2 0, fRO 1 1 0, fRO 0 0 0]⟩,
  -- SIEVE_CTRL
  ⟨0x700004, 1, 4, .warm, .none, [fWO 0 0 0]⟩,
  -- SIEVE_ENG_SEL
  ⟨0x700008, 1, 4, .warm, .none, [fRW 5 0 0]⟩,
  -- SIEVE_ENG_INFO
  ⟨0x70000C, 1, 4, .warm, .eng, [fRO 31 31 0, fRO 21 16 0, fRO 12 8 0]⟩,
  -- SIEVE_SEARCHES
  ⟨0x700010, 1, 4, .warm, .none, [fRO 31 0 0]⟩,
  -- SIEVE_HARVESTED
  ⟨0x700014, 1, 4, .warm, .none, [fRO 31 0 0]⟩,
  -- SIEVE_ABANDONED
  ⟨0x700018, 1, 4, .warm, .none, [fRO 31 0 0]⟩,
  -- SIEVE_FILTER_SHORT
  ⟨0x70001C, 1, 4, .warm, .none, [fRO 31 0 0]⟩,
  -- SIEVE_PAGE_READS
  ⟨0x700020, 1, 4, .warm, .none, [fRO 31 0 0]⟩,
  -- SIEVE_READ_RETRIES
  ⟨0x700024, 1, 4, .warm, .none, [fRO 31 0 0]⟩,
  -- SIEVE_LOOKUPS
  ⟨0x700028, 1, 4, .warm, .none, [fRO 31 0 0]⟩,
  -- SIEVE_TOMB_HITS
  ⟨0x70002C, 1, 4, .warm, .none, [fRO 31 0 0]⟩,
  -- SIEVE_NAN
  ⟨0x700030, 1, 4, .warm, .none, [fRO 31 0 0]⟩,
  -- SIEVE_CODES_LO
  ⟨0x700034, 1, 4, .warm, .none, [fRO 31 0 0]⟩,
  -- SIEVE_CODES_HI
  ⟨0x700038, 1, 4, .warm, .none, [fRO 31 0 0]⟩,
  -- SIEVE_IDX_SEL
  ⟨0x700100, 1, 4, .cold, .none, [fRW 7 0 0]⟩,
  -- SIEVE_IDX_CFG
  ⟨0x700104, 1, 4, .cold, .idx, [fRW 11 11 0, fRW 10 10 0, fRW 9 0 0]⟩,
  -- SIEVE_IDX_CUR
  ⟨0x700108, 1, 4, .cold, .idx, [fRO 31 16 0, fRO 15 0 0]⟩,
  -- SIEVE_IDX_CUR_VER
  ⟨0x70010C, 1, 4, .cold, .idx, [fRO 31 0 0]⟩,
  -- SIEVE_IDX_PREV
  ⟨0x700110, 1, 4, .cold, .idx, [fRO 31 16 0, fRO 15 0 0]⟩,
  -- SIEVE_IDX_PREV_VER
  ⟨0x700114, 1, 4, .cold, .idx, [fRO 31 0 0]⟩,
  -- SIEVE_IDX_NEXT
  ⟨0x700118, 1, 4, .cold, .idx, [fRW 31 16 0, fRW 15 0 0]⟩,
  -- SIEVE_IDX_NEXT_VER
  ⟨0x70011C, 1, 4, .cold, .idx, [fRW 31 0 0]⟩,
  -- SIEVE_IDX_APPLY_LO
  ⟨0x700120, 1, 4, .cold, .idx, [fRW 31 0 0]⟩]

def regsSIEVE2 : List RegDesc := [
  -- SIEVE_IDX_APPLY_HI
  ⟨0x700124, 1, 4, .cold, .idx, [fRW 15 0 0]⟩,
  -- SIEVE_IDX_CTRL
  ⟨0x700128, 1, 4, .cold, .idx, [fRO 31 24 0, fRO 17 16 0, fRO 2 2 0, fWO 1 1 0, fWO 0 0 0]⟩]

def regsFLASH : List RegDesc := [
  -- FLASH_STATUS
  ⟨0x800000, 1, 4, .warm, .none, [fRO 15 12 0, fRO 11 8 0, fRO 2 2 0, fRO 1 0 0]⟩,
  -- FLASH_CTRL
  ⟨0x800004, 1, 4, .warm, .none, [fWO 0 0 0]⟩,
  -- FLASH_SLOT_SEL
  ⟨0x800008, 1, 4, .warm, .none, [fRW 1 0 0]⟩,
  -- FLASH_SLOT_STATUS
  ⟨0x80000C, 1, 4, .warm, .slot, [fRO 31 28 0, fRO 27 27 0, fRO 26 26 0, fRO 25 25 0, fRO 18 16 0, fRO 15 0 0]⟩,
  -- FLASH_SLOT_CMD
  ⟨0x800010, 1, 4, .warm, .slot, [fWO 3 3 0, fWO 2 2 0, fWO 1 1 0, fWO 0 0 0]⟩,
  -- FLASH_SLOT_CFG
  ⟨0x800014, 1, 4, .cold, .slot, [fRW 31 31 0, fIn 30 22 64 0 256, fRW 15 0 0x8000]⟩,
  -- FLASH_SERIAL_LO
  ⟨0x800018, 1, 4, .warm, .slot, [fRO 31 0 0]⟩,
  -- FLASH_SERIAL_HI
  ⟨0x80001C, 1, 4, .warm, .slot, [fRO 31 0 0]⟩,
  -- FLASH_LIFE
  ⟨0x800020, 1, 4, .warm, .slot, [fRO 31 16 0, fRO 15 0 0]⟩,
  -- FLASH_TEMP
  ⟨0x800024, 1, 4, .warm, .slot, [fRO 31 24 0, fRO 23 16 0, fRO 7 0 0]⟩,
  -- FLASH_READS
  ⟨0x800030, 1, 4, .cold, .slot, [fRO 31 0 0]⟩,
  -- FLASH_RETRIES
  ⟨0x800034, 1, 4, .cold, .slot, [fRO 31 0 0]⟩,
  -- FLASH_UNCORR
  ⟨0x800038, 1, 4, .cold, .slot, [fRO 31 0 0]⟩,
  -- FLASH_PROGRAMS
  ⟨0x80003C, 1, 4, .cold, .slot, [fRO 31 0 0]⟩,
  -- FLASH_ERASES
  ⟨0x800040, 1, 4, .cold, .slot, [fRO 31 0 0]⟩,
  -- FLASH_FOLDS
  ⟨0x800044, 1, 4, .cold, .slot, [fRO 31 0 0]⟩,
  -- FLASH_FOLD_RESTARTS
  ⟨0x800048, 1, 4, .cold, .slot, [fRO 31 0 0]⟩,
  -- FLASH_REFRESHES
  ⟨0x80004C, 1, 4, .cold, .slot, [fRO 31 0 0]⟩,
  -- FLASH_HEALTH0
  ⟨0x800100, 64, 4, .warm, .none, [fRO 31 0 0]⟩,
  -- FLASH_NS_SEL
  ⟨0x800200, 1, 4, .warm, .none, [fIn 15 0 0 1 65535]⟩,
  -- FLASH_NS_CFG
  ⟨0x800204, 1, 4, .cold, .ns, [fRW 31 31 0, fRO 30 30 0, fRO 29 29 0, fRW 27 24 0, fRW 9 0 0]⟩,
  -- FLASH_NS_QUOTA
  ⟨0x800208, 1, 4, .cold, .ns, [fRW 31 0 0]⟩,
  -- FLASH_NS_USED
  ⟨0x80020C, 1, 4, .cold, .nsslot, [fRO 31 0 0]⟩,
  -- FLASH_NS_CMD
  ⟨0x800210, 1, 4, .cold, .none, [fRO 23 16 0, fWO 1 1 0, fWO 0 0 0]⟩]

def regsMEMC : List RegDesc := [
  -- MEMC_STATUS
  ⟨0x900000, 1, 4, .cold, .none, [fRO 31 31 0, fRO 8 8 0, fRO 7 0 0]⟩,
  -- MEMC_CH_SEL
  ⟨0x900004, 1, 4, .cold, .none, [fRW 6 0 0]⟩,
  -- MEMC_CH_INFO
  ⟨0x900008, 1, 4, .cold, .ch, [fRO 31 31 0, fRO 18 16 0, fRO 15 0 0]⟩,
  -- MEMC_ECC_CORR
  ⟨0x90000C, 1, 4, .cold, .none, [fRO 31 0 0]⟩,
  -- MEMC_ECC_UNCORR
  ⟨0x900010, 1, 4, .cold, .none, [fRO 31 0 0]⟩]

def regsGATH : List RegDesc := [
  -- GATH_STATUS
  ⟨0xA00000, 1, 4, .warm, .none, [fRO 4 0 0]⟩,
  -- GATH_CTRL
  ⟨0xA00004, 1, 4, .warm, .none, [fWO 0 0 0]⟩,
  -- GATH_BUILD_W0
  ⟨0xA00010, 6, 4, .warm, .none, [fRW 31 0 0]⟩,
  -- GATH_BUILD_CTRL
  ⟨0xA00028, 1, 4, .warm, .none, [fWO 0 0 0]⟩,
  -- GATH_BUILD_STATUS
  ⟨0xA0002C, 1, 4, .warm, .none, [fRO 31 24 0, fRO 23 0 0]⟩,
  -- GATH_ROWS_LOCAL
  ⟨0xA00030, 1, 4, .warm, .none, [fRO 31 0 0]⟩,
  -- GATH_ROWS_REMOTE
  ⟨0xA00034, 1, 4, .warm, .none, [fRO 31 0 0]⟩,
  -- GATH_ROWS_SERVED
  ⟨0xA00038, 1, 4, .warm, .none, [fRO 31 0 0]⟩,
  -- GATH_NACKS
  ⟨0xA0003C, 1, 4, .warm, .none, [fRO 31 0 0]⟩,
  -- GATH_RECORDS
  ⟨0xA00040, 1, 4, .warm, .none, [fRO 31 0 0]⟩,
  -- GATH_REJECTS
  ⟨0xA00044, 1, 4, .warm, .none, [fRO 31 0 0]⟩,
  -- GATH_NONFINITE
  ⟨0xA00048, 1, 4, .warm, .none, [fRO 31 0 0]⟩,
  -- GATH_TBL_SEL
  ⟨0xA00100, 1, 4, .cold, .none, [fRW 5 0 0]⟩,
  -- GATH_TBL_CFG
  ⟨0xA00104, 1, 4, .cold, .tbl, [fRW 31 31 0, fRW 30 30 0, fRW 29 29 0, fRW 28 28 0, fRW 25 16 0, fRW 9 0 0]⟩,
  -- GATH_TBL_ROWS_LO
  ⟨0xA00108, 1, 4, .cold, .tbl, [fRW 31 0 0]⟩,
  -- GATH_TBL_ROWS_HI
  ⟨0xA0010C, 1, 4, .cold, .tbl, [fRW 8 0 0]⟩,
  -- GATH_TBL_RPM_LO
  ⟨0xA00110, 1, 4, .cold, .tbl, [fRW 31 0 0]⟩,
  -- GATH_TBL_RPM_HI
  ⟨0xA00114, 1, 4, .cold, .tbl, [fRW 8 0 0]⟩,
  -- GATH_TBL_CUR
  ⟨0xA00118, 1, 4, .cold, .tbl, [fRO 26 16 0, fRO 15 0 0]⟩,
  -- GATH_TBL_CUR_VER
  ⟨0xA0011C, 1, 4, .cold, .tbl, [fRO 31 0 0]⟩,
  -- GATH_TBL_PREV
  ⟨0xA00120, 1, 4, .cold, .tbl, [fRO 26 16 0, fRO 15 0 0]⟩,
  -- GATH_TBL_PREV_VER
  ⟨0xA00124, 1, 4, .cold, .tbl, [fRO 31 0 0]⟩,
  -- GATH_TBL_NEXT
  ⟨0xA00128, 1, 4, .cold, .tbl, [fRO 26 16 0, fRW 15 0 0]⟩,
  -- GATH_TBL_NEXT_VER
  ⟨0xA0012C, 1, 4, .cold, .tbl, [fRW 31 0 0]⟩]

def regsGATH2 : List RegDesc := [
  -- GATH_TBL_APPLY_LO
  ⟨0xA00130, 1, 4, .cold, .tbl, [fRW 31 0 0]⟩,
  -- GATH_TBL_APPLY_HI
  ⟨0xA00134, 1, 4, .cold, .tbl, [fRW 15 0 0]⟩,
  -- GATH_TBL_CTRL
  ⟨0xA00138, 1, 4, .cold, .tbl, [fRO 17 16 0, fRO 2 2 0, fWO 1 1 0, fWO 0 0 0]⟩]

def regsTEXT : List RegDesc := [
  -- TEXT_STATUS
  ⟨0xB00000, 1, 4, .warm, .none, [fRO 23 16 0xC0, fRO 15 8 0, fRO 7 0 0]⟩,
  -- TEXT_CTRL
  ⟨0xB00004, 1, 4, .warm, .none, [fWO 0 0 0]⟩,
  -- TEXT_VOC_SEL
  ⟨0xB00008, 1, 4, .warm, .none, [fRW 2 0 0]⟩,
  -- TEXT_VOC_CFG
  ⟨0xB0000C, 1, 4, .warm, .voc, [fRW 31 31 0, fRW 25 16 0, fRW 15 8 0, fRW 7 0 0]⟩,
  -- TEXT_VOC_OBJ
  ⟨0xB00010, 1, 4, .warm, .voc, [fRO 31 30 0, fRW 15 0 0]⟩,
  -- TEXT_VOC_CMD
  ⟨0xB00014, 1, 4, .warm, .voc, [fRO 23 16 0, fWO 1 1 0, fWO 0 0 0]⟩,
  -- TEXT_VOC_TOKENS
  ⟨0xB00018, 1, 4, .warm, .voc, [fRO 20 0 0]⟩,
  -- TEXT_SEGMENTS
  ⟨0xB00020, 1, 4, .warm, .none, [fRO 31 0 0]⟩,
  -- TEXT_TOKENS_OUT
  ⟨0xB00024, 1, 4, .warm, .none, [fRO 31 0 0]⟩,
  -- TEXT_INVALID_SEQ
  ⟨0xB00028, 1, 4, .warm, .none, [fRO 31 0 0]⟩,
  -- TEXT_CARRIES
  ⟨0xB0002C, 1, 4, .warm, .none, [fRO 31 0 0]⟩,
  -- TEXT_DETOK_TOKENS
  ⟨0xB00030, 1, 4, .warm, .none, [fRO 31 0 0]⟩,
  -- TEXT_STOPS
  ⟨0xB00034, 1, 4, .warm, .none, [fRO 31 0 0]⟩]

def regsESP : List RegDesc := [
  -- ESP_STATUS
  ⟨0xC00000, 1, 4, .warm, .none, [fRO 16 16 0, fRO 15 0 0]⟩,
  -- ESP_CTRL
  ⟨0xC00004, 1, 4, .warm, .none, [fWO 0 0 0]⟩,
  -- ESP_GRM_SEL
  ⟨0xC00008, 1, 4, .warm, .none, [fRW 7 0 0]⟩,
  -- ESP_GRM_CFG
  ⟨0xC0000C, 1, 4, .warm, .grm, [fRW 31 31 0, fRW 30 30 0, fRW 25 16 0, fRW 2 0 0]⟩,
  -- ESP_GRM_OBJ
  ⟨0xC00010, 1, 4, .warm, .grm, [fRO 31 16 0, fRW 15 0 0]⟩,
  -- ESP_GRM_CMD
  ⟨0xC00014, 1, 4, .warm, .grm, [fRO 31 30 0, fRO 23 16 0, fWO 1 1 0, fWO 0 0 0]⟩,
  -- ESP_MASKS
  ⟨0xC00020, 1, 4, .warm, .none, [fRO 31 0 0]⟩,
  -- ESP_DEP_TOKENS
  ⟨0xC00024, 1, 4, .warm, .none, [fRO 31 0 0]⟩,
  -- ESP_DEAD
  ⟨0xC00028, 1, 4, .warm, .none, [fRO 31 0 0]⟩,
  -- ESP_VIOLATIONS
  ⟨0xC0002C, 1, 4, .warm, .none, [fRO 31 0 0]⟩,
  -- ESP_MASK_MAX
  ⟨0xC00030, 1, 4, .warm, .none, [fRO 11 0 0]⟩]

def regsPASM : List RegDesc := [
  -- PASM_STATUS
  ⟨0xD00000, 1, 4, .warm, .none, [fRO 22 0 0x400000]⟩,
  -- PASM_CTRL
  ⟨0xD00004, 1, 4, .warm, .none, [fWO 0 0 0]⟩,
  -- PASM_TPL_SEL
  ⟨0xD00008, 1, 4, .warm, .none, [fRW 7 0 0]⟩,
  -- PASM_TPL_CFG
  ⟨0xD0000C, 1, 4, .warm, .tpl, [fRW 31 31 0, fRW 25 16 0, fRO 2 0 0]⟩,
  -- PASM_TPL_OBJ
  ⟨0xD00010, 1, 4, .warm, .tpl, [fRO 31 16 0, fRW 15 0 0]⟩,
  -- PASM_TPL_CMD
  ⟨0xD00014, 1, 4, .warm, .tpl, [fRO 31 30 0, fRO 23 16 0, fWO 1 1 0, fWO 0 0 0]⟩,
  -- PASM_PROMPTS
  ⟨0xD00020, 1, 4, .warm, .none, [fRO 31 0 0]⟩,
  -- PASM_PLACED
  ⟨0xD00024, 1, 4, .warm, .none, [fRO 31 0 0]⟩,
  -- PASM_CUT
  ⟨0xD00028, 1, 4, .warm, .none, [fRO 31 0 0]⟩,
  -- PASM_OVER
  ⟨0xD0002C, 1, 4, .warm, .none, [fRO 31 0 0]⟩]

def regsBRX : List RegDesc := [
  -- BRX_ID
  ⟨0xE00000, 1, 4, .cold, .none, [fRW 13 13 0, fIn 12 0 0 0 6143]⟩,
  -- BRX_CFG
  ⟨0xE00004, 1, 4, .cold, .none, [fRW 31 24 0, fIn 23 22 0 0 2, fIn 12 0 1 1 6144]⟩,
  -- BRX_SVC
  ⟨0xE00008, 1, 4, .cold, .none, [fRW 9 0 0]⟩,
  -- BRX_CTRL
  ⟨0xE0000C, 1, 4, .warm, .none, [fWO 2 2 0, fRW 1 1 0, fRW 0 0 0]⟩,
  -- BRX_STATUS
  ⟨0xE00010, 1, 4, .warm, .none, [fRO 31 31 1, fRO 30 30 0, fRO 29 29 0, fRO 28 15 0, fRO 3 0 0]⟩,
  -- BRX_PORT_CTRL
  ⟨0xE00014, 1, 4, .cold, .none, [fRW 7 0 0]⟩,
  -- BRX_PORT_STATUS
  ⟨0xE00018, 1, 4, .warm, .none, [fRO 23 0 0]⟩,
  -- BRX_LANE_POL_RX
  ⟨0xE0001C, 1, 4, .cold, .none, [fRW 31 0 0]⟩,
  -- BRX_LANE_POL_TX
  ⟨0xE00020, 1, 4, .cold, .none, [fRW 31 0 0]⟩,
  -- BRX_DIGEST_LO
  ⟨0xE00024, 1, 4, .warm, .none, [fRO 31 0 0]⟩,
  -- BRX_DIGEST_HI
  ⟨0xE00028, 1, 4, .warm, .none, [fRO 31 0 0]⟩,
  -- BRX_REF_LO
  ⟨0xE0002C, 1, 4, .warm, .none, [fRO 31 0 0]⟩,
  -- BRX_REF_HI
  ⟨0xE00030, 1, 4, .warm, .none, [fRO 31 0 0]⟩,
  -- BRX_CFG_TAG_LO
  ⟨0xE00034, 1, 4, .cold, .none, [fRO 31 0 0]⟩,
  -- BRX_CFG_TAG_HI
  ⟨0xE00038, 1, 4, .cold, .none, [fRO 31 0 0]⟩,
  -- BRX_CFG_TAG_NEXT_LO
  ⟨0xE0003C, 1, 4, .cold, .none, [fRW 31 0 0]⟩,
  -- BRX_CFG_TAG_NEXT_HI
  ⟨0xE00040, 1, 4, .cold, .none, [fRW 31 0 0]⟩,
  -- BRX_TEXT
  ⟨0xE00044, 1, 4, .cold, .none, [fRO 31 16 0, fRO 15 0 0]⟩,
  -- BRX_TEXT_NEXT
  ⟨0xE00048, 1, 4, .cold, .none, [fRW 15 0 0]⟩,
  -- BRX_APPLY_LO
  ⟨0xE0004C, 1, 4, .cold, .none, [fRW 31 0 0]⟩,
  -- BRX_APPLY_HI
  ⟨0xE00050, 1, 4, .cold, .none, [fRW 15 0 0]⟩,
  -- BRX_STAGE_CTRL
  ⟨0xE00054, 1, 4, .cold, .none, [fRO 17 16 0, fRO 2 2 0, fWO 1 1 0, fWO 0 0 0]⟩,
  -- BRX_PEER_SEL
  ⟨0xE00060, 1, 4, .warm, .none, [fRW 13 0 0]⟩,
  -- BRX_PEER_INFO
  ⟨0xE00064, 1, 4, .warm, .peer, [fRO 31 31 1, fRO 30 30 0, fRO 29 29 0, fRO 28 28 0, fRO 27 26 0, fRO 15 0 0]⟩]

def regsBRX2 : List RegDesc := [
  -- BRX_PORT_SEL
  ⟨0xE00068, 1, 4, .warm, .none, [fRW 2 0 0]⟩,
  -- BRX_PORT_FEC_CORR
  ⟨0xE0006C, 1, 4, .warm, .port, [fRO 31 0 0]⟩,
  -- BRX_PORT_FEC_UNCORR
  ⟨0xE00070, 1, 4, .warm, .port, [fRO 31 0 0]⟩,
  -- BRX_PORT_DOWNS
  ⟨0xE00074, 1, 4, .warm, .port, [fRO 31 0 0]⟩,
  -- BRX_TX_PKTS
  ⟨0xE00080, 1, 4, .warm, .none, [fRO 31 0 0]⟩,
  -- BRX_RX_PKTS
  ⟨0xE00084, 1, 4, .warm, .none, [fRO 31 0 0]⟩,
  -- BRX_CRC_DROPS
  ⟨0xE00088, 1, 4, .warm, .none, [fRO 31 0 0]⟩,
  -- BRX_FURROW_DROPS
  ⟨0xE0008C, 1, 4, .warm, .none, [fRO 31 0 0]⟩,
  -- BRX_UNLOCK_DROPS
  ⟨0xE00090, 1, 4, .warm, .none, [fRO 31 0 0]⟩,
  -- BRX_HEDGE_DISCARDS
  ⟨0xE00094, 1, 4, .warm, .none, [fRO 31 0 0]⟩,
  -- BRX_FALLBACKS
  ⟨0xE00098, 1, 4, .warm, .none, [fRO 31 0 0]⟩,
  -- BRX_NACKS_SENT
  ⟨0xE0009C, 1, 4, .warm, .none, [fRO 31 0 0]⟩,
  -- BRX_NACKS_RECV
  ⟨0xE000A0, 1, 4, .warm, .none, [fRO 31 0 0]⟩,
  -- BRX_FENCED_FURROWS
  ⟨0xE000A4, 1, 4, .warm, .none, [fRO 31 0 0]⟩]

def regsHOST : List RegDesc := [
  -- HOST_STATUS
  ⟨0xF00000, 1, 4, .cold, .none, [fRO 31 31 0, fRO 19 16 0, fRO 15 0 0]⟩,
  -- HOST_CTRL
  ⟨0xF00004, 1, 4, .warm, .none, [fWO 8 8 0, fWO 7 4 0, fRW 3 0 0]⟩,
  -- HOST_MOD_SEL
  ⟨0xF00008, 1, 4, .warm, .none, [fRW 1 0 0]⟩,
  -- HOST_MOD_INFO
  ⟨0xF0000C, 1, 4, .cold, .mod, [fRO 31 30 0, fRO 7 4 0, fRO 3 0 0]⟩,
  -- HOST_MOD_LANES_LO
  ⟨0xF00010, 1, 4, .cold, .mod, [fRO 31 0 0]⟩,
  -- HOST_MOD_LANES_HI
  ⟨0xF00014, 1, 4, .cold, .mod, [fRO 31 0 0]⟩,
  -- HOST_MOD_CRC_ERR
  ⟨0xF00018, 1, 4, .cold, .mod, [fRO 31 0 0]⟩,
  -- HOST_MOD_RETRIES
  ⟨0xF0001C, 1, 4, .cold, .mod, [fRO 31 0 0]⟩,
  -- HOST_MOD_RETRAINS
  ⟨0xF00020, 1, 4, .cold, .mod, [fRO 31 0 0]⟩,
  -- HOST_REFUSED
  ⟨0xF00030, 1, 4, .cold, .none, [fRO 31 0 0]⟩,
  -- HOST_UNMAPPED
  ⟨0xF00034, 1, 4, .cold, .none, [fRO 31 0 0]⟩,
  -- HOST_DATA_ERR
  ⟨0xF00038, 1, 4, .cold, .none, [fRO 31 0 0]⟩,
  -- HOST_DEV_FAIL
  ⟨0xF0003C, 1, 4, .cold, .none, [fRO 31 0 0]⟩,
  -- HOST_LAST_REFUSED_LO
  ⟨0xF00040, 1, 4, .cold, .none, [fRO 31 0 0]⟩,
  -- HOST_LAST_REFUSED_HI
  ⟨0xF00044, 1, 4, .cold, .none, [fRO 31 0 0]⟩,
  -- HOST_BAY_STATUS
  ⟨0xF00050, 1, 4, .cold, .none, [fRO 3 0 0]⟩,
  -- HOST_RAIL_MV0
  ⟨0xF00054, 4, 4, .cold, .none, [fRO 15 0 0]⟩]

def regsTRW : List RegDesc := [
  -- TRW_STATUS
  ⟨0x1000000, 4, 0x10000, .warm, .none, [fRO 15 0 0]⟩,
  -- TRW_CTRL
  ⟨0x1000004, 4, 0x10000, .warm, .none, [fWO 0 0 0]⟩,
  -- TRW_BUSY_LO
  ⟨0x1000008, 4, 0x10000, .warm, .none, [fRO 31 0 0]⟩,
  -- TRW_BUSY_HI
  ⟨0x100000C, 4, 0x10000, .warm, .none, [fRO 31 0 0]⟩,
  -- TRW_PROGRAMS
  ⟨0x1000010, 4, 0x10000, .warm, .none, [fRO 31 0 0]⟩,
  -- TRW_STOPS
  ⟨0x1000014, 4, 0x10000, .warm, .none, [fRO 31 0 0]⟩,
  -- TRW_FAULTS
  ⟨0x1000018, 4, 0x10000, .warm, .none, [fRO 31 0 0]⟩]

/-- R509: every register of the module, in ascending address order. -/
def regIndex : List RegDesc :=
  regsGLB ++ regsFUR ++ regsPWR ++ regsPWR2 ++ regsSEC ++ regsEVT ++ regsQM ++ regsQM2 ++
  regsSEQ ++ regsSEQ2 ++ regsTIER ++ regsSTORE ++ regsARR ++ regsARR2 ++ regsRAKE ++ regsSIEVE ++
  regsSIEVE2 ++ regsFLASH ++ regsMEMC ++ regsGATH ++ regsGATH2 ++ regsTEXT ++ regsESP ++ regsPASM ++
  regsBRX ++ regsBRX2 ++ regsHOST ++ regsTRW

end Sys2Proof.Machine
end

