-- ==== Sys2Proof/Machine/RegNames.lean ====
section
/-! DEFINITION. The device addresses (R508) of the registers of R509, under the names the spec gives them. A register
with several instances (dies, queue pairs, numbered words) is named by its first. -/
namespace Sys2Proof.Machine.R

abbrev GLB_ID : Nat := 0x0
abbrev GLB_SERIAL_LO : Nat := 0x4
abbrev GLB_SERIAL_HI : Nat := 0x8
abbrev GLB_SCRATCH0 : Nat := 0x10
abbrev FUR_STATUS : Nat := 0x10000
abbrev FUR_CTRL : Nat := 0x10004
abbrev FUR_COUNT_LO : Nat := 0x10008
abbrev FUR_COUNT_HI : Nat := 0x1000C
abbrev FUR_OFFSET_CAP : Nat := 0x10010
abbrev FUR_PHASE : Nat := 0x10014
abbrev FUR_SET_LO : Nat := 0x10018
abbrev FUR_SET_HI : Nat := 0x1001C
abbrev FUR_SLIP_COUNT : Nat := 0x10020
abbrev FUR_MISS_COUNT : Nat := 0x10024
abbrev FUR_TC_ERR_COUNT : Nat := 0x10028
abbrev FUR_LOCK_AT_LO : Nat := 0x1002C
abbrev FUR_LOCK_AT_HI : Nat := 0x10030
abbrev PWR_STATUS : Nat := 0x20000
abbrev PWR_CTRL : Nat := 0x20004
abbrev PWR_BOOT_CTRL : Nat := 0x20008
abbrev PWR_BOOT_DATA : Nat := 0x2000C
abbrev PWR_BOOT_STATUS : Nat := 0x20010
abbrev PWR_DOM_TARGET : Nat := 0x20014
abbrev PWR_DOM_STATE0 : Nat := 0x20018
abbrev PWR_DOM_STATE1 : Nat := 0x2001C
abbrev PWR_FUNC_CMD : Nat := 0x20020
abbrev PWR_FUNC_STATE0 : Nat := 0x20024
abbrev PWR_CFG_LIMIT : Nat := 0x20030
abbrev PWR_STG_SEL : Nat := 0x20040
abbrev PWR_STG_W0 : Nat := 0x20044
abbrev PWR_STG_AT_LO : Nat := 0x20054
abbrev PWR_STG_AT_HI : Nat := 0x20058
abbrev PWR_STG_CTRL : Nat := 0x2005C
abbrev PWR_STG_STATUS : Nat := 0x20060
abbrev PWR_SLEEP_AT_LO : Nat := 0x20070
abbrev PWR_SLEEP_AT_HI : Nat := 0x20074
abbrev PWR_SLEEP_CTRL : Nat := 0x20078
abbrev PWR_WAKE_AT_LO : Nat := 0x2007C
abbrev PWR_WAKE_AT_HI : Nat := 0x20080
abbrev PWR_WAKES : Nat := 0x20090
abbrev PWR_WARM_RESETS : Nat := 0x20094
abbrev PWR_STG_FAILS : Nat := 0x20098
abbrev PWR_DORMANT_FURROWS : Nat := 0x2009C
abbrev SEC_STATUS : Nat := 0x30000
abbrev SEC_CTRL : Nat := 0x30004
abbrev SEC_RUN_BUILD_LO : Nat := 0x30008
abbrev SEC_RUN_BUILD_HI : Nat := 0x3000C
abbrev SEC_FUSE_CMD : Nat := 0x30010
abbrev SEC_CART_CMD : Nat := 0x30014
abbrev SEC_ATTEST_NONCE0 : Nat := 0x30020
abbrev SEC_ATTEST_CTRL : Nat := 0x30050
abbrev SEC_ATTEST_OUT0 : Nat := 0x30100
abbrev SEC_CERT_SEL : Nat := 0x30200
abbrev SEC_CERT_DATA : Nat := 0x30204
abbrev SEC_CERT_LEN : Nat := 0x30208
abbrev SEC_UNWRAP_FAILS : Nat := 0x30300
abbrev SEC_RNG_FAILS : Nat := 0x30304
abbrev SEC_ATTESTS : Nat := 0x30308
abbrev EVT_STATUS : Nat := 0x40000
abbrev EVT_CTRL : Nat := 0x40004
abbrev EVT_RING_BASE_LO : Nat := 0x40008
abbrev EVT_RING_BASE_HI : Nat := 0x4000C
abbrev EVT_RING_HEAD : Nat := 0x40010
abbrev EVT_RING_TAIL : Nat := 0x40014
abbrev EVT_SEQ : Nat := 0x40018
abbrev EVT_LOST : Nat := 0x4001C
abbrev EVT_THROTTLED : Nat := 0x40020
abbrev EVT_RAISED : Nat := 0x40024
abbrev EVT_TEL_SEL : Nat := 0x40040
abbrev EVT_TEL_TEMP : Nat := 0x40044
abbrev EVT_TEL_POWER : Nat := 0x40048
abbrev EVT_THERM_CFG : Nat := 0x4004C
abbrev EVT_PWR_LIMIT : Nat := 0x40050
abbrev QM_QP_CTRL : Nat := 0x100000
abbrev QM_QP_STATUS : Nat := 0x100004
abbrev QM_QP_SQ_BASE_LO : Nat := 0x100008
abbrev QM_QP_SQ_BASE_HI : Nat := 0x10000C
abbrev QM_QP_CQ_BASE_LO : Nat := 0x100010
abbrev QM_QP_CQ_BASE_HI : Nat := 0x100014
abbrev QM_QP_SQ_TAIL : Nat := 0x100018
abbrev QM_QP_SQ_HEAD : Nat := 0x10001C
abbrev QM_QP_CQ_TAIL : Nat := 0x100020
abbrev QM_QP_CQ_HEAD : Nat := 0x100024
abbrev QM_QP_INFLIGHT : Nat := 0x100028
abbrev QM_CTX_SEL : Nat := 0x140000
abbrev QM_CTX_CTRL : Nat := 0x140004
abbrev QM_CTX_STATUS : Nat := 0x140008
abbrev QM_CTX_LIMITS : Nat := 0x14000C
abbrev QM_CTX_RES : Nat := 0x140010
abbrev QM_CTX_PREEMPT : Nat := 0x140014
abbrev QM_CTX_ADMITTED : Nat := 0x140018
abbrev QM_CTX_REJECTED : Nat := 0x14001C
abbrev QM_CTX_FAULTS : Nat := 0x140020
abbrev QM_CTX_HIST0 : Nat := 0x140040
abbrev QM_WIN_SEL : Nat := 0x140080
abbrev QM_WIN_ATTR : Nat := 0x140084
abbrev QM_WIN_BASE_LO : Nat := 0x140088
abbrev QM_WIN_BASE_HI : Nat := 0x14008C
abbrev QM_WIN_SIZE_LO : Nat := 0x140090
abbrev QM_WIN_SIZE_HI : Nat := 0x140094
abbrev QM_WIN_CMD : Nat := 0x140098
abbrev QM_WIN_STATUS : Nat := 0x14009C
abbrev QM_STATUS : Nat := 0x180000
abbrev QM_CTRL : Nat := 0x180004
abbrev QM_C0_PREFILL : Nat := 0x180008
abbrev QM_C0_DEPTH : Nat := 0x18000C
abbrev QM_C0_SIEVE : Nat := 0x180010
abbrev QM_C0_UNITS : Nat := 0x180014
abbrev QM_C0_BUCKET : Nat := 0x180018
abbrev QM_CFG_STATUS : Nat := 0x18001C
abbrev QM_ADMITTED : Nat := 0x180020
abbrev QM_REJECTED : Nat := 0x180024
abbrev QM_C0_IN_RES : Nat := 0x180028
abbrev QM_C0_BEYOND : Nat := 0x18002C
abbrev QM_BOUND_MISSES : Nat := 0x180030
abbrev QM_DOORBELL_DISCARDS : Nat := 0x180034
abbrev QM_CANCELS : Nat := 0x180038
abbrev SEQ_STATUS : Nat := 0x200000
abbrev SEQ_CTRL : Nat := 0x200004
abbrev SEQ_AST_SEL : Nat := 0x200008
abbrev SEQ_ENTRIES : Nat := 0x200010
abbrev SEQ_STAGES : Nat := 0x200014
abbrev SEQ_TOKENS : Nat := 0x200018
abbrev SEQ_DEFERRALS : Nat := 0x20001C
abbrev SEQ_CANCELS : Nat := 0x200020
abbrev SEQ_KV_WAITS : Nat := 0x200024
abbrev SEQ_BAD_TOKENS : Nat := 0x200028
abbrev SEQ_AST_DATA0 : Nat := 0x200040
abbrev SEQ_MDL_SEL : Nat := 0x200100
abbrev SEQ_MDL_CFG : Nat := 0x200104
abbrev SEQ_MDL_ID : Nat := 0x200108
abbrev SEQ_MDL_GEOM : Nat := 0x20010C
abbrev SEQ_MDL_MAXPOS : Nat := 0x200110
abbrev SEQ_MDL_AREA : Nat := 0x200114
abbrev SEQ_MDL_POOL_LO : Nat := 0x200118
abbrev SEQ_MDL_POOL_HI : Nat := 0x20011C
abbrev SEQ_MDL_CHAIN : Nat := 0x200120
abbrev SEQ_MDL_STREAM : Nat := 0x200124
abbrev SEQ_MDL_WEIGHTS : Nat := 0x200128
abbrev SEQ_MDL_RES_NEXT : Nat := 0x20012C
abbrev SEQ_MDL_APPLY_LO : Nat := 0x200130
abbrev SEQ_MDL_APPLY_HI : Nat := 0x200134
abbrev SEQ_MDL_CMD : Nat := 0x200138
abbrev SEQ_GRF_SEL : Nat := 0x200200
abbrev SEQ_GRF_CFG : Nat := 0x200204
abbrev SEQ_GRF_TOKENS : Nat := 0x200208
abbrev SEQ_GRF_ID : Nat := 0x20020C
abbrev SEQ_GRF_CMD : Nat := 0x200210
abbrev TIER_CMD_W0 : Nat := 0x300000
abbrev TIER_CMD_CTRL : Nat := 0x300020
abbrev TIER_CMD_STATUS : Nat := 0x300024
abbrev TIER_OBJ_SEL : Nat := 0x300028
abbrev TIER_OBJ_INFO : Nat := 0x30002C
abbrev TIER_OBJ_SIZE_LO : Nat := 0x300030
abbrev TIER_OBJ_SIZE_HI : Nat := 0x300034
abbrev TIER_OBJ_BASE_LO : Nat := 0x300038
abbrev TIER_OBJ_BASE_HI : Nat := 0x30003C
abbrev TIER_OBJ_LAST_LO : Nat := 0x300040
abbrev TIER_OBJ_LAST_HI : Nat := 0x300044
abbrev TIER_EVICTIONS : Nat := 0x300048
abbrev TIER_POOL_FULL : Nat := 0x30004C
abbrev TIER_OPS : Nat := 0x300050
abbrev STORE_STATUS : Nat := 0x400000
abbrev STORE_SET_WIDE_LO : Nat := 0x400008
abbrev STORE_SET_WIDE_HI : Nat := 0x40000C
abbrev STORE_PAGE_SEL : Nat := 0x400010
abbrev STORE_PAGE_OWNER : Nat := 0x400014
abbrev STORE_ECC_CORR : Nat := 0x400020
abbrev STORE_ECC_UNCORR : Nat := 0x400024
abbrev STORE_CONFLICTS : Nat := 0x400040
abbrev STORE_CTX_SHARE : Nat := 0x401000
abbrev ARR_STATE : Nat := 0x500000
abbrev ARR_CTRL : Nat := 0x500004
abbrev ARR_P_BUSY_LO : Nat := 0x500008
abbrev ARR_P_BUSY_HI : Nat := 0x50000C
abbrev ARR_D_BUSY_LO : Nat := 0x500010
abbrev ARR_D_BUSY_HI : Nat := 0x500014
abbrev ARR_P_UP_LO : Nat := 0x500018
abbrev ARR_P_UP_HI : Nat := 0x50001C
abbrev ARR_D_UP_LO : Nat := 0x500020
abbrev ARR_D_UP_HI : Nat := 0x500024
abbrev ARR_WLOADS : Nat := 0x500028
abbrev ARR_NONFINITE : Nat := 0x50002C
abbrev ARR_RAMPS : Nat := 0x500030
abbrev ARR_ACC_CTRL : Nat := 0x501000
abbrev ARR_ACC_REPLAYS : Nat := 0x501004
abbrev ARR_ACC_SAT : Nat := 0x501008
abbrev ARR_ACC_EXP_LIMIT : Nat := 0x50100C
abbrev ARR_ACC_DRAIN_SAT : Nat := 0x501010
abbrev ARR_ACC_LAST : Nat := 0x501014
abbrev ARR_ACC_LAST_PLOT : Nat := 0x501018
abbrev ARR_PSQ_STATUS : Nat := 0x50F000
abbrev ARR_PSQ_STARTS : Nat := 0x50F004
abbrev ARR_PSQ_ABORTS : Nat := 0x50F008
abbrev ARR_SOW_CTRL : Nat := 0x540000
abbrev ARR_SOW_STATUS : Nat := 0x540004
abbrev ARR_SOW_RR : Nat := 0x540008
abbrev ARR_SOW_LOADED : Nat := 0x54000C
abbrev ARR_SOW_DEFERRED : Nat := 0x540010
abbrev ARR_SOW_PREEMPT : Nat := 0x540014
abbrev ARR_SOW_LATE_ITEMS : Nat := 0x540018
abbrev ARR_SOW_HO_SHORT : Nat := 0x54001C
abbrev ARR_SOW_HO_NONE : Nat := 0x540020
abbrev RAKE_STATUS : Nat := 0x600000
abbrev RAKE_LANES : Nat := 0x600004
abbrev RAKE_CTRL : Nat := 0x600008
abbrev RAKE_OPS : Nat := 0x60000C
abbrev RAKE_TWO_PASS : Nat := 0x600010
abbrev RAKE_NAN : Nat := 0x600014
abbrev RAKE_DUPS : Nat := 0x600018
abbrev RAKE_ELEMS_LO : Nat := 0x60001C
abbrev RAKE_ELEMS_HI : Nat := 0x600020
abbrev SIEVE_STATUS : Nat := 0x700000
abbrev SIEVE_CTRL : Nat := 0x700004
abbrev SIEVE_ENG_SEL : Nat := 0x700008
abbrev SIEVE_ENG_INFO : Nat := 0x70000C
abbrev SIEVE_SEARCHES : Nat := 0x700010
abbrev SIEVE_HARVESTED : Nat := 0x700014
abbrev SIEVE_ABANDONED : Nat := 0x700018
abbrev SIEVE_FILTER_SHORT : Nat := 0x70001C
abbrev SIEVE_PAGE_READS : Nat := 0x700020
abbrev SIEVE_READ_RETRIES : Nat := 0x700024
abbrev SIEVE_LOOKUPS : Nat := 0x700028
abbrev SIEVE_TOMB_HITS : Nat := 0x70002C
abbrev SIEVE_NAN : Nat := 0x700030
abbrev SIEVE_CODES_LO : Nat := 0x700034
abbrev SIEVE_CODES_HI : Nat := 0x700038
abbrev SIEVE_IDX_SEL : Nat := 0x700100
abbrev SIEVE_IDX_CFG : Nat := 0x700104
abbrev SIEVE_IDX_CUR : Nat := 0x700108
abbrev SIEVE_IDX_CUR_VER : Nat := 0x70010C
abbrev SIEVE_IDX_PREV : Nat := 0x700110
abbrev SIEVE_IDX_PREV_VER : Nat := 0x700114
abbrev SIEVE_IDX_NEXT : Nat := 0x700118
abbrev SIEVE_IDX_NEXT_VER : Nat := 0x70011C
abbrev SIEVE_IDX_APPLY_LO : Nat := 0x700120
abbrev SIEVE_IDX_APPLY_HI : Nat := 0x700124
abbrev SIEVE_IDX_CTRL : Nat := 0x700128
abbrev FLASH_STATUS : Nat := 0x800000
abbrev FLASH_CTRL : Nat := 0x800004
abbrev FLASH_SLOT_SEL : Nat := 0x800008
abbrev FLASH_SLOT_STATUS : Nat := 0x80000C
abbrev FLASH_SLOT_CMD : Nat := 0x800010
abbrev FLASH_SLOT_CFG : Nat := 0x800014
abbrev FLASH_SERIAL_LO : Nat := 0x800018
abbrev FLASH_SERIAL_HI : Nat := 0x80001C
abbrev FLASH_LIFE : Nat := 0x800020
abbrev FLASH_TEMP : Nat := 0x800024
abbrev FLASH_READS : Nat := 0x800030
abbrev FLASH_RETRIES : Nat := 0x800034
abbrev FLASH_UNCORR : Nat := 0x800038
abbrev FLASH_PROGRAMS : Nat := 0x80003C
abbrev FLASH_ERASES : Nat := 0x800040
abbrev FLASH_FOLDS : Nat := 0x800044
abbrev FLASH_FOLD_RESTARTS : Nat := 0x800048
abbrev FLASH_REFRESHES : Nat := 0x80004C
abbrev FLASH_HEALTH0 : Nat := 0x800100
abbrev FLASH_NS_SEL : Nat := 0x800200
abbrev FLASH_NS_CFG : Nat := 0x800204
abbrev FLASH_NS_QUOTA : Nat := 0x800208
abbrev FLASH_NS_USED : Nat := 0x80020C
abbrev FLASH_NS_CMD : Nat := 0x800210
abbrev MEMC_STATUS : Nat := 0x900000
abbrev MEMC_CH_SEL : Nat := 0x900004
abbrev MEMC_CH_INFO : Nat := 0x900008
abbrev MEMC_ECC_CORR : Nat := 0x90000C
abbrev MEMC_ECC_UNCORR : Nat := 0x900010
abbrev GATH_STATUS : Nat := 0xA00000
abbrev GATH_CTRL : Nat := 0xA00004
abbrev GATH_BUILD_W0 : Nat := 0xA00010
abbrev GATH_BUILD_CTRL : Nat := 0xA00028
abbrev GATH_BUILD_STATUS : Nat := 0xA0002C
abbrev GATH_ROWS_LOCAL : Nat := 0xA00030
abbrev GATH_ROWS_REMOTE : Nat := 0xA00034
abbrev GATH_ROWS_SERVED : Nat := 0xA00038
abbrev GATH_NACKS : Nat := 0xA0003C
abbrev GATH_RECORDS : Nat := 0xA00040
abbrev GATH_REJECTS : Nat := 0xA00044
abbrev GATH_NONFINITE : Nat := 0xA00048
abbrev GATH_TBL_SEL : Nat := 0xA00100
abbrev GATH_TBL_CFG : Nat := 0xA00104
abbrev GATH_TBL_ROWS_LO : Nat := 0xA00108
abbrev GATH_TBL_ROWS_HI : Nat := 0xA0010C
abbrev GATH_TBL_RPM_LO : Nat := 0xA00110
abbrev GATH_TBL_RPM_HI : Nat := 0xA00114
abbrev GATH_TBL_CUR : Nat := 0xA00118
abbrev GATH_TBL_CUR_VER : Nat := 0xA0011C
abbrev GATH_TBL_PREV : Nat := 0xA00120
abbrev GATH_TBL_PREV_VER : Nat := 0xA00124
abbrev GATH_TBL_NEXT : Nat := 0xA00128
abbrev GATH_TBL_NEXT_VER : Nat := 0xA0012C
abbrev GATH_TBL_APPLY_LO : Nat := 0xA00130
abbrev GATH_TBL_APPLY_HI : Nat := 0xA00134
abbrev GATH_TBL_CTRL : Nat := 0xA00138
abbrev TEXT_STATUS : Nat := 0xB00000
abbrev TEXT_CTRL : Nat := 0xB00004
abbrev TEXT_VOC_SEL : Nat := 0xB00008
abbrev TEXT_VOC_CFG : Nat := 0xB0000C
abbrev TEXT_VOC_OBJ : Nat := 0xB00010
abbrev TEXT_VOC_CMD : Nat := 0xB00014
abbrev TEXT_VOC_TOKENS : Nat := 0xB00018
abbrev TEXT_SEGMENTS : Nat := 0xB00020
abbrev TEXT_TOKENS_OUT : Nat := 0xB00024
abbrev TEXT_INVALID_SEQ : Nat := 0xB00028
abbrev TEXT_CARRIES : Nat := 0xB0002C
abbrev TEXT_DETOK_TOKENS : Nat := 0xB00030
abbrev TEXT_STOPS : Nat := 0xB00034
abbrev ESP_STATUS : Nat := 0xC00000
abbrev ESP_CTRL : Nat := 0xC00004
abbrev ESP_GRM_SEL : Nat := 0xC00008
abbrev ESP_GRM_CFG : Nat := 0xC0000C
abbrev ESP_GRM_OBJ : Nat := 0xC00010
abbrev ESP_GRM_CMD : Nat := 0xC00014
abbrev ESP_MASKS : Nat := 0xC00020
abbrev ESP_DEP_TOKENS : Nat := 0xC00024
abbrev ESP_DEAD : Nat := 0xC00028
abbrev ESP_VIOLATIONS : Nat := 0xC0002C
abbrev ESP_MASK_MAX : Nat := 0xC00030
abbrev PASM_STATUS : Nat := 0xD00000
abbrev PASM_CTRL : Nat := 0xD00004
abbrev PASM_TPL_SEL : Nat := 0xD00008
abbrev PASM_TPL_CFG : Nat := 0xD0000C
abbrev PASM_TPL_OBJ : Nat := 0xD00010
abbrev PASM_TPL_CMD : Nat := 0xD00014
abbrev PASM_PROMPTS : Nat := 0xD00020
abbrev PASM_PLACED : Nat := 0xD00024
abbrev PASM_CUT : Nat := 0xD00028
abbrev PASM_OVER : Nat := 0xD0002C
abbrev BRX_ID : Nat := 0xE00000
abbrev BRX_CFG : Nat := 0xE00004
abbrev BRX_SVC : Nat := 0xE00008
abbrev BRX_CTRL : Nat := 0xE0000C
abbrev BRX_STATUS : Nat := 0xE00010
abbrev BRX_PORT_CTRL : Nat := 0xE00014
abbrev BRX_PORT_STATUS : Nat := 0xE00018
abbrev BRX_LANE_POL_RX : Nat := 0xE0001C
abbrev BRX_LANE_POL_TX : Nat := 0xE00020
abbrev BRX_DIGEST_LO : Nat := 0xE00024
abbrev BRX_DIGEST_HI : Nat := 0xE00028
abbrev BRX_REF_LO : Nat := 0xE0002C
abbrev BRX_REF_HI : Nat := 0xE00030
abbrev BRX_CFG_TAG_LO : Nat := 0xE00034
abbrev BRX_CFG_TAG_HI : Nat := 0xE00038
abbrev BRX_CFG_TAG_NEXT_LO : Nat := 0xE0003C
abbrev BRX_CFG_TAG_NEXT_HI : Nat := 0xE00040
abbrev BRX_TEXT : Nat := 0xE00044
abbrev BRX_TEXT_NEXT : Nat := 0xE00048
abbrev BRX_APPLY_LO : Nat := 0xE0004C
abbrev BRX_APPLY_HI : Nat := 0xE00050
abbrev BRX_STAGE_CTRL : Nat := 0xE00054
abbrev BRX_PEER_SEL : Nat := 0xE00060
abbrev BRX_PEER_INFO : Nat := 0xE00064
abbrev BRX_PORT_SEL : Nat := 0xE00068
abbrev BRX_PORT_FEC_CORR : Nat := 0xE0006C
abbrev BRX_PORT_FEC_UNCORR : Nat := 0xE00070
abbrev BRX_PORT_DOWNS : Nat := 0xE00074
abbrev BRX_TX_PKTS : Nat := 0xE00080
abbrev BRX_RX_PKTS : Nat := 0xE00084
abbrev BRX_CRC_DROPS : Nat := 0xE00088
abbrev BRX_FURROW_DROPS : Nat := 0xE0008C
abbrev BRX_UNLOCK_DROPS : Nat := 0xE00090
abbrev BRX_HEDGE_DISCARDS : Nat := 0xE00094
abbrev BRX_FALLBACKS : Nat := 0xE00098
abbrev BRX_NACKS_SENT : Nat := 0xE0009C
abbrev BRX_NACKS_RECV : Nat := 0xE000A0
abbrev BRX_FENCED_FURROWS : Nat := 0xE000A4
abbrev HOST_STATUS : Nat := 0xF00000
abbrev HOST_CTRL : Nat := 0xF00004
abbrev HOST_MOD_SEL : Nat := 0xF00008
abbrev HOST_MOD_INFO : Nat := 0xF0000C
abbrev HOST_MOD_LANES_LO : Nat := 0xF00010
abbrev HOST_MOD_LANES_HI : Nat := 0xF00014
abbrev HOST_MOD_CRC_ERR : Nat := 0xF00018
abbrev HOST_MOD_RETRIES : Nat := 0xF0001C
abbrev HOST_MOD_RETRAINS : Nat := 0xF00020
abbrev HOST_REFUSED : Nat := 0xF00030
abbrev HOST_UNMAPPED : Nat := 0xF00034
abbrev HOST_DATA_ERR : Nat := 0xF00038
abbrev HOST_DEV_FAIL : Nat := 0xF0003C
abbrev HOST_LAST_REFUSED_LO : Nat := 0xF00040
abbrev HOST_LAST_REFUSED_HI : Nat := 0xF00044
abbrev HOST_BAY_STATUS : Nat := 0xF00050
abbrev HOST_RAIL_MV0 : Nat := 0xF00054
abbrev TRW_STATUS : Nat := 0x1000000
abbrev TRW_CTRL : Nat := 0x1000004
abbrev TRW_BUSY_LO : Nat := 0x1000008
abbrev TRW_BUSY_HI : Nat := 0x100000C
abbrev TRW_PROGRAMS : Nat := 0x1000010
abbrev TRW_STOPS : Nat := 0x1000014
abbrev TRW_FAULTS : Nat := 0x1000018

end Sys2Proof.Machine.R
end

