-- ==== Sys2Proof/Machine/Mem.lean ====
section
/-! DEFINITION. Memory with device addresses: the Central Store and the LPDDR5X devices (R133, R154, R507). A
memory lists the bytes that differ from what an unlisted address reads as, which is 0 (log entry 4), at
strictly rising addresses. -/
namespace Sys2Proof.Machine

/-- Memory: its cells at rising addresses, none of them 0. -/
abbrev Memory := List Host.Cell

/-- What an address reads as that no cell lists (R146; for LPDDR5X a DESIGN CHOICE, log entry 4). -/
def memDefault : Byte := 0

/-- One byte read. -/
def Memory.read : Memory → Nat → Byte
  | [], _ => memDefault
  | (a, v) :: t, k => if a = k then v else Memory.read t k

/-- Put a cell in its place, in place of the cell its address had. -/
def Memory.put : Memory → Nat → Byte → Memory
  | [], k, v => [(k, v)]
  | (a, w) :: t, k, v =>
    if k < a then (k, v) :: (a, w) :: t
    else if a = k then (k, v) :: t
    else (a, w) :: Memory.put t k v

/-- Remove the cells of the addresses from `a` on, `n` of them. -/
def Memory.zero (m : Memory) (a n : Nat) : Memory := m.filter (fun c => c.1 < a || a + n ≤ c.1)

/-- One byte written. -/
def Memory.write (m : Memory) (k : Nat) (v : Byte) : Memory :=
  if v = memDefault then m.zero k 1 else m.put k v

/-- Bytes written from an address on. -/
def Memory.writeBytes : Memory → Nat → List Byte → Memory
  | m, _, [] => m
  | m, k, v :: t => Memory.writeBytes (m.write k v) (k + 1) t

/-- Bytes read from an address on. -/
def Memory.readBytes (m : Memory) (a n : Nat) : List Byte := (List.range n).map (fun i => m.read (a + i))

/-- The little-endian number of `n` bytes. -/
def Memory.readLe (m : Memory) (a : Nat) : Nat → Nat
  | 0 => 0
  | n + 1 => (m.read a).toNat + 256 * Memory.readLe m (a + 1) n

/-- The cells of a range, their addresses counted from its start. -/
def Memory.cut (m : Memory) (a n : Nat) : List (Nat × Byte) :=
  (m.filter (fun c => a ≤ c.1 && c.1 < a + n)).map (fun c => (c.1 - a, c.2))

/-- Write cells at an address over a range that was set to 0. -/
def Memory.paste (m : Memory) (a n : Nat) (cs : List (Nat × Byte)) : Memory :=
  cs.foldl (fun m c => m.write (a + c.1) c.2) (m.zero a n)

/-- Copy a range. -/
def Memory.copy (m : Memory) (src dst n : Nat) : Memory := m.paste dst n (m.cut src n)

/-- The addresses rise and no cell reads as an unlisted one does. -/
def Memory.wf : Memory → Bool
  | [] => true
  | [(_, v)] => v != memDefault
  | (a, v) :: (b, w) :: t => decide (a < b) && v != memDefault && Memory.wf ((b, w) :: t)

end Sys2Proof.Machine
end

