-- ==== Sys2Proof/Machine/State.lean ====
section
/-! DEFINITION. The state of the module: every register, buffer, table, counter and pin the spec names, the
furrow timebase, and the queue of commands that wait. Plain data throughout. Each field cites the rule that
gives it; State.reset is the module after a cold reset (R34, R468). -/
namespace Sys2Proof.Machine

/-- R34: the four states of the timebase. -/
inductive TbState where
  | locked | holdover | unlocked | relock
  deriving DecidableEq, Repr

/-- R35: what the window that closes in a furrow decides for the next one: its state, and the phase error of a
realignment furrow where one is to begin. -/
structure Decision where
  st : TbState
  realign : Option Int
  deriving DecidableEq, Repr

/-- R29: how the time code of a boundary compared with the count. -/
inductive TcResult where
  | absent | agrees | disagrees
  deriving DecidableEq, Repr

/-- 02_the_furrow: the furrow timebase. -/
structure Timebase where
  number : W48            -- R28
  offset : Nat            -- R5: clk offset, the model's "now"
  len : Nat               -- R26, R40: length of the current furrow in clk
  st : TbState            -- R34
  realign : Bool          -- R40: the current furrow is a realignment furrow
  realignFromHold : Bool  -- R40: it was decided from HOLDOVER
  realignSrcChange : Bool -- R31: a change of source took effect at its first boundary
  holdCount : Nat         -- R36
  relockCount : Nat       -- R38
  srcForce : Bool         -- R31: source in force, true for HOST
  refclkOk : Bool         -- R27
  pllLocked : Bool        -- R27: the PLL has locked and no loss was detected since
  lossThis : Bool         -- R27: a loss counts for this furrow
  lossNext : Bool         -- R27: a loss detected after the decision clk
  refOkAtStart : Bool     -- R27: REFCLK_OK at the start of the furrow
  edge : Option Int       -- R32: first edge of the open capture window
  prevEdge : Option Int   -- R35: first edge of the window before
  cand : Option Int       -- R35: candidate phase
  tcNext : Option W48     -- R29: time code received for the next boundary
  tcResult : TcResult     -- R29: comparison at this furrow's boundary
  tcPrevBad : Bool        -- R35: the boundary before also disagreed
  decided : Option Decision -- R35, R41: state decided for the next furrow
  setPending : Bool       -- R30: an accepted SET_APPLY
  phaseValid : Bool       -- R48: FUR_PHASE.VALID
  lastErr : Int           -- R48: FUR_PHASE.LAST_ERR
  offsetCap : Nat         -- R48: FUR_OFFSET_CAP
  lockAt : W48            -- R48: FUR_LOCK_AT
  clks : Nat              -- clk counted up to the start of the current furrow, whatever its number
  deriving DecidableEq, Repr

/-- A raise of an event within a clk, before R498 and R499 (19_events_and_telemetry). -/
structure EventReq where
  code : Nat
  source : Nat
  ctx : Option Nat
  pay : List (Nat × Nat)  -- R495: the fields, each a size in bytes and a value
  deriving DecidableEq, Repr

/-- R494: an event record as it waits in the buffer. PHASE is given when it is written. -/
structure EventRec where
  req : EventReq
  furrow : W48
  clk : Nat
  seq : W32
  lost : Bool
  throttled : Bool
  deriving DecidableEq, Repr

/-- R497 to R502: the event buffer and ring. EVT_SEQ, EVT_LOST, EVT_THROTTLED, EVT_RAISED, EVT_STATUS.OVERFLOW,
EVT_RING_HEAD and EVT_RING_TAIL stand in the register file. -/
structure EventUnit where
  raised : List EventReq   -- raises of the command that runs, not yet taken (empty between commands)
  stamps : List (EventReq × Nat) -- R494: those of them that fell at an earlier clk of the furrow, with that clk (the model's own)
  buffer : List EventRec   -- R497: at most 256 records, oldest first
  counts : Tbl Nat         -- R498: records raised in this furrow, by code
  throttledCodes : List Nat -- R498: codes throttled in an earlier furrow whose next kept record carries THROTTLED
  throttledNow : List Nat  -- R498: codes throttled in this furrow
  lostPending : Bool       -- R497: the next record carries LOST
  lostAt : Option (W48 × Nat) -- R11: furrow and clk of the last lost record
  ringFams : List Nat      -- families of the unconsumed records of the ring, oldest first (R502)
  armed0 : Bool            -- R502: vector 0
  alertRun : Bool          -- R504: source 12 was over its limit in the furrow before
  warned : List Nat        -- R504: sources that raised TEL_THERM_WARN, which TEL_THERM_CLEAR has not answered
  tripSeen : List Nat      -- R504: sources that raised TEL_THERM_TRIP since the cold reset
  alert : Bool             -- R516: ALERT_N is driven low
  tripped : List Nat       -- R516: sources for which THERMTRIP_N is held low
  deriving DecidableEq, Repr

/-- R440: what the module sends over the host port. -/
inductive HostTxn where
  | dwr (addr : Nat) (data : List Byte)             -- write of host memory
  | drd (tag : Nat) (addr : Nat) (len : Nat)        -- read of host memory
  | hcpl (tag status : Nat) (data : List Byte)      -- completion of a host access
  | msg (vector : Nat)
  deriving DecidableEq, Repr

/-- R9, R10: what the register port holds besides the registers. -/
structure RegPort where
  captures : Tbl W32          -- R10: upper half captured by a _LO read, by the key of the _LO register
  pendLo : Option (Nat × W32) -- R10: the one pending _LO write
  rdata : W32                 -- the value the last register read returned (the model's own field)
  deriving DecidableEq, Repr

/-! ### Windows, objects and the Central Store -/

/-- R90: a window definition. TIER 0 is UNDEFINED. -/
structure Window where
  tier : Nat
  perm : Bool  -- true: READ_WRITE
  base : Nat
  size : Nat
  deriving DecidableEq, Repr

/-- R148: the states of an object. -/
inductive ObjState where
  | building | sealing | sealed | retiring | shareObject
  deriving DecidableEq, Repr

/-- R148: an entry of the object table. -/
structure Obj where
  tier : Nat
  kind : Nat
  owner : Option Nat     -- none: PUBLIC
  st : ObjState
  base : Nat             -- FLASH: the slot set
  size : Nat
  lastUse : W48
  ns : Nat
  written : List Nat     -- R150, R155: the 4 KiB units (FLASH: 16 KiB pages) that a write reached
  src : Nat              -- a pool object's source (R149), else 0
  lpn : Tbl Nat          -- R418: FLASH: first LPN of its run, by slot
  deriving DecidableEq, Repr

/-- R159: an accepted operation of the tier mover that has not ended. `op` is the OP code of R160. -/
structure TierOp where
  op : Nat
  obj : Nat              -- object sealed, written, filled or released
  src : Nat
  srcOff : Nat
  dstOff : Nat
  len : Nat
  copied : Bool          -- FILL: the copy is complete and the seal is to come; COPY: its pages were read, and wait to be programmed
  moved : Nat            -- R162: lines of 64 B moved in earlier furrows
  flash : Tbl Nat        -- R407: page transfers made in earlier furrows, by flash channel
  deriving DecidableEq, Repr

/-- R143: who holds a store page. -/
inductive PageOwner where
  | free | share (ctx : Nat) | pool (obj : Nat)
  deriving DecidableEq, Repr

/-- 05_central_store_and_tiers: store pages, the object table and the tier mover. -/
structure StoreUnit where
  pages : Tbl PageOwner       -- R143: pages not listed are FREE
  objects : Tbl Obj           -- R147: IDs 1 to 65,535
  ops : List TierOp           -- R159: at most 64
  cmdResult : Option (Nat × Nat) -- R159: acceptance of the command being checked: result, object
  deliv : Tbl (Nat × Nat)     -- R528: progress of TIER deliveries by HANDOFF_ID: item, stripe units of it moved
  units : Tbl Nat             -- R162: 64ths of a stripe unit served in this furrow, by channel
  bgUnits : Tbl Nat           -- R162: 64ths of a stripe unit that COPY, FILL, builds and the host took in this furrow, by channel
  unqueued : List TierOp      -- R421: COPYs to FLASH whose source could not be read at acceptance (the model's own)
  genUnits : Tbl Nat          -- R390: stripe units served in this furrow for a generation stage
  chTrained : Bool            -- R156
  deriving DecidableEq, Repr

/-! ### Plots -/

/-- R61: a handoff declaration. -/
structure HoDecl where
  kind : Nat
  window : Nat
  early : Bool
  deadlineRel : Nat
  landingOff : Nat
  stride : Nat
  itemsMax : Nat
  deriving DecidableEq, Repr

/-- R59: a footprint entry. -/
structure FpEntry where
  run : Nat
  arrP : Nat
  arrD : Nat
  trowel : Nat
  rake : Nat
  bitonic : Bool
  ports : Nat
  windows : Nat
  deriving DecidableEq, Repr

/-- R63: an entry of the plot directory. -/
structure Plot where
  base : Nat             -- device address of the image
  imgLen : Nat
  length : Nat
  bundles : Nat
  die : Nat
  decode : Bool          -- KIND
  replayRes : Nat
  replayClk : Nat
  winUsed : Nat
  winLocal : Nat         -- WIN_LOCALITY
  bundleOff : Nat
  seed : Nat
  fps : List FpEntry
  decls : List HoDecl
  wins : List Window     -- R60: the sixteen slots as resolved at load
  groups : List (List Nat) -- R60: bank groups of each window slot
  unloading : Bool       -- R63: a PLOT_UNLOAD was admitted
  deriving DecidableEq, Repr

/-- R108 -/
inductive ArrSt where
  | down | rampUp | up | rampDown
  deriving DecidableEq, Repr

/-- R186: an accumulator entry. -/
structure AccEntry where
  v : Int
  e : Int
  deriving DecidableEq, Repr

/-- R169: the weights of an array: the FMT of the LDW that loaded them (none since plot start) and the tile. -/
structure WTile where
  fmt : Option Nat
  data : List Byte
  deriving DecidableEq, Repr

/-- R176: an MM whose rows are not all final. -/
structure MmOp where
  issue : Nat            -- machine clk of its issue
  issuedAt : Nat         -- R184: elapsed clk of its issue
  final0 : Nat           -- machine clk at which row 0 is final
  step : Nat             -- r
  fmt : Nat
  add : Bool
  e0 : Int
  drow : Nat
  rows : Nat
  next : Nat             -- first row not final
  tile : WTile
  pack : Option (List Byte)
  acts : Tbl (List (List Byte)) -- R199: rows streamed and not yet final, one list of bytes for each sub-problem
  nonfin : Bool          -- R171: counted
  deriving DecidableEq, Repr

/-- A column of a row while its sum is formed or replayed (R190, R199): stored value, exponent, sum, and whether it
overflowed. -/
structure ColWork where
  base : Int
  e : Int
  v : Int
  ovf : Bool
  dir : Option Bool      -- R204: its first partial sum out of range: too large (true) or too small
  deriving DecidableEq, Repr

/-- R178: an LDW whose tile the shadow weights have not taken. -/
structure LdwOp where
  issue : Nat
  due : Nat              -- machine clk at which the shadow weights are complete
  fmt : Nat
  buf : List Byte
  deriving DecidableEq, Repr

/-- R176, R195: the rows of an MM as they came to the array's edge: `first` is the clk of row 0 (of its last wavefront),
`step` the clks from row to row. -/
structure Streamed where
  issue : Nat
  first : Nat
  step : Nat
  rows : Nat
  deriving DecidableEq, Repr

/-- The state of one logical array of a plot run. -/
structure ArrayState where
  st : ArrSt
  upAt : Nat             -- R185: elapsed clk up to which its clks out of DOWN are counted
  busyFrom : Option Nat  -- R185: elapsed clk up to which the busy clks of its stream are counted; none: all of them
  rampDue : Nat
  shadow : WTile
  active : WTile
  ldws : List LdwOp      -- in order of issue
  ldwLast : Nat          -- issue clk of the last LDW
  wFree : Nat            -- R101: the paths are free from these clks on
  sFree : Nat
  dFree : Nat
  ops : List MmOp
  rows : Tbl (List AccEntry) -- rows no MM has written are not listed
  pendExp : Option Int   -- R188
  streamed : List Streamed -- R195: what its cells have drawn for: the MMs
  passes : List Nat      -- and the replay passes, by machine clk
  footDraws : Tbl Nat    -- R195: draws of each column foot
  deriving DecidableEq, Repr

/-- R123: a trowel core of a plot run. -/
structure Trowel where
  s : Tbl W64
  v : Tbl (BitVec 512)
  flags : Nat            -- R123: FLAGS, 5 bits
  pc : Nat
  ibuf : Tbl Byte
  running : Bool
  clk : Nat              -- machine clk of its next issue
  ready : Tbl Nat        -- R125: clk from which a register can be read (0-31 s, 32-63 v, 64 FLAGS)
  loadDue : Nat
  idleAt : Nat           -- R127: machine clk from which it is idle after its tend
  budgetDue : Nat
  started : Nat
  deriving DecidableEq, Repr

/-- R116: a rake operation whose result is not complete. -/
structure RakeOp where
  op : Nat
  len : Nat
  k : Nat
  sfmt : Nat
  lanes : Nat
  min : Bool
  src : Nat
  dst : Nat
  occEnd : Nat
  due : Nat
  pass1 : Tbl (List Byte)
  pass2 : Tbl (List Byte)
  deriving DecidableEq, Repr

/-- What an operation in flight does at a clk of the plot (R98 to R100, R113, R115, R117). -/
inductive Pend where
  | areg (a : Nat) (v : Nat)
  | store (addr : Nat) (data : List Byte)
  | copyUnit (src dst vis : Nat)
  | ldwRead (key issue addr n : Nat)
  | mmRead (key issue row : Nat) (srcs : List (Nat × Nat))
  | drainRow (key ofmt row dst vis : Nat)
  | rakeRead (pass first n : Nat)
  | rakeCount (n : Nat)  -- R231: so many elements were read
  | rakeResult (occEnd units : Nat)
  | packed (p : Nat) (data : List Byte)
  | tload (core off addr : Nat)
  | latch (srcW srcO dstW dstO : Nat)
  | sexp (key : Nat) (exp : Int)
  | conflict (bank : Nat)
  deriving DecidableEq, Repr

/-- R204: the cause of a pause, the row that replays. -/
structure Replay where
  key : Nat
  issue : Nat            -- the MM
  base : Nat             -- length of the pauses before it
  cols : List ColWork
  deriving DecidableEq, Repr

/-- A plot run in a slot of a sequencer (R65). Clks of operations in flight are machine clks, which stand still in a
replay pause (R200); elapsed clk is machine clk plus `pauses`. -/
structure Run where
  ctx : Nat
  handle : Nat
  plot : Plot            -- the directory entry it runs from (R94: its definitions stay)
  req : Nat              -- the request whose plot it is
  entry : Nat            -- its stage of the request, or its plot of the stage `gen`
  gen : Option Nat       -- R362: the generation stage whose plot it is
  group : Nat            -- R70: the group that placed it, 1 to 4
  startOff : Int         -- R73: its start, in clk from the start of the current furrow
  wins : List Window     -- R93: the definitions in force at its start
  phys : List (List Nat) -- R66: physical units: prefill arrays, decode arrays, trowel cores, rake lanes, ports
  seed : Nat             -- R57
  now : Nat              -- machine clk
  pauses : Nat           -- R200: length of the pauses so far
  nextIssue : Nat
  waitClk : Option Nat   -- R121: elapsed clk that a WAITCLK names
  pc : Nat               -- index of the next bundle
  aregs : List W64
  arrays : Tbl ArrayState -- key 8 × KIND + logical array
  packs : Tbl (List Byte) -- R110
  latch : Nat × Nat × Nat × Nat -- R113: source window and offset, destination window and offset
  ports : Tbl Nat        -- R101: store ports are busy before these clks
  rake : List RakeOp
  trowels : Tbl Trowel
  pend : List (Nat × Nat × Pend) -- machine clk, order within the clk (R100), effect
  banks : Tbl (List Nat) -- R137: by machine clk, the banks that plot-port accesses occupy
  replay : Option Replay
  replaysLeft : Nat
  satSeen : Bool         -- R204: ACC_SATURATED raised
  nonfinSeen : Bool      -- R171
  nanSeen : Bool         -- R230
  lastTies : Nat         -- R229
  aborted : Option Nat   -- R68: the detail code
  overrunChecked : Bool  -- R108
  deriving DecidableEq, Repr

/-- R75: a plot run placed in a sowing. -/
structure Placed where
  ctx : Nat
  handle : Nat
  req : Nat
  entry : Nat
  gen : Option Nat
  group : Nat
  die : Nat
  band : Nat
  phys : List (List Nat)
  seed : Nat
  args : List W64
  idle : Bool            -- R68: its context faulted before it started
  deriving DecidableEq, Repr

/-- R383: a reservation record, its handoff used or not. -/
structure Reservation where
  kind : Nat
  decl : Nat
  handle : Nat
  firstRel : Nat
  lastRel : Nat
  units : Nat
  reads : Nat
  slots : Nat
  sieveCtx : Nat
  engMask : Nat
  used : Bool
  deriving DecidableEq, Repr

/-- An open deadline handoff (R77 to R83). -/
structure Handoff where
  id : Nat
  kind : Nat
  ctx : Nat
  req : Nat
  gen : Option Nat       -- the generation stage that issued it
  handle : Nat           -- consumer
  bind : Option (Nat × Nat) -- R77: the run of the consumer it is for: stage (or plot of the generation stage) and run
  decl : Nat
  issue : W48
  deadline : W48
  addr : Nat             -- device address of the landing area
  stride : Nat
  itemsMax : Nat
  early : Bool
  expected : Nat
  landedItems : List Nat
  flags : Nat            -- R80: bits 0 to 3
  detail : List Byte     -- KIND_DETAIL
  flagDetails : Tbl Nat  -- the detail code of each flag that is set
  noWork : Bool          -- R80: it starts no work
  cutoff : Bool          -- R81: past its landing cutoff
  closeAt : Option W48   -- R83: closes early at this boundary
  pinned : List Nat      -- R122, R151: objects it pins
  srcRanges : List (Nat × Nat) -- R122: device ranges it was resolved to
  desc : List Byte       -- its work descriptor
  texts : List (Nat × Nat) -- R164: FLASH_TEXT: object and passage of each item
  res : Option Reservation -- R77: what admission reserved for it
  reqs : List Nat        -- the requests of the stage that issued it
  deriving DecidableEq, Repr

/-- R185, R231, R470: a unit of a run that a warm reset stopped: what its counters lack, and an array's ramp down. -/
structure Stopped where
  die : Nat
  kind : Nat             -- 0 prefill array, 1 decode array, 2 trowel core
  unit : Nat             -- its physical number
  busy : Nat             -- busy clks that are not counted yet
  up : Nat               -- an array's clks out of DOWN that are not counted yet, to `since`
  since : Nat            -- clk of the furrow
  due : Nat              -- clk of the furrow from which it is DOWN
  deriving DecidableEq, Repr

/-- 03_plots_and_sowing: directory, sowings, runs and handoffs. -/
structure PlotUnit where
  dir : Tbl Plot         -- key 65,536 × context + handle
  frozen : Option (List Placed) -- R76: the sowing of the next furrow
  sown : List Placed     -- placed in this furrow and not yet started
  runs : Tbl Run         -- by run number
  nextRun : Nat
  handoffs : Tbl Handoff -- by HANDOFF_ID
  nextHandoff : Nat
  closed : Tbl (Nat × Nat × Nat) -- R82: context, handle and die of the consumer of each handoff that closed
  domainOffSeen : List (Nat × Nat) -- R74: requests and entries whose SOW_DOMAIN_OFF was raised
  composing : List Placed -- R75: the sowing as composed for the next furrow
  issued : List ((Nat × Nat) × Nat) -- R69: the declarations of runs not yet placed whose handoff was issued
  stopped : List Stopped -- R470: the units of the runs that a warm reset ended, until they are DOWN
  deriving DecidableEq, Repr

/-! ### Contexts, queue pairs, requests -/

/-- R373 -/
inductive CtxSt where
  | off | active | draining | faulted | resetting
  deriving DecidableEq, Repr

/-- R373: what a context holds besides its registers. -/
structure Context where
  st : CtxSt
  enabling : Bool        -- R404: OFF becomes ACTIVE at the next boundary
  resume : Bool          -- R400: RESUME was written
  wins : Tbl Window      -- R90: definitions in force, by slot
  pendWins : Tbl Window  -- R94: definitions that passed their check
  held : List (Nat × Nat × List Nat) -- R94: bytes (base, size) that stay assigned until these runs end
  deriving DecidableEq, Repr

/-- R376, R381 -/
inductive QpSt where
  | disabled | active | draining | error
  deriving DecidableEq, Repr

/-- R378: a descriptor copied in and not yet admitted. -/
structure Desc where
  bytes : List Byte
  doorbell : W48
  eligible : W48
  deriving DecidableEq, Repr

/-- R376: a queue pair. -/
structure QueuePair where
  st : QpSt
  abort : Bool
  lastErr : Nat
  sqTail : Nat
  sqHead : Nat
  cqTail : Nat
  cqHead : Nat
  bells : List (Nat × W48 × W48) -- R378: doorbells not yet fetched: tail, doorbell furrow, eligible furrow
  fetched : List Desc    -- ring order
  requested : Nat        -- next index to ask the host for
  armed : Bool           -- R502
  deriving DecidableEq, Repr

/-- R384: a stage of a request. Run k of it has chain position `pos` + k. -/
structure Stage where
  type : Nat             -- 0 PLOT, 1 TOKENIZE, 2 ASSEMBLE
  handle : Nat
  reps : Nat
  args : List W64
  pos : Nat
  placed : Nat           -- runs placed in a sowing
  ended : Nat            -- runs ended
  deriving DecidableEq, Repr

/-- A request that was admitted (R386) and has not completed. -/
structure Request where
  qp : Nat
  ctx : Nat
  cls : Nat
  bytes : List Byte      -- R382
  blockBase : Nat        -- device address of window REQ_WINDOW as admitted
  admitted : W48
  order : Nat            -- R386: ring order within its queue pair
  begun : Bool           -- R384: its stages were begun
  inRes : Bool           -- R393
  stages : List Stage
  res : List Reservation
  conds : List (Nat × Nat) -- R16: status code and detail of each condition
  cancel : Option Nat    -- R398: the detail it ends CANCELLED with
  bindings : Tbl (Nat × Nat × Nat) -- R260, R306: versions it holds, by index slot (256 + table slot): header, tombstone, version
  userSegs : Bool        -- R384: the user segments are tokenized
  invalidSeen : Bool     -- R322: TEXT_INVALID_INPUT was raised
  ready : Option W48     -- R384: prompt-ready
  boundOk : Bool         -- R396: conditions 1 to 7 hold so far
  boundMiss : Bool
  ties : Nat
  promptTokens : Nat
  passages : Nat
  cut : Bool
  emitted : Nat
  stopIndex : Nat
  stopString : Nat
  deferred : Nat
  textNo : Nat           -- R397: TEXT entries written
  textOut : List Byte    -- R380: released text not yet written
  genEnded : Bool
  result : Nat
  deriving DecidableEq, Repr

/-- R398: what a CANCEL targets: no request, an admitted one, or the descriptor of one not yet admitted. -/
inductive CancelTarget where
  | none | admitted (req : Nat) | fetched (bytes : List Byte)
  deriving DecidableEq, Repr

/-- R385, R398: a CANCEL that was fetched: its queue pair, its own descriptor, its target. -/
structure CancelJob where
  qp : Nat
  bytes : List Byte
  target : CancelTarget
  deriving DecidableEq, Repr

/-- 14_queues_contexts_isolation. -/
structure QueueUnit where
  ctxs : Tbl Context     -- contexts not listed are OFF with no window
  qps : Tbl QueuePair    -- queue pairs not listed are DISABLED
  reqs : Tbl Request
  nextReq : Nat
  nextOrder : Nat
  checks : List (Nat × Nat × Window) -- R374: commits whose check has not ended: context, slot, definition
  winLast : Tbl Nat      -- R374: LAST, by 16 × context + slot
  calUnits : Tbl (Nat × Nat) -- R389: calendar by furrow: units claimed outside and inside the set-aside
  calReads : Tbl (Tbl (Nat × Nat)) -- by furrow, by flash channel
  calCtx : Tbl (Tbl (Nat × Nat)) -- by furrow, by sieve engine
  calLanes : Tbl Nat     -- R388: lane-bytes claimed, by furrow
  bucket : Nat           -- R393: L
  stagedC0 : Tbl Nat     -- R395: QM_C0 registers to apply at the next boundary, by address
  stagedRes : Tbl Nat    -- R395: QM_CTX_RES to apply, by context
  stagedClasses : Tbl Nat -- R395: CLASSES to apply, by context
  cancels : List CancelJob -- R398: CANCELs fetched, to end at the boundary
  deriving DecidableEq, Repr

/-! ### The host port -/

/-- R452: the states of a module of the host port. -/
inductive ModSt where
  | training | up | retraining | excluded
  deriving DecidableEq, Repr

structure HostModule where
  st : ModSt
  lanes : List Nat       -- R437: lanes repaired
  spares : Nat           -- SPARES_LEFT
  deriving DecidableEq, Repr

/-- R442: an LPDDR5X access of the host that waits for capacity. -/
inductive LpAccess where
  | write (addr : Nat) (data : List Byte)
  | read (tag addr len : Nat) (err : Bool)
  deriving DecidableEq, Repr

/-- 16_host_port. Counters and EPOCH stand in the register file. -/
structure HostUnit where
  mods : Tbl HostModule  -- modules 0 to 3; one not listed is in TRAINING with nothing repaired
  held : Nat             -- R452: the modules that MOD_DISABLE keeps out of their present training, as a mask
  waiting : List (Nat × HostTxn) -- R439: module accesses that wait for the link: queue pair (4,096 for the event ring), access
  drds : Tbl (Nat × Nat) -- R440: reads outstanding by TAG: queue pair, ring index
  lpWait : List LpAccess -- R442: accesses to LPDDR5X that wait for unreserved capacity, oldest first
  deriving DecidableEq, Repr
/-! ### Cartridges and flash media (15_index_cartridges) -/

/-- R419: the spare record of a programmed page; `key` names the key that encrypts it (R416). -/
structure Spare where
  lpn : Nat
  nsid : Nat
  slc : Bool
  filler : Bool
  fold : Option Nat      -- the fold ID of a FOLD target
  furrow : W48
  temp : Nat
  seq : Nat
  key : Nat
  ver : Nat              -- the sequence number under which its contents were first written: a move keeps it
  deriving DecidableEq, Repr

/-- R420: a complete checkpoint: the map, and by channel the sequence number of the first page that it does not cover. -/
structure Ckpt where
  map : Tbl Nat
  seqs : Tbl Nat
  deriving DecidableEq, Repr

/-- R420: a checkpoint being written, and the segments still to write. -/
structure CkptRun where
  snap : Ckpt
  left : List Nat        -- 37,400 × channel + segment
  deriving DecidableEq, Repr

/-- R414: a namespace as a cartridge keeps it. -/
structure FlashNs where
  owner : Option Nat
  slots : Nat
  quota : Nat
  key : Nat              -- its key, by number (the model's own)
  blob : List Byte       -- R486: the wrapped key, 72 B, in the key table of namespace 0
  deriving DecidableEq, Repr

/-- R405, R424: the states of a superblock. -/
inductive SbState where
  | free | openSb | full | erase
  deriving DecidableEq, Repr

structure Superblock where
  slc : Bool
  st : SbState
  wear : Nat             -- R410: units
  next : Nat             -- wordlines programmed
  retired : List Nat     -- R421: blocks the superblock runs without
  refresh : Bool         -- R425: a read needed 2 or more retries
  deriving DecidableEq, Repr

/-- R405, R408: a cartridge: its identity element and what its flash holds. -/
structure Cart where
  ident : CartIdent
  life : Nat             -- element life-used counter
  tWriteMax : Nat
  rated : Nat × Nat      -- R408: rated life in program/erase cycles, in TLC and in the SLC region
  wearBase : Nat         -- R410: units by which a mount raised the wear tables to the element's counter
  sysKey : Option Nat    -- R486: the system key, by number (the model's own); none on a blank cartridge
  sysForeign : Bool      -- R487
  sysBlob : List Byte    -- R486: the wrapped system key, 72 B, in the element's parameter area
  unerased : Bool        -- R486: initialised as blank: its blocks wait for their first erase
  sbs : Tbl Superblock   -- by 3,800 × channel + block; one not listed has no wear, and is free unless `unerased`
  pages : Tbl Spare      -- by physical page number (R418, bits 37:6)
  data : Memory          -- the pages' contents, 16,384 B from 16,384 × page number
  nss : Tbl FlashNs
  dir : Tbl Obj          -- R413
  dirSlot : Tbl Nat      -- R413: the slot that an object of the directory was recorded for
  born : Tbl (List Nat)  -- the sequence number of each channel when an object came into the directory: older pages are not its own
  ckpts : List Ckpt      -- R420: complete checkpoints, the last one first; at most two
  commits : List (Nat × Nat × List Nat) -- R423: fold commits: channel, fold ID, the sources that are not erased yet
  maxTemp : Nat
  hist : Tbl Nat         -- R431: temperature history, in furrows
  stats : Tbl Nat        -- R431: the other counts of the record, by offset
  deriving DecidableEq, Repr

/-- R423: a fold. -/
structure Fold where
  id : Nat
  targets : List Nat     -- the target first; then those that took wordlines whose program failed (R421)
  sources : List Nat
  moves : List (Nat × Nat × Nat) -- LPN, source page, target page programmed
  deriving DecidableEq, Repr

/-- A page waiting to be programmed. -/
structure ProgPage where
  lpn : Nat
  nsid : Nat
  key : Nat
  filler : Bool
  obj : Nat              -- the object built, or 0
  src : Option Nat       -- R425: the page it moves from
  read : Bool            -- its contents are held; false for a page to be moved that was not read yet
  data : List Byte
  deriving DecidableEq, Repr

/-- A flash channel of a mounted cartridge; streams are 0 writes, 1 fold, 2 relocation and refresh. -/
structure FlashChan where
  openSbs : Tbl (List Nat) -- by stream, the superblocks it writes; the first is the one in use
  failed : Tbl Nat       -- R421: by stream, the superblock in which its next wordline failed
  queue : Tbl (List ProgPage)
  fold : Option Fold
  moving : Option Nat    -- the superblock being relocated or refreshed
  seq : Nat
  lastBuild : W48
  unclaimed : Nat        -- R407: transfers of this furrow taken of those that no reservation claims
  held : Nat             -- R407: taken of the 3 held for media work
  paid : Tbl Nat         -- R407: by stream, transfers already made for its next wordline in earlier furrows
  deriving DecidableEq, Repr

/-- R411 -/
inductive SlotState where
  | empty | detected | powering | authenticating | mounting | ready | draining | removable | failed
  deriving DecidableEq, Repr

structure FlashSlot where
  st : SlotState
  cart : Option Cart
  challenge : Option (List Byte) -- R409: the challenge that was sent
  authDone : Bool        -- R409: authentication has ended, ONFI training follows
  failReason : Nat
  unwrapFail : Bool      -- R487: FAILED by the system key
  readOnly : Bool
  lifeWarned : Bool
  tempHold : Bool
  temp : Nat             -- hottest die now, two's complement
  offline : Bool         -- R412: reads issued from here on fail
  force : Bool
  resetting : Bool       -- R429: its domain is off for the 8 F
  vcartOpen : Bool       -- R517: the switch of VCART_OUT opened at its current limit
  map : Tbl Nat          -- R418: physical page by LPN; an LPN not listed is unmapped
  chans : Tbl FlashChan
  locked : List Nat      -- R416: namespaces whose key could not be unwrapped
  keys : Tbl (List Byte) -- R483: its part of the XTS key store: the plaintext key of each namespace, 0 the system key
  ckpt : Option CkptRun  -- R420: the checkpoint being written
  ckptFur : Option W48   -- R420: the furrow in which the last checkpoint was begun since the mount
  lunSet : Tbl Nat       -- R406, R426: the threshold set last set in a LUN, by 8 × channel + LUN
  deriving DecidableEq, Repr

/-- Who a page read is made for. -/
inductive ReadUser where
  | text (handoff item : Nat)
  | textReq (job item : Nat)
  | walk (sctx : Nat)
  | tier
  | media
  deriving DecidableEq, Repr

/-- R412, R416, R418: where a page read that was issued takes its page from: nowhere, for it fails with detail 0x91 or 0x92;
the zero page; a physical page. -/
inductive ReadSrc where
  | offline | keyless | zero
  | page (p : Nat)
  deriving DecidableEq, Repr

structure FlashRead where
  slot : Nat
  lpn : Nat
  user : ReadUser
  src : ReadSrc
  tries : Nat            -- R426: attempts that failed
  sets : List Nat        -- R426: the threshold sets still to try; empty before the first attempt
  deriving DecidableEq, Repr

structure FlashUnit where
  slots : Tbl FlashSlot  -- slots 0 to 3; one not listed is EMPTY
  reads : List FlashRead -- reads issued and not delivered
  failed : List (Nat × Nat) -- text items with an unreadable page: handoff (or 2^32 + request), item
  failDetail : Tbl Nat   -- R84: detail of the MEDIA_ERROR of a handoff's reads
  used : Tbl Nat         -- R390: text reads of this furrow, by 64 × handoff + channel
  pulled : List Cart     -- cartridges out of the module, as they were pulled (the model's own)
  nextFold : Nat
  nextKey : Nat          -- flash keys drawn so far
  deriving DecidableEq, Repr

/-! ### Power, start-up, staging and security (17_power_reset_startup, 18_security) -/

/-- R477: PHASE. -/
inductive Phase where
  | rom | verifying | bringup | service | dormantEntry | dormant | waking | halted
  deriving DecidableEq, Repr

/-- R459: an entry of the staging list. `sel` is the instance that the selection register named when a direct write
formed the entry (R463). -/
structure StgEntry where
  w0 : Nat
  w1 : Nat
  w2 : Nat
  sel : Option Nat
  deriving DecidableEq, Repr

/-- R460 to R463: the armed list. -/
structure Staging where
  entries : List StgEntry
  at_ : W48
  step : Nat             -- step being attempted
  tried : Nat            -- its attempts so far
  deriving DecidableEq, Repr

/-- 17_power_reset_startup. The furrows of its schedules are counted by `furs`, which a loaded furrow number does not
change. -/
structure PowerUnit where
  phase : Phase
  furs : Nat             -- boundaries since the last cold reset
  porst : Bool           -- R514: PORST_N is high and the supplies are good
  doms : Tbl Nat         -- R477: states by domain: 0 OFF, 1 POWERING, 2 ON, 3 RETENTION
  poweredAt : Tbl Nat    -- R455: the boundary at which a domain was switched on
  funcs : Tbl Nat        -- R477: 0 ENABLED, 1 DRAINING, 2 DISABLED
  funcAbort : List Nat   -- R458: functions disabled in abort mode
  funcPend : Tbl (Bool × Bool) -- R458: commands for the next boundary: enable, abort mode
  image : Memory         -- R466
  imageLen : Nat
  verify : Option Nat    -- R481: RESULT of checks 1 and 2 (1: both passed), while PHASE is VERIFYING
  result : Nat           -- PWR_BOOT_STATUS.RESULT
  verFur : Option Nat    -- R465: V
  memFur : Option Nat    -- R465: M
  warm : Option Nat      -- R470: the furrow in which a warm reset was requested
  staging : Option Staging
  sleepPend : Bool       -- R471
  sleepTried : Nat
  wakeFur : Option Nat   -- R473: W
  onAtEntry : List Nat   -- R473: the domains that were ON at entry
  straps : Nat           -- R515: I3C_ADDR1 and I3C_ADDR0
  dynAddr : Option Nat   -- R515: the dynamic address
  i3cOut : List Byte     -- R474: the bytes of the last private read
  deriving DecidableEq, Repr

/-- R480 to R492. RNG_OK stands in SEC_STATUS. -/
structure SecUnit where
  svnMin : Nat           -- fuse
  revoked : Nat          -- fuse
  minInForce : Nat       -- R482, R492: SVN_MIN as read at the last cold start
  revInForce : Nat       -- and the revocation bits
  fuse : Option (Nat × Nat) -- R482: the burn under way: OP, VALUE
  runKey : Nat           -- the running image
  runSvn : Nat
  runBuild : Nat
  runTarget : Nat
  runHash : List Byte
  attest : Option (List Byte) -- R488: BUSY, with the nonce
  reseeds : Nat          -- R484: reseeds of the DRBG
  deriving DecidableEq, Repr

/-! ### Sieve (09_vector_search) -/

/-- R237, R239: what a sieve context waits for. -/
inductive SctxSt where
  | copying | ready | asked | reading | stopped
  deriving DecidableEq, Repr

/-- R251, R252: a lookup of one bit, made or to be made, for a candidate. -/
structure Look where
  v : Nat                -- vector
  sc : Nat               -- its score
  step : Nat             -- 0 tombstone before an offer, 1 filter bitmap, 2 tombstone before an expansion (SKIP)
  deriving DecidableEq, Repr

/-- R236: a context of an engine, assigned to a search. -/
structure SieveCtx where
  eng : Nat
  num : Nat              -- context of its engine
  st : SctxSt
  onBudget : Bool        -- it stopped on a budget, a group limit or LOOKUPS
  beam : List (Nat × Nat × Bool) -- R250: score, vector, expanded; in rank order
  visited : Nat          -- R250: the visited filter, one bit a position
  done : Nat
  limit : Nat
  offered : Nat          -- eligible entries it offered itself (R253)
  node : Nat             -- the node being read
  probes : List (Nat × Nat) -- IVF: lists still to scan: number, FP16 bias
  group : Nat            -- IVF: next group of the first of them
  groups : Nat           -- IVF: groups read in this phase
  table : List Byte      -- R236: its table slot
  stream : List Byte     -- R236: the group in its stream buffer, or the node record delivered; empty once it is scored
  entry : Nat            -- next entry of that
  look : Option Look
  src : ReadSrc          -- where the page that it reads comes from
  deriving DecidableEq, Repr

/-- A search in progress with its collector. -/
structure Search where
  handoff : Option Nat   -- R254; none for shard work
  shard : Option Nat     -- R285: the shard job
  item : Nat
  owner : Nat            -- context
  issue : W48
  deadline : W48
  slot : Nat
  desc : List Byte
  header : List Byte     -- R241: from slot memory: the first 4 KiB and the entry points
  hdrBase : Nat
  data : Nat             -- DATA_OBJECT
  tombBase : Option Nat
  tableBase : Nat        -- device address of its table
  extraProbes : List (Nat × Nat)
  bitmap : Nat           -- device address of bit 0
  ctxs : List SieveCtx   -- in order of the deal; empty until it starts
  started : Bool
  extra : Bool           -- IVF: the extra probes were dealt
  coll : List (Nat × Nat) -- R238: score and passage ID, best first
  lookups : Nat          -- issued
  looked : Nat           -- delivered
  codes : Nat
  reads : Nat
  nanSeen : Bool
  media : Option Nat     -- R256: detail
  deriving DecidableEq, Repr

structure SieveUnit where
  searches : Tbl Search  -- by collector, 0 to 511
  waiting : List Search  -- issued, to start at the next boundary
  lastCtx : Tbl Nat      -- R237: context an engine issued from last
  chanReads : Tbl Nat    -- R239: walk reads served in this furrow, by channel
  chanRound : Tbl Nat    -- in this round
  chanLast : Tbl Nat     -- R264: READS_LAST
  cfgMem : Tbl (List Byte) -- R241: slot memory, by 65,536 times the slot plus the header object: the first 4 KiB and the entry points
  round : Nat            -- R239: read rounds started in this furrow
  usedUnits : Tbl Nat    -- R390: 64ths of a stripe unit used in this furrow, by handoff, or 2³² plus the shard job
  usedReads : Tbl Nat    -- R390: page reads made in this furrow, by 64 times that plus the channel
  pendIdx : Tbl W48      -- R259: staged switches by slot
  tally : Tbl (List Nat) -- R254: KIND_DETAIL counts by handoff: finished, harvested, abandoned, budget-stopped, codes, reads
  deriving DecidableEq, Repr

/-! ### Bruxia port (10_bruxia_and_planes) and gather unit (11_embedding_tables) -/

/-- R269: the states of a port. -/
inductive PortSt where
  | disabled | training | hello | up | failed
  deriving DecidableEq, Repr

structure BrxPort where
  st : PortSt
  lastHello : Option W48 -- R269: furrow of the last good HELLO
  down : Option Nat      -- R270: a fault that takes effect at the next boundary, with its cause
  deriving DecidableEq, Repr

/-- R277: a heartbeat received. -/
structure Beat where
  furrow : W48
  digest : W64
  unlocked : Bool        -- FLAGS bit 0, or a STATE of UNLOCKED
  fenced : Bool
  serving : Bool
  deriving DecidableEq, Repr

/-- A reply that is used for an item: its clk and plane, and what it carries. -/
structure Came where
  item : Nat
  furrow : W48
  clk : Nat
  plane : Nat
  primary : Bool         -- the sender was the primary
  harvested : Bool       -- R286: STATUS 1
  flags : List (Nat × Nat) -- flags of the landing record, with their detail
  deriving DecidableEq, Repr

/-- R283: what one shard or index was asked for by a handoff. -/
structure RemoteUnit where
  idx : Nat
  items : List (Nat × Nat) -- item number, passage or row
  planes : List Nat      -- planes asked
  nacks : List Nat       -- reasons
  replied : Bool         -- some reply that is no NACK has come
  got : List Nat         -- items that landed
  unasked : Bool         -- R280: both its modules were excluded
  came : List Came       -- the replies in use, newest first
  deriving DecidableEq, Repr

/-- The progress of a FABRIC or GATHER handoff at its origin. -/
structure Remote where
  kind : Nat             -- 0 SEARCH, 1 TEXT, 2 GATHER
  cls : Nat
  version : Nat
  fallback : Nat         -- FALLBACK_REL
  fell : Bool            -- that sending was made
  started : Bool
  units : List RemoteUnit
  used : List Nat        -- replies discarded, NACKs, later sendings
  query : List Byte      -- SEARCH: the QUERY payload but for its ASK bitmap
  table : Nat
  format : Nat
  obj : Nat              -- GATHER: the version object bound
  locals : List (Nat × Nat) -- GATHER: local rows not yet read: item, local row
  localDone : Nat
  notAsked : Nat
  work : Nat             -- GATHER: 64ths of a stripe unit used in this furrow
  deriving DecidableEq, Repr

/-- Work done for another module (R285, R287, R301). -/
structure ShardJob where
  kind : Nat             -- 0 search, 1 text, 2 gather
  origin : Nat
  tag : Nat
  cls : Nat
  deadline : W48
  start : W48            -- the boundary from which it works
  version : Nat
  area : Nat × Nat       -- R285: its part of the service area: offset, length
  obj : Nat
  table : Nat
  format : Nat
  maxBytes : Nat
  items : List (Nat × Nat) -- text, gather: not yet sent: item, passage or local row
  failed : Bool          -- R287: a page could not be read
  units : Nat            -- stripe units a furrow that admission granted
  work : Nat
  deriving DecidableEq, Repr

/-- What the port sent: port and packet. -/
structure BrxSent where
  port : Nat
  pkt : List Byte
  deriving DecidableEq, Repr

structure BrxUnit where
  ports : Tbl BrxPort    -- ports not listed are DISABLED
  sent : List BrxSent
  beats : Tbl (List Beat) -- by identity: the last heartbeats received, newest first
  ref : Tbl W64          -- R278: reference digest by plane
  fenced : Bool          -- R278, in force
  included : List Nat    -- R280: peers not excluded, in force
  next : Option (Bool × List Nat) -- outcome of the evaluation, for the next boundary
  evaluated : Bool       -- the heartbeats of this furrow were evaluated
  majBefore : Bool       -- R279: the evaluation before found a majority, or SERVE was set since
  missed : Tbl Nat       -- MISSED of the modules heard since the last reset
  evals : Nat            -- evaluations made since the last reset, up to 2
  pendTag : Option W48   -- R276
  dropSeen : Bool        -- R275: BRX_FURROW_DROP was raised in this furrow
  nackSeen : Bool        -- R291: BRX_NACK_SENT was raised in this furrow
  remotes : Tbl Remote   -- by HANDOFF_ID
  jobs : Tbl ShardJob
  nextJob : Nat
  deriving DecidableEq, Repr

/-- R310: a TABLE_WRITE that waits for its TABLE_ACK. -/
structure MirrorPkt where
  rows : List Nat
  at_ : W48
  deriving DecidableEq, Repr

/-- R307: a build batch. -/
structure Batch where
  seq : Nat
  table : Nat
  src : Nat
  dst : Nat
  srcOff : Nat
  dstOff : Nat
  count : Nat
  applied : Bool
  accepted : Nat
  rejects : List (Nat × Nat) -- position, reason
  overwritten : Nat
  missed : Nat
  out : List MirrorPkt
  deriving DecidableEq, Repr

structure GatherUnit where
  batches : List Batch   -- R307: at most 16
  moved : Nat            -- R162, R307: records of the front batch that earlier furrows have moved
  pendTbl : Tbl W48      -- R305: staged switches by table slot
  deriving DecidableEq, Repr

/-! ### Text, Espalier, prompt assembler (12_text_and_prompts), sequence engine (13_serving_generation) -/

/-- R319, R336, R339, R349, R354: the states of a slot or entry; `leaving` is UNLOADING or RELEASING. -/
inductive SlotSt where
  | empty | loading | ready | leaving
  deriving DecidableEq, Repr

/-- R315, R316: a vocabulary slot that is not EMPTY. -/
structure VocSlot where
  st : SlotSt
  owner : Option Nat     -- none: PUBLIC
  obj : Nat
  base : Nat             -- byte of vocabulary memory
  size : Nat
  passed : Bool          -- the check ended without a failure
  tokens : Nat
  nodes : Nat
  edges : Nat
  byteBase : Option Nat
  unk : Nat
  byteCode : Nat
  unkCode : Nat
  deriving DecidableEq, Repr

/-- A segment to tokenize: reference `idx` of the combined list of a request, for a user segment (none) or a
TOKENIZE stage. -/
structure SegJob where
  req : Nat
  idx : Nat
  stage : Option Nat
  deriving DecidableEq, Repr

structure TextUnit where
  vocs : Tbl VocSlot
  vocMem : Memory        -- R315: 12 MiB
  queue : List SegJob    -- segments not yet started
  lanes : Tbl SegJob     -- R327: segments on the eight lanes
  detok : Tbl Nat        -- R328: the sixteen detokenizer lanes: the clk, counted from furrow 0, at which a lane is free
  deriving DecidableEq, Repr

/-- R334: a grammar slot that is not EMPTY. -/
structure Gram where
  st : SlotSt
  allow : Bool           -- TYPE
  owner : Option Nat
  vocab : Nat
  obj : Nat
  compiled : Nat         -- R336: 0 for none
  passed : Bool
  deriving DecidableEq, Repr

/-- R337: a mask that a handover asked for: AST entry, and the clk of the handover. -/
structure MaskJob where
  ast : Nat
  clk : Nat
  deriving DecidableEq, Repr

structure EspUnit where
  grams : Tbl Gram
  engines : Tbl MaskJob  -- the sixteen mask engines
  queue : List MaskJob
  deriving DecidableEq, Repr

/-- R340: a directive as a loaded template holds it: tokens only. -/
inductive Directive where
  | lit (toks : List Nat)
  | ctrl (tok : Nat)
  | seg (n : Nat) (optional cuttable fromStart : Bool)
  | pbegin (maxp policy minTokens : Nat)
  | ptext
  | prank
  | pend
  deriving DecidableEq, Repr

/-- R339: a template slot that is not EMPTY. -/
structure Template where
  st : SlotSt
  owner : Option Nat
  obj : Nat
  vocab : Nat
  budget : Nat
  bytes : Nat            -- template memory it holds
  dirs : List Directive
  ranks : List (List Nat) -- the tokens of the decimal texts 1 to 64
  passed : Bool
  deriving DecidableEq, Repr

structure PasmUnit where
  tpls : Tbl Template
  queue : List (Nat × Nat) -- assemblies not yet started: request, stage
  cur : Option (Nat × Nat)
  deriving DecidableEq, Repr

/-- R347, R348: a model slot that is not EMPTY. The lists hold handles and WITH_PREV bits. -/
structure Model where
  st : SlotSt
  pre : List (Nat × Bool)
  resid : List (Nat × Bool)
  streamed : List (Nat × Bool)
  res : Nat              -- R364: RES
  deriving DecidableEq, Repr

/-- R350: an entry of the Active Sequence Table that is not FREE, with what the detokenizer (R329, R331) and the
Espalier unit (R337) keep for its sequence. -/
structure SeqEnt where
  st : Nat               -- 1 PREFILL, 2 DECODE, 3 ENDING
  req : Nat
  model : Nat
  part : Nat
  graft : Option Nat
  g : Nat                -- the graft's tokens
  prompt : Nat
  emitted : Nat
  maxNew : Nat
  position : Nat
  entryFurrow : W48
  blocks : List Nat      -- its own KV blocks, in order
  deferred : Nat
  lastToken : Nat
  record : Nat
  wait : Nat
  kvWait : Bool
  streamed : Bool
  masked : Bool
  input : Nat            -- input token of the next stage
  stage : Option Nat     -- the stage that holds it
  stepAt : Option W48    -- R360: its step boundary, once its stage ended
  tok : Option Nat       -- the token it emits at its step boundary
  ends : Option (Nat × Nat) -- R361: status and detail that end it
  autoSt : Nat
  autoStack : List Nat   -- top first
  maskDue : Bool         -- a handover whose mask is not complete
  pendBytes : List Byte
  held : List (List Byte) -- characters held back
  out : List Byte        -- released and not yet given to the queue manager
  deriving DecidableEq, Repr

/-- R362: a stage of the work list. -/
structure GenStage where
  model : Nat
  chain : Nat            -- 0 prefill, 1 resident, 2 streamed
  part : Nat
  desc : Nat             -- step descriptor
  cls : Nat
  inRes : Bool
  furrow : W48           -- the work list that built it
  rows : List Nat        -- AST entries
  plots : List (Nat × Nat) -- chain position and handle
  placed : List Nat      -- plots placed in a sowing, by index
  ended : List Nat
  deferNow : Bool        -- a plot of it was deferred in this furrow
  deriving DecidableEq, Repr

structure SeqUnit where
  models : Tbl Model
  pendRes : Tbl W48      -- R364: staged switches
  grafts : Tbl SlotSt    -- R354
  ast : Tbl SeqEnt
  stages : Tbl GenStage
  nextStage : Nat
  freeing : List (Nat × Nat × Nat × Nat) -- R368: model slot, partition, block, stage whose plots have not ended
  waiting : List Nat     -- R351: requests ready for entry
  fullSeen : List Nat    -- R351: those whose SEQ_AST_FULL was raised
  astCap : List Byte     -- R372: the entry captured by a read of SEQ_AST_DATA0
  kvSeen : List (Nat × Nat) -- R353: model slot and partition whose SEQ_KV_WAIT was raised in this furrow
  deriving DecidableEq, Repr


structure Device where
  regs : Tbl W32           -- the register file, by key (see inst); registers not listed hold their reset value
  port : RegPort
  ev : EventUnit
  out : List HostTxn       -- R440: what the module sent to the host
  mem : Memory
  store : StoreUnit
  plots : PlotUnit
  qm : QueueUnit
  host : HostUnit
  flash : FlashUnit
  power : PowerUnit
  sec : SecUnit
  sieve : SieveUnit
  brx : BrxUnit
  gath : GatherUnit
  text : TextUnit
  esp : EspUnit
  pasm : PasmUnit
  seq : SeqUnit
  freeCount : Nat          -- the model's own: free values drawn so far
  deriving DecidableEq, Repr

/-- The module and the commands that wait (first in, first out). -/
structure State where
  tb : Timebase
  dev : Device
  pending : List Instr
  deriving DecidableEq, Repr

/-- Why a command stops the module. The spec gives every command of the table an effect, so there is none. -/
inductive Fault where
  deriving DecidableEq, Repr

/-- Why a command has no meaning. -/
inductive Refusal where
  /-- The command has no meaning in this model yet (raised by exec alone; safe: nothing is proved of what it does). -/
  | notModelled (mnemonic : String)
  deriving DecidableEq, Repr

/-! ### After a cold reset (R34, R465, R468, R469): furrow P, offset 0 -/

def Timebase.reset : Timebase :=
  { number := 0, offset := 0, len := 156250, st := .unlocked, realign := false, realignFromHold := false,
    realignSrcChange := false, holdCount := 0, relockCount := 0, srcForce := false, refclkOk := false, pllLocked := false,
    lossThis := false, lossNext := false, refOkAtStart := false, edge := none, prevEdge := none, cand := none,
    tcNext := none, tcResult := .absent, tcPrevBad := false, decided := none, setPending := false, phaseValid := false,
    lastErr := 0, offsetCap := 0, lockAt := 0, clks := 0 }

def RegPort.reset : RegPort := ⟨[], none, 0⟩

def EventUnit.reset : EventUnit :=
  { raised := [], stamps := [], buffer := [], counts := [], throttledCodes := [], throttledNow := [], lostPending := false, lostAt := none,
    ringFams := [], armed0 := false, alertRun := false, warned := [], tripSeen := [],
    alert := false, tripped := [] }

def StoreUnit.reset : StoreUnit :=
  { pages := [], objects := [], ops := [], cmdResult := none, deliv := [], units := [], bgUnits := [], unqueued := [], genUnits := [],
    chTrained := false }

def PlotUnit.reset : PlotUnit :=
  { dir := [], frozen := none, sown := [], runs := [], nextRun := 0, handoffs := [], nextHandoff := 0, closed := [],
    domainOffSeen := [], composing := [], issued := [], stopped := [] }

def QueueUnit.reset : QueueUnit :=
  { ctxs := [], qps := [], reqs := [], nextReq := 0, nextOrder := 0, checks := [], winLast := [], calUnits := [],
    calReads := [], calCtx := [], calLanes := [], bucket := 0, stagedC0 := [], stagedRes := [], stagedClasses := [],
    cancels := [] }

def HostUnit.reset : HostUnit := { mods := [], held := 0, waiting := [], drds := [], lpWait := [] }

def FlashUnit.reset : FlashUnit :=
  { slots := [], reads := [], failed := [], failDetail := [], used := [], pulled := [], nextFold := 0, nextKey := 0 }

/-- R465: PORST_N has been released, and the boot ROM runs in PD_X_AON, the one domain that is ON. -/
def PowerUnit.reset : PowerUnit :=
  { phase := .rom, furs := 0, porst := true, doms := [(16, 2)], poweredAt := [], funcs := [], funcAbort := [],
    funcPend := [], image := [], imageLen := 0, verify := none, result := 0, verFur := none, memFur := none,
    warm := none, staging := none, sleepPend := false, sleepTried := 0, wakeFur := none, onAtEntry := [], straps := 0,
    dynAddr := none, i3cOut := [] }

def SecUnit.reset : SecUnit :=
  { svnMin := 0, revoked := 0, minInForce := 0, revInForce := 0, fuse := none, runKey := 0, runSvn := 0, runBuild := 0, runTarget := 0, runHash := [],
    attest := none, reseeds := 0 }

def SieveUnit.reset : SieveUnit :=
  { searches := [], waiting := [], lastCtx := [], chanReads := [], chanRound := [], chanLast := [], round := 0, usedUnits := [], usedReads := [], cfgMem := [],
    pendIdx := [], tally := [] }

def BrxUnit.reset : BrxUnit :=
  { ports := [], sent := [], beats := [], ref := [], fenced := true, included := [], next := none, evaluated := false,
    majBefore := false, missed := [], evals := 0, pendTag := none, dropSeen := false, nackSeen := false, remotes := [],
    jobs := [], nextJob := 0 }

def TextUnit.reset : TextUnit := { vocs := [], vocMem := [], queue := [], lanes := [], detok := [] }
def EspUnit.reset : EspUnit := { grams := [], engines := [], queue := [] }
def PasmUnit.reset : PasmUnit := { tpls := [], queue := [], cur := none }

def SeqUnit.reset : SeqUnit :=
  { models := [], pendRes := [], grafts := [], ast := [], stages := [], nextStage := 0, freeing := [], waiting := [],
    fullSeen := [], astCap := [], kvSeen := [] }

def Device.reset : Device :=
  { regs := [], port := RegPort.reset, ev := EventUnit.reset, out := [], mem := [], store := StoreUnit.reset,
    plots := PlotUnit.reset, qm := QueueUnit.reset, host := HostUnit.reset, flash := FlashUnit.reset,
    power := PowerUnit.reset, sec := SecUnit.reset, sieve := SieveUnit.reset, brx := BrxUnit.reset,
    gath := { batches := [], moved := 0, pendTbl := [] }, text := TextUnit.reset, esp := EspUnit.reset, pasm := PasmUnit.reset,
    seq := SeqUnit.reset, freeCount := 0 }

/-- The module right after a cold reset, at its first power-on. -/
def State.reset : State := ⟨Timebase.reset, Device.reset, []⟩

end Sys2Proof.Machine
end

