-- ==== Sys2Proof/Machine/Ops.lean ====
section
/-! DEFINITION. The named operations over the register file, the counters and the event buffer that every unit
shares. -/
namespace Sys2Proof.Machine

/-! ### Bits of a word -/

/-- Bits hi:lo of a number. -/
def bits (hi lo : Nat) (w : Nat) : Nat := (w >>> lo) % 2 ^ (hi - lo + 1)

/-- A number with bits hi:lo replaced. -/
def setBits (hi lo v : Nat) (w : Nat) : Nat :=
  w - (bits hi lo w) <<< lo + (v % 2 ^ (hi - lo + 1)) <<< lo

/-- One bit of a number. -/
def bit (n w : Nat) : Bool := (w >>> n) % 2 == 1

def boolBit (b : Bool) : Nat := if b then 1 else 0

/-- Two's complement of `n` bits, read as a signed number. -/
def toSigned (n v : Nat) : Int := if v % 2 ^ n < 2 ^ (n - 1) then (v % 2 ^ n : Nat) else (v % 2 ^ n : Nat) - (2 ^ n : Nat)

/-- A signed number in `n` bits of two's complement. -/
def ofSigned (n : Nat) (v : Int) : Nat := (v % (2 ^ n : Nat)).toNat

/-- The `n` bytes of a number, least significant first (registers and records are little-endian). -/
def leBytes : Nat → Nat → List Byte
  | 0, _ => []
  | n + 1, v => BitVec.ofNat 8 v :: leBytes n (v / 256)

/-- The number a little-endian list of bytes stands for. -/
def ofLe : List Byte → Nat
  | [] => 0
  | b :: t => b.toNat + 256 * ofLe t

/-- `n` bytes of a list from an offset on; bytes past its end read 0. -/
def sliceBytes (l : List Byte) (off n : Nat) : List Byte :=
  let t := (l.drop off).take n
  t ++ List.replicate (n - t.length) 0

/-- The little-endian field of `n` bytes at an offset. -/
def fieldLe (l : List Byte) (off n : Nat) : Nat := ofLe (sliceBytes l off n)

/-- R28: furrow numbers compare by their difference modulo 2^48, read as signed. -/
def furLe (a b : W48) : Bool := !((b - a).msb)

def furLt (a b : W48) : Bool := furLe a b && a != b

/-- The furrow `n` after another. -/
def furAdd (a : W48) (n : Nat) : W48 := a + BitVec.ofNat 48 n

/-! ### The register file -/

/-- R509: the row of the register index that an address falls in. -/
def regDesc (a : Nat) : Option RegDesc :=
  regIndex.find? (fun r => r.addr ≤ a && (a - r.addr) % r.stride == 0 && (a - r.addr) / r.stride < r.count)

/-- The reset value of a register: its fields at theirs. -/
def RegDesc.rst (r : RegDesc) : Nat := r.fields.foldl (fun w f => w + f.rst <<< f.lo) 0

/-- The reset value of the register at an address. -/
def regRst (a : Nat) : Nat := match regDesc a with
  | some r => r.rst
  | none => 0

/-- The key of instance `sel` of a selected register. -/
def inst (a sel : Nat) : Nat := a + sel * 2 ^ 32

/-! ### Detail codes (R142) -/

/-- R142: the codes 0x63 to 0x67 belong to the Central Store and the tiers: a bank conflict (R137), an uncorrectable error of the
Central Store (R141), one of LPDDR5X (R156). The last two codes are unused: no condition carries 0x66 or 0x67. -/
abbrev detBankConflict : Nat := 0x63
abbrev detStoreEcc : Nat := 0x64
abbrev detLpddrEcc : Nat := 0x65

/-- The stored value of a register, by key. -/
def Device.reg (d : Device) (k : Nat) : Nat :=
  match d.regs.get? k with
  | some w => w.toNat
  | none => regRst (k % 2 ^ 32)

/-- Bits hi:lo of a stored register. -/
def Device.fld (d : Device) (k hi lo : Nat) : Nat := bits hi lo (d.reg k)

/-- Store a register. -/
def Device.setReg (d : Device) (k v : Nat) : Device := { d with regs := d.regs.set k (BitVec.ofNat 32 v) }

/-- Store one field of a register. -/
def Device.setFld (d : Device) (k hi lo v : Nat) : Device := d.setReg k (setBits hi lo v (d.reg k))

/-- A counter saturates at 0xFFFF_FFFF (R493). -/
def Device.incBy (d : Device) (k n : Nat) : Device := d.setReg k (min (d.reg k + n) 0xFFFFFFFF)

def Device.inc (d : Device) (k : Nat) : Device := d.incBy k 1

/-- Set a list of counters to 0 (the CNT_CLR bits). -/
def Device.clear (d : Device) (ks : List Nat) : Device := ks.foldl (fun d k => d.setReg k 0) d

/-- The 64-bit value of a _LO and _HI pair. -/
def Device.reg64 (d : Device) (lo : Nat) : Nat := d.reg lo + d.reg (lo + 4) * 2 ^ 32

def Device.setReg64 (d : Device) (lo v : Nat) : Device := (d.setReg lo v).setReg (lo + 4) (v / 2 ^ 32)

/-- A 64-bit counter saturates at its greatest value (R493). -/
def Device.inc64 (d : Device) (lo n : Nat) : Device := d.setReg64 lo (min (d.reg64 lo + n) (2 ^ 64 - 1))

/-! ### Events -/

/-- Raise an event (R493): it is taken at the end of the command, in the order of R499. -/
def Device.raiseReq (d : Device) (r : EventReq) : Device := { d with ev := { d.ev with raised := r :: d.ev.raised } }

/-- An event of die X with no context. -/
def Device.raise (d : Device) (code : Nat) (pay : List (Nat × Nat)) : Device := d.raiseReq ⟨code, 4, none, pay⟩

/-- An event of die X that concerns a context. -/
def Device.raiseCtx (d : Device) (code c : Nat) (pay : List (Nat × Nat)) : Device := d.raiseReq ⟨code, 4, some c, pay⟩

/-- An event of a compute die that concerns a context. -/
def Device.raiseDie (d : Device) (code die c : Nat) (pay : List (Nat × Nat)) : Device := d.raiseReq ⟨code, die, some c, pay⟩

/-- R494: what was raised since `old` falls at an earlier clk of the furrow, at which its records stand. -/
def Device.raisedAt (clk : Nat) (old d : Device) : Device :=
  { d with ev := { d.ev with
      stamps := (d.ev.raised.take (d.ev.raised.length - old.ev.raised.length)).map (fun r => (r, clk)) ++ d.ev.stamps } }

/-- R499: records of one clk take SEQ in ascending code, then source. -/
def EventReq.before (a b : EventReq) : Bool := a.code < b.code || (a.code == b.code && a.source ≤ b.source)

def insertReq (r : EventReq) : List EventReq → List EventReq
  | [] => [r]
  | x :: t => if x.before r then x :: insertReq r t else r :: x :: t

def sortReqs (l : List EventReq) : List EventReq := l.foldl (fun a r => insertReq r a) []

/-- A record of the buffer comes after another: it fell at a later clk, or in the same clk and later by code and source
(R499). -/
def EventRec.after (x r : EventRec) : Bool :=
  x.furrow == r.furrow && (decide (r.clk < x.clk) || (x.clk == r.clk && !x.req.before r.req))

/-- R499: a kept record goes before those of its furrow that come after it; SEQ, the LOST mark and, in records of one code, the
THROTTLED mark (R498) stay with the place in the order. The list has the newest record first. -/
def insertRec (r : EventRec) : List EventRec → List EventRec
  | [] => [r]
  | x :: t =>
    if x.after r then
      let same := x.req.code == r.req.code
      { x with seq := r.seq, lost := r.lost, throttled := if same then r.throttled else x.throttled }
        :: insertRec { r with seq := x.seq, lost := x.lost, throttled := if same then x.throttled else r.throttled } t
    else r :: x :: t

/-- R497 to R499: one raise is throttled, or takes a SEQ and enters the buffer, or is lost when the buffer is full. -/
def Device.takeEvent (tb : Timebase) (d : Device) (r : EventReq) : Device :=
  let n := d.ev.counts.getD r.code 0
  let stamp := d.ev.stamps.find? (fun p => p.1 == r)
  let clk := (stamp.map (·.2)).getD tb.offset
  let d : Device := { d with ev := { d.ev with
    counts := d.ev.counts.set r.code (n + 1), stamps := (stamp.map d.ev.stamps.erase).getD d.ev.stamps } }
  if 16 ≤ n then
    let d := d.inc R.EVT_THROTTLED
    { d with ev := { d.ev with throttledNow := r.code :: d.ev.throttledNow.erase r.code } }
  else
    let seq := d.reg R.EVT_SEQ
    let d := (d.setReg R.EVT_SEQ (seq + 1)).inc R.EVT_RAISED
    let thr := d.ev.throttledCodes.contains r.code
    if 256 ≤ d.ev.buffer.length then
      let d := (d.inc R.EVT_LOST).setFld R.EVT_STATUS 31 31 1
      { d with ev := { d.ev with
          lostPending := true, lostAt := some (tb.number, clk), throttledCodes := d.ev.throttledCodes.erase r.code } }
    else
      let rec_ : EventRec := ⟨r, tb.number, clk, BitVec.ofNat 32 seq, d.ev.lostPending, thr⟩
      { d with ev := { d.ev with
          buffer := (insertRec rec_ d.ev.buffer.reverse).reverse, lostPending := false,
          throttledCodes := d.ev.throttledCodes.erase r.code } }

/-- Take the raises of a command. -/
def Device.flush (tb : Timebase) (d : Device) : Device :=
  let rs := sortReqs d.ev.raised.reverse
  rs.foldl (Device.takeEvent tb) { d with ev := { d.ev with raised := [] } }

/-- R498: a new furrow begins for the throttle. -/
def EventUnit.newFurrow (e : EventUnit) : EventUnit :=
  { e with
    counts := [], throttledNow := [],
    throttledCodes := e.throttledNow ++ e.throttledCodes.filter (fun c => !e.throttledNow.contains c) }

/-! ### Host port, free values -/

/-- R492, R511: the module's serial number: any but 0. -/
def serial : W64 := if Config.serialFuses = 0 then 1 else Config.serialFuses

/-- Send a transaction to the host (R440). -/
def Device.send (d : Device) (t : HostTxn) : Device := { d with out := d.out ++ [t] }

/-- R439: the link is UP while a module is. -/
def Device.linkUp (d : Device) : Bool := d.host.mods.any (fun p => p.2.st == .up)

/-- R439: a read or write of host memory, made for a queue pair (4,096: the event ring); it waits while the link is DOWN. -/
def Device.access (d : Device) (q : Nat) (t : HostTxn) : Device :=
  if d.linkUp then d.send t else { d with host := { d.host with waiting := d.host.waiting ++ [(q, t)] } }

/-- A value the spec leaves open. -/
def Device.free (d : Device) : W64 × Device := (Config.freeValue d.freeCount, { d with freeCount := d.freeCount + 1 })

/-- R491: SEC_CMD_REFUSED: the register, and a reason. -/
def Device.cmdRefused (d : Device) (reg reason : Nat) : Device := d.raise 0x0F02 [(4, reg), (1, reason)]

/-- SEC_CMD_REFUSED for a refusal whose reason has no number in the spec. -/
def Device.cmdRefusedOpen (d : Device) (reg : Nat) : Device := d.free.2.cmdRefused reg (d.free.1.toNat % 256)

/-! ### Staged changes (R44) -/

/-- What a boundary does with a staged change. -/
inductive Due where
  | wait | apply | drop
  deriving DecidableEq, Repr

/-- R44: a local change is applied at its furrow, or at the boundary whose number passed it; a plane-wide switch is
applied at its furrow alone, and not where that furrow is UNLOCKED. -/
def Timebase.due (tb : Timebase) (plane : Bool) (at_ : W48) : Due :=
  if !furLe at_ tb.number then .wait
  else if !plane || (at_ == tb.number && tb.st != .unlocked) then .apply else .drop

/-- A change named for a furrow that a boundary entered, or passed over, after `prev`. -/
def Timebase.met (tb : Timebase) (prev at_ : W48) : Bool := furLt prev at_ && furLe at_ tb.number

/-- R470: at a boundary in a warm reset a staged switch named for its furrow is not applied, then or later. -/
def Timebase.inReset (tb : Timebase) (prev : W48) (_plane : Bool) (at_ : W48) : Due :=
  if tb.met prev at_ then .drop else .wait

/-- R473: at a boundary in Dormant every change waits for the wake, but a plane-wide switch that R44 excludes is lost. -/
def Timebase.asleep (tb : Timebase) (prev : W48) (plane : Bool) (at_ : W48) : Due :=
  if plane && tb.met prev at_ && (at_ != tb.number || tb.st == .unlocked) then .drop else .wait

/-- R473: at the end of Dormant the changes whose furrows have passed are applied. -/
def Timebase.awake (tb : Timebase) (_plane : Bool) (at_ : W48) : Due :=
  if furLe at_ tb.number then .apply else .wait

/-- A furrow that a staging command may name: one that has not begun. -/
def Timebase.stageable (tb : Timebase) (at_ : W48) : Bool := furLt tb.number at_

/-- A 48-bit furrow number of a _LO and _HI pair of an instance. -/
def Device.furReg (d : Device) (lo hi : Nat) : W48 := BitVec.ofNat 48 (d.reg lo + 2 ^ 32 * d.reg hi)

/-- The timebase moved to a point of the furrow, where it has not passed it (R526). -/
def Timebase.goto (tb : Timebase) (off : Nat) : Timebase := { tb with offset := max tb.offset off }

/-- With no command waiting, one clk passes; the boundary itself is a command. -/
def State.tick (s : State) : State :=
  if s.tb.offset + 1 < s.tb.len then { s with tb := { s.tb with offset := s.tb.offset + 1 } } else s

/-- The present clk, as a count that neither a move of the furrow number nor a furrow of another length disturbs. -/
def Timebase.clkNo (tb : Timebase) : Nat := tb.clks + tb.offset

/-- R514: while PORST_N is low the module stays in reset, and a command leaves it as it is. -/
def State.live (s : State) (f : State → State) : State := if s.dev.power.porst then f s else s

/-- A command whose moment is a point of the furrow: the timebase stands there, then the command has its effect. -/
def State.atPoint (s : State) (off : Nat) (f : Timebase → Device → Device) : State :=
  s.live (fun s =>
    let tb := s.tb.goto off
    { s with tb := tb, dev := (f tb s.dev).flush tb })

/-- An effect from outside the module, which its reset does not keep away: a cartridge that is inserted or pulled. -/
def State.onPins (s : State) (f : Timebase → Device → Device) : State :=
  { s with dev := (f s.tb s.dev).flush s.tb }

/-- A command that does not move the timebase: its effect on the device, its events taken at its end. -/
def State.onDev (s : State) (f : Timebase → Device → Device) : State := s.live (fun s => s.onPins f)

/-- An effect on the device within a command; its events are taken at the command's end. -/
def State.onPart (s : State) (f : Timebase → Device → Device) : State := { s with dev := f s.tb s.dev }

/-- The end of a command: its events are taken. -/
def State.flushed (s : State) : State := { s with dev := s.dev.flush s.tb }

/-- R10: a register access discards a pending _LO write. -/
def Device.dropPend (d : Device) : Device := { d with port := { d.port with pendLo := none } }

/-- A write of a register of a block that always responds. -/
def State.onAon (s : State) (f : Timebase → Device → Device) : State :=
  s.live (fun s => { s with dev := (f s.tb s.dev.dropPend).flush s.tb })

/-- R454: a write of a register of another block; it is discarded in the ROM phase. -/
def State.onReg (s : State) (f : Timebase → Device → Device) : State :=
  if s.dev.power.phase == .rom then s.live (fun s => { s with dev := s.dev.dropPend }) else s.onAon f

/-- CRC-32C of bytes, least significant bit first. -/
def crcBit (c : Nat) : Nat := if c % 2 == 1 then Nat.xor (c / 2) 0x82F63B78 else c / 2
def crcByte (c : Nat) (b : Byte) : Nat := crcBit (crcBit (crcBit (crcBit (crcBit (crcBit (crcBit (crcBit (Nat.xor c b.toNat))))))))
def crc32c (l : List Byte) : Nat := Nat.xor (l.foldl crcByte 0xFFFFFFFF) 0xFFFFFFFF

/-- R460: KIND, STEP and OFFSET of an entry of the staging list. -/
def StgEntry.kind (e : StgEntry) : Nat := bits 31 30 e.w0
def StgEntry.step (e : StgEntry) : Nat := bits 29 24 e.w0
def StgEntry.offset (e : StgEntry) : Nat := bits 23 0 e.w0

end Sys2Proof.Machine
end

