-- ==== Sys2Proof/Machine/Sha384.lean ====
section
/-! DEFINITION. SHA-384 (FIPS 180-4), which R276 and R488 name: its constants and its rounds. -/
namespace Sys2Proof.Machine

/-- The first forty round constants. -/
def shaKA : List W64 := [
  0x428A2F98D728AE22, 0x7137449123EF65CD, 0xB5C0FBCFEC4D3B2F, 0xE9B5DBA58189DBBC, 0x3956C25BF348B538,
  0x59F111F1B605D019, 0x923F82A4AF194F9B, 0xAB1C5ED5DA6D8118, 0xD807AA98A3030242, 0x12835B0145706FBE,
  0x243185BE4EE4B28C, 0x550C7DC3D5FFB4E2, 0x72BE5D74F27B896F, 0x80DEB1FE3B1696B1, 0x9BDC06A725C71235,
  0xC19BF174CF692694, 0xE49B69C19EF14AD2, 0xEFBE4786384F25E3, 0x0FC19DC68B8CD5B5, 0x240CA1CC77AC9C65,
  0x2DE92C6F592B0275, 0x4A7484AA6EA6E483, 0x5CB0A9DCBD41FBD4, 0x76F988DA831153B5, 0x983E5152EE66DFAB,
  0xA831C66D2DB43210, 0xB00327C898FB213F, 0xBF597FC7BEEF0EE4, 0xC6E00BF33DA88FC2, 0xD5A79147930AA725,
  0x06CA6351E003826F, 0x142929670A0E6E70, 0x27B70A8546D22FFC, 0x2E1B21385C26C926, 0x4D2C6DFC5AC42AED,
  0x53380D139D95B3DF, 0x650A73548BAF63DE, 0x766A0ABB3C77B2A8, 0x81C2C92E47EDAEE6, 0x92722C851482353B]

/-- The last forty round constants. -/
def shaKB : List W64 := [
  0xA2BFE8A14CF10364, 0xA81A664BBC423001, 0xC24B8B70D0F89791, 0xC76C51A30654BE30, 0xD192E819D6EF5218,
  0xD69906245565A910, 0xF40E35855771202A, 0x106AA07032BBD1B8, 0x19A4C116B8D2D0C8, 0x1E376C085141AB53,
  0x2748774CDF8EEB99, 0x34B0BCB5E19B48A8, 0x391C0CB3C5C95A63, 0x4ED8AA4AE3418ACB, 0x5B9CCA4F7763E373,
  0x682E6FF3D6B2B8A3, 0x748F82EE5DEFB2FC, 0x78A5636F43172F60, 0x84C87814A1F0AB72, 0x8CC702081A6439EC,
  0x90BEFFFA23631E28, 0xA4506CEBDE82BDE9, 0xBEF9A3F7B2C67915, 0xC67178F2E372532B, 0xCA273ECEEA26619C,
  0xD186B8C721C0C207, 0xEADA7DD6CDE0EB1E, 0xF57D4F7FEE6ED178, 0x06F067AA72176FBA, 0x0A637DC5A2C898A6,
  0x113F9804BEF90DAE, 0x1B710B35131C471B, 0x28DB77F523047D84, 0x32CAAB7B40C72493, 0x3C9EBE0A15C9BEBC,
  0x431D67C49C100D4C, 0x4CC5D4BECB3E42B6, 0x597F299CFC657E2A, 0x5FCB6FAB3AD6FAEC, 0x6C44198C4A475817]

/-- The initial hash value of SHA-384. -/
def shaInit : List W64 := [
  0xCBBB9D5DC1059ED8, 0x629A292A367CD507, 0x9159015A3070DD17, 0x152FECD8F70E5939, 0x67332667FFC00B31,
  0x8EB44A8768581511, 0xDB0C2E0D64F98FA7, 0x47B5481DBEFA4FA4]

def shaK : List W64 := shaKA ++ shaKB

/-- The eight working words. -/
structure ShaWords where
  a : W64
  b : W64
  c : W64
  d : W64
  e : W64
  f : W64
  g : W64
  h : W64
  deriving DecidableEq, Repr

def shaSig0 (x : W64) : W64 := x.rotateRight 1 ^^^ x.rotateRight 8 ^^^ (x >>> 7)
def shaSig1 (x : W64) : W64 := x.rotateRight 19 ^^^ x.rotateRight 61 ^^^ (x >>> 6)
def shaSum0 (x : W64) : W64 := x.rotateRight 28 ^^^ x.rotateRight 34 ^^^ x.rotateRight 39
def shaSum1 (x : W64) : W64 := x.rotateRight 14 ^^^ x.rotateRight 18 ^^^ x.rotateRight 41

/-- One round with its constant and its word. -/
def shaRound (s : ShaWords) (k w : W64) : ShaWords :=
  let t1 := s.h + shaSum1 s.e + ((s.e &&& s.f) ^^^ (~~~s.e &&& s.g)) + k + w
  let t2 := shaSum0 s.a + ((s.a &&& s.b) ^^^ (s.a &&& s.c) ^^^ (s.b &&& s.c))
  ⟨t1 + t2, s.a, s.b, s.c, s.d + t1, s.e, s.f, s.g⟩

/-- The word of the schedule that follows the sixteen before it (oldest first). -/
def shaNext (w : List W64) : W64 := shaSig1 (w.getD 14 0) + w.getD 9 0 + shaSig0 (w.getD 1 0) + w.getD 0 0

/-- The rounds of one block, over the constants left and the sixteen next words of the schedule. -/
def shaRounds : List W64 → List W64 → ShaWords → ShaWords
  | [], _, s => s
  | k :: ks, w, s => shaRounds ks (w.drop 1 ++ [shaNext w]) (shaRound s k (w.getD 0 0))

/-- A big-endian word of eight bytes. -/
def shaWord (l : List Byte) : W64 := l.foldl (fun a b => a <<< 8 ||| b.setWidth 64) 0

/-- One block of 128 bytes. -/
def shaBlock (s : ShaWords) (l : List Byte) : ShaWords :=
  let r := shaRounds shaK ((List.range 16).map (fun i => shaWord ((l.drop (8 * i)).take 8))) s
  ⟨s.a + r.a, s.b + r.b, s.c + r.c, s.d + r.d, s.e + r.e, s.f + r.f, s.g + r.g, s.h + r.h⟩

/-- The blocks of a padded message. -/
def shaBlocks : Nat → List Byte → ShaWords → ShaWords
  | 0, _, s => s
  | n + 1, l, s => shaBlocks n (l.drop 128) (shaBlock s (l.take 128))

def beBytes (n v : Nat) : List Byte := (leBytes n v).reverse

/-- The message, a 1 bit, zeros, and its length in bits. -/
def shaPad (l : List Byte) : List Byte :=
  l ++ [0x80] ++ List.replicate ((239 - l.length % 128) % 128) 0 ++ beBytes 16 (8 * l.length)

/-- SHA-384 of a message: 48 bytes. -/
def sha384 (l : List Byte) : List Byte :=
  let p := shaPad l
  let i (n : Nat) : W64 := shaInit.getD n 0
  let s := shaBlocks (p.length / 128) p ⟨i 0, i 1, i 2, i 3, i 4, i 5, i 6, i 7⟩
  [s.a, s.b, s.c, s.d, s.e, s.f].flatMap (fun w => beBytes 8 w.toNat)

/-! ### The wrapping of flash keys (R486): HKDF (RFC 5869) over SHA-384, and AES Key Wrap (NIST SP 800-38F) -/

/-- HMAC-SHA-384 (FIPS 198-1). -/
def hmac384 (key msg : List Byte) : List Byte :=
  let k := sliceBytes (if 128 < key.length then sha384 key else key) 0 128
  sha384 (k.map (· ^^^ 0x5C) ++ sha384 (k.map (· ^^^ 0x36) ++ msg))

/-- R486: the first 32 B of HKDF-SHA-384 with the module secret, the serial as salt, and the byte 0x01 as info. -/
def wrapKey (serial : Nat) : List Byte :=
  (hmac384 (hmac384 (leBytes 8 serial) Config.moduleSecret) [0x01, 0x01]).take 32

/-- The integrity value of KW. -/
def kwIcv : List Byte := List.replicate 8 0xA6

/-- The words of 8 B of a key or a blob. -/
def kwWords (l : List Byte) : List (List Byte) := (List.range (l.length / 8)).map (fun i => sliceBytes l (8 * i) 8)

/-- The step count `t`, joined with the integrity register. -/
def kwCount (a : List Byte) (t : Nat) : List Byte := (a.zip (beBytes 8 t)).map (fun p => p.1 ^^^ p.2)

/-- Step t of the wrapping, 1 to 6n, over the integrity register and the n words. -/
def kwStep (kek : List Byte) (x : List Byte × List (List Byte)) (t : Nat) : List Byte × List (List Byte) :=
  let i := (t - 1) % x.2.length
  let b := Config.aesEnc kek (x.1 ++ x.2.getD i [])
  (kwCount (sliceBytes b 0 8) t, x.2.set i (sliceBytes b 8 8))

/-- R486: a flash key of 64 B, wrapped: 72 B. -/
def kwWrap (kek key : List Byte) : List Byte :=
  let w := kwWords key
  let x := (List.range (6 * w.length)).foldl (fun x t => kwStep kek x (t + 1)) (kwIcv, w)
  x.1 ++ x.2.flatten

/-- The same step, undone. -/
def kwUnstep (kek : List Byte) (x : List Byte × List (List Byte)) (t : Nat) : List Byte × List (List Byte) :=
  let i := (t - 1) % x.2.length
  let b := Config.aesDec kek (kwCount x.1 t ++ x.2.getD i [])
  (sliceBytes b 0 8, x.2.set i (sliceBytes b 8 8))

/-- R486, R487: a blob unwrapped; none where it fails the integrity check. -/
def kwUnwrap (kek blob : List Byte) : Option (List Byte) :=
  if blob.length != 72 then none
  else
    let n := 6 * 8
    let x := (List.range n).foldl (fun x t => kwUnstep kek x (n - t)) (blob.take 8, kwWords (blob.drop 8))
    if x.1 == kwIcv then some x.2.flatten else none

end Sys2Proof.Machine
end

