-- ==== Sys2Proof/Machine/Access.lean ====
section
/-! DEFINITION. What every unit asks of contexts, windows, requests and objects: definitions in force, the
conditions of a request (R16), the fault of a context (R400), landing areas and object ranges. -/
namespace Sys2Proof.Machine

/-! ### Address map (R507) -/

def csBase : Nat := 0x400000000
def csSize : Nat := 0x400000000
def lpBase : Nat := 0x10000000000
def lpObjEnd : Nat := 0x1F400000000
def lpEnd : Nat := 0x20000000000

/-- A range lies wholly in another. -/
def within (a n base len : Nat) : Bool := base ≤ a && a + n ≤ base + len

/-- Two ranges share a byte. -/
def overlaps (a n b m : Nat) : Bool := decide (a < b + m) && decide (b < a + n) && decide (0 < n) && decide (0 < m)

/-- R154: the channel of a stripe unit of LPDDR5X. -/
def lpChannel (a : Nat) : Nat := ((a - lpBase) / 4096) % 128

/-- R20: the device of an LPDDR5X channel: M0 carries channels 0 to 15, and so on to M7. -/
def lpDevice (ch : Nat) : Nat := ch / 16

/-- R20, R453: the domain that supplies a device: PD_LPD_A M0 to M3, PD_LPD_B M4 to M7. -/
def lpSupply (m : Nat) : Nat := if m < 4 then 24 else 25

/-- R156: an uncorrectable error of an LPDDR5X channel. -/
def Device.lpEcc (d : Device) (ch : Nat) : Device := (d.inc R.MEMC_ECC_UNCORR).raise 0x0308 [(1, ch)]

/-- An LPDDR5X read met an error on a channel, or none. -/
def Device.lpEcc? (d : Device) (ecc : Option Nat) : Device := match ecc with | some ch => d.lpEcc ch | none => d

/-- R141: an uncorrectable error of the Central Store at an address. -/
def Device.storeEcc (d : Device) (a : Nat) : Device :=
  let slice := (a - csBase) / 2 ^ 32
  (d.inc (R.STORE_ECC_UNCORR + 8 * slice)).raise 0x0301 [(1, slice), (8, a)]

/-- R133: the store page of a device address of the Central Store. -/
def pageOf (a : Nat) : Nat := (a - csBase) / 0x200000

def pageBase (p : Nat) : Nat := csBase + p * 0x200000

/-- The store pages that a range touches. -/
def pagesOf (a n : Nat) : List Nat :=
  if n == 0 then [] else (List.range (pageOf (a + n - 1) - pageOf a + 1)).map (· + pageOf a)

def Device.page (d : Device) (p : Nat) : PageOwner := d.store.pages.getD p .free

/-- R134: the bank of a device address of the Central Store. R166 does not say how its event numbers it: the model counts the
banks of the whole module, 16 a module set (DESIGN CHOICE, log entry 107). -/
def Device.bankOf (d : Device) (a : Nat) : Nat :=
  let o := (a - csBase) % 2 ^ 32
  let m := 16 * ((a - csBase) / 2 ^ 32) + bits 31 28 o
  let wide := bit (m % 32) (d.reg (if m < 32 then R.STORE_SET_WIDE_LO else R.STORE_SET_WIDE_HI))
  16 * m + (if wide then bits 9 6 o else 4 * bits 27 26 o + bits 7 6 o)

/-- R60, R134: the bank groups that a window resolves to. -/
def Device.groupsOf (d : Device) (w : Window) : List Nat :=
  if w.tier != 1 || w.size == 0 then []
  else
    let lo := (w.base - csBase) / 2 ^ 26
    let hi := (w.base + w.size - 1 - csBase) / 2 ^ 26
    -- a 64 MiB range per step; a WIDE set gives all four of its groups
    ((List.range (hi - lo + 1)).flatMap (fun i =>
      let g := lo + i
      let m := g / 4
      let wide := bit (m % 32) (d.reg (if m < 32 then R.STORE_SET_WIDE_LO else R.STORE_SET_WIDE_HI))
      if wide then [4 * m, 4 * m + 1, 4 * m + 2, 4 * m + 3] else [g])).eraseDups

/-! ### Contexts and windows -/

def noWindow : Window := ⟨0, false, 0, 0⟩

def offContext : Context := ⟨.off, false, false, [], [], []⟩

def Device.ctx (d : Device) (c : Nat) : Context := d.qm.ctxs.getD c offContext

def Device.setCtx (d : Device) (c : Nat) (x : Context) : Device := { d with qm := { d.qm with ctxs := d.qm.ctxs.set c x } }

def Context.win (x : Context) (slot : Nat) : Window := x.wins.getD slot noWindow

/-- R93: n bytes at an offset lie in a Central Store window. -/
def Window.holds (w : Window) (off n : Nat) : Bool := w.tier == 1 && off + n ≤ w.size

/-- The sixteen definitions in force of a context. -/
def Context.all (x : Context) : List Window := (List.range 16).map x.win

/-! ### Power domains (R453) -/

/-- A power domain is ON. -/
def Device.domOn (d : Device) (n : Nat) : Bool := d.power.doms.getD n 0 == 2

/-- A power domain is ON and its function is ENABLED. -/
def Device.funcOn (d : Device) (n : Nat) : Bool := d.domOn n && d.power.funcs.getD n 0 == 0

/-! ### Requests -/

def Device.req? (d : Device) (r : Nat) : Option Request := d.qm.reqs.get? r

def Device.setReq (d : Device) (r : Nat) (q : Request) : Device := { d with qm := { d.qm with reqs := d.qm.reqs.set r q } }

def Device.updReq (d : Device) (r : Nat) (f : Request → Request) : Device :=
  { d with qm := { d.qm with reqs := d.qm.reqs.upd r f } }

/-- R16: a condition applies to a request, with its detail code. -/
def Device.cond (d : Device) (r code detail : Nat) : Device :=
  d.updReq r (fun q => { q with conds := q.conds ++ [(code, detail)] })

/-- R94: bytes of a window that changed are free once no plot started under the old definition runs. -/
def Device.releaseHeld (d : Device) : Device :=
  { d with qm := { d.qm with ctxs := d.qm.ctxs.mapVals (fun _ x =>
    { x with held := x.held.filter (fun h => h.2.2.any (fun i => d.plots.runs.has i)) }) } }

/-- R16: the ranks of the shared codes, highest first. -/
def statusRanks : List Nat := [8, 0xE, 0xC, 9, 0xA, 0xD, 0xB, 3, 7, 6, 1, 2, 4, 5, 0]

/-- R16: the status byte and the detail of the conditions of a request. -/
def statusOf (conds : List (Nat × Nat)) : Nat × Nat :=
  match statusRanks.find? (fun c => conds.any (fun x => x.1 == c)) with
  | some c => (c, match conds.find? (fun x => x.1 == c) with | some x => x.2 | none => 0)
  | none => (0, 0)

/-- R16: the condition mask; bit 0 is 0. -/
def condMask (conds : List (Nat × Nat)) : Nat :=
  (List.range 15).foldl (fun m c => if c != 0 && conds.any (fun x => x.1 == c) then m + 2 ^ c else m) 0

/-- R398: an admitted request is cancelled with a detail. -/
def Device.cancelReq (d : Device) (r detail : Nat) : Device :=
  d.updReq r (fun q => if q.cancel.isSome then q else { q with cancel := some detail, conds := q.conds ++ [(3, detail)] })

/-- The key of a plot run that is not yet placed: of a request stage, run `k` of an entry; of a generation stage, its entry. -/
def runKey (req : Nat) (gen : Option Nat) (entry k : Nat) : Nat × Nat := match gen with
  | none => (req, 65536 * entry + k)
  | some g => (2 ^ 32 + g, entry)

/-- The requests that a plot or a handoff is made for: the one that names it, or those of every row of its generation
stage (R361). -/
def Device.reqsOf (d : Device) (req : Nat) (gen : Option Nat) : List Nat := match gen with
  | none => [req]
  | some g => match d.seq.stages.get? g with
    | some t => t.rows.filterMap (fun e => (d.seq.ast.get? e).map (·.req))
    | none => []

/-- R68: the plots of a context that are placed and have not started do not start. -/
def Device.idlePlaced (d : Device) (c : Nat) : Device :=
  let idle (l : List Placed) : List Placed := l.map (fun p => if p.ctx == c then { p with idle := true } else p)
  { d with plots := { d.plots with
    sown := idle d.plots.sown, frozen := d.plots.frozen.map idle, composing := idle d.plots.composing } }

/-- R400: a plot of a context was aborted; `reqs` are the faulting requests. -/
def Device.ctxFault (d : Device) (c : Nat) (reqs : List Nat) (detail : Nat) : Device :=
  let x := d.ctx c
  let d := (if x.st == .resetting then d else d.setCtx c { x with st := .faulted, resume := false }).idlePlaced c
  let d := reqs.foldl (fun d req =>
    d.updReq req (fun q => { q with cancel := some (q.cancel.getD detail), conds := q.conds ++ [(8, detail)] })) d
  let others := (d.qm.reqs.filter (fun p => p.2.ctx == c && !reqs.contains p.1)).map (·.1)
  let d := others.foldl (fun d r => d.cancelReq r 0x88) d
  (d.inc (inst R.QM_CTX_FAULTS c)).raiseCtx 0x0B05 c [(1, detail)]

/-! ### Objects -/

def align4k (n : Nat) : Nat := (n + 4095) / 4096 * 4096

def Device.obj? (d : Device) (i : Nat) : Option Obj := d.store.objects.get? i

def Device.setObj (d : Device) (i : Nat) (o : Obj) : Device :=
  { d with store := { d.store with objects := d.store.objects.set i o } }

def Device.updObj (d : Device) (i : Nat) (f : Obj → Obj) : Device :=
  { d with store := { d.store with objects := d.store.objects.upd i f } }

/-- R160: the bytes an object occupies at its device address. -/
def Obj.span (o : Obj) : Nat := align4k o.size

/-- An object that holds a device address, in its tier. -/
def Device.objAt (d : Device) (a : Nat) : Option (Nat × Obj) :=
  d.store.objects.find? (fun p => p.2.tier != 3 && p.2.base ≤ a && a < p.2.base + p.2.span)

/-- A context may read an object: it is PUBLIC or its own. -/
def Obj.readableBy (o : Obj) (c : Nat) : Bool := match o.owner with
  | none => true
  | some x => x == c

/-- R152: an object is used in this furrow. -/
def Device.use (tb : Timebase) (d : Device) (i : Nat) : Device := d.updObj i (fun o => { o with lastUse := tb.number })

/-- R152: a reader read a range of device addresses. -/
def Device.useRange (tb : Timebase) (d : Device) (a n : Nat) : Device :=
  (d.store.objects.filter (fun p => p.2.tier != 3 && overlaps p.2.base p.2.span a n)).foldl (fun d p => d.use tb p.1) d

/-- The objects with device addresses that a range touches. -/
def Device.objsIn (d : Device) (a n : Nat) : List Nat :=
  (d.store.objects.filter (fun p => p.2.tier != 3 && overlaps a n p.2.base p.2.span)).map (·.1)

/-! ### Landing areas (R79) -/

def bitmapBytes (items : Nat) : Nat := ((items + 7) / 8 + 63) / 64 * 64

/-- The length of a landing area. -/
def landingLen (items stride : Nat) : Nat := 64 + bitmapBytes items + items * stride

def Handoff.len (h : Handoff) : Nat := landingLen h.itemsMax h.stride

/-- The device address of item slot i. -/
def Handoff.itemAddr (h : Handoff) (i : Nat) : Nat := h.addr + 64 + bitmapBytes h.itemsMax + i * h.stride

/-- A range meets the landing area of an open handoff (of a context, where one is named). -/
def Device.inLanding (d : Device) (c : Option Nat) (a n : Nat) : Bool :=
  d.plots.handoffs.any (fun p => (c.isNone || c == some p.2.ctx) && overlaps a n p.2.addr p.2.len)

/-- A range meets the image of a loaded plot (of a context, where one is named). -/
def Device.inImage (d : Device) (c : Option Nat) (a n : Nat) : Bool :=
  d.plots.dir.any (fun p => (c.isNone || c == some (p.1 / 65536)) && overlaps a n p.2.base p.2.imgLen)

/-- R140: a background-port write, made for an open handoff where `own` names one. A write into a loaded image, or
into an open landing area other than its own, is discarded and raises STORE_WRITE_DISCARD. -/
def Device.bgWrite (d : Device) (own : Option Nat) (a : Nat) (data : List Byte) : Device :=
  let n := data.length
  let foreign := d.plots.handoffs.any (fun p => own != some p.1 && overlaps a n p.2.addr p.2.len)
  if d.inImage none a n || foreign then d.raise 0x0303 []
  else { d with mem := d.mem.writeBytes a data }

end Sys2Proof.Machine
end

