-- ==== Sys2Proof/Machine/Media.lean ====
section
/-! DEFINITION. Where the pages of FLASH objects lie (R157, R405, R418) and how they read. -/
namespace Sys2Proof.Machine

def pageBytes : Nat := 16384

def emptySlot : FlashSlot :=
  { st := .empty, cart := none, challenge := none, authDone := false, failReason := 0, unwrapFail := false, readOnly := false,
    lifeWarned := false, tempHold := false, temp := 0, offline := false, force := false, resetting := false, vcartOpen := false,
    map := [], chans := [], locked := [], keys := [], ckpt := none, ckptFur := none, lunSet := [] }

def Device.slot (d : Device) (s : Nat) : FlashSlot := d.flash.slots.getD s emptySlot

/-- R411: the power of PD_CARTs in a state of its slot: 0 OFF, 1 POWERING, 2 ON. -/
def SlotState.power : SlotState → Nat
  | .empty | .detected | .removable | .failed => 0
  | .powering => 1
  | .authenticating | .mounting | .ready | .draining => 2

/-- R517: CARTs_WP_N is held low, which protects the flash. -/
def SlotState.wpLow (t : SlotState) : Bool := t != .ready

/-- R517: CARTs_REMOVE_OK is driven high. -/
def SlotState.removeOk (t : SlotState) : Bool := t == .empty || t == .removable || t == .failed

/-- R517: the flash outputs of a slot and the rest of its sideband are held low: PD_CARTs is off. -/
def SlotState.outputsLow (t : SlotState) : Bool := t.power == 0

/-- R476: PD_CARTs became ON or OFF. -/
def cartPower (s old new : Nat) (d : Device) : Device :=
  if old == new || new == 1 then d else d.raise 0x0E04 [(1, 26 + s)]

/-- R517: the switch of VCART_OUT is closed again with the domain off. -/
def Device.setSlot (d : Device) (s : Nat) (x : FlashSlot) : Device :=
  let x := if x.st.power == 0 then { x with vcartOpen := false } else x
  let d' := { d with flash := { d.flash with slots := d.flash.slots.set s x } }
  cartPower s (d.slot s).st.power x.st.power d'

/-- R517: the cartridge has its supply. -/
def FlashSlot.supplied (x : FlashSlot) : Bool := x.st.power == 2 && !x.vcartOpen

/-- VCART_SWITCH_OPEN (R517): the switch of a slot opens. -/
def vcartSwitchOpen (s : Nat) (d : Device) : Device :=
  let x := d.slot s
  if x.st.power == 0 then d else d.setSlot s { x with vcartOpen := true }

def execVcartSwitchOpen (slot : Nat) (s : State) : Host.Outcome State Fault Refusal := .next (s.onDev (fun _ d => vcartSwitchOpen slot d))

/-- R411: the map of the slot is in use: it is READY or DRAINING. -/
def FlashSlot.mounted (x : FlashSlot) : Bool := x.st == .ready || x.st == .draining

/-- R412: the slot takes new work: it is READY, or before the boundary after its REMOVE. -/
def FlashSlot.serving (x : FlashSlot) : Bool := x.mounted && !x.offline

def Cart.serial (c : Cart) : W64 := BitVec.ofNat 64 c.ident.serial

def freshChan : FlashChan :=
  { openSbs := [], failed := [], queue := [], fold := none, moving := none, seq := 0, lastBuild := 0, unclaimed := 0, held := 0,
    paid := [] }

def FlashSlot.chan (x : FlashSlot) (c : Nat) : FlashChan := x.chans.getD c freshChan

def FlashSlot.setChan (x : FlashSlot) (c : Nat) (h : FlashChan) : FlashSlot := { x with chans := x.chans.set c h }

/-- The slots of a slot mask, ascending. -/
def slotList (mask : Nat) : List Nat := (List.range 4).filter (fun s => bit s mask)

/-- Logical pages of a size. -/
def objPages (size : Nat) : Nat := (size + pageBytes - 1) / pageBytes

/-- R157: w. -/
def stripeWays (mask : Nat) : Nat := 16 * (slotList mask).length

/-- R157: the flash channel of logical page p of an object. -/
def flashChannel (id mask p : Nat) : Nat :=
  let i := (id + p) % stripeWays mask
  16 * (slotList mask).getD (i / 16) 0 + i % 16

/-- The rows of LPNs that an object takes on a slot: one LPN of each channel a row. -/
def lpnRows (id mask size : Nat) : Nat :=
  let w := stripeWays mask
  if objPages size == 0 then 0 else (id + objPages size - 1) / w - id / w + 1

/-- R418: the slot and the LPN of logical page p, given the object's runs. -/
def Obj.lpnOf (o : Obj) (id p : Nat) : Nat × Nat :=
  let c := flashChannel id o.base p
  let w := stripeWays o.base
  (c / 16, o.lpn.getD (c / 16) 0 + 16 * ((id + p) / w - id / w) + c % 16)

/-- The logical pages of an object that fall on a slot. -/
def Obj.pagesOn (o : Obj) (id s : Nat) : Nat :=
  ((List.range (objPages o.size)).filter (fun p => flashChannel id o.base p / 16 == s)).length

/-- R418: a physical page number: channel, LUN, plane, block and page. -/
def physPage (ch lun plane block page : Nat) : Nat :=
  (((ch * 8 + lun) * 4 + plane) * 4096 + block) * 2048 + page

/-- R405: the key of the superblock that a physical page lies in. -/
def sbOfPhys (p : Nat) : Nat := 3800 * (p / 2 ^ 28) + (p / 2048) % 4096

/-- What a page read gives. -/
inductive PageData where
  | offline                 -- R412, R413: detail 0x91
  | keyless                 -- R416: detail 0x92
  | bytes (l : List Byte)
  deriving DecidableEq, Repr

/-- R414, R416: the key of a namespace of a cartridge; namespace 0 has the system key. -/
def Cart.nsKey (c : Cart) (ns : Nat) : Option Nat := if ns == 0 then c.sysKey else (c.nss.get? ns).map (·.key)

/-- R416: a page decrypted for a namespace. One of another namespace or key gives bytes of which nothing is known. -/
def Cart.readPage (c : Cart) (p ns : Nat) : List Byte :=
  let own := match c.pages.get? p with
    | some g => g.nsid == ns && c.nsKey ns == some g.key
    | none => false
  if own then c.data.readBytes (pageBytes * p) pageBytes
  else (List.range pageBytes).map (Config.wrongKeyByte (((c.pages.get? p).map (·.key)).getD 0) ((c.nsKey ns).getD 0) p)

/-- R412, R413, R416, R418: where a read of an LPN that is issued now takes its page from. -/
def Device.readSrc (d : Device) (s lpn nsid : Nat) : ReadSrc :=
  let x := d.slot s
  if !x.serving then .offline
  else if x.locked.contains nsid then .keyless
  else match x.map.get? lpn with
    | none => .zero
    | some p => if x.keys.has nsid then .page p else .keyless

/-- What an issued read delivers where its codewords are corrected; nothing where the slot has lost its operations since. -/
def Device.srcData (d : Device) (s : Nat) (src : ReadSrc) (nsid : Nat) : PageData :=
  match src with
  | .offline => .offline
  | .keyless => .keyless
  | .zero => .bytes (List.replicate pageBytes 0)
  | .page p => match (d.slot s).mounted, (d.slot s).cart with
    | true, some c => .bytes (c.readPage p nsid)
    | _, _ => .offline

/-- R416, R418: the page of an LPN as it reads where no error arises. -/
def Device.pageData (d : Device) (s lpn nsid : Nat) : PageData := d.srcData s (d.readSrc s lpn nsid) nsid

/-- The page of an LPN as the slot holds it, whether reads are still issued to it or not (R412). -/
def Device.pageHeld (d : Device) (s lpn nsid : Nat) : List Byte :=
  let x := d.slot s
  match x.mounted && !x.locked.contains nsid, x.cart, x.map.get? lpn with
  | true, some c, some p => if x.keys.has nsid then c.readPage p nsid else List.replicate pageBytes 0
  | _, _, _ => List.replicate pageBytes 0

/-! ### Thresholds (R426) -/

/-- R426: the age bin of a page of so many furrows, and the bin of a change of temperature. -/
def ageBin (age : Nat) : Nat := ([20, 23, 26, 29, 32, 35, 38].filter (fun k => decide (2 ^ k ≤ age))).length
def changeBin (c : Int) : Nat := if c ≤ -30 then 0 else if c ≤ 0 then 1 else if c ≤ 30 then 2 else 3

/-- R426: the threshold sets of a read of a page, in the order in which they are tried. -/
def Cart.readSets (c : Cart) (p temp : Nat) (tb : Timebase) : List Nat := match c.pages.get? p with
  | some g => c.ident.table.getD (4 * ageBin (tb.number - g.furrow).toNat + changeBin (toSigned 8 temp - toSigned 8 g.temp)) []
  | none => c.ident.table.getD 0 []

/-- R406: the LUN of a page is set to a threshold set. -/
def FlashSlot.setLun (x : FlashSlot) (p set : Nat) : FlashSlot := { x with lunSet := x.lunSet.set (p / 2 ^ 25) set }

/-- R406, R426: the LUN of a page read that ended in a class, as its attempts left it. For the reads of tier operations, folds and
moves the temperature now is the slot's (DESIGN CHOICE, log entry 157). -/
def FlashSlot.tuned (tb : Timebase) (p cls : Nat) (x : FlashSlot) : FlashSlot := match x.cart with
  | some c => x.setLun p ((c.readSets p x.temp tb).getD (min cls 3) 0)
  | none => x

/-- The pages a byte range of an object touches. -/
def pageSpan (off n : Nat) : List Nat :=
  if n == 0 then [] else (List.range ((off + n - 1) / pageBytes - off / pageBytes + 1)).map (· + off / pageBytes)

/-- R413: whether every page of a range can be read, else the detail. -/
def Device.flashBad (d : Device) (id : Nat) (o : Obj) (off n : Nat) : Option Nat :=
  (pageSpan off n).findSome? (fun p =>
    let (s, l) := o.lpnOf id p
    match d.pageData s l o.ns with
    | .offline => some 0x91
    | .keyless => some 0x92
    | .bytes _ => none)

/-- Bytes of an object of any tier; a page that is not there gives zeros. -/
def Device.objBytes (d : Device) (id off n : Nat) : List Byte :=
  match d.obj? id with
  | none => List.replicate n 0
  | some o =>
    if o.tier != 3 then d.mem.readBytes (o.base + off) n
    else
      let ps := (pageSpan off n).map (fun p =>
        let (s, l) := o.lpnOf id p
        d.pageHeld s l o.ns)
      sliceBytes ps.flatten (off % pageBytes) n

end Sys2Proof.Machine
end

