-- ==== Sys2Proof/Machine/Text164.lean ====
section
/-! DEFINITION. TEXT_SEGMENT objects (R165) and the items made of their passages (R164). -/
namespace Sys2Proof.Machine

/-- R165: the passage count of a text object. -/
def Device.passages (d : Device) (id : Nat) : Nat := fieldLe (d.objBytes id 0 4) 0 4

/-- R165: the first byte and the end of a passage. -/
def Device.passageRange (d : Device) (id j : Nat) : Nat × Nat :=
  let o := d.objBytes id (64 + 8 * j) 16
  (fieldLe o 0 8, fieldLe o 8 8)

/-- R164: the item of a passage, its text cut at `room` bytes; and whether it was cut. A passage number at or above P
gives a length of 0. -/
def Device.textItem (d : Device) (id j room : Nat) : List Byte × Bool :=
  if d.passages id ≤ j then (leBytes 4 0 ++ leBytes 4 j, false)
  else
    let (a, b) := d.passageRange id j
    (leBytes 4 (b - a) ++ leBytes 4 j ++ d.objBytes id a (min (b - a) room), room < b - a)

/-- The flash pages, as slot and LPN, that a passage is read from; none for an object outside FLASH. -/
def Device.textPages (d : Device) (id j room : Nat) : List (Nat × Nat) :=
  match d.obj? id with
  | none => []
  | some o =>
    if o.tier != 3 then []
    else
      let body := if d.passages id ≤ j then [] else
        let (a, b) := d.passageRange id j
        pageSpan (64 + 8 * j) 16 ++ pageSpan a (min (b - a) room)
      ((0 :: body).eraseDups).map (o.lpnOf id)

/-- Page reads put out for an item; what each reads is settled as it is issued (R412). -/
def Device.askText (d : Device) (user : ReadUser) (id j room : Nat) : Device :=
  let ns := match d.obj? id with | some o => o.ns | none => 0
  { d with flash := { d.flash with
      reads := d.flash.reads ++ (d.textPages id j room).map (fun p =>
        { slot := p.1, lpn := p.2, user := user, src := d.readSrc p.1 p.2 ns, tries := 0, sets := [] }) } }

/-- Some read of an item is still out. -/
def Device.textWaits (d : Device) (user : ReadUser) : Bool := d.flash.reads.any (fun r => r.user == user)

/-- A text object that may be read: sealed, of KIND TEXT_SEGMENT. -/
def Device.textObj (d : Device) (id : Nat) : Option Obj := match d.obj? id with
  | some o => if o.kind == 5 && o.st == .sealed then some o else none
  | none => none

end Sys2Proof.Machine
end

