-- ==== Sys2Proof/Machine/FlashMap.lean ====
section
/-! DEFINITION. What a cartridge's flash keeps of the map (R413, R418 to R420, R430): spare records, checkpoints and the
recovery at mount; the budget of page transfers of its channels (R407); superblocks and wear (R405, R410, R424, R425). -/
namespace Sys2Proof.Machine

def Device.updSlot (d : Device) (s : Nat) (f : FlashSlot → FlashSlot) : Device := d.setSlot s (f (d.slot s))

/-- The change of the cartridge in a slot. -/
def FlashSlot.onCart (x : FlashSlot) (f : Cart → Cart) : FlashSlot := { x with cart := x.cart.map f }

/-- A per-slot counter of the FLASH block. -/
def slotReg (a s : Nat) : Nat := inst a s

/-! ### Superblocks and wear -/

def freshSb : Superblock := ⟨false, .free, 0, 0, [], false⟩

def Cart.sb (c : Cart) (k : Nat) : Superblock :=
  c.sbs.getD k (if c.unerased then { freshSb with st := .erase } else freshSb)

def Cart.setSb (c : Cart) (k : Nat) (b : Superblock) : Cart := { c with sbs := c.sbs.set k b }

/-- A change of a superblock. -/
def Cart.updSb (c : Cart) (k : Nat) (f : Superblock → Superblock) : Cart := c.setSb k (f (c.sb k))

/-- The superblocks listed of a channel. -/
def Cart.chanSbs (c : Cart) (ch : Nat) : Tbl Superblock := c.sbs.filter (fun p => p.1 / 3800 == ch)

/-- Superblocks of a channel outside the fixed region that hold or may take data. -/
def Cart.usedCount (c : Cart) (ch region : Nat) : Nat :=
  ((c.chanSbs ch).filter (fun p => (p.2.st == .openSb || p.2.st == .full) && region ≤ p.1 % 3800)).length

/-- FREE of a channel: its free superblocks (outside the fixed region, where there is one). -/
def Cart.freeCount (c : Cart) (ch region : Nat) : Nat :=
  if c.unerased then ((c.chanSbs ch).filter (fun p => p.2.st == .free && region ≤ p.1 % 3800)).length
  else 3800 - region - ((c.chanSbs ch).filter (fun p => p.2.st != .free && region ≤ p.1 % 3800)).length

/-- SLC superblocks of a channel not yet folded. -/
def Cart.slcHeld (c : Cart) (ch : Nat) : Nat :=
  ((c.chanSbs ch).filter (fun p => p.2.slc && (p.2.st == .openSb || p.2.st == .full))).length

/-- R422 -/
def slcMax (free : Nat) : Nat := (free - 96) / 3

/-- R424: the least-worn free superblock among blocks lo to hi − 1 of a channel, the lower number first. -/
def Cart.leastWorn (c : Cart) (ch lo hi : Nat) : Option Nat :=
  (List.range (hi - lo)).foldl (fun (b : Option Nat) i =>
    let k := 3800 * ch + lo + i
    if (c.sb k).st != .free then b
    else match b with
      | none => some k
      | some j => if (c.sb k).wear < (c.sb j).wear then some k else some j) none

/-- R410: mean wear units of a pool of superblocks, and LIFE_USED in per mille of the rated life. -/
def Cart.poolWear (c : Cart) (lo hi : Nat) : Nat :=
  if hi ≤ lo then 0
  else c.wearBase + ((c.sbs.filter (fun p => lo ≤ p.1 % 3800 && p.1 % 3800 < hi)).map (fun p => p.2.wear)).sum / (16 * (hi - lo))

def Cart.lifeUsed (c : Cart) (region : Nat) : Nat :=
  max (1000 * c.poolWear region 3800 / (10 * c.rated.1)) (1000 * c.poolWear 0 region / c.rated.2)

/-- R410: at mount the wear tables and the element's counter are raised to the larger of them. -/
def Cart.raiseWear (c : Cart) (region : Nat) : Cart :=
  let u := c.lifeUsed region
  { c with wearBase := c.wearBase + 30 * (c.life - u), life := max c.life (min 1000 u) }

/-- A count of the health record. -/
def Cart.bump (c : Cart) (off n : Nat) : Cart := { c with stats := c.stats.set off (c.stats.getD off 0 + n) }

/-- The valid pages of a superblock: LPN and page. -/
def FlashSlot.validIn (x : FlashSlot) (k : Nat) : List (Nat × Nat) := x.map.filter (fun e => sbOfPhys e.2 == k)

/-- R423: a superblock that a fold under way fills. -/
def FlashSlot.foldTarget (x : FlashSlot) (k : Nat) : Bool :=
  x.chans.any (fun c => match c.2.fold with | some f => f.targets.contains k | none => false)

/-- R425: a superblock that is full and holds no valid page is freed, which is to say queued for erase (R424). The target of a
fold holds none before its commit and is kept. -/
def FlashSlot.freeEmpty (x : FlashSlot) : FlashSlot :=
  x.onCart (fun c => { c with sbs := c.sbs.mapVals (fun k b =>
    if b.st == .full && x.validIn k == [] && !x.foldTarget k then { b with st := .erase, refresh := false } else b) })

/-- R427: a read of a page of the flash, for an LPN of a namespace, ends in a class: 0 first set, 1 to 3 a retry, 4
uncorrectable. R425: one that needed 2 or more retries has its superblock refreshed. -/
def countRead (s p lpn nsid cls : Nat) (d : Device) : Device :=
  let d := (d.inc (slotReg R.FLASH_READS s)).incBy (slotReg R.FLASH_RETRIES s) (min cls 3)
  let d := if cls == 4 then (d.inc (slotReg R.FLASH_UNCORR s)).raise 0x0C07 [(1, s), (8, lpn), (2, nsid)] else d
  d.updSlot s (fun x => x.onCart (fun c =>
    let c := c.bump (0x20 + 8 * min cls 4) 1
    if 2 ≤ cls then c.updSb (sbOfPhys p) (fun b => { b with refresh := true }) else c))

/-! ### Spare records (R419) -/

/-- R419: the 64 bytes of the spare record of a page. -/
def Spare.bytes (p : Spare) : List Byte :=
  let body := leBytes 5 p.lpn ++ leBytes 1 (boolBit p.slc + 2 * boolBit p.filler + 4 * boolBit p.fold.isSome) ++ leBytes 2 p.nsid
    ++ leBytes 6 p.furrow.toNat ++ leBytes 1 p.temp ++ leBytes 1 0 ++ leBytes 8 p.seq ++ leBytes 4 (p.fold.getD 0)
    ++ List.replicate 32 0
  body ++ leBytes 4 (crc32c body)

/-- R419, R420: 64 bytes read as a spare record pass its CRC. -/
def spareOk (b : List Byte) : Bool := b.length == 64 && fieldLe b 0x3C 4 == crc32c (b.take 0x3C)

/-- R420: a page read as a segment of a checkpoint passes its CRC, which lies at 0x3C of its header, taken as 0 there (DESIGN
CHOICE, log entry 135). -/
def segOk (b : List Byte) : Bool :=
  b.length == pageBytes && fieldLe b 0x3C 4 == crc32c (b.take 0x3C ++ leBytes 4 0 ++ b.drop 0x40)

/-! ### The budget of a channel (R407) -/

/-- R420: pages that a channel has programmed since its last complete checkpoint began. -/
def FlashSlot.since (x : FlashSlot) (ch : Nat) : Nat := match x.cart with
  | some c => (x.chan ch).seq - (match c.ckpts with | k :: _ => k.seqs.getD ch 0 | [] => 0)
  | none => 0

/-- R420: the segments of a channel that the checkpoint under way has still to write. -/
def FlashSlot.segsLeft (x : FlashSlot) (ch : Nat) : Nat := match x.ckpt with
  | some r => (r.left.filter (fun g => g / 37400 == ch)).length
  | none => 0

/-- R420: the checkpoint has the held transfers of a channel, ahead of folds. -/
def FlashSlot.ckptHeld (x : FlashSlot) (ch : Nat) : Bool := decide (500000 ≤ x.since ch) && x.segsLeft ch != 0

/-- R407: media work has a use for the held transfers. -/
def FlashSlot.mediaWork (x : FlashSlot) (ch : Nat) : Bool :=
  !x.tempHold && ((x.chan ch).fold.isSome || (x.chan ch).moving.isSome || x.ckptHeld ch)

/-- R389, R407: the transfers of a channel in a furrow that no reservation claims and nothing has taken, of 21. -/
def Device.openLeft (d : Device) (f s ch : Nat) : Nat :=
  let r := (d.qm.calReads.getD f []).getD (16 * s + ch) (0, 0)
  21 - (r.1 + r.2) - ((d.slot s).chan ch).unclaimed

/-- The held transfers that are left, of 3. -/
def FlashChan.heldLeft (h : FlashChan) : Nat := 3 - h.held

/-- R407: what programs for builds, COPY and FILL, and their reads, may still use; what folds, relocation and refresh may. -/
def Device.buildLeft (d : Device) (f s ch : Nat) : Nat :=
  d.openLeft f s ch + (if (d.slot s).mediaWork ch then 0 else ((d.slot s).chan ch).heldLeft)

def Device.moveLeft (d : Device) (f s ch : Nat) : Nat :=
  d.openLeft f s ch + (if (d.slot s).ckptHeld ch then 0 else ((d.slot s).chan ch).heldLeft)

/-- n transfers are taken: `first` of them, as many as there are, of the unclaimed or of the held ones, the rest of the
others. -/
def FlashChan.takeOpen (first n : Nat) (h : FlashChan) : FlashChan :=
  { h with unclaimed := h.unclaimed + min n first, held := h.held + (n - first) }

def FlashChan.takeHeld (first n : Nat) (h : FlashChan) : FlashChan :=
  { h with held := h.held + min n first, unclaimed := h.unclaimed + (n - first) }

def FlashSlot.updChan (x : FlashSlot) (ch : Nat) (f : FlashChan → FlashChan) : FlashSlot := x.setChan ch (f (x.chan ch))

/-- Program transfers and the reads of COPY, FILL and shard text take unclaimed transfers first. -/
def Device.takeBuild (d : Device) (f s ch n : Nat) : Device :=
  let o := d.openLeft f s ch
  d.updSlot s (fun x => x.updChan ch (FlashChan.takeOpen o n))

/-- Media work takes held transfers first. -/
def Device.takeMove (d : Device) (s ch n : Nat) : Device :=
  let x := d.slot s
  let k := if x.ckptHeld ch then 0 else (x.chan ch).heldLeft
  d.updSlot s (fun x => x.updChan ch (FlashChan.takeHeld k n))

/-- What a stream of a channel may still use (0 writes; 1 the fold, 2 relocation and refresh). -/
def Device.streamLeft (d : Device) (f s ch stream : Nat) : Nat := if stream == 0 then d.buildLeft f s ch else d.moveLeft f s ch

def Device.takeStream (d : Device) (f s ch stream n : Nat) : Device :=
  if stream == 0 then d.takeBuild f s ch n else d.takeMove s ch n

/-! ### Checkpoints (R420) -/

/-- R420: the segment of an LPN. -/
def segOf (lpn : Nat) : Nat := 37400 * (lpn % 16) + lpn / 16 / 3264

/-- The LPNs in which two maps differ. -/
def mapDiff (a b : Tbl Nat) : List Nat :=
  (a.filter (fun e => b.get? e.1 != some e.2)).map (·.1) ++ (b.filter (fun e => !a.has e.1)).map (·.1)

/-- R420: the dirty segments: those whose entries the last complete checkpoint does not hold as they are. -/
def FlashSlot.dirty (x : FlashSlot) : List Nat :=
  let old := match x.cart.bind (fun c => c.ckpts.head?) with | some k => k.map | none => []
  ((mapDiff x.map old).map segOf).eraseDups

/-- R420: a checkpoint whose segments are all written is complete. -/
def FlashSlot.ckptEnd (x : FlashSlot) : FlashSlot := match x.ckpt with
  | some r => if r.left != [] then x else
      { x with ckpt := none }.onCart (fun c => { c with ckpts := (r.snap :: c.ckpts).take 2 })
  | none => x

/-- R420: a checkpoint begins: it writes every segment that is dirty now. -/
def FlashSlot.ckptBegin (x : FlashSlot) : FlashSlot :=
  { x with ckpt := some ⟨⟨x.map, (List.range 16).map (fun ch => (ch, (x.chan ch).seq))⟩, x.dirty⟩ }.ckptEnd

/-- R420: a checkpoint is due 8,192 furrows after the last, or for a channel that has programmed 500,000 pages. -/
def FlashSlot.ckptDue (tb : Timebase) (x : FlashSlot) : Bool :=
  (match x.ckptFur with
    | some f => decide (8192 ≤ (tb.number - f).toNat)
    | none => true)
  || (List.range 16).any (fun ch => decide (500000 ≤ x.since ch))

/-- Up to n segments of a channel are written. -/
def ckptWrite (s ch n : Nat) (d : Device) : Device :=
  let x := d.slot s
  match x.ckpt with
  | none => d
  | some r =>
    let now := (r.left.filter (fun g => g / 37400 == ch)).take n
    let x := { x with ckpt := some { r with left := r.left.filter (fun g => !now.contains g) } }.onCart (fun c => c.bump 0x58 now.length)
    (d.setSlot s x.ckptEnd).incBy (slotReg R.FLASH_PROGRAMS s) now.length

/-! ### The map rebuilt at mount (R413, R416, R417, R420, R430) -/

def Cart.committed (c : Cart) (f : Nat) : Bool := c.commits.any (fun x => x.2.1 == f)

/-- R430: a source of a committed fold that was not erased yet. -/
def Cart.folded (c : Cart) (k : Nat) : Bool := c.commits.any (fun x => x.2.2.contains k)

/-- The first LPN of the run of an object of the directory, and how many its rows take. -/
def Cart.dirRun (c : Cart) (s id : Nat) (o : Obj) : Nat × Nat :=
  (o.lpn.getD (c.dirSlot.getD id s) 0, 16 * lpnRows id o.base o.size)

/-- R413, R417: a page belongs to an object of the directory: it lies in its run and was written since, for its namespace and
under its key. -/
def Cart.owned (c : Cart) (s ch : Nat) (g : Spare) : Bool :=
  c.nsKey g.nsid == some g.key && c.dir.any (fun o =>
    let (lo, n) := c.dirRun s o.1 o.2
    o.2.ns == g.nsid && lo ≤ g.lpn && g.lpn < lo + n && (c.born.getD o.1 []).getD ch 0 ≤ g.ver)

/-- R430: a page counts at mount: no filler, no page of a fold without a commit record or of a source of one with it. -/
def Cart.counts (c : Cart) (s p : Nat) (g : Spare) : Bool :=
  !g.filler && (match g.fold with | some f => c.committed f | none => true) && !c.folded (sbOfPhys p) && c.owned s (p / 2 ^ 28) g

/-- Of two pages of an LPN, the later contents count, and of one contents the later copy. -/
def Spare.older (a b : Spare) : Bool := decide (a.ver < b.ver) || (a.ver == b.ver && decide (a.seq ≤ b.seq))

/-- R420: a page that the mount reads from its spare record: one programmed since the checkpoint, or moved by a fold; its
record passes its CRC. -/
def Cart.logged (c : Cart) (s : Nat) (k : Ckpt) (spares : List (Nat × List Byte)) (p : Nat) (g : Spare) : Bool :=
  (decide (k.seqs.getD (p / 2 ^ 28) 0 ≤ g.seq) || g.fold.isSome)
    && spareOk ((spares.lookup p).getD g.bytes) && c.counts s p g

/-- The map: the entries of the checkpoint that still hold, then the pages since in their order. -/
def Cart.rebuild (c : Cart) (s : Nat) (k : Ckpt) (spares : List (Nat × List Byte)) : Tbl Nat :=
  let base := k.map.filter (fun e => match c.pages.get? e.2 with
    | some g => g.lpn == e.1 && c.counts s e.2 g
    | none => false)
  c.pages.foldl (fun m e =>
    if !c.logged s k spares e.1 e.2 then m
    else match (m.get? e.2.lpn).bind (fun q => c.pages.get? q) with
      | some g => if g.older e.2 then m.set e.2.lpn e.1 else m
      | none => m.set e.2.lpn e.1) base

/-- R420: the last complete checkpoint that can be read; an empty one where none was ever written; none where there is one and
none can be read. -/
def Cart.readableCkpt (c : Cart) (segs : List (Nat × List Byte)) : Option Ckpt :=
  if c.ckpts == [] then some ⟨[], []⟩
  else (c.ckpts.zipIdx.find? (fun k => segs.all (fun g => g.1 != k.2 || segOk g.2))).map (·.1)

/-- R430: the folds that did not commit, by channel. -/
def Cart.openFolds (c : Cart) : List (Nat × Nat) :=
  (c.pages.filterMap (fun p => match p.2.fold with
    | some f => if c.committed f then none else some (p.1 / 2 ^ 28, f)
    | none => none)).eraseDups

/-- R430: what becomes of the superblocks at mount, given the rebuilt map: those of folds without a commit record, the sources
of those with one, what holds no valid page, and a TLC superblock that is partly programmed are queued for erase. -/
def Cart.recoverSbs (c : Cart) (map : Tbl Nat) : Cart :=
  let valid (k : Nat) : Bool := map.any (fun e => sbOfPhys e.2 == k)
  let target (k : Nat) : Bool := c.pages.any (fun p => sbOfPhys p.1 == k && (match p.2.fold with
    | some f => !c.committed f
    | none => false))
  { c with sbs := c.sbs.mapVals (fun k b =>
      if b.st == .free then b
      else if target k || c.folded k || !valid k || (b.st == .openSb && !b.slc) then { b with st := .erase }
      else if b.st == .openSb then { b with st := .full } else b) }

end Sys2Proof.Machine
end

