-- ==== Sys2Proof/Machine/Bundle.lean ====
section
/-! DEFINITION. The 256-bit bundle of the plot profile (R97, R103, R113, R115, R116, R118, R120): its slots read from
bits, with what makes a slot's encoding illegal. -/
namespace Sys2Proof.Machine

/-- R103: the array slot. -/
structure ArrSlot where
  op : Nat
  kind : Nat
  arr : Nat
  accf : Nat
  fmt : Nat
  pack : Nat
  sw : Nat
  sa : Nat
  soff : Nat
  drow : Nat
  rows : Nat     -- ROWS, the field plus 1
  deriving DecidableEq, Repr

def decodeArr (w : Nat) : ArrSlot :=
  ⟨bits 55 51 w, bits 50 50 w, bits 49 47 w, bits 46 46 w, bits 45 43 w, bits 42 39 w, bits 38 35 w, bits 34 31 w,
    bits 30 21 w, bits 20 11 w, bits 10 1 w + 1⟩

/-- R97, R104: the encoding of an array slot is legal. -/
def arrLegal (w : Nat) : Bool :=
  let s := decodeArr w
  if s.op == 0 then w == 0
  else if s.op == 1 || s.op == 2 || s.op == 4 then bits 46 0 w == 0
  else if s.op == 3 then s.fmt ≤ 4 && s.pack == 0 && bits 20 0 w == 0
  else s.op == 5 && s.fmt ≤ 4 && bit 0 w == false && s.drow + s.rows ≤ (if s.kind == 0 then 1024 else 256)

/-- R113: the store-move slot, its fields by name; LEN in units of 64 B. -/
inductive StoreSlot where
  | nop
  | seta (a imm : Nat)
  | adda (a b simm : Nat)
  | lda (a port sw sa soff : Nat)
  | copy (port sw sa dw da soff doff len : Nat)
  | fill (port dw da pr doff len : Nat)
  | rkset (sw sa dw da soff doff : Nat)
  | pdld (port sw sa soff p : Nat)
  | illegal
  deriving DecidableEq, Repr

def decodeStore (w : Nat) : StoreSlot :=
  let op := bits 63 59 w
  if op == 0 then (if w == 0 then .nop else .illegal)
  else if op == 1 then (if bits 54 48 w == 0 then .seta (bits 58 55 w) (bits 47 0 w) else .illegal)
  else if op == 2 then (if bits 50 32 w == 0 then .adda (bits 58 55 w) (bits 54 51 w) (bits 31 0 w) else .illegal)
  else if op == 3 then
    (if bits 30 0 w == 0 then .lda (bits 58 55 w) (bits 54 51 w) (bits 50 47 w) (bits 46 43 w) (bits 42 31 w) else .illegal)
  else if op == 4 then
    .copy (bits 58 55 w) (bits 54 51 w) (bits 50 47 w) (bits 46 43 w) (bits 42 39 w) (bits 38 27 w) (bits 26 15 w) (bits 14 0 w + 1)
  else if op == 5 then
    (if bits 15 0 w == 0 then .fill (bits 58 55 w) (bits 54 51 w) (bits 50 47 w) (bits 46 43 w) (bits 42 31 w) (bits 30 16 w + 1)
     else .illegal)
  else if op == 6 then
    (if bits 58 55 w == 0 && bits 14 0 w == 0 then
      .rkset (bits 54 51 w) (bits 50 47 w) (bits 46 43 w) (bits 42 39 w) (bits 38 27 w) (bits 26 15 w) else .illegal)
  else if op == 7 then
    (if bits 30 0 w == 0 && bits 34 31 w != 0 then .pdld (bits 58 55 w) (bits 54 51 w) (bits 50 47 w) (bits 46 35 w) (bits 34 31 w)
     else .illegal)
  else .illegal

/-- R115: the accumulation slot. -/
inductive AccSlot where
  | nop
  | drain (kind arr ofmt dw da rbase rcnt : Nat)
  | sexp (kind arr exp : Nat)
  | illegal
  deriving DecidableEq, Repr

def decodeAcc (w : Nat) : AccSlot :=
  let op := bits 31 28 w
  if op == 0 then (if w == 0 then .nop else .illegal)
  else if op == 1 then
    (if bits 2 0 w == 0 then
      .drain (bits 27 27 w) (bits 26 24 w) (bits 23 21 w) (bits 20 17 w) (bits 16 13 w) (bits 12 8 w) (bits 7 3 w + 1)
     else .illegal)
  else if op == 2 then (if bits 15 0 w == 0 then .sexp (bits 27 27 w) (bits 26 24 w) (bits 23 16 w) else .illegal)
  else .illegal

/-- R116: the rake slot. -/
structure RakeSlot where
  op : Nat
  len : Nat
  k : Nat
  sfmt : Nat
  lanes : Nat
  min : Bool
  deriving DecidableEq, Repr

def decodeRake (w : Nat) : RakeSlot :=
  ⟨bits 47 44 w, bits 43 20 w + 1, bits 19 10 w + 1, bits 9 7 w, bits 6 2 w + 1, bit 0 w⟩

/-- R116, R227: the combinations the rake accepts. -/
def RakeSlot.accepted (s : RakeSlot) : Bool :=
  s.op ≤ 3 && s.sfmt ≤ 4 && (s.op != 1 || s.k == 1) && (s.op != 3 || s.len ≤ 4194304) && s.k ≤ 1024

def rakeLegal (w : Nat) : Bool :=
  if bits 47 44 w == 0 then w == 0 else (decodeRake w).accepted && bit 1 w == false

/-- R118: the trowel-dispatch slot. -/
inductive TrowSlot where
  | nop
  | tload (tc w a size : Nat)
  | tgo (tc entry budget : Nat)
  | illegal
  deriving DecidableEq, Repr

def decodeTrow (w : Nat) : TrowSlot :=
  let op := bits 23 20 w
  if op == 0 then (if w == 0 then .nop else .illegal)
  else if op == 1 then .tload (bits 19 16 w) (bits 15 12 w) (bits 11 8 w) (bits 7 0 w + 1)
  else if op == 2 then (if bits 11 0 w == 0 then .illegal else .tgo (bits 19 16 w) (bits 15 12 w) (bits 11 0 w))
  else .illegal

/-- R120: the sync slot. -/
inductive SyncSlot where
  | nop
  | waitclk (clk : Nat)
  | hoff (decl w a hr : Nat)
  | rdfur (a : Nat)
  | rdclk (a : Nat)
  | illegal
  deriving DecidableEq, Repr

def decodeSync (w : Nat) : SyncSlot :=
  let op := bits 23 20 w
  if op == 0 then (if w == 0 then .nop else .illegal)
  else if op == 1 then (if bits 19 18 w == 0 then .waitclk (bits 17 0 w) else .illegal)
  else if op == 2 then (if bits 4 0 w == 0 then .hoff (bits 19 17 w) (bits 16 13 w) (bits 12 9 w) (bits 8 5 w) else .illegal)
  else if op == 3 then (if bits 15 0 w == 0 then .rdfur (bits 19 16 w) else .illegal)
  else if op == 4 then (if bits 15 0 w == 0 then .rdclk (bits 19 16 w) else .illegal)
  else .illegal

/-- R97: a bundle. -/
structure Bundle where
  skip : Nat
  arr : Nat
  store : Nat
  acc : Nat
  rake : Nat
  trow : Nat
  sync : Nat
  deriving DecidableEq, Repr

def decodeBundle (w : Nat) : Bundle :=
  ⟨bits 255 248 w, bits 247 192 w, bits 191 128 w, bits 127 96 w, bits 95 48 w, bits 47 24 w, bits 23 0 w⟩

/-- R97, R121: no slot of the bundle has an illegal encoding, and a WAITCLK goes with SKIP 0. -/
def Bundle.legal (b : Bundle) : Bool :=
  arrLegal b.arr && decodeStore b.store != .illegal && decodeAcc b.acc != .illegal && rakeLegal b.rake
    && decodeTrow b.trow != .illegal && decodeSync b.sync != .illegal
    && (match decodeSync b.sync with | .waitclk _ => b.skip == 0 | _ => true)

end Sys2Proof.Machine
end

