-- ==== Sys2Proof/Machine/Fp.lean ====
section
/-! DEFINITION. The number formats of the module (00_scope: IEEE 754 binary32 and binary16, bfloat16, OCP E4M3 and
E5M2, MXFP4) and the exact arithmetic and rounding of R128 and R207. A finite number is a sign, a significand and
a power of two; results are formed exactly and rounded once. -/
namespace Sys2Proof.Machine

/-- A binary format: exponent and fraction widths, whether all-ones exponents hold infinity and NaN as IEEE 754 has
them (E4M3 has one NaN and no infinity). -/
structure FpFmt where
  ebits : Nat
  mbits : Nat
  ieee : Bool
  deriving DecidableEq, Repr

def fp32 : FpFmt := ⟨8, 23, true⟩
def fp16 : FpFmt := ⟨5, 10, true⟩
def bf16 : FpFmt := ⟨8, 7, true⟩
def e4m3 : FpFmt := ⟨4, 3, false⟩
def e5m2 : FpFmt := ⟨5, 2, true⟩
def e2m1 : FpFmt := ⟨2, 1, false⟩

def FpFmt.width (f : FpFmt) : Nat := 1 + f.ebits + f.mbits
def FpFmt.bias (f : FpFmt) : Nat := 2 ^ (f.ebits - 1) - 1

/-- A number read from a format: `fin` is ± mant × 2^exp. -/
inductive FpVal where
  | nan
  | inf (neg : Bool)
  | fin (neg : Bool) (mant : Nat) (exp : Int)
  deriving DecidableEq, Repr

/-- Read a bit pattern. -/
def FpFmt.decode (f : FpFmt) (w : Nat) : FpVal :=
  let frac := w % 2 ^ f.mbits
  let ex := (w >>> f.mbits) % 2 ^ f.ebits
  let neg := (w >>> (f.mbits + f.ebits)) % 2 == 1
  let top := 2 ^ f.ebits - 1
  if f.ieee && ex == top then (if frac == 0 then .inf neg else .nan)
  else if f == e4m3 && ex == top && frac == 7 then .nan
  else if ex == 0 then .fin neg frac (1 - (f.bias : Int) - f.mbits)
  else .fin neg (frac + 2 ^ f.mbits) ((ex : Int) - f.bias - f.mbits)

/-- The greatest finite bit pattern, without its sign. -/
def FpFmt.maxBits (f : FpFmt) : Nat :=
  if f.ieee then (2 ^ f.ebits - 1) <<< f.mbits - 1
  else if f == e4m3 then 0x7E
  else 2 ^ (f.ebits + f.mbits) - 1

def FpFmt.signed (f : FpFmt) (neg : Bool) (w : Nat) : Nat := if neg then w + 2 ^ (f.ebits + f.mbits) else w

/-- The pattern of an infinity; a format that has none takes its greatest finite value. -/
def FpFmt.infBits (f : FpFmt) (neg : Bool) : Nat :=
  f.signed neg (if f.ieee then (2 ^ f.ebits - 1) <<< f.mbits else f.maxBits)

/-- A quiet NaN: its payload and sign are values the spec leaves open, E4M3 having one NaN of each sign. -/
def FpFmt.nanBits (f : FpFmt) (a b c : Nat) : Nat :=
  let p := Config.nanPayload f.width a b c
  f.signed (p % 2 == 1)
    (if f.ieee then (2 ^ f.ebits - 1) <<< f.mbits + 2 ^ (f.mbits - 1) + (p / 2) % 2 ^ (f.mbits - 1) else 0x7F)

/-- A signaling NaN: a NaN whose leading fraction bit is 0 (IEEE 754, binary formats). -/
def FpFmt.snan (f : FpFmt) (w : Nat) : Bool := f.ieee && f.decode w == .nan && w % 2 ^ f.mbits < 2 ^ (f.mbits - 1)

/-- FLAGS of R123: bit 0 invalid, 1 division by zero, 2 overflow, 3 underflow, 4 inexact. -/
def flInvalid : Nat := 1
def flDivZero : Nat := 2
def flOverflow : Nat := 4
def flUnderflow : Nat := 8
def flInexact : Nat := 16

/-- IEEE 754: an operation on a signaling NaN sets invalid. -/
def FpFmt.nanFlags (f : FpFmt) (l : List Nat) : Nat := if l.any f.snan then flInvalid else 0

/-- The power of two of the leading bit of num / den, a positive fraction. -/
def log2Frac (num den : Nat) : Int :=
  let e := (Nat.log2 num : Int) - Nat.log2 den
  if 0 ≤ e then (if num < den * 2 ^ e.toNat then e - 1 else e)
  else (if num * 2 ^ (-e).toNat < den then e - 1 else e)

/-- Divide num / den by 2^q, rounding to nearest, ties to even; and whether anything was lost. -/
def roundQuot (num den : Nat) (q : Int) : Nat × Bool :=
  let n := if 0 ≤ q then num else num * 2 ^ (-q).toNat
  let d := if 0 ≤ q then den * 2 ^ q.toNat else den
  let k := n / d
  let r := n % d
  (if 2 * r > d || (2 * r == d && k % 2 == 1) then k + 1 else k, r != 0)

/-- Round ± num / den to a format (nearest even, subnormals kept) and its flags; `sat` saturates at the greatest
finite value (R128, R207). A value above the greatest finite value that rounds to it counts as not beyond it (DESIGN CHOICE, log
entry 167). -/
def FpFmt.round (f : FpFmt) (sat neg : Bool) (num den : Nat) : Nat × Nat :=
  if num == 0 then (f.signed neg 0, 0)
  else
    let emin : Int := 1 - (f.bias : Int)
    let e := log2Frac num den
    let q := (if e < emin then emin else e) - f.mbits
    let (n, lost) := roundQuot num den q
    let (n, q) := if n == 2 ^ (f.mbits + 1) then (2 ^ f.mbits, q + 1) else (n, q)
    let w := if n < 2 ^ f.mbits then n else ((q + f.mbits + f.bias).toNat) <<< f.mbits + (n - 2 ^ f.mbits)
    let ovf := f.maxBits < w
    -- after rounding: with its exponent unbounded, the rounded result would still lie below the least normal number
    let up := e + 1 == emin && (roundQuot num den (e - f.mbits)).1 == 2 ^ (f.mbits + 1)
    let tiny := decide (e < emin) && (Config.tinyBeforeRounding || !up)
    let fl := (if ovf then flOverflow + flInexact else 0)
      + (if !ovf && lost then flInexact else 0) + (if !ovf && lost && tiny then flUnderflow else 0)
    (if ovf then (if sat then f.signed neg f.maxBits else f.infBits neg) else f.signed neg w, fl)

/-- Round a signed multiple of a power of two. -/
def FpFmt.roundDyadic (f : FpFmt) (sat zeroNeg : Bool) (v : Int) (exp : Int) : Nat × Nat :=
  if v == 0 then (f.signed zeroNeg 0, 0)
  else if 0 ≤ exp then f.round sat (decide (v < 0)) (v.natAbs * 2 ^ exp.toNat) 1
  else f.round sat (decide (v < 0)) v.natAbs (2 ^ (-exp).toNat)

def signOf (neg : Bool) (m : Nat) : Int := if neg then -(m : Int) else m

/-- The sum of two multiples of powers of two: value and exponent. -/
def addDyadic (a : Int) (ea : Int) (b : Int) (eb : Int) : Int × Int :=
  if ea ≤ eb then (a + b * 2 ^ (eb - ea).toNat, ea) else (a * 2 ^ (ea - eb).toNat + b, eb)

/-- a + b in a format. -/
def FpFmt.add (f : FpFmt) (a b : Nat) : Nat × Nat :=
  match f.decode a, f.decode b with
  | .nan, _ | _, .nan => (f.nanBits a b 0, f.nanFlags [a, b])
  | .inf s, .inf t => if s == t then (f.infBits s, 0) else (f.nanBits a b 0, flInvalid)
  | .inf s, .fin _ _ _ => (f.infBits s, 0)
  | .fin _ _ _, .inf t => (f.infBits t, 0)
  | .fin s m e, .fin t n g =>
    let (v, x) := addDyadic (signOf s m) e (signOf t n) g
    f.roundDyadic false (s && t) v x

/-- The pattern with its sign inverted. -/
def FpFmt.neg (f : FpFmt) (a : Nat) : Nat :=
  let h := 2 ^ (f.ebits + f.mbits)
  if h ≤ a % (2 * h) then a % (2 * h) - h else a % (2 * h) + h

def FpFmt.sub (f : FpFmt) (a b : Nat) : Nat × Nat := f.add a (f.neg b)

/-- a × b in a format. -/
def FpFmt.mul (f : FpFmt) (a b : Nat) : Nat × Nat :=
  match f.decode a, f.decode b with
  | .nan, _ | _, .nan => (f.nanBits a b 0, f.nanFlags [a, b])
  | .inf s, .inf t => (f.infBits (s != t), 0)
  | .inf s, .fin t n _ => if n == 0 then (f.nanBits a b 0, flInvalid) else (f.infBits (s != t), 0)
  | .fin s m _, .inf t => if m == 0 then (f.nanBits a b 0, flInvalid) else (f.infBits (s != t), 0)
  | .fin s m e, .fin t n g => f.roundDyadic false (s != t) (signOf (s != t) (m * n)) (e + g)

/-- c + a × b, rounded once (vfma). -/
def FpFmt.fma (f : FpFmt) (c a b : Nat) : Nat × Nat :=
  match f.decode a, f.decode b, f.decode c with
  | .fin s m e, .fin t n g, .fin u k h =>
    let (v, x) := addDyadic (signOf (s != t) (m * n)) (e + g) (signOf u k) h
    f.roundDyadic false ((s != t) && u) v x
  | .fin _ _ _, .fin _ _ _, .inf u => (f.infBits u, 0)
  | .nan, _, _ | _, .nan, _ => (f.nanBits a b c, f.nanFlags [a, b, c])
  | .inf s, .inf t, z => infPlus f (s != t) false z a b c
  | .inf s, .fin t n _, z => infPlus f (s != t) (n == 0) z a b c
  | .fin s m _, .inf t, z => infPlus f (s != t) (m == 0) z a b c
  | _, _, .nan => (f.nanBits a b c, f.nanFlags [a, b, c])
where
  /-- An infinite product, or one of a zero and an infinity, plus a number. -/
  infPlus (f : FpFmt) (s bad : Bool) (z : FpVal) (a b c : Nat) : Nat × Nat :=
    match z with
    | .nan => (f.nanBits a b c, if bad && Config.fmaNanInvalid then flInvalid else f.nanFlags [a, b, c])
    | .inf u => if bad || u != s then (f.nanBits a b c, flInvalid) else (f.infBits s, 0)
    | .fin _ _ _ => if bad then (f.nanBits a b c, flInvalid) else (f.infBits s, 0)

/-- Order of two numbers by value; none where one is a NaN. -/
def FpVal.le : FpVal → FpVal → Option Bool
  | .nan, _ | _, .nan => none
  | .inf true, _ => some true
  | _, .inf false => some true
  | .inf false, _ => some false
  | _, .inf true => some false
  | .fin s m e, .fin t n g =>
    let (v, _) := addDyadic (signOf t n) g (-(signOf s m)) e
    some (decide (0 ≤ v))

/-- vmin and vmax of a lane. What a NaN operand or a pair of zeros of both signs gives is left open. -/
def FpFmt.minMax (f : FpFmt) (mx : Bool) (a b : Nat) : Nat × Nat :=
  match (f.decode a).le (f.decode b), (f.decode b).le (f.decode a) with
  | some true, some true => (if a == b then a else Config.minMaxOpen f.width (boolNat mx) a b, 0)
  | some ab, some _ => (if ab == mx then b else a, 0)
  | _, _ => (Config.minMaxOpen f.width (boolNat mx) a b, (Config.minMaxFlags f.width a b % 32) ||| f.nanFlags [a, b])
where
  boolNat (b : Bool) : Nat := if b then 1 else 0

/-- 1 / a (vrcp). -/
def FpFmt.rcp (f : FpFmt) (a : Nat) : Nat × Nat :=
  match f.decode a with
  | .nan => (f.nanBits a 0 0, f.nanFlags [a])
  | .inf s => (f.signed s 0, 0)
  | .fin s m e =>
    if m == 0 then (f.infBits s, flDivZero)
    else if 0 ≤ e then f.round false s 1 (m * 2 ^ e.toNat) else f.round false s (2 ^ (-e).toNat) m

/-- 1 / √a (vrsqrt), rounded to nearest: the candidate below is found by an integer square root and the fraction
is compared exactly. -/
def FpFmt.rsqrt (f : FpFmt) (a : Nat) : Nat × Nat :=
  match f.decode a with
  | .nan => (f.nanBits a 0 0, f.nanFlags [a])
  | .inf s => if s then (f.nanBits a 0 0, flInvalid) else (f.signed false 0, 0)
  | .fin s m e =>
    if m == 0 then (f.infBits s, flDivZero)
    else if s then (f.nanBits a 0 0, flInvalid)
    else
      -- make the exponent even: a = m' × 2^(2h); 1/√a = 2^(-h) / √m'
      let odd := e % 2 == 1
      let m' := if odd then 2 * m else m
      let h := (if odd then e - 1 else e) / 2
      -- 2^k / √m' with k large: floor of its square root of 4^k / m', with a sticky bit
      let k := 2 * f.width + Nat.log2 m'
      let n := Nat.sqrt (4 ^ k / m')
      let exact := n * n * m' == 4 ^ k
      let n2 := 2 * n + (if exact then 0 else 1)
      let x : Int := -h - k - 1
      if 0 ≤ x then f.round false false (n2 * 2 ^ x.toNat) 1 else f.round false false n2 (2 ^ (-x).toNat)

/-- The fraction bits of the fixed-point numbers from which an exponential is rounded. -/
def expBits : Nat := 224

/-- 1 + y + y² / 2 + y³ / 6 …, `n` terms after `k`, of a fixed-point y: `term` is the term of k. -/
def expSeries (y : Nat) : Nat → Nat → Nat → Nat
  | 0, _, _ => 0
  | n + 1, k, term => term + expSeries y n (k + 1) ((term * y) >>> expBits / (k + 1))

/-- `n` squarings of a fixed-point number. -/
def expSquare : Nat → Nat → Nat
  | 0, z => z
  | n + 1, z => expSquare n ((z * z) >>> expBits)

/-- e^x of a fixed-point x from 0 to 256: the series of x / 512, squared nine times. Its error is below 2^-190 of it, and no
number of these formats but 0 has an exponential that near to where the rounding changes. -/
def expFix (x : Nat) : Nat := expSquare 9 (expSeries (x / 512) 48 0 (2 ^ expBits))

/-- e^a (vexp), rounded to nearest. -/
def FpFmt.exp (f : FpFmt) (a : Nat) : Nat × Nat :=
  match f.decode a with
  | .nan => (f.nanBits a 0 0, f.nanFlags [a])
  | .inf s => if s then (f.signed false 0, 0) else (f.infBits false, 0)
  | .fin s m e =>
    if m == 0 then f.round false false 1 1
    else
      -- beyond 256 every format overflows, or rounds to 0
      let x := min (if 0 ≤ e then m * 2 ^ min e.toNat 9 * 2 ^ expBits else (m * 2 ^ expBits) / 2 ^ (-e).toNat) (2 ^ (expBits + 8))
      let z := expFix x
      if s then f.round false false (2 ^ expBits) z else f.round false false z (2 ^ expBits)

/-- Convert between formats; to E4M3 and E5M2 with saturation (R128). An infinity that saturates sets no flag (DESIGN CHOICE, log
entry 164). -/
def convertFp (src dst : FpFmt) (w : Nat) : Nat × Nat :=
  let sat := dst == e4m3 || dst == e5m2
  match src.decode w with
  | .nan => (dst.nanBits w 0 0, src.nanFlags [w])
  | .inf s => (if sat then dst.signed s dst.maxBits else dst.infBits s, 0)
  | .fin s m e => dst.roundDyadic sat s (signOf s m) e

/-- Convert to a signed integer of `n` bits: nearest even, saturating, NaN to 0 (R128). -/
def convertInt (src : FpFmt) (n : Nat) (w : Nat) : Nat × Nat :=
  let top : Int := 2 ^ (n - 1) - 1
  let bot : Int := -(2 ^ (n - 1))
  let put (v : Int) : Nat := (v % (2 ^ n)).toNat
  match src.decode w with
  | .nan => (0, flInvalid)
  | .inf s => (put (if s then bot else top), flInvalid)
  | .fin s m e =>
    let (k, lost) := roundQuot m 1 (-e)
    let v := signOf s k
    if v < bot then (put bot, flInvalid) else if top < v then (put top, flInvalid)
    else (put v, if lost then flInexact else 0)

end Sys2Proof.Machine
end

