-- ==== Sys2Proof/Machine/Cells.lean ====
section
/-! DEFINITION. The arithmetic of the matrix arrays (06_matrix_arrays) and of the narrow accumulator
(07_narrow_accumulation): formats, tile and row layouts, column sums, draws, rescaling and drain conversion. -/
namespace Sys2Proof.Machine

/-- R168: D, the array's rows and columns; KIND 0 prefill, 1 decode. -/
def arrD (kind : Nat) : Nat := if kind == 0 then 256 else 128

/-- R107: accumulator rows. -/
def accRows (kind : Nat) : Nat := if kind == 0 then 1024 else 256

/-- FMT of R103: 0 INT8, 1 E4M3, 2 E5M2, 3 MXFP4, 4 BF16. -/
def weightRate (kind : Nat) : Nat := if kind == 0 then 512 else 1024

/-- R105: bytes of a weight tile. -/
def tileBytes (kind fmt : Nat) : Nat :=
  let d := arrD kind
  if fmt == 3 then d * d + d * (d / 16) else if fmt == 4 then 2 * d * d else d * d

/-- R105: T. -/
def tileClks (kind fmt : Nat) : Nat := tileBytes kind fmt / weightRate kind

def pad64 (n : Nat) : Nat := (n + 63) / 64 * 64

/-- R105: activation row stride of an unpacked MM. -/
def rowStride (kind fmt : Nat) : Nat :=
  let d := arrD kind
  if fmt == 3 then pad64 (d + d / 16) else if fmt == 4 then 2 * d else d

/-- R105: r, clk per row. -/
def rowClks (fmt : Nat) : Nat := if fmt == 4 then 4 else 1

/-- R112, R174: stride of a sub-problem's row of K elements. -/
def packedStride (fmt k : Nat) : Nat :=
  pad64 (if fmt == 3 then (k + 1) / 2 + (k + 31) / 32 else if fmt == 4 then 2 * k else k)

/-- R106: E4M3 and E5M2 may meet; a tile no LDW loaded meets every format. -/
def fmtMeets (active : Option Nat) (fmt : Nat) : Bool :=
  match active with
  | none => true
  | some w => w == fmt || ((w == 1 || w == 2) && (fmt == 1 || fmt == 2))

/-- The format of an element that is no integer. -/
def elemFmt (fmt : Nat) : FpFmt :=
  if fmt == 1 then e4m3 else if fmt == 2 then e5m2 else if fmt == 3 then e2m1 else bf16

/-- One element: its value, or none where it is a NaN or an infinity. -/
def elemValue (fmt w : Nat) : Option (Int × Int) :=
  if fmt == 0 then some (toSigned 8 w, 0)
  else match (elemFmt fmt).decode w with
    | .fin s m e => some (signOf s m, e)
    | _ => none

def byteAt (l : List Byte) (i : Nat) : Nat := (l.getD i 0).toNat

/-- R173: the weight of an element: inner index k, column j. -/
def weightBits (fmt d : Nat) (t : List Byte) (k j : Nat) : Nat :=
  if fmt == 3 then
    let b := byteAt t (d * (k / 2) + j)
    if k % 2 == 0 then b % 16 else b / 16
  else if fmt == 4 then byteAt t (2 * (d * k + j)) + 256 * byteAt t (2 * (d * k + j) + 1)
  else byteAt t (d * k + j)

/-- R174: an activation of a row of K elements. -/
def actBits (fmt : Nat) (row : List Byte) (k : Nat) : Nat :=
  if fmt == 3 then
    let b := byteAt row (k / 2)
    if k % 2 == 0 then b % 16 else b / 16
  else if fmt == 4 then byteAt row (2 * k) + 256 * byteAt row (2 * k + 1)
  else byteAt row k

/-- A term of a cell: its exact value, and whether a NaN or an infinity took part (R170, R171). -/
structure Term where
  v : Int
  e : Int
  nonfin : Bool
  deriving DecidableEq, Repr

def zeroTerm : Term := ⟨0, 0, false⟩

/-- The product of a weight of one format and an activation of another; a weight no LDW loaded is 0 (R106). -/
def product (wf : Option Nat) (w af a : Nat) : Term :=
  match (match wf with | none => some ((0 : Int), (0 : Int)) | some f => elemValue f w), elemValue af a with
  | some (x, ex), some (y, ey) => ⟨x * y, ex + ey, false⟩
  | _, _ => ⟨0, 0, true⟩

/-- R170 to R172: the term of cell (i, j) for a row of `k` elements (array row i at or beyond its elements is
gated). -/
def cellTerm (af d : Nat) (tile : WTile) (row : List Byte) (k i j : Nat) : Term :=
  if af == 3 then
    if k ≤ 2 * i then zeroTerm
    else
      let wf := tile.fmt
      let p0 := product wf (weightBits 3 d tile.data (2 * i) j) 3 (actBits 3 row (2 * i))
      let p1 := if 2 * i + 1 < k then product wf (weightBits 3 d tile.data (2 * i + 1) j) 3 (actBits 3 row (2 * i + 1))
        else zeroTerm
      let blk := i / 16
      let sa := byteAt row ((k + 1) / 2 + blk)
      let sw := if wf.isNone then 127 else byteAt tile.data (d * d + d * blk + j)
      if sa == 255 || sw == 255 then ⟨0, 0, true⟩
      else
        let (v, e) := addDyadic p0.v p0.e p1.v p1.e
        ⟨v, e + sa + sw - 254, false⟩
  else if k ≤ i then zeroTerm
  else product tile.fmt (weightBits (tile.fmt.getD af) d tile.data i j) af (actBits af row i)

/-! ### Draws (R193 to R195) -/

/-- One step of the LFSR: its state after, and its output bit. -/
def lfsrStep (s : Nat) : Nat × Nat :=
  let b := s % 2
  (if b == 1 then (s / 2).xor 0x80200003 else s / 2, b)

/-- `n` steps, the first output bit lowest. -/
def lfsrBits : Nat → Nat → Nat × Nat
  | 0, s => (s, 0)
  | n + 1, s =>
    let (s1, b) := lfsrStep s
    let (s2, r) := lfsrBits n s1
    (s2, b + 2 * r)

/-- R194: z of a seed and an id. -/
def seedMix (seed id : Nat) : Nat :=
  let m := 2 ^ 64
  let z := (seed + 0x9E3779B97F4A7C15 * (id + 1)) % m
  let z := ((z.xor (z >>> 30)) * 0xBF58476D1CE4E5B9) % m
  let z := ((z.xor (z >>> 27)) * 0x94D049BB133111EB) % m
  z.xor (z >>> 31)

/-- R194: the seed of a unit. -/
def lfsrSeed (seed id : Nat) : Nat :=
  let z := seedMix seed id
  if z % 2 ^ 32 == 0 then 1 else z % 2 ^ 32

/-- The state after `n` steps. -/
def lfsrSkip : Nat → Nat → Nat
  | 0, s => s
  | n + 1, s => lfsrSkip n (lfsrStep s).1

/-- Draw number `n`, from 0, of a unit. -/
def draw (seed id n : Nat) : Nat := (lfsrBits 16 (lfsrSkip (16 * n) (lfsrSeed seed id))).2

/-- R194: the unit of cell (i, j) of an array, or of the foot of column j where i is 256. -/
def unitId (key i j : Nat) : Nat := key * 131072 + 256 * i + j

/-! ### Column sums -/

/-- R191: round x × 2^ex to a multiple of 2^e by a draw. -/
def alignTerm (x ex e : Int) (u : Nat) : Int :=
  if e ≤ ex then x * 2 ^ (ex - e).toNat
  else
    let k := (e - ex).toNat
    let fl := x / 2 ^ k
    let r := x % 2 ^ k
    if r == 0 then fl
    else if (u : Int) < r * 65536 / 2 ^ k then fl + 1 else fl

/-- R192: what 24 bits hold. -/
def inRange24 (v : Int) : Bool := decide (-8388608 ≤ v) && decide (v ≤ 8388607)

/-- A partial sum, whether the column has overflowed (R192), and the direction of the first partial sum that went out of
range (R204). -/
structure PartSum where
  v : Int
  ovf : Bool
  dir : Option Bool
  deriving DecidableEq, Repr

/-- R190, R192: one addition to a partial sum. -/
def addPart (acc : PartSum) (t : Int) : PartSum :=
  let s := acc.v + t
  let out := !inRange24 s
  ⟨s, acc.ovf || out || !inRange24 t, if acc.dir.isNone && out then some (decide (0 < s)) else acc.dir⟩

/-- R190: the sum of a column: the aligned terms from array row 0 down, and for an ADD the stored value last. `draws`
gives the draw of the cell of an array row in this column. -/
def columnSum (af d key seed : Nat) (draws : Nat → Nat) (tile : WTile) (row : List Byte) (k j : Nat) (add : Bool) (c : ColWork) :
    ColWork :=
  let acc := (List.range d).foldl (fun (acc : PartSum) i =>
    let t := cellTerm af d tile row k i j
    addPart acc (alignTerm t.v t.e c.e (draw seed (unitId key i j) (draws i)))) ⟨0, false, none⟩
  let acc := if add then addPart acc c.base else acc
  { c with v := acc.v, ovf := acc.ovf, dir := acc.dir }

/-- The rows of an MM that came to the array's edge before a clk. -/
def Streamed.before (x : Streamed) (t : Nat) : Nat := min x.rows ((t - x.first + x.step - 1) / x.step)

/-- The rows that came to the edge before one that came at a clk, of the MM of an issue clk. -/
def ArrayState.rowsBefore (x : ArrayState) (issue arr : Nat) : Nat :=
  (x.streamed.map (fun m => m.before (if m.issue < issue then arr + 1 else arr))).sum

/-- R195: the draw of cell (i, j) for a row that came to the edge at a clk, behind so many rows: one for each of them and for
each replay pass that began by the clk at which it enters the cell (R176; log entry 100). -/
def ArrayState.rowDraw (x : ArrayState) (rows arr i j : Nat) : Nat := rows + (x.passes.filter (fun p => p ≤ arr + 1 + i + j)).length

/-- R195: the draw of cell (i, j) for the replay pass that begins at a clk. -/
def ArrayState.passDraw (x : ArrayState) (p i j : Nat) : Nat :=
  (x.streamed.map (fun m => m.before (p - 1 - i - j))).sum + x.passes.length

/-- R110: fields of a packing descriptor. -/
def packCount (p : List Byte) : Nat := byteAt p 0
def packGroup (p : List Byte) (g : Nat) : Nat := bits (4 * g + 3) (4 * g) (fieldLe p 4 4)
def packK (p : List Byte) (i : Nat) : Nat := fieldLe p (0x40 + 8 * i) 2
def packDelta (p : List Byte) (i : Nat) : Nat := fieldLe p (0x44 + 8 * i) 4

/-- R111: a descriptor is valid for an array and a format. The rule says nothing of K and SRC_DELTA of sub-problems at or
beyond COUNT: they are not checked (DESIGN CHOICE, log entry 102). -/
def packValid (kind fmt : Nat) (p : List Byte) : Bool :=
  let n := packCount p
  let gs := (List.range 8).map (packGroup p)
  let kMax := if fmt == 3 then 2 * arrD kind else arrD kind
  let reserved (i : Nat) : Bool := (1 ≤ i && i < 4) || (8 ≤ i && i < 0x40) || (0x40 ≤ i && (i % 8 == 2 || i % 8 == 3))
  1 ≤ n && n ≤ 8 &&
  gs.all (fun g => g < n || g == 15) &&
  (List.range n).all (fun s => gs.contains s) &&
  -- contiguous: a sub-problem does not come back after another value
  (List.range 8).all (fun i => (List.range 8).all (fun j =>
    !(i + 1 < j && gs.getD i 15 == gs.getD j 15 && gs.getD i 15 != 15 && gs.getD (i + 1) 15 != gs.getD i 15))) &&
  (kind == 0 || (gs.drop 4).all (· == 15)) &&
  (List.range n).all (fun s => 1 ≤ packK p s && packK p s ≤ kMax && packDelta p s % 64 == 0) &&
  (List.range 128).all (fun i => !reserved i || byteAt p i == 0)

/-- The row of bytes and the inner dimension that a column meets (R112): all of the array unpacked, its sub-problem's
packed, no element in an unused group. -/
def columnRow (kind fmt : Nat) (pack : Option (List Byte)) (acts : List (List Byte)) (j : Nat) : List Byte × Nat :=
  match pack with
  | none => (acts.getD 0 [], if fmt == 3 then 2 * arrD kind else arrD kind)
  | some p =>
    let s := packGroup p (j / 32)
    if s == 15 then ([], 0) else (acts.getD s [], packK p s)

/-- One pass of a row through the array (R190, R199): the columns that `redo` names are formed anew. -/
def rowPass (kind key seed : Nat) (draws : Nat → Nat → Nat) (m : MmOp) (acts : List (List Byte)) (redo : ColWork → Bool) (cols : List ColWork) :
    List ColWork :=
  cols.mapIdx (fun j c =>
    if redo c then
      let (row, k) := columnRow kind m.fmt m.pack acts j
      columnSum m.fmt (arrD kind) key seed (fun i => draws i j) m.tile row k j m.add c
    else c)

/-- R171: some term of the row, of those cells that `met` names, has a NaN or an infinity. -/
def rowNonfin (kind : Nat) (m : MmOp) (acts : List (List Byte)) (met : Nat → Nat → Bool) : Bool :=
  (List.range (arrD kind)).any (fun j =>
    let (row, k) := columnRow kind m.fmt m.pack acts j
    (List.range (arrD kind)).any (fun i => met i j && (cellTerm m.fmt (arrD kind) m.tile row k i j).nonfin))

/-- The machine clk at which row t of an MM comes to the array's edge: of a BF16 row, its last wavefront (R176). -/
def MmOp.arrival (m : MmOp) (kind t : Nat) : Nat := m.final0 + t * m.step - 1 - 2 * arrD kind

/-- R171: some row of an MM, read and not final, has formed a term with a NaN or an infinity before a machine clk. -/
def MmOp.nonfinBefore (kind : Nat) (m : MmOp) (clk : Nat) : Bool :=
  m.acts.any (fun p => rowNonfin kind m p.2 (fun i j => m.arrival kind p.1 + 1 + i + j < clk))

/-- R171: the first clk, behind that of its arrival, in which a row read and not final forms such a term. -/
def MmOp.nonfinAt (kind : Nat) (m : MmOp) : Nat :=
  m.acts.foldl (fun b p =>
    match (List.range (2 * arrD kind)).find? (fun n => rowNonfin kind m p.2 (fun i j => i + j == n)) with
    | some n => min b (m.arrival kind p.1 + 1 + n)
    | none => b) (2 ^ 64)

/-- The columns of a row before its first pass: an OVERWRITE begins anew at E0 (R188), an ADD keeps the exponents of
a row that was written (R189). -/
def startCols (kind : Nat) (m : MmOp) (stored : Option (List AccEntry)) : List ColWork :=
  (List.range (arrD kind)).map (fun j =>
    match (if m.add then stored else none) with
    | some es => let x := es.getD j ⟨0, m.e0⟩; ⟨x.v, x.e, 0, false, none⟩
    | none => ⟨0, m.e0, 0, false, none⟩)

/-- R199: a stored value at an exponent 4 higher, rounded by the foot's draw. -/
def rescale (v : Int) (u : Nat) : Int := alignTerm v 0 4 u

/-- R204: a column of a saturated row. Where an aligned term overflowed and no partial sum did, the rule states no
value. -/
def saturateCol (c : ColWork) : AccEntry :=
  if !c.ovf then ⟨c.v, c.e⟩
  else match c.dir with
    | some true => ⟨8388607, c.e⟩
    | some false => ⟨-8388608, c.e⟩
    | none => ⟨toSigned 24 (Config.satOpen c.v c.e), c.e⟩

/-- R188: the default starting exponent. -/
def defaultE0 (fmt : Nat) : Int := if fmt == 0 then 0 else if fmt == 2 then -8 else -12

/-! ### Drain conversion (R207, R187) -/

/-- R115: bytes per column of OFMT. -/
def ofmtBytes (ofmt : Nat) : Nat := if ofmt == 0 || ofmt == 5 then 4 else if ofmt == 1 || ofmt == 2 then 2 else 1

def ofmtFp (ofmt : Nat) : FpFmt :=
  if ofmt == 0 then fp32 else if ofmt == 1 then fp16 else if ofmt == 2 then bf16 else if ofmt == 3 then e4m3 else e5m2

/-- One entry converted, and whether it was saturated. -/
def drainEntry (ofmt : Nat) (x : AccEntry) : Nat × Bool :=
  if ofmt == 5 then (ofSigned 24 x.v * 256 + ofSigned 8 x.e, false)
  else
    let (w, fl) := (ofmtFp ofmt).roundDyadic true false x.v x.e
    (w, bit 2 fl)

/-- The bytes of a drained row, and the number of elements saturated. -/
def drainBytes (ofmt : Nat) (es : List AccEntry) : List Byte × Nat :=
  (es.foldr (fun x (acc : List Byte × Nat) =>
    let (w, s) := drainEntry ofmt x
    (leBytes (ofmtBytes ofmt) w ++ acc.1, acc.2 + boolBit s)) ([], 0))

end Sys2Proof.Machine
end

