-- ==== Sys2Proof/Machine/Completion.lean ====
section
/-! DEFINITION. Completion entries (R379, R397) and the interrupts that announce them (R502). -/
namespace Sys2Proof.Machine

def offQp : QueuePair := ⟨.disabled, false, 0, 0, 0, 0, 0, [], [], 0, false⟩

def Device.qp (d : Device) (q : Nat) : QueuePair := d.qm.qps.getD q offQp

def Device.setQp (d : Device) (q : Nat) (x : QueuePair) : Device := { d with qm := { d.qm with qps := d.qm.qps.set q x } }

/-- The registers of queue pair q. -/
def qpReg (a q : Nat) : Nat := a + 64 * q

def Device.cqLog (d : Device) (q : Nat) : Nat := d.fld (qpReg R.QM_QP_CTRL q) 19 16
def Device.sqLog (d : Device) (q : Nat) : Nat := d.fld (qpReg R.QM_QP_CTRL q) 23 20
def Device.qpCtx (d : Device) (q : Nat) : Nat := d.fld (qpReg R.QM_QP_CTRL q) 9 0
def Device.qpClass (d : Device) (q : Nat) : Nat := d.fld (qpReg R.QM_QP_CTRL q) 29 28
def Device.qpIrq (d : Device) (q : Nat) : Bool := d.fld (qpReg R.QM_QP_CTRL q) 27 27 == 1

/-- Difference of two free-running 16-bit indices. -/
def idxDiff (a b : Nat) : Nat := (a + 65536 - b % 65536) % 65536

/-- R502: send the MSG of a vector that is armed, which disarms it; one that would be sent while the link is DOWN is
not sent. -/
def Device.announce (d : Device) (q : Nat) : Device :=
  let x := d.qp q
  if x.armed && d.linkUp then (d.setQp q { x with armed := false }).send (.msg (16 + q)) else d

/-- R379: write one completion entry, its PHASE bit put into byte 5. -/
def Device.writeEntry (d : Device) (q : Nat) (entry : List Byte) : Device :=
  let x := d.qp q
  if x.lastErr == 3 then d else
  let n := 2 ^ d.cqLog q
  let phase := if (x.cqTail / n) % 2 == 0 then 1 else 0
  let e := entry.mapIdx (fun i b => if i == 5 then b ||| BitVec.ofNat 8 phase else b)
  let d := d.access q (.dwr (d.reg64 (qpReg R.QM_QP_CQ_BASE_LO q) + 64 * (x.cqTail % n)) e)
  (d.setQp q { x with cqTail := (x.cqTail + 1) % 65536 }).announce q

/-- R396: the completion sets BOUND; the interval of the promise ends when the request is prompt-ready. -/
def Request.bound (r : Request) : Bool := r.cls == 0 && r.inRes && r.boundOk && r.ready.isSome

/-- R397: a FINAL entry. -/
def finalEntry (tb : Timebase) (d : Device) (r : Request) : List Byte :=
  let (st, det) := statusOf r.conds
  sliceBytes (
    sliceBytes r.bytes 4 4 ++ leBytes 1 0 ++ leBytes 1 (boolBit r.bound * 2 + boolBit r.cut * 4) ++ leBytes 2 (d.qp r.qp).sqHead
    ++ leBytes 1 st ++ leBytes 1 det ++ leBytes 2 (condMask r.conds) ++ leBytes 4 (if fieldLe r.bytes 0 1 == 1 then r.result else r.ties)
    ++ leBytes 4 r.emitted ++ leBytes 4 r.stopIndex ++ leBytes 1 r.stopString ++ leBytes 1 r.passages ++ leBytes 2 0
    ++ leBytes 4 r.promptTokens
    ++ leBytes 4 (match r.ready with | some f => (f - r.admitted).toNat | none => 0xFFFFFFFF)
    ++ leBytes 4 r.deferred ++ leBytes 8 r.admitted.toNat ++ leBytes 8 tb.number.toNat) 0 64

/-- A request ends: its FINAL entry is written, and R396's miss is reported where BOUND is set. -/
def complete (tb : Timebase) (d : Device) (r : Request) : Device :=
  let (st, _) := statusOf r.conds
  let d := if st == 3 then d.inc R.QM_CANCELS else d
  let d := if r.bound && r.boundMiss
    then (d.inc R.QM_BOUND_MISSES).raiseCtx 0x0B07 r.ctx [(4, fieldLe r.bytes 4 4)] else d
  d.writeEntry r.qp (finalEntry tb d r)

/-- An admitted request ends. -/
def endReq (tb : Timebase) (rid : Nat) (d : Device) : Device :=
  match d.req? rid with
  | none => d
  | some r => complete tb { d with qm := { d.qm with reqs := d.qm.reqs.del rid } } r

/-- The same, but that of a context in reset waits for the boundary that ends the reset (R401). -/
def completeReq (tb : Timebase) (rid : Nat) (d : Device) : Device :=
  match d.req? rid with
  | none => d
  | some r => if (d.ctx r.ctx).st == .resetting then d else endReq tb rid d

end Sys2Proof.Machine
end

