-- ==== Sys2Proof/Machine/Plots.lean ====
section
/-! DEFINITION. Plot images and the plot directory (03_plots_and_sowing, R56 to R64): the header, the footprint and
the handoff declarations read from the Central Store, the checks of R62 in order, loading and unloading. -/
namespace Sys2Proof.Machine

/-- R59: one footprint entry of 256 bits. -/
def readFp (w : Nat) : FpEntry :=
  ⟨bits 255 249 w, bits 248 241 w, bits 240 233 w, bits 232 217 w, bits 216 185 w, bit 184 w, bits 183 168 w, bits 167 152 w⟩

/-- R61: one handoff declaration of 32 B. -/
def readDecl (l : List Byte) : HoDecl :=
  ⟨fieldLe l 0 1, fieldLe l 1 1, bit 0 (fieldLe l 2 2), fieldLe l 4 2, fieldLe l 8 8, fieldLe l 0x10 4, fieldLe l 0x14 4⟩

/-- R56: the plot that an image describes; `wins` are the context's windows. -/
def readPlot (m : Memory) (base : Nat) (wins : List Window) (groups : List (List Nat)) : Plot :=
  let h := m.readBytes base 256
  let f := fieldLe h
  let fpN := f 0x14 2
  let hoN := f 0x0F 1
  { base := base, imgLen := f 0x2C 4 + 32 * f 0x08 4, length := f 0x04 4, bundles := f 0x08 4, die := f 0x0C 1,
    decode := f 0x0D 1 == 1, replayRes := f 0x0E 1, replayClk := f 0x10 4, winUsed := f 0x16 2, winLocal := f 0x18 4,
    bundleOff := f 0x2C 4, seed := f 0x30 8,
    fps := (List.range fpN).map (fun i => readFp (m.readLe (base + f 0x24 4 + 32 * i) 32)),
    decls := (List.range hoN).map (fun i => readDecl (m.readBytes (base + f 0x28 4 + 32 * i) 32)),
    wins := wins, groups := groups, unloading := false }

/-- The offsets of a header that R56 lists no byte at. -/
def hdrReserved (i : Nat) : Bool := (0x22 ≤ i && i < 0x24) || (0x38 ≤ i && i < 0x40) || 0x80 ≤ i

def bandsOf (length : Nat) : Nat := (length + 1249) / 1250

/-- Check 1 of R62, with R206. -/
def hdrOk (h : List Byte) : Bool :=
  let f := fieldLe h
  let len := f 0x04 4
  let local_ := f 0x18 4
  let offOk (off : Nat) : Bool := off % 64 == 0 && 256 ≤ off
  f 0 2 == 1 && f 2 2 == 256 && 1250 ≤ len && len ≤ 156250 && 1 ≤ f 8 4 && f 8 4 ≤ len && f 0xC 1 ≤ 3 && f 0xD 1 ≤ 1
    && f 0xF 1 ≤ 8 && 1 ≤ f 0x14 2 && f 0x14 2 ≤ 125
    && (List.range 16).all (fun w =>
      let l := bits (2 * w + 1) (2 * w) local_
      if bit w (f 0x16 2) then l == 1 || l == 2 else l == 0)
    && offOk (f 0x24 4) && offOk (f 0x28 4) && offOk (f 0x2C 4)
    && f 0x24 4 + 32 * f 0x14 2 ≤ f 0x28 4 && f 0x28 4 + 32 * f 0xF 1 ≤ f 0x2C 4
    && (List.range 256).all (fun i => !hdrReserved i || byteAt h i == 0)
    && (f 0xE 1 == 0 || (if 0 < f 0x1C 1 then 519 else 263) ≤ f 0x10 4)

/-- Check 2 of R62 (R2): the resource parameters are within GX12's own. -/
def resourcesOk (h : List Byte) : Bool :=
  fieldLe h 0x1C 1 ≤ 8 && fieldLe h 0x1D 1 ≤ 8 && fieldLe h 0x1E 1 ≤ 16 && fieldLe h 0x1F 1 ≤ 32 && fieldLe h 0x20 1 ≤ 16
    && fieldLe h 0x21 1 ≤ 1

/-- Check 3 of R62 (R58, R59). -/
def footprintOk (h : List Byte) (raw : List Nat) (p : Plot) : Bool :=
  let f := fieldLe h
  raw.all (fun w => bits 151 0 w == 0)
    && p.fps.all (fun e =>
      1 ≤ e.run && e.run ≤ 125 && e.arrP < 2 ^ f 0x1C 1 && e.arrD < 2 ^ f 0x1D 1 && e.trowel < 2 ^ f 0x1E 1
        && e.rake < 2 ^ f 0x1F 1 && e.ports < 2 ^ f 0x20 1 && (!e.bitonic || f 0x21 1 == 1)
        && (if p.decode then e.arrP == 0 else e.arrD == 0)
        && (List.range 16).all (fun w => !bit w e.windows || bit w p.winUsed))
    && !(p.decode && p.fps.all (fun e => e.arrD == 0) && p.fps.any (fun e => e.trowel != 0 || e.rake != 0))
    && (p.fps.map (·.run)).sum == bandsOf p.length

/-- Check 4 of R62. -/
def windowsDefined (p : Plot) : Bool :=
  (List.range 16).all (fun w => !bit w p.winUsed || (p.wins.getD w noWindow).tier == 1)

/-- Check 5 of R62. -/
def localityOk (p : Plot) : Bool :=
  let sliceLo := csBase + p.die * 2 ^ 32
  (List.range 16).all (fun w =>
    let x := p.wins.getD w noWindow
    !bit w p.winUsed ||
      (if bits (2 * w + 1) (2 * w) p.winLocal == 1 then within x.base x.size sliceLo (2 ^ 32)
       else !overlaps x.base x.size sliceLo (2 ^ 32)))

/-- The bundles of an image. -/
def Plot.bundle (p : Plot) (m : Memory) (i : Nat) : Nat := m.readLe (p.base + p.bundleOff + 32 * i) 32

/-- Check 6 of R62 (R227). -/
def rakeRowsOk (m : Memory) (p : Plot) : Bool :=
  (List.range p.bundles).all (fun i =>
    let w := (decodeBundle (p.bundle m i)).rake
    bits 47 44 w == 0 || (decodeRake w).accepted)

/-- R61 of one declaration, and the place of its landing area in its window. -/
def declOk (wins : List Window) (raw : List Byte) (x : HoDecl) : Bool :=
  let w := wins.getD x.window noWindow
  x.kind ≤ 4 && x.window ≤ 15 && fieldLe raw 2 2 ≤ 1 && 1 ≤ x.deadlineRel && x.deadlineRel ≤ 1024 && x.landingOff % 64 == 0
    && 64 ≤ x.stride && x.stride ≤ 1048576 && x.stride % 64 == 0 && 1 ≤ x.itemsMax && x.itemsMax ≤ 1048576
    && fieldLe raw 6 2 == 0 && fieldLe raw 0x18 8 == 0
    && w.perm && w.holds x.landingOff (landingLen x.itemsMax x.stride)

/-- The plots a context holds loaded. -/
def Device.plotsOf (d : Device) (c : Nat) : List Nat := (d.plots.dir.filter (fun p => p.1 / 65536 == c)).map (·.1)

/-- ARR_SOW_CTRL.PLOT_LIMIT; 0 is treated as 1. -/
def Device.plotLimit (d : Device) : Nat := max 1 (d.fld R.ARR_SOW_CTRL 23 16)

/-- R62: the checks of a load in order: the detail of the first that fails. -/
def loadCheck (d : Device) (c : Nat) (w : Window) (off : Nat) : Option Nat :=
  let base := w.base + off
  let h := d.mem.readBytes base 256
  let wins := (d.ctx c).all
  let p := readPlot d.mem base wins []
  let rawFp := (List.range (fieldLe h 0x14 2)).map (fun i => d.mem.readLe (base + fieldLe h 0x24 4 + 32 * i) 32)
  let rawHo := (List.range (fieldLe h 0xF 1)).map (fun i => d.mem.readBytes (base + fieldLe h 0x28 4 + 32 * i) 32)
  if !(off % 64 == 0 && w.holds off 256 && hdrOk h && w.holds off p.imgLen) then some 0x40
  else if !resourcesOk h then some 0x42
  else if !footprintOk h rawFp p then some 0x43
  else if !windowsDefined p then some 0x44
  else if !localityOk p then some 0x45
  else if !rakeRowsOk d.mem p then some 0x47
  else if !(rawHo.all (fun r => declOk wins r (readDecl r))) then some 0x48
  else if 8192 ≤ d.plots.dir.length || d.plotLimit ≤ (d.plotsOf c).length then some 0x46
  else none

/-- R63: the lowest handle that no plot of the context holds. -/
def freeHandle (d : Device) (c : Nat) : Nat := ((d.plots.dir.leastFree (65536 * c) 8193).getD (65536 * c)) - 65536 * c

/-- R62, R63: load a plot for a request: its result is the handle, or REJECTED with the detail. -/
def plotLoad (tb : Timebase) (req : Nat) (d : Device) : Device :=
  match d.req? req with
  | none => d
  | some q =>
    if fieldLe q.bytes 0 1 != 1 then d else
    let w := (d.ctx q.ctx).win (fieldLe q.bytes 2 1)
    let off := fieldLe q.bytes 0x40 8
    match loadCheck d q.ctx w off with
    | some det =>
      completeReq tb req ((d.cond req 0x0E det).raiseCtx 0x0201 q.ctx [(1, det)])
    | none =>
      let wins := (d.ctx q.ctx).all
      let p := readPlot d.mem (w.base + off) wins (wins.map d.groupsOf)
      let h := freeHandle d q.ctx
      let d := { d with plots := { d.plots with dir := d.plots.dir.set (65536 * q.ctx + h) p } }
      completeReq tb req (d.updReq req (fun q => { q with result := h }))

/-- PLOT_LOAD (R62). -/
def execPlotLoad (req : Nat) (s : State) : Host.Outcome State Fault Refusal := .next (s.onDev (fun tb d => plotLoad tb req d))

/-- R63: some instance of a plot runs, or is placed in a frozen sowing; or a loaded model slot names it (R349). -/
def Device.plotInUse (d : Device) (key : Nat) : Bool :=
  d.plots.runs.any (fun p => 65536 * p.2.ctx + p.2.handle == key)
    || d.plots.sown.any (fun p => 65536 * p.ctx + p.handle == key)
    || (d.plots.frozen.getD []).any (fun p => 65536 * p.ctx + p.handle == key)
    || d.seq.models.any (fun m => d.fld (inst R.SEQ_MDL_CFG m.1) 9 0 == key / 65536
      && (m.2.pre ++ m.2.resid ++ m.2.streamed).any (fun e => e.1 == key % 65536))

/-- R63: unloads that were accepted take effect once no instance of their plot is left; the PLOT_UNLOAD requests
that wait for them end (R385). -/
def settleUnloads (tb : Timebase) (d : Device) : Device :=
  let gone := (d.plots.dir.filter (fun p => p.2.unloading && !d.plotInUse p.1)).map (·.1)
  let d := { d with plots := { d.plots with dir := d.plots.dir.filter (fun p => !gone.contains p.1) } }
  let ends := d.qm.reqs.filter (fun p => fieldLe p.2.bytes 0 1 == 2
    && gone.contains (65536 * p.2.ctx + fieldLe p.2.bytes 0x40 2))
  ends.foldl (fun d p => completeReq tb p.1 d) d

/-- R63: the handle of a PLOT_UNLOAD counts as not loaded from its admission on. -/
def plotUnload (tb : Timebase) (req : Nat) (d : Device) : Device :=
  match d.req? req with
  | none => d
  | some q =>
    if fieldLe q.bytes 0 1 != 2 then d else
    let key := 65536 * q.ctx + fieldLe q.bytes 0x40 2
    settleUnloads tb { d with plots := { d.plots with dir := d.plots.dir.upd key (fun p => { p with unloading := true }) } }

/-- PLOT_UNLOAD (R63). -/
def execPlotUnload (req : Nat) (s : State) : Host.Outcome State Fault Refusal := .next (s.onDev (fun tb d => plotUnload tb req d))

/-- R64: a handle that a request of a context may name. -/
def Device.loaded (d : Device) (c h : Nat) : Bool :=
  match d.plots.dir.get? (65536 * c + h) with
  | some p => !p.unloading
  | none => false

/-- R70: the array-bands of a plot. -/
def popCount (n w : Nat) : Nat := ((List.range n).filter (fun i => bit i w)).length

def Plot.arrayBands (p : Plot) : Nat := (p.fps.map (fun e => e.run * (popCount 8 e.arrP + popCount 8 e.arrD))).sum

/-- The footprint entry of a band counted from the start of the plot. -/
def fpAt : List FpEntry → Nat → FpEntry
  | [], _ => ⟨0, 0, 0, 0, 0, false, 0, 0⟩
  | e :: t, b => if b < e.run then e else fpAt t (b - e.run)

end Sys2Proof.Machine
end

