-- ==== Sys2Proof/Machine/Select.lean ====
section
/-! DEFINITION. The selection of the rake (08_trowel_cores_and_rake): entries, their order, blocks, ties,
duplicates, and the result list with its header. -/
namespace Sys2Proof.Machine

/-- SFMT of R116: bytes of a score in a row of elements. -/
def sfmtBytes (f : Nat) : Nat := if f == 0 || f == 3 then 4 else if f == 4 then 1 else 2

def sfmtFp (f : Nat) : FpFmt := if f == 0 then fp32 else if f == 1 then fp16 else if f == 2 then bf16 else e4m3

/-- A score as a number; none where it is a NaN (R217). -/
def scoreVal (f w : Nat) : Option FpVal :=
  if f == 3 then
    let v := toSigned 32 w
    some (.fin (decide (v < 0)) v.natAbs 0)
  else match (sfmtFp f).decode (w % 2 ^ (8 * sfmtBytes f)) with
    | .nan => none
    | v => some v

/-- An entry that the rake ranks: its score field and value, the secondary key (index, or shard), the position, and
the passage ID of a MERGE. -/
structure RakeEnt where
  score : Nat
  val : FpVal
  key : Nat
  pos : Nat
  id : Nat
  deriving DecidableEq, Repr

def sameScore (a b : FpVal) : Bool := a.le b == some true && b.le a == some true

/-- R216: a ranks before b. -/
def RakeEnt.before (mn : Bool) (a b : RakeEnt) : Bool :=
  if sameScore a.val b.val then a.key < b.key || (a.key == b.key && a.pos < b.pos)
  else if mn then a.val.le b.val == some true else b.val.le a.val == some true

def insertEnt (mn : Bool) (x : RakeEnt) : List RakeEnt → List RakeEnt
  | [] => [x]
  | y :: t => if y.before mn x then y :: insertEnt mn x t else x :: y :: t

def sortEnts (mn : Bool) (l : List RakeEnt) : List RakeEnt := l.foldl (fun a x => insertEnt mn x a) []

/-- The running set of a pass: entries in rank order, entries dropped at the last score, duplicates removed. -/
structure RunSet where
  ents : List RakeEnt
  tie : Nat
  dups : Nat
  deriving DecidableEq, Repr

/-- Keep the first entry of each passage ID of a ranked list (R218). -/
def dedupe : List RakeEnt → List RakeEnt
  | [] => []
  | x :: t => x :: (dedupe t).filter (fun y => y.id != x.id)

/-- R218: one block enters the running set of at most `cap` entries. -/
def blockStep (merge mn : Bool) (cap : Nat) (r : RunSet) (blk : List RakeEnt) : RunSet :=
  let b := sortEnts mn blk
  let b' := if merge then dedupe b else b
  let d0 := b.length - b'.length
  let all := sortEnts mn (r.ents ++ b')
  let all' := if merge then dedupe all else all
  let d1 := all.length - all'.length
  let kept := all'.take cap
  let lost := all'.drop cap
  match kept.getLast? with
  | none => ⟨kept, 0, r.dups + d0 + d1⟩
  | some z =>
    let same := match r.ents.getLast? with
      | some y => sameScore y.val z.val
      | none => false
    let n := (lost.filter (fun x => sameScore x.val z.val)).length
    ⟨kept, (if same then r.tie else 0) + n, r.dups + d0 + d1⟩

/-- The blocks of a pass: the elements read in 16 consecutive stream clks (R218). -/
def blocksOf (per : Nat) : Nat → List α → List (List α)
  | 0, _ => []
  | n + 1, l => if l.isEmpty then [] else l.take per :: blocksOf per n (l.drop per)

/-- What a selection found. -/
structure Selection where
  ents : List RakeEnt
  ties : Nat
  dups : Nat
  nan : Nat
  skipped : Nat
  deriving DecidableEq, Repr

/-- One element of a source row, or one entry of a MERGE list: none where it is invalid or fill. -/
def rakeEnt (merge : Bool) (f pos : Nat) (w : List Byte) : Option RakeEnt :=
  if merge then
    let id := fieldLe w 8 8
    if id == 2 ^ 64 - 1 then none
    else (scoreVal f (fieldLe w 0 4)).map (fun v => ⟨fieldLe w 0 4 % 2 ^ (8 * sfmtBytes f), v, fieldLe w 4 2, pos, id⟩)
  else (scoreVal f (ofLe w)).map (fun v => ⟨ofLe w, v, pos, pos, 0⟩)

def isFill (w : List Byte) : Bool := fieldLe w 8 8 == 2 ^ 64 - 1

/-- An element of a rake source: its size in bytes (R227). -/
def RakeOp.elemBytes (o : RakeOp) : Nat := if o.op == 3 then 16 else sfmtBytes o.sfmt

/-- R217: the fill entries that pass 1 of a MERGE read. -/
def RakeOp.fills (o : RakeOp) : Nat := if o.op == 3 then (o.pass1.filter (fun p => isFill p.2)).length else 0

/-- R217, R220: the invalid elements that pass 1 read. -/
def RakeOp.nans (o : RakeOp) : Nat :=
  (o.pass1.filter (fun p => (rakeEnt (o.op == 3) o.sfmt p.1 p.2).isNone)).length - o.fills

/-- The blocks of a pass with the valid entries of each. -/
def RakeOp.blocks (o : RakeOp) (l : Tbl (List Byte)) : List (List RakeEnt) :=
  (blocksOf (16 * o.lanes) (l.length + 1) l).map (fun b => b.filterMap (fun p => rakeEnt (o.op == 3) o.sfmt p.1 p.2))

/-- An operation with the blocks of each pass that were read whole. -/
def RakeOp.complete (o : RakeOp) : RakeOp :=
  let whole (l : Tbl (List Byte)) : Tbl (List Byte) := if o.len ≤ l.length then l else l.take (l.length / (16 * o.lanes) * (16 * o.lanes))
  { o with pass1 := whole o.pass1, pass2 := whole o.pass2 }

/-- R224: the entries of a ranked list with the score of one. -/
def tiedWith (ents : List RakeEnt) (z : RakeEnt) : Nat := (ents.filter (fun x => sameScore x.val z.val)).length

/-- R218, R220: one block of pass 2: its entries that rank after entry 512 of pass 1, without the passages of the pass-1
result. -/
def blockStep2 (merge mn : Bool) (r1 : List RakeEnt) (r : RunSet) (blk : List RakeEnt) : RunSet :=
  let b := blk.filter (fun x => match r1.getLast? with
    | some z => z.before mn x
    | none => false)
  let known (x : RakeEnt) : Bool := merge && r1.any (fun y => y.id == x.id)
  -- duplicates within the block are counted before those of the pass-1 result
  let kept := if merge then dedupe (sortEnts mn b) else b
  let r' := blockStep merge mn 512 r (kept.filter (fun x => !known x))
  { r' with dups := r'.dups + (b.length - kept.length) + (kept.filter known).length }

/-- R219, R218, R220: the selection of an operation over the elements its reads returned. -/
def selectRake (o : RakeOp) : Selection :=
  let merge := o.op == 3
  let b1 := o.blocks o.pass1
  let r1 := b1.foldl (blockStep merge o.min (if o.op == 1 then 1 else min o.k 512)) ⟨[], 0, 0⟩
  let ties1 := match r1.ents.getLast? with
    | some z => tiedWith r1.ents z + r1.tie
    | none => 0
  if o.k ≤ 512 || r1.ents.length < 512 || b1.flatten.length ≤ 512 then ⟨r1.ents, ties1, r1.dups, o.nans, o.fills⟩
  else
    let r2 := (o.blocks o.pass2).foldl (blockStep2 merge o.min r1.ents) ⟨[], 0, 0⟩
    let taken := r2.ents.take (o.k - 512)
    let ties := match taken.getLast? with
      | some z => tiedWith r1.ents z + tiedWith r2.ents z
          + (if (match r2.ents.getLast? with | some y => sameScore y.val z.val | none => false) then r2.tie else 0)
      | none => ties1
    ⟨r1.ents ++ taken, ties, r1.dups + r2.dups, o.nans, o.fills⟩

/-- R225: the score of a fill entry. -/
def worstScore (f : Nat) (mn : Bool) : Nat :=
  if f == 0 then (if mn then 0x7F800000 else 0xFF800000)
  else if f == 1 then (if mn then 0x7C00 else 0xFC00)
  else if f == 2 then (if mn then 0x7F80 else 0xFF80)
  else if f == 3 then (if mn then 0x7FFFFFFF else 0x80000000)
  else (if mn then 0x7E else 0xFE)

/-- R223: the bytes of a result entry. -/
def entBytes (merge : Bool) (x : RakeEnt) : List Byte :=
  if merge then leBytes 4 x.score ++ leBytes 2 x.key ++ leBytes 2 0 ++ leBytes 8 x.id
  else leBytes 4 x.key ++ leBytes 4 x.score

def fillBytes (merge : Bool) (f : Nat) (mn : Bool) : List Byte :=
  if merge then leBytes 4 (worstScore f mn) ++ leBytes 2 0xFFFF ++ leBytes 2 0 ++ leBytes 8 (2 ^ 64 - 1)
  else leBytes 4 0xFFFFFFFF ++ leBytes 4 (worstScore f mn)

/-- R222: the header and the entries of a result, padded to a multiple of 64 B. -/
def rakeResult (o : RakeOp) (s : Selection) : List Byte :=
  let merge := o.op == 3
  let flags := boolBit o.min + (if 512 < o.k then 2 else 0) + (if merge then 4 else 0) + (if o.op == 1 then 8 else 0)
  let hdr := leBytes 4 s.ents.length ++ leBytes 4 s.ties ++ leBytes 4 s.dups ++ leBytes 4 s.nan ++ leBytes 4 s.skipped
    ++ leBytes 4 o.len ++ leBytes 2 o.k ++ leBytes 1 o.sfmt ++ leBytes 1 flags
  let body := (s.ents.map (entBytes merge)).flatten
    ++ (List.replicate (o.k - s.ents.length) (fillBytes merge o.sfmt o.min)).flatten
  let all := sliceBytes hdr 0 64 ++ body
  all ++ List.replicate ((64 - all.length % 64) % 64) 0

end Sys2Proof.Machine
end

