-- ==== Sys2Proof/Machine/Runs.lean ====
section
/-! DEFINITION. A plot run (R65 to R68, R98 to R102): time, operations in flight, exceptions and aborts, the
start and the end of a run. -/
namespace Sys2Proof.Machine

def Device.run? (d : Device) (i : Nat) : Option Run := d.plots.runs.get? i

def Device.setRun (d : Device) (i : Nat) (r : Run) : Device := { d with plots := { d.plots with runs := d.plots.runs.set i r } }

/-- R200: elapsed clk of the plot. -/
def Run.elapsed (r : Run) : Nat := r.now + r.pauses

/-- The footprint entry of the current band. -/
def Run.fp (r : Run) : FpEntry := fpAt r.plot.fps (r.elapsed / 1250)

/-- R96: the latency of a window slot. -/
def Run.lat (r : Run) (w : Nat) : Nat := if bits (2 * w + 1) (2 * w) r.plot.winLocal == 2 then 38 else 6

def Run.areg (r : Run) (a : Nat) : Nat := (r.aregs.getD a 0).toNat

def Run.setAreg (r : Run) (a v : Nat) : Run := { r with aregs := r.aregs.set a (BitVec.ofNat 64 v) }

def Run.win (r : Run) (w : Nat) : Window := r.wins.getD w noWindow

/-- The device address of an offset of a window slot. -/
def Run.addr (r : Run) (w off : Nat) : Nat := (r.win w).base + off

def freshTile : WTile := ⟨none, []⟩

/-- R102: an array at plot start. -/
def freshArray : ArrayState :=
  { st := .down, upAt := 0, busyFrom := none, rampDue := 0, shadow := freshTile, active := freshTile, ldws := [], ldwLast := 0,
    wFree := 0, sFree := 0, dFree := 0, ops := [], rows := [], pendExp := none, streamed := [], passes := [], footDraws := [] }

def Run.arr (r : Run) (key : Nat) : ArrayState := r.arrays.getD key freshArray

def Run.setArr (r : Run) (key : Nat) (a : ArrayState) : Run := { r with arrays := r.arrays.set key a }

/-- R102: a trowel core at plot start. -/
def freshTrowel : Trowel := ⟨[], [], 0, 0, [], false, 0, [], 0, 0, 0, 0⟩

def Run.core (r : Run) (t : Nat) : Trowel := r.trowels.getD t freshTrowel

def Run.setCore (r : Run) (t : Nat) (x : Trowel) : Run := { r with trowels := r.trowels.set t x }

/-- A register of die `die` of a per-die block. -/
def dieReg (a die : Nat) : Nat := a + 0x10000 * die

/-- The machine clk of a run at a clk of the furrow (R200). -/
def Run.clkAt (r : Run) (o : Nat) : Nat := if r.replay.isSome then r.now else ((o : Int) - r.startOff - r.pauses).toNat

/-- R210 physical unit `i` of kind `k` (0 prefill, 1 decode, 2 trowel core, 3 lane, 4 port). -/
def Run.physOf (r : Run) (k i : Nat) : Nat := (r.phys.getD k []).getD i 0

/-! ### Exceptions (R130) -/

/-- R130: the detail codes in their order. BANK_CONFLICT comes last (R137). -/
def excOrder : List Nat := [0x5B, 0x41, 0x58, 0x59, 0x5A, 0x4A, 0x49, 0x4B, 0x5D, 0x5C, 0x5E, 0x5F, 0x62, 0x61, 0x60, detBankConflict]

/-- The exception that is reported among those that arise in one clk. -/
def firstExc (l : List Nat) : Option Nat := excOrder.find? (fun c => l.contains c)

def whenB (b : Bool) (c : Nat) : List Nat := if b then [c] else []

/-- R89 to R95, R67, R78: the checks of one memory operand, n bytes at an offset of a window slot. -/
def memExc (d : Device) (r : Run) (w off n : Nat) (write : Bool) : List Nat :=
  let x := r.win w
  let a := x.base + off
  whenB (!bit w r.fp.windows) 0x41
    ++ whenB (!((r.plot.wins.getD w noWindow).holds off n && x.holds off n)) 0x58
    ++ (if write && x.holds off n then
          whenB (!x.perm || !(r.plot.wins.getD w noWindow).perm) 0x59
            ++ whenB (d.inImage (some r.ctx) a n) 0x5A ++ whenB (d.inLanding (some r.ctx) a n) 0x4A
        else [])

/-! ### What arrays and the rake have counted (R171, R185, R231) -/

/-- R185: the busy clks of an array's stream and its clks out of DOWN that are not counted yet, up to elapsed clk `e` of
machine clk `t`; and the array with them counted. -/
def ArrayState.settle (e t : Nat) (x : ArrayState) : Nat × Nat × ArrayState :=
  let free := x.sFree + (e - t)
  let off := x.rampDue + (e - t)
  let till := if x.st == .rampDown then min e off else e
  (match x.busyFrom with
    | some b => min e free - b
    | none => 0,
   if x.st == .down then 0 else till - x.upAt,
   { x with
     busyFrom := x.busyFrom.bind (fun b => if free ≤ e then none else some (max b e))
     upAt := if x.st == .down then x.upAt else max x.upAt till })

/-- R185: an array of a run has its clks counted up to a clk. -/
def settleArray (key e t : Nat) (d : Device) (r : Run) : Device × Run :=
  let (busy, up, x) := (r.arr key).settle e t
  let lo (pf dc : Nat) : Nat := dieReg (if key / 8 == 0 then pf else dc) r.plot.die
  ((d.inc64 (lo R.ARR_P_BUSY_LO R.ARR_D_BUSY_LO) busy).inc64 (lo R.ARR_P_UP_LO R.ARR_D_UP_LO) up, r.setArr key x)

/-- R185: every array of a run has its clks counted up to a clk. -/
def settleArrays (e t : Nat) (d : Device) (r : Run) : Device × Run :=
  r.arrays.foldl (fun a p => settleArray p.1 e t a.1 a.2) (d, r)

/-- R470: the units that a warm reset stops in a run, at a clk of the furrow. -/
def Run.stop (o : Nat) (r : Run) : List Stopped :=
  let e := max ((o : Int) - r.startOff).toNat r.elapsed
  let t := if r.replay.isSome then r.now else e - r.pauses
  let arrays := r.arrays.map (fun p =>
    let (busy, up, x) := p.2.settle e t
    ⟨r.plot.die, p.1 / 8, r.physOf (p.1 / 8) (p.1 % 8), busy, up, o,
      if x.st == .down then o else if x.st == .rampDown then o + (x.rampDue - t) else o + 48⟩)
  let cores := (r.trowels.filter (fun p => p.2.running)).map (fun p => ⟨r.plot.die, 2, r.physOf 2 p.1, e - p.2.started, 0, o, o⟩)
  arrays ++ cores

/-- The clks of a stopped unit that are not counted at a clk of the furrow, and the unit with them counted. -/
def Stopped.settle (o : Nat) (x : Stopped) : Nat × Nat × Stopped :=
  let till := max x.since (min o x.due)
  (x.busy, x.up + (till - x.since), { x with busy := 0, up := 0, since := till })

/-- R185, R231: what a stopped unit has not counted is counted up to a clk of the furrow. -/
def Stopped.count (o : Nat) (d : Device) (x : Stopped) : Device :=
  let (busy, up, _) := x.settle o
  if x.kind == 2 then d.inc64 (dieReg R.TRW_BUSY_LO x.die) busy
  else if x.kind == 1 then (d.inc64 (dieReg R.ARR_D_BUSY_LO x.die) busy).inc64 (dieReg R.ARR_D_UP_LO x.die) up
  else (d.inc64 (dieReg R.ARR_P_BUSY_LO x.die) busy).inc64 (dieReg R.ARR_P_UP_LO x.die) up

/-- The stopped units that a test names are counted up to a clk of the furrow. -/
def Device.settleStopped (p : Stopped → Bool) (o : Nat) (d : Device) : Device :=
  { (d.plots.stopped.filter p).foldl (Stopped.count o) d with plots := { d.plots with
      stopped := d.plots.stopped.map (fun x => if p x then (x.settle o).2.2 else x) } }

/-- R470: the furrow ends, `len` clk long: the units that are DOWN by then leave. -/
def Device.carryStopped (len : Nat) (d : Device) : Device :=
  let d := d.settleStopped (fun _ => true) len
  { d with plots := { d.plots with
      stopped := (d.plots.stopped.filter (fun x => len < x.due)).map (fun x => { x with since := x.since - len, due := x.due - len }) } }

/-- R171: the MMs of a run that are not counted and in which a term with a NaN or an infinity has occurred: array and MM. -/
def Run.nonfinOpen (r : Run) : List (Nat × MmOp) :=
  r.arrays.flatMap (fun p => (p.2.ops.filter (fun m => !m.nonfin && m.nonfinBefore (p.1 / 8) r.now)).map (fun m => (p.1, m)))

/-- R171, R184: of them the one in which it occurred first; of several in one clk the one issued first. -/
def Run.nonfinFirst (r : Run) : Option (Nat × MmOp) :=
  (r.nonfinOpen.foldl (fun (b : Option (Nat × Nat × Nat × MmOp)) x =>
    let t := x.2.nonfinAt (x.1 / 8)
    match b with
    | some y => if t < y.1 || (t == y.1 && x.2.issue < y.2.1) then some (t, x.2.issue, x.1, x.2) else b
    | none => some (t, x.2.issue, x.1, x.2)) none).map (fun y => (y.2.2.1, y.2.2.2))

/-- R171: an MM in which a term with a NaN or an infinity has occurred is counted; the first of a run raises the event. -/
def nonfinite (key : Nat) (m : MmOp) (d : Device) (r : Run) : Device × Run :=
  let d := d.inc (dieReg R.ARR_NONFINITE r.plot.die)
  let first := r.nonfinFirst.getD (key, m)
  (if r.nonfinSeen then d
   else d.raiseDie 0x0401 r.plot.die r.ctx [(2, r.handle), (1, first.1 / 8), (1, first.1 % 8), (4, first.2.issuedAt)],
   { r with nonfinSeen := true })

/-- R171: at the end of a run, the MMs whose rows are not final: those in which such a term has occurred. -/
def nonfinLeft (d : Device) (r : Run) : Device × Run :=
  r.nonfinOpen.foldl (fun a x => nonfinite x.1 x.2 a.1 a.2) (d, r)

/-- R230, R231: what a rake operation found is counted: NaN, duplicates; the first NaN of a run raises the event. -/
def rakeCounted (o : RakeOp) (sel : Selection) (d : Device) (r : Run) : Device × Run :=
  let die := r.plot.die
  let d := (d.incBy (dieReg R.RAKE_NAN die) sel.nan).incBy (dieReg R.RAKE_DUPS die) sel.dups
  let first := 0 < sel.nan && !r.nanSeen
  (if first then d.raiseDie 0x0501 die r.ctx [(2, r.handle), (1, o.op), (4, sel.nan), (4, r.elapsed)] else d,
   { r with nanSeen := r.nanSeen || first })

/-- R231: an operation is complete: its counters rise, TIES is kept (R229), and the rake goes on without it. -/
def rakeComplete (o : RakeOp) (d : Device) (r : Run) : Device × Run :=
  let sel := selectRake o
  let (d, r) := rakeCounted o sel d r
  let d := d.inc (dieReg R.RAKE_OPS r.plot.die)
  (if 512 < o.k then d.inc (dieReg R.RAKE_TWO_PASS r.plot.die) else d,
   { r with rake := r.rake.erase o, lastTies := sel.ties })

/-- R117: the operation of the rake that is complete first; of two in one clk, the earlier one. -/
def Run.nextRake (r : Run) : Option RakeOp :=
  r.rake.foldl (fun b o => match b with
    | some x => if o.due < x.due then some o else b
    | none => some o) none

/-- R231: an abort finds operations that are complete by its clk; those that it cancels have read what they read, and a block that
is not complete has met no other (R218). -/
def rakeLeft (d : Device) (r : Run) : Device × Run :=
  r.rake.foldl (fun a o =>
    if o.due ≤ r.now then rakeComplete o a.1 a.2 else rakeCounted o { selectRake o.complete with nan := o.nans } a.1 a.2) (d, r)

/-- R68, R129: the plot is aborted at its current clk with a detail; `slot` is the slot or the trowel core concerned. -/
def abortRun (i detail slot : Nat) (d : Device) : Device :=
  match d.run? i with
  | none => d
  | some r =>
    if r.aborted.isSome then d else
    let running := r.trowels.filter (fun p => p.2.running)
    let (d, r) := settleArrays r.elapsed r.now d r
    let (d, r) := nonfinLeft d r
    let (d, r) := rakeLeft d r
    let r' := { r with
      aborted := some detail, pend := [], rake := [], replay := none, banks := [],
      arrays := r.arrays.mapVals (fun _ a => { a with
        busyFrom := none, ops := [], ldws := [],
        st := if a.st == .down then .down else .rampDown
        rampDue := if a.st == .rampDown then a.rampDue else r.now + 48 }),
      trowels := r.trowels.mapVals (fun _ t => { t with running := false }) }
    let d := d.setRun i r'
    let d := d.inc64 (dieReg R.TRW_BUSY_LO r.plot.die) ((running.map (fun p => r.elapsed - p.2.started)).sum)
    let d := d.inc (dieReg R.ARR_PSQ_ABORTS r.plot.die)
    let d := if detail == 0x41 then d.raiseDie 0x0202 r.plot.die r.ctx [(2, r.handle)] else d
    let d := d.raiseDie 0x0203 r.plot.die r.ctx [(2, r.handle), (1, detail), (4, r.elapsed), (1, slot)]
    d.ctxFault r.ctx (d.reqsOf r.req r.gen) detail

/-- An abort by a check of the whole plot: PLOT_ABORTED names a slot that the spec does not state. -/
def abortWhole (i detail : Nat) (d : Device) : Device := abortRun i detail (d.free.1.toNat % 256) d.free.2

/-! ### Operations in flight -/

/-- Put an effect in its place: by machine clk, then by the order of R100 (writes before reads), then behind those in flight:
of two writes of one address register in one clk, the later slot or the later issue wins (R99 names no winner: DESIGN CHOICE,
log entry 101). -/
def insertPend (x : Nat × Nat × Pend) : List (Nat × Nat × Pend) → List (Nat × Nat × Pend)
  | [] => [x]
  | y :: t => if y.1 < x.1 || (y.1 == x.1 && y.2.1 ≤ x.2.1) then y :: insertPend x t else x :: y :: t

/-- An effect at a clk. `order` is 0 to 15 for a write of trowel core t, 16 for the rake, 17 for the accumulation
slot, 18 for the store-move slot (later ones win), 32 for reads. -/
def Run.at (r : Run) (clk order : Nat) (p : Pend) : Run := { r with pend := insertPend (clk, order, p) r.pend }

/-- One access (clk, bank) joins the occupancies; one that meets its bank occupied goes to the clashes. -/
def addOcc (b : Tbl (List Nat) × List (Nat × Nat)) (p : Nat × Nat) : Tbl (List Nat) × List (Nat × Nat) :=
  let l := b.1.getD p.1 []
  if l.contains p.2 then (b.1, p :: b.2) else (b.1.set p.1 (p.2 :: l), b.2)

/-- R137: the accesses of an operation are added; a bank met twice in one clk is a conflict at that clk. -/
def Run.occupy (r : Run) (acc : List (Nat × Nat)) : Run :=
  let (b, clash) := acc.foldl addOcc (r.banks.filter (fun p => r.now ≤ p.1), [])
  clash.reverse.eraseDups.foldl (fun r p => r.at p.1 40 (.conflict p.2)) { r with banks := b }

/-- The occupancies of reads of 64-byte units that start at given clks (R137: 4 clk before the data returns). -/
def readOcc (d : Device) (lat : Nat) (us : List (Nat × Nat)) : List (Nat × Nat) :=
  us.map (fun u => (u.1 + lat - 4, d.bankOf u.2))

/-- The occupancies of writes of units visible at given clks. -/
def writeOcc (d : Device) (us : List (Nat × Nat)) : List (Nat × Nat) := us.map (fun u => (u.1 - 4, d.bankOf u.2))

/-- The 64-byte units of n bytes at an address. -/
def unitsOf (a n : Nat) : List Nat := if n == 0 then [] else (List.range ((a + n - 1) / 64 - a / 64 + 1)).map (fun i => 64 * (a / 64 + i))

/-- The bytes of a row of an accumulator; a row no MM has written holds 0 (R107). -/
def ArrayState.row (a : ArrayState) (kind x : Nat) : List AccEntry :=
  a.rows.getD x (List.replicate (arrD kind) ⟨0, 0⟩)

/-- Change the last element of a list. -/
def updLast (f : α → α) : List α → List α
  | [] => []
  | [x] => [f x]
  | x :: t => x :: updLast f t

/-- A byte a plot reads. What an open landing area gives is undefined until the handoff closes (R78). -/
def plotByte (d : Device) (r : Run) (clk a : Nat) : Byte :=
  match d.plots.handoffs.find? (fun p => overlaps a 1 p.2.addr p.2.len) with
  | some p => BitVec.ofNat 8 (Config.openLanding p.1 r.req clk a)
  | none => d.mem.read a

/-- The bytes a plot reads at a machine clk. -/
def plotRead (d : Device) (r : Run) (clk a n : Nat) : List Byte :=
  if d.inLanding none a n then (List.range n).map (fun k => plotByte d r clk (a + k)) else d.mem.readBytes a n

/-- R137, R166: the bank conflicts of a clk are counted and reported. -/
def countConflicts (r : Run) (banks : List Nat) (d : Device) : Device :=
  banks.foldl (fun d b => (d.inc R.STORE_CONFLICTS).raiseDie 0x0302 r.plot.die r.ctx [(2, r.handle), (2, b)]) d

/-- The bank conflicts of a machine clk that have not been met. -/
def Run.clashes (r : Run) (clk : Nat) : List Nat :=
  r.pend.filterMap (fun p => match p.2.2 with
    | .conflict b => if p.1 == clk then some b else none
    | _ => none)

/-- The units of a rake result come visible one a clk, from this clk on. -/
def rakeWrites (clk units : Nat) (o : RakeOp) (r : Run) : Run :=
  let res := rakeResult o (selectRake o)
  (List.range units).foldl (fun r k => r.at (clk + k) 16 (.store (o.dst + 64 * k) (sliceBytes res (64 * k) 64))) r

/-- One effect of an operation in flight. -/
def applyPend (i clk : Nat) (d : Device) (r : Run) (p : Pend) : Device × Run :=
  match p with
  | .areg a v => (d, r.setAreg a v)
  | .store a data => ({ d with mem := d.mem.writeBytes a data }, r)
  | .copyUnit src dst vis => (d, r.at vis 18 (.store dst (plotRead d r clk src 64)))
  | .ldwRead key issue a n =>
    let x := r.arr key
    let data := plotRead d r clk a n
    (d, r.setArr key { x with ldws := x.ldws.map (fun l => if l.issue == issue then { l with buf := l.buf ++ data } else l) })
  | .mmRead key issue row srcs =>
    let x := r.arr key
    let acts := srcs.map (fun s => plotRead d r clk s.1 s.2)
    (d, r.setArr key { x with ops := x.ops.map (fun m => if m.issue == issue then { m with acts := m.acts.set row acts } else m) })
  | .drainRow key ofmt row dst vis =>
    let (data, n) := drainBytes ofmt ((r.arr key).row (key / 8) row)
    (d.incBy (dieReg R.ARR_ACC_DRAIN_SAT r.plot.die) n, r.at vis 17 (.store dst data))
  | .rakeRead pass first n =>
    let step (o : RakeOp) : RakeOp :=
      let sz := o.elemBytes
      let es := (List.range n).map (fun j => (first + j, plotRead d r clk (o.src + (first + j) * sz) sz))
      if pass == 1 then { o with pass1 := o.pass1 ++ es } else { o with pass2 := o.pass2 ++ es }
    (d, { r with rake := updLast step r.rake })
  | .rakeCount n => (d.inc64 (dieReg R.RAKE_ELEMS_LO r.plot.die) n, r)
  | .rakeResult occEnd units =>
    (d, (r.rake.filter (fun o => o.occEnd == occEnd)).foldl (fun r o => rakeWrites clk units o r) r)
  | .packed q data => (d, { r with packs := r.packs.set q data })
  | .tload core off a =>
    let x := r.core core
    (d, r.setCore core { x with ibuf := (plotRead d r clk a 64).foldl (fun (b : Tbl Byte × Nat) v => (b.1.set b.2 v, b.2 + 1)) (x.ibuf, off) |>.1 })
  | .latch a b c e => (d, { r with latch := (a, b, c, e) })
  | .sexp key exp => (d, r.setArr key { r.arr key with pendExp := some exp })
  | .conflict bank =>
    let d' := countConflicts r (bank :: r.clashes clk) d
    let d' := abortWhole i detBankConflict (d'.setRun i { r with now := clk })
    (Device.raisedAt (r.startOff + r.pauses + clk).toNat d d', (d'.run? i).getD r)

/-- The writes that an effect adds to those in flight. -/
def Pend.adds : Pend → Nat
  | .copyUnit _ _ _ | .drainRow _ _ _ _ _ => 1
  | .rakeResult _ units => units
  | _ => 0

/-- The effects in flight, with those that they will add. -/
def Run.load (r : Run) : Nat := (r.pend.map (fun p => 1 + p.2.2.adds)).sum + 1

/-- Run the effects that fall before a machine clk, or in it with an order below `ord`. -/
def advance (i t ord : Nat) : Nat → Device → Run → Device × Run
  | 0, d, r => (d, r)
  | n + 1, d, r =>
    match r.pend with
    | [] => (d, r)
    | (c, o, p) :: rest =>
      if t < c || (t == c && ord ≤ o) then (d, r)
      else
        let (d, r) := applyPend i c d { r with pend := rest } p
        advance i t ord n d r

/-- Bring a run to a machine clk, in it up to an order. -/
def Device.runUpTo (d : Device) (i t ord : Nat) : Device :=
  match d.run? i with
  | none => d
  | some r =>
    let (d, r) := advance i t ord r.load d r
    d.setRun i { r with now := max r.now t }

/-- R177: the drain reads of a clk wait for the rows that are final at it. -/
def Pend.drains : Pend → Bool
  | .drainRow _ _ _ _ _ => true
  | _ => false

/-- The effects that fall before a machine clk or in it, but for its drain reads and its bank conflicts. -/
def advanceIn (i t : Nat) (d : Device) (r : Run) : Device × Run :=
  let wait := r.pend.filter (fun p => p.1 == t && p.2.2.drains)
  let (d, r) := advance i t 40 r.load d { r with pend := r.pend.filter (fun p => !(p.1 == t && p.2.2.drains)) }
  (d, if r.aborted.isSome then r else { r with pend := wait ++ r.pend })

/-- Bring a run to a machine clk, with all that falls in it but its bank conflicts, which give way to another exception of
the clk (R137), and its drain reads. -/
def Device.runTo (d : Device) (i t : Nat) : Device :=
  match d.run? i with
  | none => d
  | some r =>
    let (d, r) := advanceIn i t d r
    d.setRun i { r with now := max r.now t }

/-- The operations in flight of one run take the effects due by a clk of the furrow; the run issues nothing. -/
def catchUpRun (o : Int) (d : Device) (i : Nat) : Device :=
  match d.run? i with
  | none => d
  | some r =>
    if r.pend.isEmpty || r.replay.isSome || o < r.startOff + r.pauses then d
    else
      let (d, r) := advanceIn i (o - r.startOff - r.pauses).toNat d r
      d.setRun i r

/-- Every run but one stands, in what it has in flight, at a clk of the furrow. -/
def Device.catchUp (d : Device) (o : Int) (but : Option Nat) : Device :=
  ((d.plots.runs.map (·.1)).filter (fun i => but != some i)).foldl (catchUpRun o) d

/-- An instruction of a slot: the number of the slot, its checks and its effect. -/
structure SlotOp where
  slot : Nat
  chk : Device → Run → List Nat
  act : Timebase → Device → Run → Device × Run

/-! ### Start and end -/

/-- R66, R102: a placed plot starts in a slot of its sequencer. One that is `idle` (R68) runs nothing and holds its footprint,
and with it a slot, to its declared end (the slot a DESIGN CHOICE, log entry 99). -/
def startRun (tb : Timebase) (p : Placed) (idle : Bool) (d : Device) : Device :=
  match d.plots.dir.get? (65536 * p.ctx + p.handle) with
  | none => d
  | some plot =>
    let r : Run := {
      ctx := p.ctx, handle := p.handle, plot := plot, req := p.req, entry := p.entry, gen := p.gen, group := p.group,
      startOff := 1250 * p.band, wins := (d.ctx p.ctx).all, phys := p.phys,
      seed := if p.seed == 0 then plot.seed else p.seed,
      now := 0, pauses := 0, nextIssue := 0, waitClk := none, pc := 0,
      aregs := (List.range 16).map (fun i => if i < 8 then p.args.getD i 0 else 0),
      arrays := [], packs := [], latch := (0, 0, 0, 0), ports := [], rake := [], trowels := [], pend := [], banks := [],
      replay := none, replaysLeft := plot.replayRes, satSeen := false, nonfinSeen := false, nanSeen := false,
      lastTies := 0, aborted := if idle then some 0 else none, overrunChecked := false }
    let runs := d.plots.runs.set d.plots.nextRun r
    if idle then { d with plots := { d.plots with runs := runs, nextRun := d.plots.nextRun + 1 } } else
    let objs := ((r.wins.zip (List.range 16)).filter (fun w => bit w.2 plot.winUsed)).flatMap (fun w => d.objsIn w.1.base w.1.size)
    let d := objs.foldl (fun d o => d.use tb o) d
    let d := d.inc (dieReg R.ARR_PSQ_STARTS plot.die)
    { d with plots := { d.plots with runs := runs, nextRun := d.plots.nextRun + 1 } }

/-- R68: a plot of a context that faulted after it was placed does not start; its footprint stays idle. -/
def plotStart (n : Nat) (tb : Timebase) (d : Device) : Device :=
  match d.plots.sown[n]? with
  | none => d
  | some p => startRun tb p p.idle { d with plots := { d.plots with sown := d.plots.sown.eraseIdx n } }

/-- PLOT_START (R66): the placed plot number `n` of the sowing. -/
def execPlotStart (n : Nat) (s : State) : Host.Outcome State Fault Refusal := .next (s.onDev (plotStart n))

end Sys2Proof.Machine
end

