-- ==== Sys2Proof/Machine/Tier.lean ====
section
/-! DEFINITION. Objects, the pool and the tier mover (R143 to R166, R527, R528). -/
namespace Sys2Proof.Machine

/-! ### Pins (R151) -/

def Obj.meets (o : Obj) (a n : Nat) : Bool := o.tier != 3 && overlaps a n o.base o.span

def winMeets (o : Obj) (w : Window) : Bool := w.tier != 0 && o.meets w.base w.size

/-- R242: DATA_OBJECT of a header object, a sealed LPDDR object of KIND 3; none elsewhere. -/
def Device.dataObj (d : Device) (hdr : Nat) : Option Nat := match d.obj? hdr with
  | some o => if o.tier == 2 && o.kind == 3 then some (d.mem.readLe (o.base + 0x14) 2) else none
  | none => none

/-- R349: the objects that the registers of a model slot name: chain, area, pools, weights. -/
def Device.modelObjs (d : Device) (m : Nat) : List Nat :=
  let pools := [d.fld (inst R.SEQ_MDL_POOL_LO m) 15 0, d.fld (inst R.SEQ_MDL_POOL_LO m) 31 16,
    d.fld (inst R.SEQ_MDL_POOL_HI m) 15 0, d.fld (inst R.SEQ_MDL_POOL_HI m) 31 16]
  [d.fld (inst R.SEQ_MDL_CHAIN m) 15 0, d.fld (inst R.SEQ_MDL_AREA m) 15 0] ++ pools.take (d.fld (inst R.SEQ_MDL_CFG m) 26 25 + 1)
    ++ (if d.fld (inst R.SEQ_MDL_WEIGHTS m) 15 0 == 0 then [] else [d.fld (inst R.SEQ_MDL_WEIGHTS m) 15 0])

/-- R260: the version objects of a search: the header, the data and the tombstones. -/
def Search.binds (x : Search) (id : Nat) (o : Obj) : Bool :=
  x.data == id || o.meets x.hdrBase 4096 || (match x.tombBase with | some a => o.meets a 1 | none => false)

/-- R151: an object has a pin. -/
def Device.pinned (d : Device) (id : Nat) (o : Obj) : Bool :=
  d.qm.ctxs.any (fun c => c.2.wins.any (fun w => winMeets o w.2) || c.2.pendWins.any (fun w => winMeets o w.2)
      || c.2.held.any (fun h => o.meets h.1 h.2.1))
    || d.plots.runs.any (fun r => r.2.wins.any (winMeets o))
    || d.plots.dir.any (fun p => o.meets p.2.base p.2.imgLen)
    || d.plots.handoffs.any (fun h => h.2.pinned.contains id || h.2.srcRanges.any (fun x => o.meets x.1 x.2)
        || o.meets h.2.addr h.2.len)
    || d.store.ops.any (fun t => (t.op == 3 || t.op == 4) && t.src == id)
    || d.text.vocs.any (fun v => v.2.obj == id) || d.pasm.tpls.any (fun t => t.2.obj == id)
    || d.esp.grams.any (fun g => g.2.obj == id || g.2.compiled == id)
    || d.seq.models.any (fun m => m.2.res == id || (d.modelObjs m.1).contains id)
    || d.seq.grafts.any (fun g => d.fld (inst R.SEQ_GRF_CFG g.1) 15 0 == id)
    || d.qm.reqs.any (fun r => r.2.bindings.any (fun b => b.2.1 == id || b.2.2.1 == id || d.dataObj b.2.1 == some id))
    || (d.sieve.waiting ++ d.sieve.searches.map (·.2)).any (fun x => x.shard.isSome && x.binds id o)
    || d.brx.jobs.any (fun j => j.2.kind == 2 && j.2.obj == id)

/-! ### Pages -/

def Device.setPage (d : Device) (p : Nat) (o : PageOwner) : Device :=
  let d := { d with mem := d.mem.zero (pageBase p) 0x200000 }
  { d with store := { d.store with pages := if o == .free then d.store.pages.del p else d.store.pages.set p o } }

def Device.takenPages (d : Device) : List Nat := (d.store.pages.filter (fun p => p.2 != .free)).map (·.1)

/-- The lowest run of `n` pages that a rising list of taken pages leaves free. -/
def freeRun (n : Nat) : List Nat → Nat → Option Nat
  | [], s => if s + n ≤ 8192 then some s else none
  | t :: ts, s => if s + n ≤ t then some s else freeRun n ts (t + 1)

def poolPages (size : Nat) : Nat := (size + 0x1FFFFF) / 0x200000

/-- Whether an object lies in the pool. -/
def Obj.inPool (o : Obj) : Bool := o.tier == 1 && o.st != .shareObject && o.src != 0

def Device.dropObj (d : Device) (id : Nat) : Device := { d with store := { d.store with objects := d.store.objects.del id } }

def Device.freePool (d : Device) (id : Nat) : Device :=
  let ps := (d.store.pages.filter (fun p => p.2 == .pool id)).map (·.1)
  ps.foldl (fun d p => d.setPage p .free) (d.dropObj id)

/-- R28, R158: the object that is evicted next: unpinned, the oldest LAST_USE, then the lower ID. An object that a FILL is
still making is none. -/
def Device.victim (d : Device) : Option Nat :=
  let c := d.store.objects.filter (fun p => p.2.inPool && p.2.st != .sealing && !d.pinned p.1 p.2)
  let best := c.foldl (fun (b : Option (Nat × Obj)) p => match b with
    | none => some p
    | some q => if furLt p.2.lastUse q.2.lastUse then some p else some q) none
  best.map (·.1)

def tierDone (id r : Nat) (d : Device) : Device := d.raise 0x0305 [(2, id), (1, r)]

/-- An outstanding RELEASE of an object ends: the object is gone. -/
def Device.releaseEnds (d0 : Device) (id : Nat) (d : Device) : Device :=
  let mine (x : TierOp) : Bool := x.op == 5 && x.obj == id
  let d := { d with store := { d.store with ops := d.store.ops.filter (fun x => !mine x) } }
  if d0.store.ops.any mine then tierDone id 0 d else d

/-- R158 -/
def evict (id : Nat) (d : Device) : Device :=
  d.releaseEnds id (((d.freePool id).inc R.TIER_EVICTIONS).raise 0x0306 [(2, id)])

/-- R158: space for n pages; `fuel` bounds the evictions by the number of objects. -/
def allocPool (tb : Timebase) (n : Nat) : Nat → Device → Option Nat × Device
  | 0, d => (none, d)
  | fuel + 1, d =>
    match freeRun n d.takenPages 0 with
    | some s => (some s, d)
    | none => match d.victim with
      | none => (none, d)
      | some v => allocPool tb n fuel (evict v d)

/-! ### Commands (R159 to R161, R527) -/

def cmdWord (d : Device) (i : Nat) : Nat := d.reg (R.TIER_CMD_W0 + 4 * i)

/-- OP of the command words. -/
def cmdOp (d : Device) : Nat := bits 31 24 (cmdWord d 0)

/-- R160: the bits that a command's words may use. NAMESPACE is taken, as the slot mask is, to be a field of a FLASH CREATE
alone: elsewhere it must be 0 (DESIGN CHOICE, log entry 155). -/
def cmdMask (op tier : Nat) : List Nat :=
  if op == 1 then
    (if tier == 3 then [0xFFFF83FF, 0xFFFF00F3, 0xFFFFFFFF, 0xFFFFFFFF, 0, 0, 0, 0]
     else [0xFFFF83FF, 0x00000003, 0xFFFFFFFF, 0xFFFFFFFF, 0xFFFFFFFF, 0xFFFFFFFF, 0, 0])
  else if op == 2 || op == 5 then [0xFF000000, 0xFFFF, 0, 0, 0, 0, 0, 0]
  else if op == 3 then [0xFF000000, 0xFFFFFFFF, 0xFFFFFFFF, 0xFFFFFFFF, 0xFFFFFFFF, 0xFFFFFFFF, 0xFFFFFFFF, 0xFFFFFFFF]
  else [0xFF0083FF, 0xFFFF, 0, 0, 0, 0, 0, 0]

/-- Some reserved field of the command is not 0. -/
def cmdReserved (d : Device) (op : Nat) : Bool :=
  let m := cmdMask op (bits 1 0 (cmdWord d 1))
  (List.range 8).any (fun i => Nat.land (cmdWord d i) (m.getD i 0) != cmdWord d i)

def cmd64 (d : Device) (i : Nat) : Nat := cmdWord d i + 2 ^ 32 * cmdWord d (i + 1)

def queueFull (d : Device) : Bool := 64 ≤ d.store.ops.length

/-- The command's acceptance: a result, an object, and the device after its effect. -/
abbrev CmdResult := Nat × Nat × Device

/-- The first failing check of R527. -/
def firstFail (l : List (Bool × Nat)) : Option Nat := (l.find? (fun c => c.1)).map (·.2)

/-- R415: the pages of a namespace charged on a slot. -/
def Device.nsUsed (d : Device) (ns s : Nat) : Nat :=
  let mine (o : Obj) : Bool := o.tier == 3 && o.ns == ns && bit s o.base
  -- an object that only the cartridge's directory lists (R413) holds its pages until it leaves it
  let moved := if !(d.slot s).mounted then [] else match (d.slot s).cart with
    | some c => c.dir.filter (fun p => mine p.2 && !((d.obj? p.1).any mine))
    | none => []
  ((d.store.objects.filter (fun p => mine p.2) ++ moved).map (fun p => p.2.pagesOn p.1 s)).sum

/-- R415: a namespace exists on a READY slot, owned as an object is. -/
def Device.nsOn (d : Device) (ns s : Nat) : Option FlashNs :=
  let x := d.slot s
  if x.st == .ready then x.cart.bind (fun c => c.nss.get? ns) else none

/-- R412, R415: a namespace exists on a slot that takes a CREATE: until the boundary after a REMOVE it does. -/
def Device.nsServing (d : Device) (ns s : Nat) : Option FlashNs :=
  let x := d.slot s
  if x.serving then x.cart.bind (fun c => c.nss.get? ns) else none

/-- R413: the same object, in the object table and in a directory. -/
def Obj.same (a b : Obj) : Bool :=
  a.tier == b.tier && a.kind == b.kind && a.owner == b.owner && a.base == b.base && a.size == b.size && a.ns == b.ns && a.lpn == b.lpn

/-- The IDs in use: of the object table, and of the directories of mounted cartridges (R413). -/
def Device.usedIds (d : Device) : Tbl Unit :=
  let ids := (List.range 4).flatMap (fun s =>
    if (d.slot s).mounted then (match (d.slot s).cart with | some c => c.dir.map (·.1) | none => []) else [])
  ids.foldl (fun t i => t.set i ()) (d.store.objects.mapVals (fun _ _ => ()))

/-- The lowest ID that is free. -/
def Device.freeId (d : Device) : Option Nat := d.usedIds.leastFree 1 65535

def newObj (tb : Timebase) (tier kind : Nat) (owner : Option Nat) (st : ObjState) (base size ns src : Nat) : Obj :=
  ⟨tier, kind, owner, st, base, size, tb.number, ns, [], src, []⟩

/-- R413, R418: the lowest run of LPNs of a slot that no object holds, in the object table or in the directory. -/
def Device.lpnRun (d : Device) (s rows : Nat) : Nat :=
  let used := (d.store.objects.filter (fun p => p.2.tier == 3 && bit s p.2.base)).map (fun p =>
    (p.2.lpn.getD s 0, 16 * lpnRows p.1 p.2.base p.2.size))
    ++ (match (d.slot s).cart with | some c => c.dir.map (fun p => c.dirRun s p.1 p.2) | none => [])
  let fits (b : Nat) : Bool := !used.any (fun u => overlaps b (16 * rows) u.1 u.2)
  let starts := (0 :: used.map (fun u => u.1 + u.2)).filter fits
  starts.foldl (fun m b => min m b) (starts.headD 0)

/-- R413: the directory of a cartridge follows the object table. An object that comes into it is recorded with its slot, and with
the sequence number that each channel has reached. -/
def FlashSlot.record (s id : Nat) (o : Obj) (x : FlashSlot) : FlashSlot :=
  if !x.mounted then x
  else x.onCart (fun c => match c.dir.get? id with
    | some t => if o.same t then { c with dir := c.dir.set id o } else c
    | none => { c with
        dir := c.dir.set id o, dirSlot := c.dirSlot.set id s,
        born := c.born.set id ((List.range 16).map (fun ch => (x.chan ch).seq)) })

/-- The directories of the mounted cartridges that hold an object follow it. -/
def Device.syncDir (d : Device) (id : Nat) : Device :=
  match d.obj? id with
  | none => d
  | some o =>
    if o.tier != 3 then d
    else (slotList o.base).foldl (fun d s => d.updSlot s (fun x => x.record s id o)) d

def tierCreate (tb : Timebase) (d : Device) : CmdResult :=
  let w0 := cmdWord d 0
  let w1 := cmdWord d 1
  let kind := bits 23 16 w0
  let pub := bit 15 w0
  let owner := if pub then none else some (bits 9 0 w0)
  let tier := bits 1 0 w1
  let mask := bits 7 4 w1
  let ns := bits 31 16 w1
  let size := cmd64 d 2
  let base := cmd64 d 4
  let id := d.freeId
  let span := align4k size
  let bad := cmdReserved d 1 || 6 < kind || tier == 0 || size == 0 || (tier == 1 && pub) || (tier != 3 && base % 4096 != 0)
    || (tier == 3 && mask == 0)
  let slots := slotList mask
  let state := tier == 3 && slots.any (fun s => match d.nsServing ns s with | some n => n.owner != owner | none => true)
  let pages := objPages size
  let noSpace :=
    if tier == 3 then
      slots.any (fun s =>
        let add := ((List.range pages).filter (fun p => flashChannel (id.getD 0) mask p / 16 == s)).length
        let q := match d.nsServing ns s with | some n => n.quota | none => 0
        (d.slot s).readOnly || q < d.nsUsed ns s + add)
    else if tier == 2 then
      !within base span lpBase (lpObjEnd - lpBase) || d.objsIn base span != []
    else
      !within base span csBase csSize || d.objsIn base span != []
        || (pagesOf base span).any (fun p => d.page p != .share (bits 9 0 w0))
  match firstFail [(bad, 1), (queueFull d, 6), (state, 3), (id.isNone, 5), (noSpace, 2)] with
  | some r => (r, 0, d)
  | none =>
    let i := id.getD 0
    let st := if tier == 1 then ObjState.shareObject else .building
    let o := newObj tb tier kind owner st (if tier == 3 then mask else base) size (if tier == 3 then ns else 0) 0
    let o := if tier == 3 then { o with lpn := slots.map (fun s => (s, d.lpnRun s (lpnRows i mask size))) } else o
    (0, i, (d.setObj i o).syncDir i)

/-- The state of an object, if the ID is in use. -/
def objSt (d : Device) (id : Nat) : Option ObjState := (d.obj? id).map (·.st)

def tierSeal (_ : Timebase) (d : Device) : CmdResult :=
  let id := bits 15 0 (cmdWord d 1)
  match firstFail [(cmdReserved d 2, 1), (queueFull d, 6), (objSt d id != some .building, 3)] with
  | some r => (r, id, d)
  | none =>
    let d := (d.updObj id (fun o => { o with st := .sealing })).syncDir id
    (0, id, { d with store := { d.store with ops := d.store.ops ++ [⟨2, id, 0, 0, 0, 0, false, 0, []⟩] } })

/-- R413: the slots in whose directory alone an object is listed that is not being released: it was not entered in the object
table. -/
def Device.movedOn (d : Device) (id : Nat) : List Nat :=
  if (d.obj? id).isSome then []
  else (List.range 4).filter (fun s => (d.slot s).mounted && (match (d.slot s).cart.bind (fun c => c.dir.get? id) with
    | some o => o.st != .retiring
    | none => false))

/-- R413: an object that only a directory lists begins to leave it. -/
def Device.retireMoved (d : Device) (id : Nat) : Device :=
  (d.movedOn id).foldl (fun d s => d.updSlot s (fun x => x.onCart (fun c => { c with
    dir := c.dir.upd id (fun o => { o with st := .retiring }) }))) d

def tierRelease (_ : Timebase) (d : Device) : CmdResult :=
  let id := bits 15 0 (cmdWord d 1)
  let st := objSt d id
  match firstFail [(cmdReserved d 5, 1), (queueFull d, 6),
      (!(st == some .building || st == some .sealed || st == some .shareObject) && d.movedOn id == [], 3)] with
  | some r => (r, id, d)
  | none =>
    let d := ((d.retireMoved id).updObj id (fun o => { o with st := .retiring })).syncDir id
    (0, id, { d with store := { d.store with ops := d.store.ops ++ [⟨5, id, 0, 0, 0, 0, false, 0, []⟩] } })

/-- R160: bytes past the size of an object are out of range (log entry 34). -/
def pastEnd (d : Device) (id off len : Nat) : Bool := match d.obj? id with
  | some o => decide (o.size < off + len)
  | none => false

/-- R421: put the pages that a write to a FLASH object makes in the program queues of their channels. -/
def Device.queuePages (d : Device) (id : Nat) (o : Obj) (tb : Timebase) (off : Nat) (data : List Byte) : Device :=
  (pageSpan off data.length).foldl (fun d p =>
    let (s, l) := o.lpnOf id p
    let x := d.slot s
    let ch := flashChannel id o.base p % 16
    let h := x.chan ch
    let q := h.queue.getD 0 []
    let old := match (q.filter (fun g => g.lpn == l)).getLast? with
      | some g => g.data
      | none => match d.pageData s l o.ns with
        | .bytes b => b
        | _ => List.replicate pageBytes 0
    let lo := max off (p * pageBytes)
    let hi := min (off + data.length) ((p + 1) * pageBytes)
    let new := old.take (lo - p * pageBytes) ++ sliceBytes data (lo - off) (hi - lo) ++ old.drop (hi - p * pageBytes)
    let key := match x.cart.bind (fun c => c.nss.get? o.ns) with | some n => n.key | none => 0
    d.setSlot s (x.setChan ch { h with queue := h.queue.set 0 (q ++ [⟨l, o.ns, key, false, id, none, true, new⟩]), lastBuild := tb.number })) d

/-- R410, R412: a slot of an object takes no write. -/
def Device.unwritable (d : Device) (o : Obj) : Bool :=
  (slotList o.base).any (fun s => !(d.slot s).serving || (d.slot s).readOnly)

/-- Every page of a range of an object can be read. -/
def Device.readable (d : Device) (id off len : Nat) : Bool := match d.obj? id with
  | none => false
  | some o => o.tier != 3 || (d.flashBad id o off len).isNone

/-- COPY (R160). The object that TIER_CMD_STATUS and TIER_OP_DONE name, "the ID concerned" of R159, is the destination
(DESIGN CHOICE, log entry 108). -/
def tierCopy (tb : Timebase) (d : Device) : CmdResult :=
  let src := bits 15 0 (cmdWord d 1)
  let dst := bits 31 16 (cmdWord d 1)
  let so := cmd64 d 2
  let do_ := cmd64 d 4
  let len := cmd64 d 6
  let ss := objSt d src
  let ds := objSt d dst
  let bad := cmdReserved d 3 || so % 64 != 0 || do_ % 64 != 0 || len % 64 != 0 || pastEnd d src so len || pastEnd d dst do_ len
  match firstFail [(bad, 1), (queueFull d, 6),
      (!(ss == some .sealed || ss == some .shareObject) || !(ds == some .building || ds == some .shareObject), 3)] with
  | some r => (r, dst, d)
  | none =>
    let d := d.use tb src
    let d : Device := match d.obj? dst with
      | some o =>
        if o.tier != 3 || d.unwritable o then d
        else if d.readable src so len then d.queuePages dst o tb do_ (d.objBytes src so len)
        else { d with store := { d.store with unqueued := d.store.unqueued ++ [⟨3, dst, src, so, do_, len, false, 0, []⟩] } }
      | none => d
    (0, dst, { d with store := { d.store with ops := d.store.ops ++ [⟨3, dst, src, so, do_, len, false, 0, []⟩] } })

def tierFill (tb : Timebase) (d : Device) : CmdResult :=
  let w0 := cmdWord d 0
  let owner := if bit 15 w0 then none else some (bits 9 0 w0)
  let src := bits 15 0 (cmdWord d 1)
  let id := d.freeId
  let state := match d.obj? src with
    | some o => o.st != .sealed || o.tier == 1
    | none => true
  match firstFail [(cmdReserved d 4, 1), (queueFull d, 6), (state, 3), (id.isNone, 5)] with
  | some r => (r, 0, d)
  | none =>
    let i := id.getD 0
    match d.obj? src with
    | none => (3, 0, d)
    | some o =>
      let n := poolPages o.size
      -- the source is no pool object (R160)
      match allocPool tb n (d.store.objects.length + 1) d with
      | (none, d) => (4, 0, (d.inc R.TIER_POOL_FULL).raise 0x0307 [])
      | (some s, d) =>
        let d := (List.range n).foldl (fun d k => d.setPage (s + k) (.pool i)) d
        let d := d.setObj i (newObj tb 1 o.kind owner .sealing (pageBase s) o.size 0 src)
        (0, i, { d.use tb src with store := { (d.use tb src).store with ops := d.store.ops ++ [⟨4, i, src, 0, 0, o.size, false, 0, []⟩] } })

/-- R159: GO with an OP: discarded while BUSY is 1, and by another row where W0 names another command. -/
def tierGo (ok : Nat → Bool) (f : Timebase → Device → CmdResult) (tb : Timebase) (d : Device) : Device :=
  if d.store.cmdResult.isSome || !ok (cmdOp d) then d
  else
    let (r, o, d) := f tb d
    { d with store := { d.store with cmdResult := some (r, o) } }

/-- TIER_CREATE (R160). -/
def execTierCreate (s : State) : Host.Outcome State Fault Refusal := .next (s.onReg (tierGo (· == 1) tierCreate))

/-- TIER_SEAL (R150). -/
def execTierSeal (s : State) : Host.Outcome State Fault Refusal := .next (s.onReg (tierGo (· == 2) tierSeal))

/-- TIER_COPY (R160). -/
def execTierCopy (s : State) : Host.Outcome State Fault Refusal := .next (s.onReg (tierGo (· == 3) tierCopy))

/-- TIER_FILL (R160). -/
def execTierFill (s : State) : Host.Outcome State Fault Refusal := .next (s.onReg (tierGo (· == 4) tierFill))

/-- TIER_RELEASE (R150). -/
def execTierRelease (s : State) : Host.Outcome State Fault Refusal := .next (s.onReg (tierGo (· == 5) tierRelease))

/-- TIER_RESERVED_OP (R161). -/
def execTierReservedOp (s : State) : Host.Outcome State Fault Refusal :=
  .next (s.onReg (tierGo (fun op => op == 0 || 5 < op) (fun _ d => (1, 0, d))))

/-- R159: the check ends; RESULT and OBJECT are given. -/
def tierCheckDone (d : Device) : Device :=
  match d.store.cmdResult with
  | none => d
  | some (r, o) =>
    let d := d.setReg R.TIER_CMD_STATUS (r <<< 16 + o)
    { d with store := { d.store with cmdResult := none } }

/-- TIER_CMD_CHECK_DONE (R159). -/
def execTierCmdCheckDone (s : State) : Host.Outcome State Fault Refusal := .next (s.onDev (fun _ d => tierCheckDone d))

/-! ### The end of an operation -/

def Device.dropOp (d : Device) (i : Nat) : Device := { d with store := { d.store with ops := d.store.ops.eraseIdx i } }

/-- R155: a write reached units of an object. -/
def Obj.mark (o : Obj) (off n : Nat) : Obj :=
  let us := if n == 0 then [] else
    let u := if o.tier == 3 then pageBytes else 4096
    (List.range ((off + n - 1) / u - off / u + 1)).map (· + off / u)
  { o with written := (o.written ++ us).eraseDups }

/-- R140, R141: bytes written through the background port by units of 64 B, those of images and landing areas
discarded. -/
def Device.bgCopy (d : Device) (a : Nat) (data : List Byte) : Device :=
  if d.inImage none a data.length || d.inLanding none a data.length then
    (List.range (data.length / 64)).foldl (fun d k => d.bgWrite none (a + 64 * k) (sliceBytes data (64 * k) 64)) d
  else { d with mem := d.mem.writeBytes a data }

/-- R154: what each stripe unit has of `w` 64ths of a unit from an address on: its channel and its 64ths. -/
def chanParts (a w : Nat) : List (Nat × Nat) :=
  let p := a % 4096 / 64
  (List.range ((p + w + 63) / 64)).map (fun j =>
    (lpChannel (a + 4096 * j), min (p + w) (64 * (j + 1)) - max p (64 * j)))

/-- R162: the LPDDR5X channels of `w` 64ths of a stripe unit from an address on can serve them in this furrow. -/
def Device.chanFits (d : Device) (a w : Nat) : Bool :=
  (chanParts a w).all (fun x => d.store.units.getD x.1 0 + x.2 ≤ 640 * 64)

/-- They serve them. -/
def Device.chanTake (d : Device) (a w : Nat) : Device :=
  let units := (chanParts a w).foldl (fun t x => t.set x.1 (t.getD x.1 0 + x.2)) d.store.units
  { d with store := { d.store with units := units } }

/-! ### What reservations leave of the LPDDR5X channels (R162) -/

/-- R154: the lines of 64 B of a channel below line `n` of LPDDR5X: a stripe unit has 64 of them. -/
def linesBelow (ch n : Nat) : Nat := n / 8192 * 64 + min 64 (n % 8192 - 64 * ch)

/-- The lines of a channel that a range of device addresses touches: 64ths of a stripe unit. -/
def linesOn (ch a n : Nat) : Nat :=
  if n == 0 then 0 else linesBelow ch ((a - lpBase + n + 63) / 64) - linesBelow ch ((a - lpBase) / 64)

/-- R162: what is left of a channel in a furrow of what reservations leave. A reservation of u units takes ⌈u / 128⌉ of each
channel (R154; DEDUCED, log entry 123). -/
def Device.spareOn (d : Device) (f ch : Nat) : Nat :=
  let r := d.qm.calUnits.getD f (0, 0)
  64 * (640 - (r.1 + r.2 + 127) / 128) - d.store.bgUnits.getD ch 0

/-- It is taken: `need` of each channel. -/
def Device.takeSpare (d : Device) (need : Nat → Nat) : Device :=
  { d with store := { d.store with bgUnits := (List.range 128).foldl (fun t ch =>
    if need ch == 0 then t else t.set ch (t.getD ch 0 + need ch)) d.store.bgUnits } }

/-- The lines that an operation has left to move; none where neither side lies in LPDDR5X. -/
def Device.opLines (d : Device) (t : TierOp) : Nat :=
  let lp (i : Nat) : Bool := match d.obj? i with | some o => o.tier == 2 | none => false
  if (t.op == 3 || (t.op == 4 && !t.copied)) && (lp t.src || lp t.obj) then (t.len + 63) / 64 - t.moved else 0

/-- What its next `k` lines take of a channel, on the side of its source and on that of its destination. -/
def Device.opNeed (d : Device) (t : TierOp) (k ch : Nat) : Nat :=
  let side (i off : Nat) : Nat := match d.obj? i with
    | some o => if o.tier == 2 then linesOn ch (o.base + off + 64 * t.moved) (64 * k) else 0
    | none => 0
  side t.src t.srcOff + side t.obj t.dstOff

/-- The next `k` lines fit in what is left of the furrow. -/
def Device.opFits (d : Device) (f : Nat) (t : TierOp) (k : Nat) : Bool :=
  (List.range 128).all (fun ch => d.opNeed t k ch ≤ d.spareOn f ch)

/-- The most of `left` steps that fit, where fewer fit whenever more do. -/
def mostThatFit (left : Nat) (fits : Nat → Bool) : Nat :=
  (List.range 24).foldl (fun k b =>
    let n := k + 2 ^ (23 - b)
    if n ≤ left && fits n then n else k) 0

/-- The most lines, of those it has left, that fit. -/
def Device.opMoves (d : Device) (f : Nat) (t : TierOp) : Nat := mostThatFit (d.opLines t) (d.opFits f t)

/-! ### The flash pages that an operation reads (R407, R426, R427) -/

/-- A page read of an operation: flash channel, LPN, namespace, and where it comes from. -/
structure OpRead where
  chan : Nat
  lpn : Nat
  ns : Nat
  src : ReadSrc
  deriving DecidableEq, Repr

/-- The page reads that a COPY or a FILL makes, in the order of the pages. -/
def Device.opReads (d : Device) (t : TierOp) : List OpRead :=
  match d.obj? t.src with
  | none => []
  | some o =>
    if o.tier != 3 || t.copied || !(t.op == 3 || t.op == 4) then []
    else (pageSpan t.srcOff t.len).map (fun p =>
      let (s, l) := o.lpnOf t.src p
      ⟨16 * s + l % 16, l, o.ns, d.readSrc s l o.ns⟩)

/-- The class of a page read: only what comes from the flash has one, and without its supply a cartridge delivers nothing. -/
def Device.readClass (d : Device) (r : OpRead) (cls : Nat) : Nat := match r.src with
  | .page _ => if (d.slot (r.chan / 16)).supplied then min cls 4 else 4
  | _ => 0

/-- R426: the transfers of reads with their classes, those of one channel. -/
def readNeed (l : List (OpRead × Nat)) (ch : Nat) : Nat :=
  ((l.filter (fun r => r.1.chan == ch)).map (fun r => 1 + min r.2 3)).sum

/-- The page reads of an operation with their classes, where the budgets of the channels hold what is left of them to make;
they are made and counted. -/
def Device.makeReads (d : Device) (tb : Timebase) (t : TierOp) (classes : List Nat) : Option (List (OpRead × Nat) × Device) :=
  let f := tb.number.toNat
  let l := ((d.opReads t).zipIdx).map (fun r => (r.1, d.readClass r.1 (classes.getD r.2 0)))
  let chans := (l.map (fun r => r.1.chan)).eraseDups
  let left (ch : Nat) : Nat := readNeed l ch - t.flash.getD ch 0
  if chans.any (fun ch => d.buildLeft f (ch / 16) (ch % 16) < left ch) then none
  else
    let d := chans.foldl (fun d ch => d.takeBuild f (ch / 16) (ch % 16) (left ch)) d
    some (l, l.foldl (fun d r => match r.1.src with
      | .page p => countRead (r.1.chan / 16) p r.1.lpn r.1.ns r.2 (d.updSlot (r.1.chan / 16) (FlashSlot.tuned tb p r.2))
      | _ => d) d)

/-- R421: a COPY to FLASH, number `i` of the operations, has pages of its own that are not mapped: of an LPN more pages wait to be
programmed than the COPYs accepted after it put there. -/
def Device.pagesWait (d : Device) (i : Nat) (t : TierOp) (o : Obj) : Bool :=
  let later := (d.store.ops.drop (i + 1)).filter (fun x => x.op == 3 && x.obj == t.obj && !d.store.unqueued.contains { x with moved := 0, flash := [], copied := false })
  (pageSpan t.dstOff t.len).any (fun p =>
    let (s, l) := o.lpnOf t.obj p
    let h := (d.slot s).chan (flashChannel t.obj o.base p % 16)
    ((later.filter (fun x => (pageSpan x.dstOff x.len).contains p)).length
      < ((h.queue.getD 0 []).filter (fun g => g.lpn == l && g.obj == t.obj)).length))

/-- R160, R161, R421: a COPY ends. One to FLASH waits until its pages are mapped; pages that were not queued at its acceptance,
because its source could not be read then, are queued now. An object is found by its ID: one that was freed and created again
since is written (DESIGN CHOICE, log entry 156). -/
def copyDone (tb : Timebase) (i : Nat) (t : TierOp) (media : Bool) (d : Device) : Device :=
  match d.obj? t.src, d.obj? t.obj with
  | some s, some o =>
    let me : TierOp := { t with moved := 0, flash := [], copied := false }
    let late := d.store.unqueued.contains me
    let d := if late then { d with store := { d.store with unqueued := d.store.unqueued.erase me } } else d
    let bad := media || (s.tier == 3 && !t.copied && (d.flashBad t.src s t.srcOff t.len).isSome) || (o.tier == 3 && d.unwritable o)
    if bad then tierDone t.obj 7 (d.dropOp i)
    else
      let d := if late && o.tier == 3 then d.queuePages t.obj o tb t.dstOff (d.objBytes t.src t.srcOff t.len) else d
      if o.tier == 3 && d.pagesWait i t o then
        { d with store := { d.store with ops := d.store.ops.set i { t with copied := true } } }
      else
        let d := if o.tier == 3 then d
          else if o.tier == 2 then
            (if s.tier == 3 then { d with mem := d.mem.writeBytes (o.base + t.dstOff) (d.objBytes t.src t.srcOff t.len) }
             else { d with mem := d.mem.copy (s.base + t.srcOff) (o.base + t.dstOff) t.len })
          else d.bgCopy (o.base + t.dstOff) (d.objBytes t.src t.srcOff t.len)
        let d := (d.updObj t.obj (fun o => o.mark t.dstOff t.len)).syncDir t.obj
        tierDone t.obj 0 (d.dropOp i)
  | _, _ => tierDone t.obj 7 (d.dropOp i)

/-- R158, R161: the copy of a FILL ends; its object is sealed at the next boundary. -/
def fillDone (i : Nat) (t : TierOp) (media : Bool) (d : Device) : Device :=
  match d.obj? t.src, d.obj? t.obj with
  | some s, some o =>
    if media || (s.tier == 3 && (d.flashBad t.src s 0 t.len).isSome) then tierDone t.obj 7 ((d.freePool t.obj).dropOp i)
    else
      let d := if s.tier == 3 then { d with mem := d.mem.writeBytes o.base (d.objBytes t.src 0 t.len) }
        else { d with mem := d.mem.copy s.base o.base t.len }
      { d with store := { d.store with ops := d.store.ops.set i { t with copied := true } } }
  | _, _ => tierDone t.obj 7 ((d.freePool t.obj).dropOp i)

/-- An operation ends. The unreserved capacity of this furrow holds what is left of it to move (R162): before, it is not done. A
COPY to FLASH that was read (R421) reads no more. -/
def tierOpDone (i : Nat) (rep : TierReport) (tb : Timebase) (d : Device) : Device :=
  let f := tb.number.toNat
  match d.store.ops[i]? with
  | none => d
  | some t =>
    if t.op == 3 && t.copied then copyDone tb i t rep.err.isSome d
    else match d.makeReads tb t rep.classes with
    | none => d
    | some (reads, d') =>
      let n := d.opLines t
      if !d.opFits f t n then d
      else
        let d := d'.takeSpare (d.opNeed t n)
        let media := rep.err.isSome || reads.any (fun r => r.2 == 4)
        if t.op == 3 then copyDone tb i t media d else if t.op == 4 && !t.copied then fillDone i t media d else d

/-- R141, R156: the source of an operation could not be read: the device address of the error. -/
def Device.sourceError (d : Device) (err : Option Nat) : Device := match err with
  | some a => if lpBase ≤ a then d.lpEcc (lpChannel a) else if csBase ≤ a then d.storeEcc a else d
  | none => d

/-- TIER_OP_DONE (R159): outstanding operation number `op` ends, its source readable or not. A SEAL, a RELEASE and the
seal of a FILL end at a boundary (R150). -/
def execTierOpDone (op : Nat) (rep : TierReport) (s : State) : Host.Outcome State Fault Refusal :=
  .next (s.onDev (fun tb d =>
    if op < d.store.ops.length then (tierOpDone op rep tb (d.catchUp tb.offset none)).sourceError rep.err else d))

/-! ### The boundary (R150) -/

/-- R150: units that no write reached are set to 0. -/
def Device.zeroUnwritten (d : Device) (o : Obj) : Device :=
  if o.tier != 2 then d
  else { d with mem := d.mem.filter (fun c =>
    !(o.base ≤ c.1 && c.1 < o.base + o.span && !o.written.contains ((c.1 - o.base) / 4096))) }

/-- R421: pages of an object still wait to be programmed. -/
def Device.programming (d : Device) (id : Nat) : Bool :=
  d.flash.slots.any (fun s => s.2.chans.any (fun c => (c.2.queue.getD 0 []).any (fun g => g.obj == id)))

/-- R150, R421: an object is sealed once every write it was given, by a COPY or to a flash page, is complete. A FLASH object waits
for its slots: what one lost in a reset it discards at its mount (R413). A COPY to it that ended with MEDIA_ERROR does not keep the
SEAL from ending: R150 does not say (DESIGN CHOICE, log entry 156). -/
def sealOne (tb : Timebase) (d : Device) (t : TierOp) : Device :=
  let ready := t.op == 2 || (t.op == 4 && t.copied)
  match d.obj? t.obj with
  | none => d
  | some o =>
    if !ready || o.st != .sealing || d.programming t.obj || d.store.ops.any (fun x => x.op == 3 && x.obj == t.obj)
        || (o.tier == 3 && (slotList o.base).any (fun s => (d.slot s).st != .ready)) then d
    else
      let d := d.zeroUnwritten o
      let d := (d.updObj t.obj (fun o => { o with st := .sealed, lastUse := tb.number })).syncDir t.obj
      tierDone t.obj 0 { d with store := { d.store with ops := d.store.ops.filter (fun x => !(x.op == t.op && x.obj == t.obj)) } }

/-- R413, R425: an object leaves the directory of a mounted cartridge: its pages are unmapped, those that wait to be programmed
dropped, and superblocks left with no valid page freed. -/
def FlashSlot.forget (s id : Nat) (o : Obj) (x : FlashSlot) : FlashSlot :=
  match x.mounted, x.cart with
  | true, some c =>
    if !((c.dir.get? id).any o.same) then x
    else
      let (lo, n) := c.dirRun s id o
      ({ x with
        map := x.map.filter (fun e => !(lo ≤ e.1 && e.1 < lo + n)),
        chans := x.chans.mapVals (fun _ h => { h with queue := h.queue.mapVals (fun st q =>
          if st == 0 then q.filter (fun g => g.obj != id) else q) }),
        cart := some { c with dir := c.dir.del id, dirSlot := c.dirSlot.del id, born := c.born.del id } }).freeEmpty
  | _, _ => x

/-- R425: the pages of a freed FLASH object are unmapped on its slots. -/
def Device.unmapObj (d : Device) (id : Nat) (o : Obj) : Device :=
  (slotList o.base).foldl (fun d s => d.updSlot s (fun x => x.forget s id o)) d

def freeOne (d : Device) (id : Nat) : Device :=
  match d.obj? id with
  | none => d
  | some o =>
    if o.st != .retiring || d.pinned id o then d
    else
      d.releaseEnds id (if o.tier == 3 then (d.unmapObj id o).dropObj id else if o.inPool then d.freePool id else d.dropObj id)

/-- R413: the release of an object that only directories list ends. -/
def freeMoved (d : Device) (t : TierOp) : Device :=
  if t.op != 5 || (d.obj? t.obj).isSome then d
  else
    let d' := (List.range 4).foldl (fun d s => d.updSlot s (fun x =>
      match x.cart.bind (fun c => c.dir.get? t.obj) with
      | some o => if o.st == .retiring then x.forget s t.obj o else x
      | none => x)) d
    d.releaseEnds t.obj d'

/-- R150: the seals and frees of a boundary. -/
def objectBoundary (tb : Timebase) (d : Device) : Device :=
  let d := d.store.ops.foldl (sealOne tb) d
  let d := (d.store.objects.map (·.1)).foldl freeOne d
  d.store.ops.foldl freeMoved d

/-- R407, R426: at the end of a furrow an operation that is not done has used for its page reads, and up to 3 retries of each,
what was left of a channel's transfers. -/
def bankReads (f : Nat) (d : Device) (i : Nat) : Device :=
  match d.store.ops[i]? with
  | none => d
  | some t =>
    let l := (d.opReads t).map (fun r => (r, 3))
    ((l.map (fun r => r.1.chan)).eraseDups).foldl (fun d ch =>
      let had := t.flash.getD ch 0
      let n := min (d.buildLeft f (ch / 16) (ch % 16)) (readNeed l ch - had)
      let d := d.takeBuild f (ch / 16) (ch % 16) n
      { d with store := { d.store with ops := (d.store.ops.zipIdx).map (fun x =>
        if x.2 == i then { x.1 with flash := x.1.flash.set ch (had + n) } else x.1) } }) d

/-- R162: at the end of a furrow an operation that is not done has moved the lines that fitted in what was left. -/
def moveOp (f : Nat) (d : Device) (i : Nat) : Device :=
  match d.store.ops[i]? with
  | none => d
  | some t =>
    let k := d.opMoves f t
    if k == 0 then d
    else
      let d := d.takeSpare (d.opNeed t k)
      { d with store := { d.store with ops := d.store.ops.set i { t with moved := t.moved + k } } }

/-- At the end of a furrow the operations that are not done have moved what they could, in the order of their acceptance. -/
def moverBoundary (n : W48) (d : Device) : Device :=
  let d := (List.range d.store.ops.length).foldl (moveOp n.toNat) d
  { d with store := { d.store with bgUnits := [] } }

/-- R152: a COPY or a FILL that is under way reads its source in the furrow that begins, where anything of it fits. -/
def moverUse (tb : Timebase) (d : Device) : Device :=
  d.store.ops.foldl (fun d t =>
    if (t.op == 3 || (t.op == 4 && !t.copied)) && (d.opLines t == 0 || d.opFits tb.number.toNat t 1) then d.use tb t.src else d) d

/-! ### TIER deliveries (R163, R528) -/

structure TierItem where
  addr : Nat
  len : Nat
  lp : Bool
  deriving DecidableEq, Repr

/-- R163: the items of a TIER descriptor, their windows resolved as in force; none where it is invalid. -/
def tierItems (x : Context) (desc : List Byte) (stride itemsMax : Nat) : Option (List TierItem) :=
  let n := fieldLe desc 0 4
  let item (i : Nat) : Option TierItem :=
    let w := x.win (fieldLe desc (0x10 + 16 * i) 1)
    let len := fieldLe desc (0x14 + 16 * i) 4
    let off := fieldLe desc (0x18 + 16 * i) 8
    if (w.tier == 1 || w.tier == 2) && fieldLe desc (0x10 + 16 * i) 1 ≤ 15 && 64 ≤ len && len % 64 == 0 && len ≤ stride
        && off + len ≤ w.size then some ⟨w.base + off, len, w.tier == 2⟩ else none
  if n == 0 || 15 < n || itemsMax < n then none
  else
    let l := (List.range n).map item
    if l.all Option.isSome then some (l.filterMap id) else none

/-- The stripe units an item touches. -/
def TierItem.units (i : TierItem) : Nat := if i.lp then (i.addr + i.len - 1) / 4096 - i.addr / 4096 + 1 else 0

/-- One delivery in one furrow: its progress, the units served by channel, with what is left of its grant. -/
def tierMove (items : List TierItem) : Nat → Nat → Nat × Nat → Tbl Nat → (Nat × Nat) × Tbl Nat
  | 0, _, p, u => (p, u)
  | fuel + 1, grant, (i, k), u =>
    match items[i]? with
    | none => ((i, k), u)
    | some it =>
      if it.units ≤ k then tierMove items fuel grant (i + 1, 0) u
      else
        let ch := lpChannel (it.addr + 4096 * k)
        if grant == 0 || 640 * 64 < u.getD ch 0 + 64 then ((i, k), u)
        else tierMove items fuel (grant - 1) (i, k + 1) (u.set ch (u.getD ch 0 + 64))

/-- The items of an open TIER handoff, at the addresses found at issue. -/
def Handoff.tierItems (h : Handoff) : List TierItem := h.srcRanges.map (fun r => ⟨r.1, r.2, lpBase ≤ r.1⟩)

/-- R528: the delivery of one handoff moves what it may in this furrow. -/
def tierDeliver (tb : Timebase) (d : Device) (h : Handoff) : Device :=
  if h.kind != 3 || h.noWork || h.cutoff then d
  else
    let items := h.tierItems
    let fuel := (items.map TierItem.units).sum + items.length + 1
    let served := match h.gen with | some g => d.store.genUnits.getD g 0 | none => 0
    let grant := (match h.res with | some r => r.units | none => 0) - served
    let p0 := d.store.deliv.getD h.id (0, 0)
    let (p, u) := tierMove items fuel grant p0 d.store.units
    let moved := ((u.map (·.2)).sum - (d.store.units.map (·.2)).sum) / 64
    let d := ((items.take (p.1 + 1)).drop p0.1).foldl (fun d it => if p == p0 then d else d.useRange tb it.addr it.len) d
    { d with store := { d.store with
        deliv := d.store.deliv.set h.id p, units := u,
        genUnits := match h.gen with | some g => d.store.genUnits.set g (served + moved) | none => d.store.genUnits } }

def insertHandoff (h : Handoff) : List Handoff → List Handoff
  | [] => [h]
  | x :: t => if furLt x.issue h.issue || (x.issue == h.issue && x.id ≤ h.id) then x :: insertHandoff h t else h :: x :: t

/-- R528: at the start of a furrow the deliveries go on, in order of issue. -/
def tierResume (tb : Timebase) (d : Device) : Device :=
  let d := { d with store := { d.store with units := [], genUnits := [] } }
  let d := moverUse tb d
  ((d.plots.handoffs.map (·.2)).foldl (fun l h => insertHandoff h l) []).foldl (tierDeliver tb) d

/-- An item of a TIER delivery that has moved whole: its bytes. -/
def tierItemData (d : Device) (h : Handoff) (i : Nat) : Option (List Byte) :=
  match h.tierItems[i]? with
  | none => none
  | some it => if i < (d.store.deliv.getD h.id (0, 0)).1 then some (sliceBytes (d.mem.readBytes it.addr it.len) 0 h.stride) else none

end Sys2Proof.Machine
end

