-- ==== Sys2Proof/Machine/Flash.lean ====
section
/-! DEFINITION. Index cartridges and the flash media manager (R405 to R434): slots, namespaces, programs, folds,
relocation, checkpoints, mount and health. Cartridge contents stay with the cartridge when it is pulled. -/
namespace Sys2Proof.Machine

/-- R422: SLC_MODE is FIXED, and SLC_REGION, of a slot. -/
def Device.slcFixed (d : Device) (s : Nat) : Bool := d.fld (slotReg R.FLASH_SLOT_CFG s) 31 31 == 1
def Device.slcRegion (d : Device) (s : Nat) : Nat := if d.slcFixed s then d.fld (slotReg R.FLASH_SLOT_CFG s) 30 22 else 0

/-- R422: the staging list waits to change SLC_MODE or SLC_REGION of a slot. -/
def Device.slcChange (d : Device) (s : Nat) : Bool := match d.power.staging with
  | some st => st.tried != 0 && st.entries.any (fun e => e.kind == 0 && e.step == st.step && e.offset == R.FLASH_SLOT_CFG
      && e.sel.getD (d.fld R.FLASH_SLOT_SEL 1 0) == s && bits 31 22 e.w1 != d.fld (slotReg R.FLASH_SLOT_CFG s) 31 22)
  | none => false

/-- R410: the life-used counter rises, and what follows from it; a channel falls short of free superblocks where no relocation
of it is under way, and those that wait for their erase are taken as free (R424; DESIGN CHOICE, log entry 158). -/
def lifeCheck (s : Nat) (d : Device) : Device :=
  let x := d.slot s
  match x.cart with
  | none => d
  | some c =>
    let life := min 1000 (max c.life (c.lifeUsed (d.slcRegion s)))
    let region := d.slcRegion s
    let low := (List.range 16).any (fun ch => 3800 < region + c.usedCount ch region + 32 && (x.chan ch).moving.isNone)
    let warn := 900 ≤ life && !x.lifeWarned
    let ro := (life == 1000 || low) && !x.readOnly
    let d := d.setSlot s { x with
      cart := some { c with life := life }, lifeWarned := x.lifeWarned || warn, readOnly := x.readOnly || ro }
    let d := if warn then d.raise 0x0C09 [(1, s)] else d
    if ro then d.raise 0x0C0A [(1, s)] else d

/-! ### Slots (R411, R412, R429) -/

def SlotState.transit (s : SlotState) : Bool := s == .powering || s == .authenticating || s == .mounting || s == .draining

def Device.inTransit (d : Device) : Bool := (List.range 4).any (fun s => (d.slot s).st.transit)

/-- A new cartridge: its identity element with the rated life of R408, its flash erased; the key of one that was in use before
is number 0. -/
def newCart (ident : CartIdent) (life tWriteMax : Nat) (foreign blank : Bool) : Cart :=
  { ident := ident, life := life, tWriteMax := tWriteMax, rated := (3000, 30000), wearBase := 0,
    sysKey := if blank then none else some 0, sysForeign := foreign, unerased := false,
    sysBlob := if blank then [] else Config.elementKey ident.serial, sbs := [], pages := [], data := [], nss := [], dir := [],
    dirSlot := [], born := [], ckpts := [], commits := [], maxTemp := 0x80, hist := [], stats := [] }

/-- R517, R411: a cartridge is inserted; one that was pulled before comes back as it was. In reset (R514) nothing is reported:
its slot is EMPTY until the module is in service (R465). -/
def cartInsert (s : Nat) (ident : CartIdent) (life tWriteMax : Nat) (foreign blank : Bool) (d : Device) : Device :=
  let serial := BitVec.ofNat 64 ident.serial
  let x := d.slot s
  if 3 < s || x.st != .empty || x.cart.isSome then d
  else
    let c := match d.flash.pulled.find? (fun c => c.serial == serial) with
      | some c => c
      | none => newCart ident life tWriteMax foreign blank
    let d := { d with flash := { d.flash with pulled := d.flash.pulled.filter (fun c => c.serial != serial) } }
    if !d.power.porst then d.setSlot s { emptySlot with cart := some c }
    else (d.setSlot s { emptySlot with st := .detected, cart := some c, failReason := x.failReason }).raise 0x0C01 [(1, s)]

/-- CART_INSERT (R517): operands are the slot and the identity element's contents (a blank cartridge holds no system
key; a foreign one was wrapped on another module). -/
def execCartInsert (slot : Nat) (ident : CartIdent) (life tWriteMax : Nat) (foreign blank : Bool) (s : State) : Host.Outcome State Fault Refusal :=
  .next (s.onPins (fun _ d => cartInsert slot ident life tWriteMax foreign blank d))

/-- R429: the text items that have not landed and take bytes from a slot. -/
def Device.textOpen (d : Device) (s : Nat) : List (Nat × Nat) :=
  (d.plots.handoffs.map (·.2)).flatMap (fun h =>
    if h.kind != 1 || h.cutoff then []
    else ((h.texts.zipIdx).filter (fun t => !h.landedItems.contains t.2
        && (d.textPages t.1.1 t.1.2 (h.stride - 8)).any (fun p => p.1 == s))).map (fun t => (h.id, t.2)))

/-- The reads of a slot whose operations stop fail with a detail, those of items that have not landed among them. -/
def failReads (s detail : Nat) (d : Device) : Device :=
  let (gone, rest) := d.flash.reads.partition (fun r => r.slot == s)
  let f := gone.filterMap (fun r => match r.user with
    | .text h i => some (h, i)
    | .textReq q it => some (2 ^ 32 + q, it)
    | _ => none) ++ d.textOpen s
  { d with flash := { d.flash with
      reads := rest, failed := (d.flash.failed ++ f).eraseDups,
      failDetail := f.foldl (fun t p => if t.has p.1 then t else t.set p.1 detail) d.flash.failDetail } }

/-- What a slot loses when its operations stop (R429): map, tables, open superblocks, fold, keys. -/
def FlashSlot.volatileOff (x : FlashSlot) : FlashSlot :=
  { x with map := [], chans := [], locked := [], keys := [], tempHold := false, offline := false, force := false, authDone := false,
           unwrapFail := false, challenge := none, ckpt := none, ckptFur := none, lunSet := [] }

/-- R412, R517: a pull; in a state other than REMOVABLE or FAILED the cartridge is lost. -/
def cartPull (s : Nat) (d : Device) : Device :=
  let x := d.slot s
  if x.cart.isNone then d
  else
    let d := failReads s 0x91 d
    let d := { d with flash := { d.flash with pulled := d.flash.pulled ++ x.cart.toList } }
    let d := d.setSlot s { emptySlot with failReason := x.failReason }
    if x.st == .removable || x.st == .failed || x.st == .empty then d else d.raise 0x0C06 [(1, s)]

/-- CART_PULL (R517). -/
def execCartPull (slot : Nat) (s : State) : Host.Outcome State Fault Refusal := .next (s.onPins (fun _ d => cartPull slot d))

/-- R411, R453: the next waiting slot is powered when no slot is in transit and PD_X_CORE is ON. -/
def serveSlots (d : Device) : Device :=
  if d.inTransit || !d.domOn 23 then d
  else match (List.range 4).find? (fun s => (d.slot s).st == .detected && !(d.slot s).resetting) with
    | some s => d.updSlot s (fun x => { x with st := .powering })
    | none => d

/-- R484 -/
def Device.rngOk (d : Device) : Bool := d.fld R.SEC_STATUS 30 30 == 1

/-- R409: a 48-byte challenge, drawn. -/
def Device.draw48 (d : Device) : List Byte :=
  (List.range 6).flatMap (fun i => leBytes 8 (Config.drbg d.sec.reseeds (d.freeCount + i)).toNat)

/-- R484, R486: a fresh flash key of 512 bits, drawn. The draws of keys are counted apart. -/
def Device.drawKey (d : Device) : List Byte :=
  (List.range 8).flatMap (fun i => leBytes 8 (Config.drbg d.sec.reseeds (2 ^ 64 + 8 * d.flash.nextKey + i)).toNat)

/-- R409, R484: a challenge is sent to a slot that has none; while RNG_OK is 0 it is not. -/
def sendChallenge (s : Nat) (d : Device) : Device :=
  if !d.rngOk || (d.slot s).st != .authenticating || (d.slot s).challenge.isSome then d
  else { d.updSlot s (fun x => { x with challenge := some d.draw48 }) with freeCount := d.freeCount + 6 }

def slotPowerGood (s : Nat) (d : Device) : Device :=
  if (d.slot s).st == .powering then
    sendChallenge s (d.updSlot s (fun x => { x with st := .authenticating, authDone := false, challenge := none }))
  else d

/-- SLOT_POWER_GOOD (R411). -/
def execSlotPowerGood (slot : Nat) (s : State) : Host.Outcome State Fault Refusal := .next (s.onDev (fun _ d => slotPowerGood slot d))

/-- R409: a slot is powered down to FAILED. -/
def authFail (s reason : Nat) (d : Device) : Device :=
  (d.updSlot s (fun x => { x.volatileOff with st := .failed, failReason := reason })).raise 0x0C02 [(1, s), (1, reason)]

/-- R485: the chain runs from the device certificate, over at most one intermediate certificate, to the cartridge root; the
device certificate may sign and names the element's serial. -/
def Cart.chainOk (c : Cart) : Bool :=
  let e := c.ident
  let own (c : CartCert) : Bool := c.form && c.digitalSignature && c.serial == e.serial
  match e.chain with
  | [c] => own c && c.signer == 0
  | [c, m] => own c && m.form && c.signer == m.key && m.signer == 0
  | _ => false

/-- R485: what the element signs. -/
def Cart.authDigest (c : Cart) (challenge : List Byte) : List Byte := sha384 (challenge ++ leBytes 8 c.ident.serial)

/-- R485: the signature is one of the certified key over the challenge and the serial. -/
def Cart.sigOk (c : Cart) (challenge : List Byte) (g : CartSig) : Bool := match c.ident.chain with
  | k :: _ => g.key == k.key && g.digest == c.authDigest challenge
  | [] => false

/-- R409: the reason for which a cartridge that answered is refused, or 0. -/
def Cart.authReason (c : Cart) (challenge : List Byte) (g : CartSig) : Nat :=
  if !c.chainOk then 2 else if !c.sigOk challenge g then 3 else if !c.ident.paramsOk then 4 else 0

/-- R409: the element of a cartridge answers its challenge. -/
def authDone (s : Nat) (g : CartSig) (d : Device) : Device :=
  let x := d.slot s
  match x.challenge, x.cart with
  | some ch, some c =>
    if x.st != .authenticating || x.authDone || !x.supplied then d
    else
      let r := c.authReason ch g
      if r == 0 then d.updSlot s (fun x => { x with authDone := true }) else authFail s r d
  | _, _ => d

/-- AUTH_DONE (R409): the signature that the element gave. -/
def execAuthDone (slot : Nat) (sig : CartSig) (s : State) : Host.Outcome State Fault Refusal :=
  .next (s.onDev (fun _ d => authDone slot sig d))

def authTimeout (s : Nat) (d : Device) : Device :=
  let x := d.slot s
  if x.st != .authenticating || x.authDone then d else authFail s 1 d

/-- AUTH_TIMEOUT (R409). -/
def execAuthTimeout (slot : Nat) (s : State) : Host.Outcome State Fault Refusal := .next (s.onDev (fun _ d => authTimeout slot d))

def onfiTrainingDone (s : Nat) (d : Device) : Device :=
  let x := d.slot s
  if x.st == .authenticating && x.authDone && x.supplied then d.updSlot s (fun x => { x with st := .mounting }) else d

/-- ONFI_TRAINING_DONE (R411). -/
def execOnfiTrainingDone (slot : Nat) (s : State) : Host.Outcome State Fault Refusal :=
  .next (s.onDev (fun _ d => onfiTrainingDone slot d))

/-! ### Folds begin (R422, R423) -/

/-- The full SLC superblocks of a channel, oldest first; `all` takes the open ones with them. -/
def Cart.slcFull (c : Cart) (ch : Nat) (all : Bool) : List Nat :=
  let age (k : Nat) : Nat := (c.pages.filter (fun p => sbOfPhys p.1 == k)).foldl (fun m p => min m p.2.seq) (2 ^ 64)
  let l := ((c.chanSbs ch).filter (fun p => p.2.slc && (p.2.st == .full || (all && p.2.st == .openSb)))).map (fun p => (age p.1, p.1))
  (l.foldl (fun (a : List (Nat × Nat)) e => a.takeWhile (fun x => x.1 ≤ e.1) ++ [e] ++ a.dropWhile (fun x => x.1 ≤ e.1)) []).map (·.2)

/-- R422: the fold condition of a channel; a change of SLC_MODE or SLC_REGION that waits asks for every SLC superblock. -/
def foldDue (tb : Timebase) (d : Device) (s ch : Nat) (c : Cart) (h : FlashChan) : Bool :=
  let full := (c.slcFull ch false).length
  let idle := 64 ≤ (tb.number - h.lastBuild).toNat
  if d.slcChange s then c.slcHeld ch != 0
  else if d.slcFixed s then decide (d.slcRegion s < 2 * full) || (3 ≤ full && idle)
  else 3 ≤ full && (idle || slcMax (c.freeCount ch 0) ≤ c.slcHeld ch)

/-- The valid pages of superblocks, as they wait to be read and programmed elsewhere. -/
def moveQueue (c : Cart) (pages : List (Nat × Nat)) : List ProgPage :=
  pages.map (fun e => match c.pages.get? e.2 with
    | some p => ⟨e.1, p.nsid, p.key, false, 0, some e.2, false, []⟩
    | none => ⟨e.1, 0, 0, false, 0, some e.2, false, []⟩)

/-- R422, R423: the superblocks that a fold of a channel takes now. An open one is closed for it. -/
def foldSources (d : Device) (s ch : Nat) (c : Cart) : List Nat := (c.slcFull ch (d.slcChange s)).take 3

/-- R423, step 1: a fold of a channel begins. -/
def foldBegin (s ch : Nat) (d : Device) : Device :=
  let x := d.slot s
  let h := x.chan ch
  match x.cart with
  | none => d
  | some c =>
    let src := foldSources d s ch c
    match c.leastWorn ch (d.slcRegion s) 3800 with
    | none => d
    | some t =>
      if src == [] then d
      else
        let c := src.foldl (fun c k => c.updSb k (fun b => { b with st := .full })) c
        let c := c.updSb t (fun b => { b with st := .openSb, slc := false })
        let h := { h with
          fold := some ⟨d.flash.nextFold, [t], src, []⟩, queue := h.queue.set 1 (moveQueue c (src.flatMap x.validIn)),
          openSbs := (h.openSbs.mapVals (fun _ l => l.filter (fun k => !src.contains k))).set 1 [t] }
        let d := { d with flash := { d.flash with nextFold := d.flash.nextFold + 1 } }
        lifeCheck s (d.setSlot s ({ x with cart := some c }.setChan ch h))

/-! ### Mount (R413, R420, R430, R486, R487) -/

/-- R413: a record leaves the directory of the cartridge that is mounted. -/
def FlashSlot.unlist (id : Nat) (x : FlashSlot) : FlashSlot :=
  x.onCart (fun c => { c with dir := c.dir.del id, dirSlot := c.dirSlot.del id, born := c.born.del id })

/-- R161, R413: an object is discarded: it leaves the object table, and the operations that write it end with MEDIA_ERROR. -/
def Device.discardObj (d : Device) (id : Nat) : Device :=
  let d := match d.obj? id with
    | some o => (d.unmapObj id o).dropObj id
    | none => d
  let mine (t : TierOp) : Bool := t.obj == id
  let ends := d.store.ops.filter mine
  let d := { d with store := { d.store with ops := d.store.ops.filter (fun t => !mine t) } }
  ends.foldl (fun d _ => tierDone id 7 d) d

/-- R413: one object of the directory at mount. One that was being released and is in no table any more is gone. -/
def mountObj (s : Nat) (d : Device) (e : Nat × Obj) : Device :=
  let (id, o) := e
  let t := d.obj? id
  let slotOf := match (d.slot s).cart with | some c => c.dirSlot.getD id s | none => s
  if slotOf != s || !bit s o.base || (t.isSome && !t.any o.same) then d.raise 0x0C0D [(1, s), (2, id)]
  else if o.st == .building || o.st == .sealing then
    ((d.discardObj id).updSlot s (fun x => x.unlist id)).raise 0x0C0E [(1, s), (2, id)]
  else if t.isSome then d
  else if o.st == .sealed then d.setObj id o
  else d.updSlot s (fun x => x.unlist id)

/-- R486: a blank cartridge gets a system key, wrapped into its element; every block waits to be erased before it is used, and
those retired stay so (R421). -/
def initBlank (s : Nat) (d : Device) : Device :=
  let k := d.flash.nextKey
  let key := d.drawKey
  let d := { d with flash := { d.flash with nextKey := k + 1 } }
  d.updSlot s (fun x => x.onCart (fun c => { c with
    sysKey := some k, sysForeign := false, sysBlob := kwWrap (wrapKey c.ident.serial) key, unerased := true,
    sbs := c.sbs.mapVals (fun _ b => { b with st := .erase, refresh := false }),
    pages := [], data := [], nss := [], dir := [], dirSlot := [], born := [], ckpts := [], commits := [] }))

def mountFail (s : Nat) (key : Bool) (d : Device) : Device :=
  let d := d.updSlot s (fun x => { x.volatileOff with st := .failed, failReason := 5, unwrapFail := key })
  let d := d.raise 0x0C04 [(1, s)]
  if key then (d.inc R.SEC_UNWRAP_FAILS).raise 0x0F03 [(1, s), (2, 0)] else d

/-- R486, R487: the keys that a mount unwraps, by namespace, those of the key table as they were read; what this module wrapped
and reads as it was written passes its check (DESIGN CHOICE, log entry 159). -/
def Cart.unwrapped (c : Cart) (found : MountRead) : Tbl (Option (List Byte)) :=
  let kek := wrapKey c.ident.serial
  ((0, some ((kwUnwrap kek c.sysBlob).getD [])) : Nat × Option (List Byte)) :: c.nss.map (fun n => (n.1, match found.keys.lookup n.1 with
    | some b => kwUnwrap kek b
    | none => some ((kwUnwrap kek n.2.blob).getD [])))

/-- R416, R487: the namespaces whose key fails its check. -/
def Cart.lockedNss (c : Cart) (found : MountRead) : List Nat :=
  (c.nss.filter (fun n => match found.keys.lookup n.1 with
    | some b => (kwUnwrap (wrapKey c.ident.serial) b).isNone
    | none => false)).map (·.1)

/-- The map of a cartridge is rebuilt, and the slot is READY: the recovery of R430, the folds that did not commit beginning anew
under a new ID. -/
def mountOk (s : Nat) (found : MountRead) (k : Ckpt) (c : Cart) (d : Device) : Device :=
  let d := c.dir.foldl (mountObj s) d
  match (d.slot s).cart with
  | none => d
  | some c =>
    let map := c.rebuild s k found.spares
    let folds := c.openFolds
    let locked := c.lockedNss found
    let keys : Tbl (List Byte) := (c.unwrapped found).filterMap (fun e => e.2.map (fun k => (e.1, k)))
    let seqs := (List.range 16).map (fun ch =>
      (ch, { freshChan with seq := (c.pages.filter (fun p => p.1 / 2 ^ 28 == ch)).foldl (fun m p => max m (p.2.seq + 1)) 0 }))
    let c := (((c.recoverSbs map).raiseWear (d.slcRegion s)).bump 0x6C 1).bump 0x64 folds.length
    let d := d.updSlot s (fun x => { x with
      st := .ready, cart := some c, map := map, chans := seqs, locked := locked, keys := keys, offline := false, force := false })
    let d := locked.foldl (fun d n => (d.inc R.SEC_UNWRAP_FAILS).raise 0x0F03 [(1, s), (2, n)]) d
    let d := folds.foldl (fun d f => (d.inc (slotReg R.FLASH_FOLD_RESTARTS s)).raise 0x0C0C [(1, s), (1, f.1), (4, f.2)]) d
    let d := ((folds.map (·.1)).eraseDups).foldl (fun d ch => foldBegin s ch d) d
    lifeCheck s (d.raise 0x0C03 [(1, s)])

/-- R420: the reads of the mount are done; no complete checkpoint can be read, or the map is rebuilt. -/
def mountDone (s : Nat) (found : MountRead) (d : Device) : Device :=
  let x := d.slot s
  match x.cart with
  | none => d
  | some c =>
    if x.st != .mounting then d
    else if c.sysKey.isSome && c.sysForeign then mountFail s true d
    else if !x.supplied then mountFail s false d
    else if c.sysKey.isNone && !d.rngOk then d.cmdRefusedOpen R.SEC_CART_CMD
    else
      let d := if c.sysKey.isNone then initBlank s d else d
      match (d.slot s).cart.bind (fun c => (c.readableCkpt found.segs).map (fun k => (c, k))) with
      | none => mountFail s false d
      | some (c, k) => mountOk s found k c d

/-- MOUNT_DONE (R420): what the mount found otherwise than as it was written. -/
def execMountDone (slot : Nat) (found : MountRead) (s : State) : Host.Outcome State Fault Refusal :=
  .next (s.onDev (fun _ d => mountDone slot found d))

/-! ### Removal and reset -/

def Device.slotSel (d : Device) : Nat := d.fld R.FLASH_SLOT_SEL 1 0

/-- R412: folds in progress are abandoned; their targets are queued for erase. -/
def FlashSlot.dropFolds (x : FlashSlot) : FlashSlot :=
  let targets := x.chans.flatMap (fun c => match c.2.fold with | some f => f.targets | none => [])
  let x := { x with chans := x.chans.mapVals (fun _ h => { h with fold := none, queue := h.queue.del 1, openSbs := h.openSbs.del 1 }) }
  x.onCart (fun c => targets.foldl (fun c k => c.updSb k (fun b => { b with st := .erase })) c)

/-- R412: a slot begins to drain; without FORCE it writes every dirty segment of its map. -/
def FlashSlot.drain (force : Bool) (x : FlashSlot) : FlashSlot :=
  let y := { x.dropFolds with st := .draining, force := force }
  if force then { y with ckpt := none } else y.ckptBegin

def removeSlot (force : Bool) (d : Device) : Device :=
  let s := d.slotSel
  if (d.slot s).st != .ready || d.inTransit then d else d.updSlot s (fun x => x.drain force)

/-- REMOVE (R412). -/
def execRemove (s : State) : Host.Outcome State Fault Refusal := .next (s.onReg (fun _ d => removeSlot false d))

/-- FORCE_REMOVE (R412). -/
def execForceRemove (s : State) : Host.Outcome State Fault Refusal := .next (s.onReg (fun _ d => removeSlot true d))

/-- R412: what falls at the boundary after a REMOVE. -/
def drainBoundary (d : Device) : Device :=
  (List.range 4).foldl (fun d s => d.updSlot s (fun x => if x.st == .draining then { x with offline := true } else x)) d

/-- R412: a read of a slot is out: of text, or of a walk. -/
def Device.readsOut (d : Device) (s : Nat) (ps : Nat → Bool) : Bool :=
  d.flash.reads.any (fun r => r.slot == s && (match r.src with | .page p => ps p | _ => false))
    || d.sieve.searches.any (fun q => q.2.ctxs.any (fun x => x.st == .reading && (match x.src with | .page p => ps p | _ => false)
      && (match d.obj? q.2.data with | some o => bit s o.base | none => false)))

/-- R412: nothing of the drain is left: the reads that were issued are delivered, and, without FORCE, no segment is dirty. -/
def Device.drained (d : Device) (s : Nat) : Bool :=
  let x := d.slot s
  !d.flash.reads.any (fun r => r.slot == s) && !d.readsOut s (fun _ => true) && (x.force || (x.ckpt.isNone && x.dirty == []))

def drainDone (s : Nat) (d : Device) : Device :=
  if (d.slot s).st != .draining || !d.drained s then d
  else ((lifeCheck s d).updSlot s (fun x => { x.volatileOff with st := .removable })).raise 0x0C05 [(1, s)]

/-- DRAIN_DONE (R412). -/
def execDrainDone (slot : Nat) (s : State) : Host.Outcome State Fault Refusal := .next (s.onDev (fun _ d => drainDone slot d))

/-- R429 -/
def resetSlot (s : Nat) (d : Device) : Device :=
  if (d.slot s).st == .empty then d
  else
    let d := failReads s 0x91 d
    d.updSlot s (fun x => { x.dropFolds.volatileOff with st := .detected, resetting := true, readOnly := false, temp := 0x80 })

/-- SLOT_RESET (R429). -/
def execSlotReset (s : State) : Host.Outcome State Fault Refusal := .next (s.onReg (fun _ d => resetSlot d.slotSel d))

def slotResetOffDone (s : Nat) (d : Device) : Device := d.updSlot s (fun x => { x with resetting := false })

/-- SLOT_RESET_OFF_DONE (R429). -/
def execSlotResetOffDone (slot : Nat) (s : State) : Host.Outcome State Fault Refusal :=
  .next (s.onDev (fun _ d => slotResetOffDone slot d))

/-! ### Health (R431) -/

/-- R409: a cartridge whose authentication succeeded stands in the slot. -/
def FlashSlot.authentic (x : FlashSlot) : Option Cart :=
  if x.authDone || x.st == .mounting || x.mounted then x.cart else none

def healthRecord (d : Device) (s : Nat) : List Byte :=
  let x := d.slot s
  match x.authentic with
  | none => List.replicate 256 0
  | some c =>
    let r := d.slcRegion s
    let st (o : Nat) : Nat := c.stats.getD o 0
    let free := (List.range 16).foldl (fun m ch => min m (c.freeCount ch r)) 3800
    sliceBytes (
      leBytes 8 c.serial.toNat ++ leBytes 2 (c.lifeUsed r) ++ leBytes 2 c.life ++ leBytes 4 (c.poolWear r 3800)
      ++ leBytes 4 (c.wearBase + c.sbs.foldl (fun m b => max m b.2.wear) 0) ++ leBytes 4 (c.poolWear 0 r) ++ leBytes 2 free ++ leBytes 2 (st 0x1A)
      ++ leBytes 4 0
      ++ leBytes 8 (st 0x20) ++ leBytes 8 (st 0x28) ++ leBytes 8 (st 0x30) ++ leBytes 8 (st 0x38) ++ leBytes 8 (st 0x40)
      ++ leBytes 4 (st 0x48) ++ leBytes 4 (st 0x4C) ++ leBytes 8 (st 0x50) ++ leBytes 8 (st 0x58) ++ leBytes 4 (st 0x60)
      ++ leBytes 4 (st 0x64) ++ leBytes 4 (st 0x68) ++ leBytes 4 (st 0x6C) ++ leBytes 1 x.temp ++ leBytes 1 c.maxTemp
      ++ List.replicate 14 0 ++ ((List.range 16).map (fun k => leBytes 4 (c.hist.getD k 0 / 2 ^ 20))).flatten) 0 256

def health (d : Device) : Device :=
  let r := healthRecord d d.slotSel
  (List.range 64).foldl (fun d w => d.setReg (R.FLASH_HEALTH0 + 4 * w) (fieldLe r (4 * w) 4)) d

/-- HEALTH (R431). -/
def execHealth (s : State) : Host.Outcome State Fault Refusal := .next (s.onReg (fun _ d => health d))

/-! ### Namespaces (R414, R417) -/

def Device.nsSel (d : Device) : Nat := d.fld R.FLASH_NS_SEL 15 0

/-- R414: the READY slots on which a namespace exists. -/
def Device.nsSlots (d : Device) (ns : Nat) : List Nat := (List.range 4).filter (fun s => (d.nsOn ns s).isSome)

def nsLast (v : Nat) (d : Device) : Device := d.setFld R.FLASH_NS_CMD 23 16 v

def nsCreate (d : Device) : Device :=
  let ns := d.nsSel
  let cfg := d.reg (inst R.FLASH_NS_CFG ns)
  let quota := d.reg (inst R.FLASH_NS_QUOTA ns)
  let mask := bits 27 24 cfg
  let slots := slotList mask
  let carts := slots.filterMap (fun s => (d.slot s).cart)
  if !d.rngOk then d.cmdRefusedOpen R.FLASH_NS_CMD
  else if ns == 0 || d.nsSlots ns != [] then nsLast 1 d
  else if mask == 0 || slots.any (fun s => (d.slot s).st != .ready || (d.slot s).readOnly) then nsLast 4 d
  else if carts.any (fun c => 256 ≤ c.nss.length) then nsLast 5 d
  else if carts.any (fun c => 1953125008 < quota + (c.nss.map (fun n => n.2.quota)).sum) then nsLast 6 d
  else
    let k := d.flash.nextKey
    let key := d.drawKey
    let n (c : Cart) : FlashNs :=
      ⟨if bit 31 cfg then none else some (bits 9 0 cfg), mask, quota, k, kwWrap (wrapKey c.ident.serial) key⟩
    let d := { d with flash := { d.flash with nextKey := k + 1 } }
    let d := slots.foldl (fun d s => d.updSlot s (fun x =>
      { x with locked := x.locked.filter (· != ns), keys := x.keys.set ns key }.onCart (fun c => { c with nss := c.nss.set ns (n c) }))) d
    nsLast 0 d

/-- NS_CREATE (R414). -/
def execNsCreate (s : State) : Host.Outcome State Fault Refusal := .next (s.onReg (fun _ d => nsCreate d))

def nsDelete (d : Device) : Device :=
  let ns := d.nsSel
  match (d.nsSlots ns).head?.bind (fun s => d.nsOn ns s) with
  | none => nsLast 2 d
  | some n =>
    let slots := slotList n.slots
    let inDir := slots.any (fun s => match (d.slot s).cart with | some c => c.dir.any (fun o => o.2.ns == ns) | none => false)
    if d.store.objects.any (fun o => o.2.tier == 3 && o.2.ns == ns) || inDir then nsLast 3 d
    else if slots.any (fun s => (d.slot s).st != .ready || (d.slot s).readOnly) then nsLast 4 d
    else
      let d := slots.foldl (fun d s => d.updSlot s (fun x =>
        let pages := match x.cart with | some c => c.pages | none => []
        let x := { x with map := x.map.filter (fun e => match pages.get? e.2 with | some p => p.nsid != ns | none => true) }
        ({ x with locked := x.locked.filter (· != ns), keys := x.keys.del ns }.onCart (fun c => { c with nss := c.nss.del ns })).freeEmpty)) d
      nsLast 0 d

/-- NS_DELETE (R417). -/
def execNsDelete (s : State) : Host.Outcome State Fault Refusal := .next (s.onReg (fun _ d => nsDelete d))

/-- R434: the counters of every slot. -/
def flashCounters : List Nat :=
  (List.range 4).flatMap (fun s => [R.FLASH_READS, R.FLASH_RETRIES, R.FLASH_UNCORR, R.FLASH_PROGRAMS, R.FLASH_ERASES, R.FLASH_FOLDS,
    R.FLASH_FOLD_RESTARTS, R.FLASH_REFRESHES].map (fun a => slotReg a s))

/-- FLASH_CNT_CLR (R434). -/
def execFlashCntClr (s : State) : Host.Outcome State Fault Refusal := .next (s.onReg (fun _ d => d.clear flashCounters))

/-! ### Reads (R426, R427) -/

/-- The key of a handoff's text reads of a channel in a furrow. -/
def FlashRead.usedKey (r : FlashRead) (h : Nat) : Nat := 64 * h + 16 * r.slot + r.lpn % 16

/-- R390, R407: a read attempt may be made in this furrow: of a handoff by its record, of shard text by what is unclaimed. -/
def readAllowed (d : Device) (f : Nat) (r : FlashRead) : Bool :=
  match r.user with
  | .text h _ =>
    match (d.plots.handoffs.get? h).bind (·.res) with
    | some v => bit r.slot v.slots && d.flash.used.getD (r.usedKey h) 0 < v.reads
    | none => true
  | _ => 0 < d.buildLeft f r.slot (r.lpn % 16)

/-- It is made. -/
def chargeRead (d : Device) (f : Nat) (r : FlashRead) : Device := match r.user with
  | .text h _ =>
    let k := r.usedKey h
    { d with flash := { d.flash with used := d.flash.used.set k (d.flash.used.getD k 0 + 1) } }
  | _ => d.takeBuild f r.slot (r.lpn % 16) 1

/-- The namespace of the object that holds an LPN of a slot. -/
def Device.nsOfLpn (d : Device) (s lpn : Nat) : Nat :=
  match d.store.objects.find? (fun o => o.2.tier == 3 && bit s o.2.base && o.2.lpn.getD s 0 ≤ lpn
      && lpn < o.2.lpn.getD s 0 + 16 * lpnRows o.1 o.2.base o.2.size) with
  | some o => o.2.ns
  | none => 0

/-- Read number i ends; with a detail it failed. -/
def endRead (i : Nat) (r : FlashRead) (bad : Option Nat) (d : Device) : Device :=
  let f := { d.flash with reads := d.flash.reads.eraseIdx i }
  let key : Option (Nat × Nat) := match r.user with
    | .text h it => some (h, it)
    | .textReq q it => some (2 ^ 32 + q, it)
    | _ => none
  match bad, key with
  | some det, some k => { d with flash := { f with
      failed := (f.failed ++ [k]).eraseDups, failDetail := if f.failDetail.has k.1 then f.failDetail else f.failDetail.set k.1 det } }
  | _, _ => { d with flash := f }

/-- R426, R427: an attempt at a page of the flash. Its codewords are corrected, or it is tried again with the next threshold set,
or after three retries it is uncorrectable. Without its supply a cartridge delivers nothing. -/
def tryPage (i : Nat) (r : FlashRead) (p : Nat) (res : ReadTry) (tb : Timebase) (d : Device) : Device :=
  let x := d.slot r.slot
  let sets := if r.tries == 0 then (match x.cart with | some c => c.readSets p res.temp tb | none => []) else r.sets
  let d := d.updSlot r.slot (fun x => x.setLun p (sets.headD 0))
  let ns := d.nsOfLpn r.slot r.lpn
  if res.ok && x.supplied then endRead i r none (countRead r.slot p r.lpn ns r.tries d)
  else if r.tries < 3 then
    { d with flash := { d.flash with reads := d.flash.reads.set i { r with tries := r.tries + 1, sets := sets.tail } } }
  else endRead i r (some 0x90) (countRead r.slot p r.lpn ns 4 d)

/-- An attempt at outstanding read number i ends. -/
def flashReadDone (i : Nat) (res : ReadTry) (tb : Timebase) (d : Device) : Device :=
  match d.flash.reads[i]? with
  | none => d
  | some r =>
    if !readAllowed d tb.number.toNat r then d
    else
      let d := chargeRead d tb.number.toNat r
      match r.src with
      | .offline => endRead i r (some 0x91) d
      | .keyless => endRead i r (some 0x92) d
      | .zero => endRead i r none d
      | .page p => tryPage i r p res tb d

/-! ### Programs (R421 to R423) -/

/-- R422, R424: a superblock for a stream: SLC or TLC, and which. While the SLC mode or region is to change, no SLC superblock
is opened. -/
def newSb (d : Device) (s ch stream : Nat) (c : Cart) : Option (Bool × Nat) :=
  let region := d.slcRegion s
  if stream != 0 || d.slcChange s then (c.leastWorn ch region 3800).map (fun k => (false, k))
  else if d.slcFixed s then
    match c.leastWorn ch 0 region with
    | some k => some (true, k)
    | none => (c.leastWorn ch region 3800).map (fun k => (false, k))
  else (c.leastWorn ch 0 3800).map (fun k => (decide (c.slcHeld ch < slcMax (c.freeCount ch 0)), k))

/-- The wordlines of a superblock. -/
def sbWordlines : Nat := 12288

/-- The wordline that a superblock programs next: the block of its number is one it still has. -/
def Superblock.nextWl (b : Superblock) : Nat :=
  ((List.range 32).find? (fun i => !b.retired.contains ((b.next + i) % 32))).getD (sbWordlines - b.next) + b.next

/-- The physical page of page k of a wordline of a superblock (R405). -/
def wlPage (ch sb w k : Nat) (slc : Bool) : Nat :=
  let j := w % 32
  physPage ch (j / 4) (j % 4) (sb % 3800) (if slc then w / 32 else 3 * (w / 32) + k)

def fillerPage : ProgPage := ⟨0, 0, 0, true, 0, none, true, []⟩

/-- R421, R425: the map entry of a page programmed. -/
def mapPage (stream : Nat) (m : Tbl Nat) (g : ProgPage) (p : Nat) : Tbl Nat :=
  if g.filler || stream == 1 then m
  else if stream == 0 then m.set g.lpn p
  else if m.get? g.lpn == g.src then m.set g.lpn p else m

/-- R423, R425: the pages of a stream that wait: one to be moved whose LPN has another entry by now is skipped. -/
def FlashSlot.waiting (x : FlashSlot) (ch stream : Nat) : List ProgPage :=
  ((x.chan ch).queue.getD stream []).filter (fun g => match g.src with
    | some p => x.map.contains (g.lpn, p)
    | none => true)

/-- R421: the superblock in which the next wordline of a stream goes: not the one in which it failed. -/
def streamSb (d : Device) (s ch stream : Nat) (c : Cart) : Option (Bool × Nat) :=
  let h := (d.slot s).chan ch
  match (h.openSbs.getD stream []).filter (fun k => h.failed.get? stream != some k) with
  | k :: _ => some ((c.sb k).slc, k)
  | [] => newSb d s ch stream c

/-- R423: the moves that a fold's wordline makes: LPN, source page, target page. -/
def foldMoves (ps : List (Nat × ProgPage × Nat)) : List (Nat × Nat × Nat) :=
  ps.filterMap (fun p => if p.2.1.filler then none else some (p.2.1.lpn, p.2.1.src.getD 0, p.1))

/-- R419: the spare record of a page of a wordline. A page that is moved keeps the version of its source. -/
def Cart.spareOf (c : Cart) (g : ProgPage) (slc : Bool) (fold : Option Nat) (furrow : W48) (temp seq : Nat) : Spare :=
  ⟨g.lpn, g.nsid, slc, g.filler, fold, furrow, temp, seq, g.key, ((g.src.bind c.pages.get?).map (·.ver)).getD seq⟩

/-- R419, R421: a wordline of superblock k is programmed and verified, its last pages FILLER: its pages are mapped, but those of a
fold. -/
def writeWordline (s ch stream k : Nat) (slc : Bool) (batch : List ProgPage) (temp : Nat) (tb : Timebase) (d : Device) : Device :=
  let x := d.slot s
  let h := x.chan ch
  match x.cart with
  | none => d
  | some c =>
    let b := c.sb k
    let w := b.nextWl
    let fid := if stream == 1 then h.fold.map (·.id) else none
    let n := if slc then 1 else 3
    let ps := (batch ++ List.replicate (n - batch.length) fillerPage).zipIdx.map (fun g => (wlPage ch k w g.2 slc, g.1, h.seq + g.2))
    let c' := ps.foldl (fun (a : Cart) p => { a with
      pages := a.pages.set p.1 (c.spareOf p.2.1 slc fid tb.number temp p.2.2),
      data := a.data.writeBytes (pageBytes * p.1) p.2.1.data }) c
    let done := sbWordlines ≤ { b with next := w + 1 }.nextWl
    -- the target of a fold counts as full from its commit on (R423)
    let c' := c'.setSb k { b with slc := slc, next := w + 1, st := if done && stream != 1 then .full else .openSb }
    let c' := (if stream == 0 then c'.bump 0x50 batch.length else c').bump 0x58 ps.length
    let sbs := (h.openSbs.getD stream []).filter (· != k)
    let h := { h with
      openSbs := h.openSbs.set stream (if done then sbs else if h.failed.has stream then sbs ++ [k] else k :: sbs),
      failed := h.failed.del stream,
      queue := h.queue.set stream ((x.waiting ch stream).drop batch.length),
      fold := if stream == 1 then h.fold.map (fun f => { f with
        moves := f.moves ++ foldMoves ps, targets := if f.targets.contains k then f.targets else f.targets ++ [k] }) else h.fold,
      seq := h.seq + ps.length, lastBuild := if stream == 0 then tb.number else h.lastBuild }
    let x := { x with cart := some c', map := ps.foldl (fun (m : Tbl Nat) (p : Nat × ProgPage × Nat) => mapPage stream m p.2.1 p.1) x.map }
    (d.setSlot s (x.setChan ch h).freeEmpty).incBy (slotReg R.FLASH_PROGRAMS s) ps.length

/-- R425: a superblock whose pages have all moved is freed; one with a page that could not be read keeps it. -/
def finishMove (s ch : Nat) (d : Device) : Device :=
  let x := d.slot s
  let h := x.chan ch
  match h.moving with
  | none => d
  | some k =>
    if x.waiting ch 2 != [] then d
    else
      let x := x.onCart (fun c => c.updSb k (fun b =>
        if b.st == .full then { b with st := if x.validIn k == [] then .erase else .full, refresh := false } else b))
      d.setSlot s (x.setChan ch { h with moving := none })

/-- R423, R425, R427: the pages of the next wordline that move and were not read yet are read, in their classes; one that is
uncorrectable stays where it is. -/
def readMoves (s ch stream n : Nat) (classes : List Nat) (tb : Timebase) (d : Device) : Device :=
  let x := d.slot s
  let q := x.waiting ch stream
  let now := (q.take n).zipIdx
  let cls (i : Nat) : Nat := if x.supplied then min 4 (classes.getD i 0) else 4
  let keep (g : ProgPage × Nat) : Option ProgPage :=
    if g.1.read then some g.1
    else if cls g.2 == 4 then none
    else some { g.1 with read := true, data := match x.cart, g.1.src with
      | some c, some p => c.data.readBytes (pageBytes * p) pageBytes
      | _, _ => [] }
  let d := d.setSlot s (x.updChan ch (fun h => { h with queue := h.queue.set stream (now.filterMap keep ++ q.drop n) }))
  (now.filter (fun g => !g.1.read)).foldl (fun d g =>
    let p := g.1.src.getD 0
    countRead s p g.1.lpn g.1.nsid (cls g.2) (d.updSlot s (FlashSlot.tuned tb p (cls g.2)))) d

/-- R407: the transfers of a wordline of n pages: of its program, and of the reads that it still needs, with their retries. -/
def wordlineNeed (n : Nat) (now : List ProgPage) (classes : List Nat) : Nat :=
  n + ((now.zipIdx.filter (fun g => !g.1.read)).map (fun g => 1 + min 3 (classes.getD g.2 0))).sum

/-- R421: the program of a wordline in superblock k failed: the block is retired, and the wordline, where it `held` pages, goes to
another superblock. -/
def programFailed (s ch stream k : Nat) (slc held : Bool) (d : Device) : Device :=
  let x := d.slot s
  let x := x.onCart (fun c =>
    let b := c.sb k
    let b := { b with slc := slc, st := .openSb, retired := b.retired ++ [b.nextWl % 32] }
    ((c.setSb k (if sbWordlines ≤ b.nextWl && stream != 1 then { b with st := .full } else b)).bump 0x1A 1).bump 0x48 1)
  let x := x.updChan ch (fun h =>
    let l := h.openSbs.getD stream []
    { h with
      openSbs := h.openSbs.set stream (if l.contains k then l else l ++ [k]), failed := if held then h.failed.set stream k else h.failed,
      fold := if stream == 1 then h.fold.map (fun f => { f with targets := if f.targets.contains k then f.targets else f.targets ++ [k] })
        else h.fold })
  (d.setSlot s x).raise 0x0C08 [(1, s)]

/-- R421: the wordline whose pages are held is programmed, its last pages FILLER, or its program fails. -/
def programWl (s ch stream k : Nat) (slc : Bool) (rep : ProgReport) (tb : Timebase) (d : Device) : Device :=
  let x := d.slot s
  let n := if slc then 1 else 3
  let batch := ((x.waiting ch stream).takeWhile (·.read)).take n
  if batch == [] && (stream != 1 || x.waiting ch stream != []) then d
  else if rep.ok && x.supplied then
    lifeCheck s (writeWordline s ch stream k slc batch (rep.temp % 256) tb d)
  else programFailed s ch stream k slc (batch != []) d

/-- R421, R423: whether a stream has a wordline to program: its pages make one, or it may be filled up: of an object that is being
sealed, of a move, or what a fold has left of its targets. -/
def wordlineReady (d : Device) (s ch stream n : Nat) : Bool :=
  let x := d.slot s
  let q := x.waiting ch stream
  if q == [] then stream == 1 && (x.chan ch).fold.isSome && (x.chan ch).openSbs.getD 1 [] != []
  else n ≤ q.length || stream != 0 || (q.take n).any (fun g => objSt d g.obj == some .sealing)

/-- R421: the next wordline of a stream of a channel is programmed and verified, or its block is retired; its transfers fit into
what the channel has for the stream in this furrow (R407). -/
def programDone (s ch stream : Nat) (rep : ProgReport) (tb : Timebase) (d : Device) : Device :=
  let x := d.slot s
  match x.cart with
  | none => d
  | some c =>
    if !x.mounted || x.tempHold || 2 < stream then d
    else match streamSb d s ch stream c with
      | none => d
      | some (slc, k) =>
        let n := if slc then 1 else 3
        let need := wordlineNeed n ((x.waiting ch stream).take n) rep.classes - (x.chan ch).paid.getD stream 0
        let f := tb.number.toNat
        if !wordlineReady d s ch stream n || d.streamLeft f s ch stream < need then d
        else
          let d := (d.takeStream f s ch stream need).updSlot s (fun x => x.updChan ch (fun h => { h with paid := h.paid.del stream }))
          finishMove s ch (programWl s ch stream k slc rep tb (readMoves s ch stream n rep.classes tb d))

/-- FLASH_PROGRAM_DONE (R421): streams are 0 writes, 1 the fold, 2 relocation and refresh. -/
def execFlashProgramDone (slot channel stream : Nat) (rep : ProgReport) (s : State) : Host.Outcome State Fault Refusal :=
  .next (s.onDev (programDone slot channel stream rep))

/-- R410, R423, R424: a superblock that was queued for erase is erased, once no page of it is valid and no read of it is out. -/
def eraseDone (s k : Nat) (ok : Bool) (d : Device) : Device :=
  let x := d.slot s
  match x.cart with
  | none => d
  | some c =>
    let b := c.sb k
    if !x.mounted || x.tempHold || b.st != .erase || x.validIn k != [] || d.readsOut s (fun p => sbOfPhys p == k) then d
    else if !ok || !x.supplied then d.setSlot s { x with cart := some (c.bump 0x4C 1) }
    else
      let c := { c with
        pages := c.pages.filter (fun p => sbOfPhys p.1 != k), data := c.data.filter (fun e => sbOfPhys (e.1 / pageBytes) != k),
        commits := c.commits.map (fun (r : Nat × Nat × List Nat) => (r.1, r.2.1, r.2.2.filter (· != k))) }
      let c := c.setSb k { b with st := .free, wear := b.wear + (if b.slc then 1 else 10), next := 0, slc := false, refresh := false }
      lifeCheck s ((d.setSlot s { x with cart := some c }).inc (slotReg R.FLASH_ERASES s))

/-- FLASH_ERASE_DONE (R424): superblock `block` of a channel. -/
def execFlashEraseDone (slot channel block : Nat) (ok : Bool) (s : State) : Host.Outcome State Fault Refusal :=
  .next (s.onDev (fun _ d => eraseDone slot (3800 * channel + block) ok d))

/-! ### Folds, checkpoints, relocation, refresh -/

/-- R422: a fold begins where its condition holds. -/
def foldStart (s ch : Nat) (tb : Timebase) (d : Device) : Device :=
  let x := d.slot s
  let h := x.chan ch
  match x.cart with
  | none => d
  | some c => if x.st != .ready || x.tempHold || h.fold.isSome || !foldDue tb d s ch c h then d else foldBegin s ch d

/-- FOLD_START (R422). -/
def execFoldStart (slot channel : Nat) (s : State) : Host.Outcome State Fault Refusal := .next (s.onDev (foldStart slot channel))

/-- R423, steps 3 and 4: the commit record is the map commit; it names the sources, which are queued for erase. A source with a
page that could not be read keeps it. -/
def foldCommit (s ch : Nat) (d : Device) : Device :=
  let x := d.slot s
  let h := x.chan ch
  match x.cart, h.fold with
  | some c, some f =>
    if x.st != .ready || x.tempHold || x.waiting ch 1 != [] || h.openSbs.getD 1 [] != [] then d
    else
      let x := { x with map := f.moves.foldl (fun (m : Tbl Nat) (e : Nat × Nat × Nat) => if m.get? e.1 == some e.2.1 then m.set e.1 e.2.2 else m) x.map }
      let gone := f.sources.filter (fun k => (c.sb k).st == .full && x.validIn k == [])
      let c := { c with commits := c.commits ++ [(ch, f.id, gone)] }.bump 0x60 1
      let c := f.targets.foldl (fun c k => c.updSb k (fun b => if b.st == .openSb then { b with st := .full } else b)) c
      let x := { x with cart := some c }.setChan ch { h with fold := none, queue := h.queue.del 1, openSbs := h.openSbs.del 1 }
      (d.setSlot s x.freeEmpty).inc (slotReg R.FLASH_FOLDS s)
  | _, _ => d

/-- FOLD_COMMIT (R423). -/
def execFoldCommit (slot channel : Nat) (s : State) : Host.Outcome State Fault Refusal := .next (s.onDev (fun _ d => foldCommit slot channel d))

def checkpoint (s : Nat) (tb : Timebase) (d : Device) : Device :=
  let x := d.slot s
  if x.st != .ready || x.ckpt.isSome || !x.ckptDue tb then d else d.setSlot s { x with ckptFur := some tb.number }.ckptBegin

/-- CHECKPOINT (R420): a checkpoint that is due begins; the boundaries that follow write its segments. -/
def execCheckpoint (slot : Nat) (s : State) : Host.Outcome State Fault Refusal := .next (s.onDev (checkpoint slot))

/-- Start to move the valid pages of a superblock. -/
def startMove (s ch k : Nat) (d : Device) : Device :=
  let x := d.slot s
  match x.cart with
  | none => d
  | some c =>
    let h := x.chan ch
    finishMove s ch (d.setSlot s (x.setChan ch { h with moving := some k, queue := h.queue.set 2 (moveQueue c (x.validIn k)) }))

/-- R425: relocation of the emptiest full superblock. -/
def relocationStart (s ch : Nat) (d : Device) : Device :=
  let x := d.slot s
  match x.cart with
  | none => d
  | some c =>
    let region := d.slcRegion s
    let full := (c.chanSbs ch).filter (fun p => p.2.st == .full && region ≤ p.1 % 3800)
    let best := full.foldl (fun (b : Option (Nat × Nat × Nat)) p =>
      let n := (x.validIn p.1).length
      match b with
      | none => some (p.1, n, p.2.wear)
      | some (_, m, w) => if n < m || (n == m && p.2.wear < w) then some (p.1, n, p.2.wear) else b) none
    match best with
    | some (k, _, _) =>
      if x.st != .ready || x.tempHold || (x.chan ch).moving.isSome || 96 ≤ c.freeCount ch region then d else startMove s ch k d
    | none => d

/-- RELOCATION_START (R425). -/
def execRelocationStart (slot channel : Nat) (s : State) : Host.Outcome State Fault Refusal :=
  .next (s.onDev (fun _ d => relocationStart slot channel d))

/-- R425: REFRESH_AGE in furrows. -/
def Device.refreshAge (d : Device) (s : Nat) : Nat := max 1 (d.fld (slotReg R.FLASH_SLOT_CFG s) 15 0) * 2 ^ 20

/-- R425: a superblock is due for refresh: by the age of its oldest wordline, or by a read that needed retries. -/
def refreshDue (d : Device) (s k : Nat) (c : Cart) (tb : Timebase) : Bool :=
  (c.sb k).refresh || c.pages.any (fun p => sbOfPhys p.1 == k && decide (d.refreshAge s < (tb.number - p.2.furrow).toNat))

/-- R425: an open superblock that is refreshed is closed: no stream writes it any more. -/
def FlashSlot.closeSb (ch k : Nat) (x : FlashSlot) : FlashSlot :=
  (x.updChan ch (fun h => { h with openSbs := h.openSbs.mapVals (fun _ l => l.filter (· != k)) })).onCart
    (fun c => c.updSb k (fun b => { b with st := .full }))

/-- R425, R430: a superblock is refreshed; or the pages that one queued for erase at a mount still holds are moved out of it. -/
def refreshStart (s ch block : Nat) (tb : Timebase) (d : Device) : Device :=
  let k := 3800 * ch + block
  let x := d.slot s
  match x.cart with
  | none => d
  | some c =>
    let b := c.sb k
    if x.st != .ready || x.tempHold || (x.chan ch).moving.isSome then d
    else if b.st == .erase && x.validIn k != [] then startMove s ch k d
    else if !(b.st == .full || (b.st == .openSb && !x.foldTarget k)) || !refreshDue d s k c tb then d
    else
      let d := (d.setSlot s { x with cart := some (c.bump 0x68 1) }).inc (slotReg R.FLASH_REFRESHES s)
      startMove s ch k (if b.st == .openSb then d.updSlot s (FlashSlot.closeSb ch k) else d)

/-- REFRESH_START (R425). -/
def execRefreshStart (slot channel block : Nat) (s : State) : Host.Outcome State Fault Refusal :=
  .next (s.onDev (refreshStart slot channel block))

/-! ### The boundary (R407, R420) -/

/-- R407: what a stream could not finish in a furrow keeps the transfers it had: up to those of its next wordline with every
retry. -/
def bankStream (f s ch stream : Nat) (d : Device) : Device :=
  let x := d.slot s
  match x.cart.bind (fun c => streamSb d s ch stream c) with
  | none => d
  | some (slc, _) =>
    let n := if slc then 1 else 3
    if x.tempHold || !wordlineReady d s ch stream n then d
    else
      let had := (x.chan ch).paid.getD stream 0
      let k := min (d.streamLeft f s ch stream) (wordlineNeed n ((x.waiting ch stream).take n) [3, 3, 3] - had)
      (d.takeStream f s ch stream k).updSlot s (fun x => x.updChan ch (fun h => { h with paid := h.paid.set stream (had + k) }))

/-- R420: up to n transfers of a channel write segments; no program is started in TEMP_HOLD (R428). -/
def segsTake (s ch n : Nat) (take : Nat → FlashChan → FlashChan) (d : Device) : Device :=
  let x := d.slot s
  let k := if x.tempHold || !x.supplied then 0 else min n (x.segsLeft ch)
  if k == 0 then d else ckptWrite s ch k (d.updSlot s (fun x => x.updChan ch (take k)))

/-- R407, R420: the end of a furrow on a channel: a checkpoint that has the held transfers takes them, and writes keep what they
used. -/
def chanFirst (f s ch : Nat) (d : Device) : Device :=
  let d := if (d.slot s).ckptHeld ch then
    segsTake s ch ((d.slot s).chan ch).heldLeft (fun k h => { h with held := h.held + k }) d else d
  bankStream f s ch 0 d

/-- Then, after the page reads of tier operations, folds and moves keep what they used, and what is left writes segments. -/
def chanLast (f s ch : Nat) (d : Device) : Device :=
  let d := bankStream f s ch 2 (bankStream f s ch 1 (finishMove s ch d))
  let o := d.openLeft f s ch
  segsTake s ch (o + ((d.slot s).chan ch).heldLeft) (FlashChan.takeOpen o) d

/-- The transfers of the new furrow are there; without FORCE a draining slot whose map has changed since writes it again. -/
def FlashSlot.newFurrow (x : FlashSlot) : FlashSlot :=
  let x := { x with chans := x.chans.mapVals (fun _ h => { h with unclaimed := 0, held := 0 }) }
  if x.st == .draining && !x.force && x.ckpt.isNone && x.dirty != [] then x.ckptBegin else x

/-- R407: a furrow ends for the channels of the mounted slots. -/
def flashBoundary (n : W48) (d : Device) : Device :=
  let f := n.toNat
  let on := (List.range 4).filter (fun s => (d.slot s).mounted)
  let each (g : Nat → Nat → Device → Device) (d : Device) : Device :=
    on.foldl (fun d s => ((d.slot s).chans.map (·.1)).foldl (fun d ch => g s ch d) d) d
  let d := each (chanLast f) ((List.range d.store.ops.length).foldl (bankReads f) (each (chanFirst f) d))
  on.foldl (fun d s => d.updSlot s FlashSlot.newFurrow) d

/-! ### Temperature (R428) -/

/-- R431: the bin of the temperature history. -/
def tempBin (t : Nat) : Nat :=
  let c := toSigned 8 t
  if c < 0 then 0 else min 15 (c.toNat / 8 + 1)

/-- The hottest die of a slot reads `t`. -/
def slotTemp (s t : Nat) (d : Device) : Device :=
  d.updSlot s (fun x => { x with temp := t % 256 }.onCart (fun c => { c with
    maxTemp := if toSigned 8 c.maxTemp < toSigned 8 t || c.maxTemp == 0x80 then t % 256 else c.maxTemp }))

/-- R431, R503: the readings of the slots at a boundary; each furrow counts in a bin of the history. -/
def slotTemps (temps : List Nat) (d : Device) : Device :=
  (List.range 4).foldl (fun d s =>
    let t := temps.getD (7 + s) 0x80
    if !(d.slot s).mounted || t == 0x80 then d
    else (slotTemp s t d).updSlot s (fun x => x.onCart (fun c => { c with
      hist := c.hist.set (tempBin t) (c.hist.getD (tempBin t) 0 + 1) }))) d

/-- R409, R428: nothing of a cartridge that was not authenticated is read or written. -/
def tempHoldEnter (s t : Nat) (d : Device) : Device :=
  let x := d.slot s
  match x.cart with
  | none => d
  | some c =>
    if x.tempHold || x.authentic.isNone || !(decide (toSigned 8 c.tWriteMax < toSigned 8 t)) then d
    else ((slotTemp s t d).updSlot s (fun x => { x with tempHold := true })).raise 0x0C0B [(1, s)]

/-- TEMP_HOLD_ENTER (R428): the hottest die of the slot reads `temp` °C, two's complement of 8 bits. -/
def execTempHoldEnter (slot temp : Nat) (s : State) : Host.Outcome State Fault Refusal :=
  .next (s.onDev (fun _ d => tempHoldEnter slot temp d))

def tempHoldExit (s t : Nat) (d : Device) : Device :=
  let x := d.slot s
  match x.cart with
  | none => d
  | some c =>
    if !x.tempHold || x.authentic.isNone || decide (toSigned 8 c.tWriteMax < toSigned 8 t + 5) then d
    else (slotTemp s t d).updSlot s (fun x => { x with tempHold := false })

/-- TEMP_HOLD_EXIT (R428). -/
def execTempHoldExit (slot temp : Nat) (s : State) : Host.Outcome State Fault Refusal :=
  .next (s.onDev (fun _ d => tempHoldExit slot temp d))

end Sys2Proof.Machine
end

