-- ==== Sys2Proof/Machine/Landing.lean ====
section
/-! DEFINITION. Deadline handoffs as the delivering units see them (R79 to R82): items landed, flags, what a landing
record holds. -/
namespace Sys2Proof.Machine

def Device.handoff? (d : Device) (h : Nat) : Option Handoff := d.plots.handoffs.get? h

def Device.updHandoff (d : Device) (h : Nat) (f : Handoff → Handoff) : Device :=
  { d with plots := { d.plots with handoffs := d.plots.handoffs.upd h f } }

/-- R494: the die of a plot of a context, from which the events of its handoffs come. -/
def Device.plotDie (d : Device) (c handle : Nat) : Nat :=
  match d.plots.dir.get? (65536 * c + handle) with | some p => p.die | none => 4

/-- R82: an item that comes after the cutoff of a handoff, or after it closed. -/
def Device.lateItem (d : Device) (hid : Nat) : Device :=
  let d := d.inc R.ARR_SOW_LATE_ITEMS
  match d.handoff? hid, d.plots.closed.get? hid with
  | some h, _ => d.raiseDie 0x0208 (d.plotDie h.ctx h.handle) h.ctx [(2, h.handle)]
  | none, some (c, handle, die) => d.raiseDie 0x0208 die c [(2, handle)]
  | none, none => d.raise 0x0208 []

/-- R80, R81, R82: item i lands whole, and its bit is set, unless the cutoff has passed. -/
def Device.landItem (d : Device) (hid i : Nat) (data : List Byte) : Device :=
  match d.handoff? hid with
  | none => d.lateItem hid
  | some h =>
    if h.cutoff then d.lateItem hid
    else if h.noWork || h.itemsMax ≤ i || h.landedItems.contains i then d
    else
      let d := d.bgWrite (some hid) (h.itemAddr i) (data.take h.stride)
      let b := h.addr + 64 + i / 8
      let d := d.bgWrite (some hid) b [(d.mem.read b) ||| BitVec.ofNat 8 (2 ^ (i % 8))]
      d.updHandoff hid (fun h => { h with landedItems := h.landedItems ++ [i] })

/-- R283: another reply in the same clk takes the place of the one that landed. -/
def Device.relandItem (d : Device) (hid i : Nat) (data : List Byte) : Device :=
  match d.handoff? hid with
  | none => d
  | some h => if h.cutoff || h.noWork || h.itemsMax ≤ i then d else d.bgWrite (some hid) (h.itemAddr i) (data.take h.stride)

/-- R396: the handoff was unreserved, or carries UNLOCKED or FENCED. -/
def Handoff.unpromised (h : Handoff) : Bool := h.res.isNone || bit 1 h.flags || bit 2 h.flags

/-- R396: its requests have the promises of class 0 no more. -/
def Device.unpromise (d : Device) (h : Handoff) : Device :=
  h.reqs.foldl (fun d r => d.updReq r (fun q => { q with boundOk := false })) d

/-- R80, R84: a delivering unit sets a flag (0 FILTER_SHORT, 1 UNLOCKED, 2 FENCED, 3 MEDIA_ERROR), with the detail code
of the first time. -/
def Device.flagHandoff (d : Device) (hid b detail : Nat) : Device :=
  let d := match d.handoff? hid with
    | some h => if (b == 1 || b == 2) && !h.cutoff then d.unpromise h else d
    | none => d
  d.updHandoff hid (fun h => if h.cutoff then h else { h with
    flags := Nat.lor h.flags (2 ^ b),
    flagDetails := if h.flagDetails.has b then h.flagDetails else h.flagDetails.set b detail })

/-- The landing record's KIND_DETAIL, kept by the delivering unit. -/
def Device.setDetail (d : Device) (hid : Nat) (l : List Byte) : Device :=
  d.updHandoff hid (fun h => if h.cutoff then h else { h with detail := sliceBytes l 0 16 })

/-- R80: the landing record as it stands. `status` and the closing furrow are given by the close. -/
def Handoff.record (h : Handoff) (status : Nat) (close : W48) : List Byte :=
  leBytes 4 h.id ++ leBytes 1 h.kind ++ leBytes 1 status ++ leBytes 2 h.flags ++ leBytes 4 h.expected
    ++ leBytes 4 h.landedItems.length ++ leBytes 8 h.issue.toNat ++ leBytes 8 close.toNat
    ++ sliceBytes h.detail 0 16 ++ List.replicate 16 0

/-- R80: STATUS, `early` for a handoff that closes before its deadline. -/
def Handoff.status (h : Handoff) (early : Bool) : Nat :=
  let n := h.landedItems.length
  if h.noWork then 2
  else if n < h.expected then (if n == 0 then 2 else 1)
  else if early then 3 else 0

end Sys2Proof.Machine
end

