-- ==== Sys2Proof/Machine/Sieve.lean ====
section
/-! DEFINITION. Vector search (09_vector_search): descriptors, scoring, walks and scans, collectors, landing and
harvest, and the index slots. -/
namespace Sys2Proof.Machine

/-! ### Index headers and slots (R241, R242) -/

/-- A field of a search's header. -/
def Search.hdr (s : Search) (off n : Nat) : Nat := fieldLe s.header off n

/-- A field of a search's work descriptor (R246). -/
def Search.dsc (s : Search) (off n : Nat) : Nat := fieldLe s.desc off n

def hdrGraph (h : List Byte) : Bool := fieldLe h 2 1 == 1
def hdrM (h : List Byte) : Nat := fieldLe h 5 1

/-- R242: the checks of a header: every field in its range, the bytes not listed 0. -/
def indexHdrOk (h : List Byte) : Bool :=
  let f := fieldLe h
  let m := f 5 1
  let graph := hdrGraph h
  f 0 2 == 1 && f 2 1 ≤ 1 && f 3 1 ≤ 1 && f 4 1 ≤ 1 && (m == 16 || m == 32 || m == 64)
    && f 6 2 % m == 0 && 1 ≤ f 6 2 && f 6 2 ≤ 4096
    && (f 4 1 == 0 || (f 3 1 == 1 && !graph))
    && (if graph then
          f 0x10 1 ≤ 1 && 8 ≤ f 0x11 1 && f 0x11 1 ≤ 64 && f 0x11 1 % 8 == 0 && 1 ≤ f 0x12 2 && f 0x12 2 ≤ 64
            && f 0x1C 4 == (8 + f 0x11 1 * (8 + m) + 63) / 64 * 64 && f 8 4 ≤ 400000000
        else 1 ≤ f 0x18 4 && f 0x18 4 ≤ 1048576)
    && (List.range 4096).all (fun i => i < 0x20 || fieldLe h i 1 == 0)

/-- R241: the header and entry points of a version of a slot, as the slot's memory holds them. -/
def Device.slotHdr (d : Device) (slot hdr : Nat) : List Byte := d.sieve.cfgMem.getD (65536 * slot + hdr) []

def idxReg (a slot : Nat) : Nat := inst a slot

/-- The header of the CUR version of a slot, 0 for none. -/
def Device.idxCur (d : Device) (slot : Nat) : Nat := d.fld (idxReg R.SIEVE_IDX_CUR slot) 15 0

def Device.idxPublic (d : Device) (slot : Nat) : Bool := d.fld (idxReg R.SIEVE_IDX_CFG slot) 10 10 == 1

/-- OWNER of a slot, none for PUBLIC. -/
def Device.idxOwner (d : Device) (slot : Nat) : Option Nat :=
  if d.idxPublic slot then none else some (d.fld (idxReg R.SIEVE_IDX_CFG slot) 9 0)

/-- R258: a context may search a slot. -/
def Device.idxFor (d : Device) (c slot : Nat) : Bool :=
  d.idxCur slot != 0 && (match d.idxOwner slot with | none => true | some o => o == c)

/-- R260: the version a request binds to, of each slot it may search: header, tombstone object, version. -/
def Device.bindIndexes (d : Device) (c : Nat) : Tbl (Nat × Nat × Nat) :=
  ((List.range 256).filter (d.idxFor c)).map (fun s =>
    (s, d.idxCur s, d.fld (idxReg R.SIEVE_IDX_CUR s) 31 16, d.reg (idxReg R.SIEVE_IDX_CUR_VER s)))

/-- R259: whether the staged version of a slot meets every condition. -/
def Device.idxNextOk (d : Device) (slot : Nat) : Bool :=
  let hdr := d.fld (idxReg R.SIEVE_IDX_NEXT slot) 15 0
  let tomb := d.fld (idxReg R.SIEVE_IDX_NEXT slot) 31 16
  let owner := d.idxOwner slot
  match d.obj? hdr with
  | none => false
  | some o =>
    let h := d.mem.readBytes o.base 4096
    let sealedFor (tier : Nat) (id : Nat) : Bool := match d.obj? id with
      | some x => x.st == .sealed && x.owner == owner && x.tier == tier
      | none => false
    o.st == .sealed && o.kind == 3 && o.tier == 2 && o.owner == owner && indexHdrOk h
      && sealedFor (if hdrGraph h then 3 else 2) (fieldLe h 0x14 2)
      && (match d.obj? (fieldLe h 0x16 2) with | some x => x.owner == owner | none => true)
      && (tomb == 0 || sealedFor 2 tomb)

/-- R288: the corpus text object follows a switch of CORPUS_SLOT. -/
def textSwitch (d : Device) : Device :=
  let cur := d.fld R.BRX_TEXT 15 0
  let next := d.fld R.BRX_TEXT_NEXT 15 0
  (d.setReg R.BRX_TEXT (cur * 65536 + (if next == 0 then cur else next))).setReg R.BRX_TEXT_NEXT 0

/-- R241: the slot's memory takes the header and the entry points of its new CUR version; it keeps those of the version that
becomes PREV and of every version that a request is bound to. -/
def loadSlot (slot hdr prev : Nat) (d : Device) : Device :=
  let mem := match d.obj? hdr with
    | some o =>
      let h := d.mem.readBytes o.base 4096
      h ++ (if hdrGraph h then d.mem.readBytes (o.base + 4096) (fieldLe h 0x12 2 * (8 + hdrM h)) else [])
    | none => []
  let keep (k : Nat) : Bool := k / 65536 != slot || k % 65536 == prev
    || d.qm.reqs.any (fun q => q.2.bindings.any (fun b => b.1 == slot && b.2.1 == k % 65536))
  let l : Tbl (List Byte) := d.sieve.cfgMem.filter (fun p => keep p.1)
  { d with sieve := { d.sieve with cfgMem := l.set (65536 * slot + hdr) mem } }

/-- R259: a staged switch is applied or refused. -/
def idxSwitch (slot : Nat) (d : Device) : Device :=
  let k (a : Nat) : Nat := idxReg a slot
  if d.idxNextOk slot then
    let cur := d.reg (k R.SIEVE_IDX_CUR)
    let ver := d.reg (k R.SIEVE_IDX_CUR_VER)
    let next := d.reg (k R.SIEVE_IDX_NEXT)
    let nver := d.reg (k R.SIEVE_IDX_NEXT_VER)
    let tombOnly := next % 65536 == cur % 65536 && next != cur
    let gen := if tombOnly then (d.fld (k R.SIEVE_IDX_CTRL) 31 24 + 1) % 256 else 0
    let d := (d.setReg (k R.SIEVE_IDX_PREV) cur).setReg (k R.SIEVE_IDX_PREV_VER) ver
    let d := (d.setReg (k R.SIEVE_IDX_CUR) next).setReg (k R.SIEVE_IDX_CUR_VER) (if tombOnly then ver else nver)
    let d := (d.setFld (k R.SIEVE_IDX_CTRL) 17 16 1).setFld (k R.SIEVE_IDX_CTRL) 31 24 gen
    let d := loadSlot slot (next % 65536) (cur % 65536) d
    (if slot == d.fld R.BRX_CFG 31 24 then textSwitch d else d).raise 0x0605 []
  else (d.setFld (k R.SIEVE_IDX_CTRL) 17 16 2).raise 0x0606 []

/-- R259, R44: the staged switches at a boundary. -/
def indexBoundary (due : Bool → W48 → Due) (d : Device) : Device :=
  d.sieve.pendIdx.foldl (fun d p =>
    let plane := d.fld (idxReg R.SIEVE_IDX_CFG p.1) 11 11 == 1
    let settle (d : Device) : Device :=
      { d with sieve := { d.sieve with pendIdx := d.sieve.pendIdx.del p.1 } }.setFld (idxReg R.SIEVE_IDX_CTRL p.1) 2 2 0
    match due plane p.2 with
    | .wait => d
    | .apply => idxSwitch p.1 (settle d)
    | .drop => settle d) d

/-- SIEVE_IDX_CTRL.STAGE. -/
def idxStage (tb : Timebase) (d : Device) : Device :=
  let slot := d.fld R.SIEVE_IDX_SEL 7 0
  let at_ := d.furReg (idxReg R.SIEVE_IDX_APPLY_LO slot) (idxReg R.SIEVE_IDX_APPLY_HI slot)
  if tb.stageable at_ then
    { d with sieve := { d.sieve with pendIdx := d.sieve.pendIdx.set slot at_ } }.setFld (idxReg R.SIEVE_IDX_CTRL slot) 2 2 1
  else d.setFld (idxReg R.SIEVE_IDX_CTRL slot) 17 16 3

/-- SIEVE_IDX_STAGE (R259). -/
def execSieveIdxStage (s : State) : Host.Outcome State Fault Refusal := .next (s.onReg idxStage)

def idxCancel (d : Device) : Device :=
  let slot := d.fld R.SIEVE_IDX_SEL 7 0
  { d with sieve := { d.sieve with pendIdx := d.sieve.pendIdx.del slot } }.setFld (idxReg R.SIEVE_IDX_CTRL slot) 2 2 0

/-- SIEVE_IDX_CANCEL (R264). -/
def execSieveIdxCancel (s : State) : Host.Outcome State Fault Refusal := .next (s.onReg (fun _ d => idxCancel d))

def sieveCounters : List Nat := [R.SIEVE_SEARCHES, R.SIEVE_HARVESTED, R.SIEVE_ABANDONED, R.SIEVE_FILTER_SHORT,
  R.SIEVE_PAGE_READS, R.SIEVE_READ_RETRIES, R.SIEVE_LOOKUPS, R.SIEVE_TOMB_HITS, R.SIEVE_NAN, R.SIEVE_CODES_LO,
  R.SIEVE_CODES_HI]

/-- SIEVE_CNT_CLR (R264). -/
def execSieveCntClr (s : State) : Host.Outcome State Fault Refusal := .next (s.onReg (fun _ d => d.clear sieveCounters))

/-! ### The descriptor (R246, R247) -/

/-- An engine's domain is on. -/
def Device.engineOn (d : Device) (e : Nat) : Bool := d.funcOn (if e < 32 then 20 else 21)

/-- The powered engines of a mask, ascending. -/
def Device.engines (d : Device) (mask : Nat) : List Nat := (List.range 64).filter (fun e => bit e mask && d.engineOn e)

/-- The engines that are powered, as an ENGINE_MASK. -/
def Device.engMask (d : Device) : Nat := ((d.engines (2 ^ 64 - 1)).map (fun e => 2 ^ e)).sum

/-- PSTRIDE. -/
def probeStride (desc : List Byte) : Nat := (8 * (fieldLe desc 0x30 2 + fieldLe desc 0x32 2) + 63) / 64 * 64

/-- The offsets of a descriptor that R246 lists no byte at. -/
def sieveReserved (i : Nat) : Bool := (0x43 ≤ i && i < 0x48) || 0x68 ≤ i

/-- Check 5 of R247. -/
def sieveFieldsOk (desc : List Byte) (graph port : Bool) : Bool :=
  let f := fieldLe desc
  let inR (lo hi v : Nat) : Bool := lo ≤ v && v ≤ hi
  inR 1 16 (f 0 1) && f 1 1 ≤ 1 && (port || f 4 4 == 0) && inR 1 1024 (f 8 2) && f 0x10 8 % 64 == 0 && f 0x18 8 % 64 == 0
    && f 0x32 2 ≤ 4096 && f 0x40 1 ≤ 4 && f 0x41 1 ≤ 1 && f 0x42 1 ≤ 2
    && (List.range 256).all (fun i => !sieveReserved i || f i 1 == 0)
    && (if graph then
          inR 1 32 (f 0xC 1) && f 0xE 1 == 0 && f 0x18 8 == 0 && f 0x30 2 == 0 && f 0x34 4 == 0
            && inR 8 256 (f 0x38 2) && inR 1 4096 (f 0x3A 2)
        else inR 1 64 (f 0xC 1) && inR 1 4096 (f 0x30 2) && 1 ≤ f 0x34 4 && f 0x38 2 == 0 && f 0x3A 2 == 0)

def sieveWin (x : Context) (slot : Nat) : Window := if slot ≤ 15 then x.win slot else noWindow

/-- The entries of a probe list: list number and bias. -/
def readProbes (m : Memory) (a n : Nat) : List (Nat × Nat) :=
  (List.range n).map (fun i => (m.readLe (a + 8 * i) 4, m.readLe (a + 8 * i + 4) 4))

/-- R247: the reason a descriptor is refused, the first that applies; `h` is the header bound to, `port` for the
Bruxia port. -/
def sieveCheck (d : Device) (c : Nat) (h : Option (List Byte)) (port : Bool) (desc : List Byte) (stride itemsMax : Nat) :
    Option Nat :=
  let f := fieldLe desc
  let x := d.ctx c
  let slot := f 2 2
  match h with
  | none => some 1
  | some h =>
    let graph := hdrGraph h
    let n := f 0 1
    let np := f 0x30 2 + f 0x32 2
    let tw := sieveWin x (f 0xD 1)
    let pw := sieveWin x (f 0xE 1)
    let bw := sieveWin x (f 0xF 1)
    let probesOk := (List.range n).all (fun i =>
      let off := f 0x18 8 + i * probeStride desc
      pw.holds off (8 * np) && (readProbes d.mem (pw.base + off) np).all (fun p => p.1 < fieldLe h 0x18 4))
    let mapLen := (fieldLe h 8 4 + 7) / 8
    firstFail [
      (255 < slot || !(if port then d.idxCur slot != 0 && d.idxPublic slot && !graph else d.idxFor c slot), 1),
      (!(tw.tier == 1 && f 0x10 8 + n * 512 * hdrM h ≤ tw.size), 2),
      (!(graph || probesOk), 3),
      (!((f 0x42 1 == 0) == (f 0xF 1 == 0xFF)) || (f 0xF 1 != 0xFF && !(bw.tier != 0 && f 0x20 8 + mapLen ≤ bw.size)), 4),
      (!sieveFieldsOk desc graph port, 5),
      ((d.engines (f 0x28 8)).length < (f 0xC 1 + 31) / 32, 6),
      (itemsMax < n || stride < 16 * f 8 2, 7)]

/-- The searches that a valid descriptor asks for; `bind` is the version they use. -/
def sieveSearches (tb : Timebase) (d : Device) (c : Nat) (bind : Nat × Nat) (desc : List Byte)
    (handoff shard : Option Nat) (deadline : W48) : List Search :=
  let h := d.slotHdr (fieldLe desc 2 2) bind.1
  let x := d.ctx c
  let base (o : Option Obj) : Nat := match o with | some o => o.base | none => 0
  (List.range (fieldLe desc 0 1)).map (fun i =>
    { handoff := handoff, shard := shard, item := i, owner := c, issue := tb.number, deadline := deadline,
      slot := fieldLe desc 2 2, desc := desc, header := h, hdrBase := base (d.obj? bind.1), data := fieldLe h 0x14 2,
      tombBase := if bind.2 == 0 then none else some (base (d.obj? bind.2)),
      tableBase := (sieveWin x (fieldLe desc 0xD 1)).base + fieldLe desc 0x10 8 + i * 512 * hdrM h,
      extraProbes := if hdrGraph h then [] else
        readProbes d.mem ((sieveWin x (fieldLe desc 0xE 1)).base + fieldLe desc 0x18 8 + i * probeStride desc)
          (fieldLe desc 0x30 2 + fieldLe desc 0x32 2),
      bitmap := (sieveWin x (fieldLe desc 0xF 1)).base + fieldLe desc 0x20 8,
      ctxs := [], started := false, extra := false, coll := [], lookups := 0, looked := 0, codes := 0, reads := 0, nanSeen := false,
      media := none })

/-! ### Scoring (R233 to R235) -/

/-- R235: the score of a code, an FP32 pattern; none where it is invalid. -/
def scoreCode (table : List Byte) (code : List Byte) (bias : Option Nat) (l2 : Bool) : Option Nat :=
  let ts := code.mapIdx (fun s b => fieldLe table (512 * s + 2 * b.toNat) 2)
  let finite (f : FpFmt) (w : Nat) : Bool := match f.decode w with | .fin _ _ _ => true | _ => false
  if !ts.all (finite fp16) then none
  else
    let sum := ts.foldl (fun a t => (fp32.add a (convertFp fp16 fp32 t).1).1) 0
    let sum := match bias with | some b => (fp32.add sum b).1 | none => sum
    if finite fp32 sum then some (if l2 then fp32.neg sum else sum) else none

/-- R238: a ranks before b: a higher score, then a lower number. -/
def rankBefore (a b : Nat × Nat) : Bool :=
  let x := fp32.decode a.1
  let y := fp32.decode b.1
  if y.le x == some true && x.le y != some true then true
  else x.le y == some true && y.le x == some true && a.2 < b.2

def insertRank (e : Nat × Nat) : List (Nat × Nat) → List (Nat × Nat)
  | [] => [e]
  | x :: t => if rankBefore x e then x :: insertRank e t else e :: x :: t

/-- R238: an offer to the collector. -/
def collOffer (k : Nat) (l : List (Nat × Nat)) (e : Nat × Nat) : List (Nat × Nat) :=
  match l.find? (fun x => x.2 == e.2) with
  | some x => if rankBefore e x then (insertRank e (l.filter (fun y => y.2 != e.2))).take k else l
  | none => (insertRank e l).take k

/-- R249, R250: s ranks within the collector's best K. -/
def ranksIn (k : Nat) (l : List (Nat × Nat)) (e : Nat × Nat) : Bool :=
  (l.filter (fun x => x.2 != e.2 && rankBefore x e)).length < k

/-! ### A context at work: the device, its search, itself -/

abbrev Work := Device × Search × SieveCtx

def Search.k (s : Search) : Nat := s.dsc 8 2
def Search.filtered (s : Search) : Bool := 0 < s.dsc 0x40 1 || 0 < s.dsc 0x42 1
def Search.maxLookups (s : Search) : Nat := if s.dsc 0x3C 4 == 0 then 4 * s.k else s.dsc 0x3C 4
/-- R252: it has made LOOKUPS lookups. -/
def Search.spent (s : Search) : Bool := s.maxLookups ≤ s.looked
def Search.passage (s : Search) (v : Nat) : Nat := s.hdr 0xC 4 * 2 ^ 32 + v

/-- R252: the predicate on an attribute word. -/
def Search.predicate (s : Search) (attr : Nat) : Bool :=
  let n := s.dsc 0x40 1
  let term (t : Nat) : Bool := Nat.land attr (s.dsc (0x48 + 8 * t) 4) == s.dsc (0x4C + 8 * t) 4
  if n == 0 then true else if s.dsc 0x41 1 == 0 then (List.range n).all term else (List.range n).any term

/-- R235: a code is scored and counted. -/
def scoreOne (code : List Byte) (bias : Option Nat) (w : Work) : Option Nat × Work :=
  let (d, s, x) := w
  let d := d.inc64 R.SIEVE_CODES_LO 1
  let r := scoreCode x.table code bias (s.hdr 3 1 == 0)
  let s := { s with codes := s.codes + 1 }
  match r with
  | some v => (some v, (d, s, x))
  | none =>
    let d := d.inc R.SIEVE_NAN
    let d := if s.nanSeen then d else d.raiseCtx 0x0607 s.owner []
    (none, (d, { s with nanSeen := true }, x))

/-- R251, R252: what a candidate needs next, from step `step` on: a lookup, which the context then waits to issue, or the
offer. -/
def checkFrom (step v sc : Nat) (w : Work) : Work :=
  let (d, s, x) := w
  if step == 0 && s.tombBase.isSome then (d, s, { x with look := some ⟨v, sc, 0⟩ })
  else if step ≤ 1 && s.dsc 0x42 1 != 0 then (d, s, { x with look := some ⟨v, sc, 1⟩ })
  else (d, { s with coll := collOffer s.k s.coll (sc, s.passage v) }, { x with offered := x.offered + 1 })

/-- R249, R250: a scored entry becomes a candidate where its predicate and its rank let it. -/
def offerEntry (v attr sc : Nat) (w : Work) : Work :=
  let s := w.2.1
  if !s.predicate attr || !ranksIn s.k s.coll (sc, s.passage v) then w else checkFrom 0 v sc w

/-- R250: the bits of the visited filter of a vector. -/
def bloomBits (v : Nat) : List Nat := [0x9E3779B1, 0x85EBCA77, 0xC2B2AE3D].map (fun a => (v * a % 2 ^ 32) >>> 14)

/-- The beam in rank order. -/
def insertBeam (e : Nat × Nat × Bool) : List (Nat × Nat × Bool) → List (Nat × Nat × Bool)
  | [] => [e]
  | x :: t => if rankBefore (x.1, x.2.1) (e.1, e.2.1) then x :: insertBeam e t else e :: x :: t

/-- R250: visit. -/
def visit (v attr : Nat) (code : List Byte) (w : Work) : Work :=
  let bs := bloomBits v
  let x := w.2.2
  if bs.all (fun b => bit b x.visited) then w
  else
    let x := { x with visited := bs.foldl (fun f b => Nat.lor f (2 ^ b)) x.visited }
    let (r, w) := scoreOne code none (w.1, w.2.1, x)
    match r with
    | none => w
    | some sc =>
      let (d, s, x) := w
      offerEntry v attr sc (d, s, { x with beam := (insertBeam (sc, v, false) x.beam).take (s.dsc 0x38 2) })

def stopCtx (budget : Bool) (x : SieveCtx) : SieveCtx := { x with st := .stopped, onBudget := x.onBudget || budget }

/-- R250: a chosen node is counted, and waits for its page. -/
def expand (v : Nat) (x : SieveCtx) : SieveCtx := { x with done := x.done + 1, node := v, st := .ready }

/-- R250: the loop up to the next node read or lookup, or the stop. -/
def walkOn (w : Work) : Work :=
  let (d, s, x) := w
  match x.beam.find? (fun e => !e.2.2) with
  | none => (d, s, stopCtx false x)
  | some c =>
    let exp := s.dsc 0x3A 2
    let extra := s.dsc 0x32 2
    if x.done == x.limit && !(s.filtered && x.offered < s.k && x.limit == exp && 0 < extra) then (d, s, stopCtx true x)
    else
      let x := if x.done == x.limit then { x with limit := exp + extra } else x
      let x := { x with beam := x.beam.map (fun e => if e.2.1 == c.2.1 then (e.1, e.2.1, true) else e) }
      if s.hdr 0x10 1 == 1 && s.tombBase.isSome then (d, s, { x with look := some ⟨c.2.1, c.1, 2⟩, st := .ready })
      else (d, s, expand c.2.1 x)

/-- R249: an IVF context's next group, or its stop. -/
def scanOn (d : Device) (s : Search) : List (Nat × Nat) → SieveCtx → SieveCtx
  | [], x => stopCtx false { x with probes := [] }
  | p :: t, x =>
    let lim := (s.dsc 0x34 4 + s.dsc 0xC 1 - 1) / s.dsc 0xC 1
    let groups := d.mem.readLe (s.hdrBase + 0x1000 + 16 * p.1 + 8) 4
    if groups ≤ x.group then scanOn d s t { x with group := 0 }
    else if lim ≤ x.groups then stopCtx true { x with probes := p :: t }
    else { x with st := .ready, probes := p :: t }

/-- The device address of the group that a context reads next (R243). -/
def groupAddr (d : Device) (s : Search) (x : SieveCtx) : Nat :=
  let dir := s.hdrBase + 0x1000 + 16 * (match x.probes with | p :: _ => p.1 | [] => 0)
  (match d.obj? s.data with | some o => o.base | none => 0) + d.mem.readLe dir 8 + x.group * (16 * s.hdr 5 1 + 128)

def Search.graph (s : Search) : Bool := s.hdr 2 1 == 1

/-- R243, R244: entry e of a group or of a node record: vector, attribute word and code. -/
def Search.entryOf (s : Search) (l : List Byte) (e : Nat) : Nat × Nat × List Byte :=
  let m := s.hdr 5 1
  if s.graph then
    let a := 8 + e * (8 + m)
    (fieldLe l a 4, fieldLe l (a + 4) 4, sliceBytes l (a + 8) m)
  else (fieldLe l (16 * m + 4 * e) 4, fieldLe l (16 * m + 64 + 4 * e) 4, sliceBytes l (e * m) m)

/-- The entries that what the context holds has left. -/
def Search.entriesLeft (s : Search) (x : SieveCtx) : Nat :=
  if x.stream.isEmpty then 0 else (if s.graph then s.hdr 0x11 1 else 16) - x.entry

/-- R249, R250: one entry. -/
def scoreEntry (w : Work) : Work :=
  let (d, s, x) := w
  let (v, attr, code) := s.entryOf x.stream x.entry
  let x := { x with entry := x.entry + 1 }
  if v == 0xFFFFFFFF then (d, s, x)
  else if s.graph then visit v attr code (d, s, x)
  else
    let bias := if s.hdr 4 1 == 1 then x.probes.head?.map (·.2) else none
    let (r, w) := scoreOne code bias (d, s, x)
    match r with
    | none => w
    | some sc => offerEntry v attr sc w

/-- What the context holds is scored: it takes up its next group, or walks on. -/
def nextPart (w : Work) : Work :=
  let (d, s, x) := w
  let held := !x.stream.isEmpty
  let x := { x with stream := [], entry := 0 }
  if s.graph then walkOn (d, s, x)
  else if held then
    let x := { x with group := x.group + 1, groups := x.groups + 1 }
    (d, s, scanOn d s x.probes x)
  else (d, s, scanOn d s x.probes x)

/-- R237, R249, R250: a context scores the entries it holds up to the first that needs a lookup, which it is then ready to
issue; `n` entries are left. -/
def scoreOn : Nat → Work → Work
  | 0, w => if w.2.2.look.isSome then (w.1, w.2.1, { w.2.2 with st := .ready }) else nextPart w
  | n + 1, w =>
    if w.2.2.look.isSome then (w.1, w.2.1, { w.2.2 with st := .ready }) else scoreOn n (scoreEntry w)

def work (w : Work) : Work := scoreOn (w.2.1.entriesLeft w.2.2) w

/-! ### Searches -/

def Device.search? (d : Device) (c : Nat) : Option Search := d.sieve.searches.get? c

def Device.setSearch (d : Device) (c : Nat) (s : Search) : Device :=
  { d with sieve := { d.sieve with searches := d.sieve.searches.set c s } }

def Search.allStopped (s : Search) : Bool := s.started && s.ctxs.all (fun x => x.st == .stopped)

/-- R249: probes first to first + n − 1 dealt to contexts, probe j to context j mod CONTEXTS. -/
def dealProbes (d : Device) (s : Search) (first n : Nat) : Search :=
  let c := s.dsc 0xC 1
  let ps := ((s.extraProbes.drop first).take n).zipIdx first
  { s with ctxs := s.ctxs.mapIdx (fun w x =>
      let mine := (ps.filter (fun p => p.2 % c == w)).map (·.1)
      if x.st == .copying then { x with probes := mine, group := 0, groups := 0 }
      else scanOn d s mine { x with probes := mine, group := 0, groups := 0 }) }

/-- R252, R253: what a search does once a context has moved on: it stops on LOOKUPS, or takes its extra probes. -/
def settleSearch (d : Device) (c : Nat) (s : Search) : Device :=
  let s := if s.spent then { s with ctxs := s.ctxs.map (fun x => if x.st == .stopped then x else stopCtx true x) } else s
  let extra := s.dsc 0x32 2
  let s := if s.allStopped && !s.graph && !s.extra && s.filtered && s.coll.length < s.k && 0 < extra && !s.spent
    then dealProbes d { s with extra := true } (s.dsc 0x30 2) extra else s
  d.setSearch c s

/-- A context of a search works. -/
def ctxWork (c w : Nat) (want : SctxSt) (f : Work → Work) (d : Device) : Device :=
  match d.search? c with
  | none => d
  | some s => match s.ctxs[w]? with
    | none => d
    | some x =>
      if x.st != want || s.spent then d
      else
        let (d, s, x) := f (d, s, x)
        settleSearch d c { s with ctxs := s.ctxs.set w x }

/-- R152: a scan reads its lists' places out of the header object. -/
def Search.usesHeader (tb : Timebase) (s : Search) (d : Device) : Device :=
  if s.graph then d else d.useRange tb s.hdrBase 4096

/-- R248: the table is copied, and the context begins: a walker visits its entry point (R250). -/
def beginCtx (num : Nat) (tb : Timebase) (w : Work) : Work :=
  let (d, s, x) := w
  let m := s.hdr 5 1
  let d := s.usesHeader tb (d.useRange tb s.tableBase (512 * m))
  let x := { x with table := d.mem.readBytes s.tableBase (512 * m) }
  if s.graph then
    let a := 0x1000 + (num % s.hdr 0x12 2) * (8 + m)
    work (visit (s.hdr a 4) (s.hdr (a + 4) 4) (sliceBytes s.header (a + 8) m) (d, s, { x with limit := s.dsc 0x3A 2 }))
  else work (d, s, x)

/-- TABLE_COPY_DONE (R248): context number `ctx` of the search of a collector. -/
def execTableCopyDone (coll ctx : Nat) (s : State) : Host.Outcome State Fault Refusal :=
  .next (s.onDev (fun tb d => ctxWork coll ctx .copying (beginCtx ctx tb) d))

/-- The contexts assigned on an engine. -/
def Device.engCtxs (d : Device) (e : Nat) : List (Nat × Nat × SieveCtx) :=
  d.sieve.searches.flatMap (fun p => ((p.2.ctxs.zipIdx).filter (fun x => x.1.eng == e && p.2.started)).map (fun x => (p.1, x.2, x.1)))

/-- R236, R249: the contexts of a search that have scanned their first probes keep their places while the extra probes may still
come. -/
def Search.holdsCtxs (s : Search) : Bool :=
  !s.graph && !s.extra && s.filtered && 0 < s.dsc 0x32 2 && !s.spent && !s.allStopped

/-- Assigned contexts on an engine: a context is free once it has stopped (R236). -/
def Device.engBusy (d : Device) (e : Nat) : List Nat :=
  ((d.engCtxs e).filter (fun x => x.2.2.st != .stopped || (match d.search? x.1 with | some s => s.holdsCtxs | none => false))).map
    (fun x => x.2.2.num)

/-! ### What a search may use in a furrow (R162, R239, R390) -/

/-- The handoff, or the shard job, whose amounts a search uses. -/
def Search.account (s : Search) : Nat := match s.handoff with
  | some h => h
  | none => 2 ^ 32 + s.shard.getD 0

def Device.searchRes (d : Device) (s : Search) : Option Reservation := (s.handoff.bind d.handoff?).bind (·.res)

/-- R390, R391: its stripe units of a furrow, in 64ths. -/
def Device.searchUnits (d : Device) (s : Search) : Nat :=
  match s.handoff, s.shard.bind (fun j => d.brx.jobs.get? j) with
  | some _, _ => 64 * (match d.searchRes s with | some r => r.units | none => 0)
  | none, some j => 64 * j.units
  | none, none => 0

/-- R390: a page read of a walk lies within its record. -/
def Device.readFits (d : Device) (s : Search) (ch : Nat) : Bool := match s.handoff, d.searchRes s with
  | some _, some r => bit (ch / 16) r.slots && decide (d.sieve.usedReads.getD (64 * s.account + ch) 0 < r.reads)
  | some _, none => false
  | none, _ => true

/-- R162, R240, R390: an LPDDR5X read or a lookup of `n` 64ths of a unit at an address can be made in this furrow. -/
def Device.unitsFit (d : Device) (s : Search) (a n : Nat) : Bool :=
  decide (d.sieve.usedUnits.getD s.account 0 + n ≤ d.searchUnits s) && (a < lpBase || d.chanFits a n)

/-- It is made. -/
def Device.takeUnits (d : Device) (s : Search) (a n : Nat) : Device :=
  let d := if a < lpBase then d else d.chanTake a n
  { d with sieve := { d.sieve with usedUnits := d.sieve.usedUnits.set s.account (d.sieve.usedUnits.getD s.account 0 + n) } }

/-- The byte that a lookup reads. -/
def Search.lookAddr (s : Search) (k : Look) : Nat := (if k.step == 1 then s.bitmap else s.tombBase.getD 0) + k.v / 8

/-- A ready context's next read or lookup: its address and its 64ths of a unit; none for a page read. -/
def nextAccess (d : Device) (s : Search) (x : SieveCtx) : Option (Nat × Nat) := match x.look with
  | some k => some (s.lookAddr k, 1)
  | none => if s.graph then none else some (groupAddr d s x, s.hdr 5 1 / 4 + 2)

/-- It can be issued in this furrow. -/
def canIssue (d : Device) (s : Search) (x : SieveCtx) : Bool :=
  x.st == .ready && (x.look.isNone || decide (s.lookups < s.maxLookups))
    && (match nextAccess d s x with | some (a, n) => d.unitsFit s a n | none => true)

/-- R237: what a context issues: a lookup, a list read, or the wish for its page, which a read round serves. -/
def issueCtx (c w : Nat) (x : SieveCtx) (s : Search) (d : Device) : Device :=
  let look := x.look.isSome
  let x := { x with st := if look || !s.graph then .reading else .asked }
  let d := match nextAccess d s x with | some (a, n) => d.takeUnits s a n | none => d
  let d := if look then d.inc R.SIEVE_LOOKUPS else d
  d.setSearch c { s with lookups := s.lookups + boolBit look, ctxs := s.ctxs.set w x }

/-- R237: the engine issues from the next context that can. While its function drains, the searches in progress go on (R458). -/
def engineIssue (e : Nat) (d : Device) : Device :=
  if !d.domOn (if e < 32 then 20 else 21) then d else
  let last := d.sieve.lastCtx.getD e 31
  let ready := (d.engCtxs e).filter (fun x => match d.search? x.1 with | some s => canIssue d s x.2.2 | none => false)
  let dist (n : Nat) : Nat := (n + 31 - last) % 32
  let best := ready.foldl (fun (b : Option (Nat × Nat × SieveCtx)) x => match b with
    | none => some x
    | some y => if dist x.2.2.num < dist y.2.2.num then some x else some y) none
  match best with
  | none => d
  | some (c, w, x) => match d.search? c with
    | none => d
    | some s =>
      let d := issueCtx c w x s d
      { d with sieve := { d.sieve with lastCtx := d.sieve.lastCtx.set e x.num } }

/-- ENGINE_ISSUE (R237). -/
def execEngineIssue (engine : Nat) (s : State) : Host.Outcome State Fault Refusal :=
  .next (s.onDev (fun _ d => engineIssue engine d))

/-- R244: the logical page of the node a walker reads, and its offset there. -/
def Search.nodePage (s : Search) (node : Nat) : Nat × Nat :=
  let rb := s.hdr 0x1C 4
  let rpp := pageBytes / rb
  (node / rpp, node % rpp * rb)

/-- R239, R412: where the page that a walker asks for comes from, as the read is issued. -/
def Device.walkSrc (d : Device) (s : Search) (x : SieveCtx) : ReadSrc := match d.obj? s.data with
  | some o =>
    let (slot, lpn) := o.lpnOf s.data (s.nodePage x.node).1
    d.readSrc slot lpn o.ns
  | none => .offline

/-- R239: the channel of a walker's read. -/
def Device.walkChannel (d : Device) (s : Search) (x : SieveCtx) : Nat := match d.obj? s.data with
  | some o => flashChannel s.data o.base (s.nodePage x.node).1
  | none => 0

structure Ask where
  deadline : W48
  issue : W48
  eng : Nat
  num : Nat
  coll : Nat
  w : Nat
  ch : Nat
  deriving DecidableEq, Repr

/-- R239: the order in which reads are served. -/
def Ask.before (a b : Ask) : Bool :=
  if a.deadline != b.deadline then furLt a.deadline b.deadline
  else if a.issue != b.issue then furLt a.issue b.issue
  else if a.eng != b.eng then a.eng < b.eng else a.num ≤ b.num

def insertAsk (a : Ask) : List Ask → List Ask
  | [] => [a]
  | x :: t => if x.before a then x :: insertAsk a t else a :: x :: t

def serveAsk (d : Device) (a : Ask) : Device :=
  match d.search? a.coll with
  | none => d
  | some s => match s.ctxs[a.w]? with
    | none => d
    | some x =>
      let v := d.sieve
      if !d.readFits s a.ch then d
      else if v.chanRound.getD a.ch 0 < 12 && v.chanReads.getD a.ch 0 < 21 then
        let k := 64 * s.account + a.ch
        let src := d.walkSrc s x
        let d := { d with sieve := { v with
          usedReads := v.usedReads.set k (v.usedReads.getD k 0 + 1),
          chanRound := v.chanRound.set a.ch (v.chanRound.getD a.ch 0 + 1),
          chanReads := v.chanReads.set a.ch (v.chanReads.getD a.ch 0 + 1) } }
        (d.inc R.SIEVE_PAGE_READS).setSearch a.coll { s with reads := s.reads + 1, ctxs := s.ctxs.set a.w { x with st := .reading, src := src } }
      else (d.raise 0x0603 [])

/-- R239: a read round starts. -/
def readRound (d : Device) : Device :=
  let asks := d.sieve.searches.flatMap (fun p => ((p.2.ctxs.zipIdx).filter (fun x => x.1.st == .asked)).map (fun x =>
    (⟨p.2.deadline, p.2.issue, x.1.eng, x.1.num, p.1, x.2, d.walkChannel p.2 x.1⟩ : Ask)))
  let d := { d with sieve := { d.sieve with chanRound := [], round := d.sieve.round + 1 } }
  (asks.foldl (fun l a => insertAsk a l) []).foldl serveAsk d

/-- R239: the offset at which the next round starts: 0, whose reads may be issued in 4,096 clk, then 78,125; none where no
further round starts in this furrow. -/
def roundPoint (tb : Timebase) (d : Device) : Option Nat :=
  if d.sieve.round == 0 && tb.offset < 4096 then some 0
  else if d.sieve.round ≤ 1 && tb.offset < 78125 + 4096 && 78125 < tb.len then some 78125
  else none

/-- READ_ROUND (R239). A round whose offset has passed by 4,096 clk is not started. -/
def execReadRound (s : State) : Host.Outcome State Fault Refusal :=
  .next (match roundPoint s.tb s.dev with
    | some n => s.atPoint n (fun _ d =>
        readRound { d with sieve := { d.sieve with round := if n == 0 then 0 else 1 } })
    | none => s)

/-- R256: a read of a search met an error. -/
def searchMedia (det ch : Nat) (d : Device) (s : Search) : Device × Search :=
  let d := d.raiseCtx 0x0604 s.owner [(2, s.slot), (1, ch)]
  let d := match s.handoff with | some h => d.flagHandoff h 3 det | none => d
  (d, { s with media := some (s.media.getD det) })

/-- R239, R426: every retry of a walk's read is one more read of its channel, which serves at most 21 in a furrow. -/
def chargeRetries (s : Search) (ch n : Nat) (d : Device) : Device :=
  let v := d.sieve
  let k := 64 * s.account + ch
  { d with sieve := { v with
    chanReads := v.chanReads.set ch (max (v.chanReads.getD ch 0) (min 21 (v.chanReads.getD ch 0 + n))), usedReads := v.usedReads.set k (v.usedReads.getD k 0 + n) } }

/-- R426, R427: a page of the flash was read for a walk, in a class, its die at a temperature. -/
def walkRead (slot p lpn ns cls temp : Nat) (tb : Timebase) (d : Device) : Device :=
  let d := d.updSlot slot (fun x => match x.cart with
    | some c => x.setLun p ((c.readSets p temp tb).getD (min cls 3) 0)
    | none => x)
  countRead slot p lpn ns cls d

/-- R250, R256: the node page arrives in an error class (R427); its neighbours are visited in order. Only what comes from the
flash has a class (R418), and a slot that was reset or pulled meanwhile delivers nothing. -/
def nodeArrives (cls temp : Nat) (tb : Timebase) (w : Work) : Work :=
  let (d, s, x) := w
  let (p, off) := s.nodePage x.node
  let ch := d.walkChannel s x
  match d.obj? s.data with
  | none => (d, s, stopCtx false x)
  | some o =>
    let (slot, lpn) := o.lpnOf s.data p
    let flash := match x.src with | .page _ => true | _ => false
    let cls := if !flash then 0 else if (d.slot slot).supplied then cls else 4
    let data := d.srcData slot x.src o.ns
    let gone := match data with | .offline => true | _ => false
    let d := match x.src with
      | .page p => if gone then d else chargeRetries s ch (min cls 3) (walkRead slot p lpn o.ns cls temp tb (d.use tb s.data))
      | _ => d
    let cls := if gone then 0 else cls
    let d := if 1 ≤ cls && cls ≤ 3 then (d.inc R.SIEVE_READ_RETRIES).raise 0x0603 [] else d
    let bad := match data with
      | .offline => some 0x91
      | .keyless => some 0x92
      | .bytes _ => if cls == 4 then some 0x90 else none
    match bad with
    | some det =>
      let (d, s) := searchMedia det ch d s
      work (d, s, x)
    | none =>
      let l := match data with | .bytes b => b | _ => []
      work (d, s, { x with stream := sliceBytes l off (s.hdr 0x1C 4), entry := 0 })

/-- FLASH_PAGE_DELIVERED (R239): the page of context `ctx` arrives in class `cls`, its die at `temp`. -/
def execFlashPageDelivered (coll ctx cls temp : Nat) (s : State) : Host.Outcome State Fault Refusal :=
  .next (s.onDev (fun tb d => match d.search? coll with
    | some x => if x.graph && cls ≤ 4 then ctxWork coll ctx .reading (nodeArrives cls temp tb) d else d
    | none => d))

/-- R251, R252: the bit that a lookup read; a tombstone found is counted. -/
def lookArrives (k : Look) (w : Work) : Work :=
  let (d, s, x) := w
  let b := bit (k.v % 8) (d.mem.read (s.lookAddr k)).toNat
  let s := { s with looked := s.looked + 1 }
  let x := { x with look := none }
  if k.step == 1 then (if b == (s.dsc 0x42 1 == 1) then work (checkFrom 2 k.v k.sc (d, s, x)) else work (d, s, x))
  else
    let d := if b then d.inc R.SIEVE_TOMB_HITS else d
    if b then work (d, s, x)
    else if k.step == 2 then (d, s, expand k.v x)
    else work (checkFrom 1 k.v k.sc (d, s, x))

/-- R240: the list group or the lookup that a context waits for arrives; `ecc`: on a channel whose data could not be corrected
(R256). What it reads is in use (R152). -/
def readArrives (ecc : Option Nat) (tb : Timebase) (w : Work) : Work :=
  let (d, s, x) := w
  let d := match nextAccess d s x with | some (a, _) => s.usesHeader tb (d.useRange tb a 64) | none => d
  let (d, s) := match ecc with | some ch => searchMedia detLpddrEcc ch (d.lpEcc ch) s | none => (d, s)
  match x.look with
  | some k => lookArrives k (d, s, x)
  | none => work (d, s, { x with stream := d.mem.readBytes (groupAddr d s x) (16 * s.hdr 5 1 + 128), entry := 0 })

/-- LPDDR_READ_DELIVERED (R240): the list read or the lookup of context `ctx`, with an uncorrectable error on a channel or
without. -/
def execLpddrReadDelivered (coll ctx : Nat) (ecc : Option Nat) (s : State) : Host.Outcome State Fault Refusal :=
  .next (s.onDev (fun tb d => match d.search? coll with
    | some x =>
      if !x.graph || ((x.ctxs[ctx]?).bind (·.look)).isSome then ctxWork coll ctx .reading (readArrives ecc tb) d else d
    | none => d))

/-! ### The start of searches (R248) -/

/-- The contexts of a search dealt round robin over engines, each the lowest free one of its engine; none where an
engine has none left. -/
def dealCtxs (busy : Nat → List Nat) (engs : List Nat) : Nat → Nat → List SieveCtx → Option (List SieveCtx)
  | 0, _, acc => some acc
  | n + 1, j, acc =>
    let e := engs.getD (j % engs.length) 0
    let taken := busy e ++ (acc.filter (fun x => x.eng == e)).map (·.num)
    match (List.range 32).find? (fun c => !taken.contains c) with
    | none => none
    | some c => dealCtxs busy engs n (j + 1) (acc ++ [⟨e, c, .copying, false, [], 0, 0, 0, 0, 0, [], 0, 0, [], [], 0, none, .zero⟩])

/-- R390: the contexts of the searches of one handoff stay within its record. -/
def Device.ctxFits (d : Device) (s : Search) : Bool := match s.handoff, d.searchRes s with
  | some _, some r =>
    let used := ((d.sieve.searches.filter (fun p => p.2.handoff == s.handoff)).map (fun p =>
      if p.2.holdsCtxs then p.2.ctxs.length else (p.2.ctxs.filter (fun x => x.st != .stopped)).length)).sum
    decide (used + s.dsc 0xC 1 ≤ r.sieveCtx)
  | some _, none => false
  | none, _ => true

/-- A search takes a collector and its contexts; none where there are none. -/
def startSearch (d : Device) (s : Search) : Option Device :=
  let engs := d.engines (s.dsc 0x28 8)
  match d.sieve.searches.leastFree 0 512 with
  | none => none
  | some c =>
    if engs.isEmpty || !d.ctxFits s then none
    else match dealCtxs d.engBusy engs (s.dsc 0xC 1) 0 [] with
      | none => none
      | some xs =>
        let s := { s with ctxs := xs, started := true }
        let s := if s.graph then s else dealProbes d s 0 (s.dsc 0x30 2)
        some ((d.inc R.SIEVE_SEARCHES).setSearch c s)

/-- R248: the searches issued in an earlier furrow start; one that finds no collector or context waits. -/
def startSearches (tb : Timebase) (d : Device) : Device :=
  let d := { d with sieve := { d.sieve with
    chanLast := d.sieve.chanReads, chanReads := [], chanRound := [], round := 0, usedUnits := [], usedReads := [] } }
  let ws := d.sieve.waiting
  ws.foldl (fun d s =>
    if furLt s.issue tb.number then
      match startSearch d s with
      | some d => d
      | none => { d with sieve := { d.sieve with waiting := d.sieve.waiting ++ [s] } }
    else { d with sieve := { d.sieve with waiting := d.sieve.waiting ++ [s] } })
    { d with sieve := { d.sieve with waiting := [] } }

/-! ### Landing and harvest (R254) -/

/-- An entry of the MERGE layout. -/
def sieveEntry (tag : Nat) (e : Nat × Nat) : List Byte := leBytes 4 e.1 ++ leBytes 2 tag ++ leBytes 2 0 ++ leBytes 8 e.2

/-- n entries: those of the collector, then fill entries of R225. -/
def sieveList (s : Search) (n : Nat) : List Byte :=
  (s.coll.map (sieveEntry (s.dsc 0xA 2))).flatten
    ++ (List.replicate (n - s.coll.length) (fillBytes true 0 false)).flatten

def addAt (l : List Nat) (i n : Nat) : List Nat := l.set i (l.getD i 0 + n)

/-- KIND_DETAIL of a SIEVE handoff from its counts. -/
def sieveDetail (t : List Nat) : List Byte :=
  leBytes 2 (t.getD 0 0) ++ leBytes 2 (t.getD 1 0) ++ leBytes 2 (t.getD 2 0) ++ leBytes 2 (t.getD 3 0)
    ++ leBytes 4 (min (t.getD 4 0 / 1024) 0xFFFFFFFF) ++ leBytes 4 (t.getD 5 0)

/-- The counts of a search that ends join its handoff's: `how` is 0 FINISHED, 1 HARVESTED, 2 ABANDONED. -/
def tallySearch (h how : Nat) (s : Search) (d : Device) : Device :=
  let t := d.sieve.tally.getD h (List.replicate 6 0)
  let t := addAt (addAt (addAt t how 1) 4 s.codes) 5 s.reads
  let t := if s.ctxs.any (·.onBudget) then addAt t 3 1 else t
  { d with sieve := { d.sieve with tally := d.sieve.tally.set h t } }.setDetail h (sieveDetail t)

/-- The list of a search of a handoff lands. -/
def landSearch (h : Nat) (s : Search) (d : Device) : Device :=
  match d.handoff? h with
  | none => d
  | some ho =>
    let short := s.filtered && s.coll.length < s.k
    let d := if short then (d.inc R.SIEVE_FILTER_SHORT).flagHandoff h 0 0x6C else d
    let body := sieveList s (ho.stride / 16)
    d.landItem h s.item body

/-- A handoff's search ends: landed (0), harvested or abandoned. -/
def endSearch (harvest : Bool) (s : Search) (d : Device) : Device :=
  match s.handoff with
  | none => d
  | some h =>
    if !harvest then tallySearch h 0 s (landSearch h s d)
    else
      let partial_ := bit 0 (s.dsc 1 1)
      let d := d.raiseCtx 0x0602 s.owner [(2, s.slot)]
      if partial_ then tallySearch h 1 s (landSearch h s (d.inc R.SIEVE_HARVESTED))
      else tallySearch h 2 s (d.inc R.SIEVE_ABANDONED)

def Device.dropSearch (d : Device) (c : Nat) : Device := { d with sieve := { d.sieve with searches := d.sieve.searches.del c } }

/-- R254: the unfinished searches that a harvest point ends, those still waiting among them. -/
def harvestDue (tb : Timebase) (shard : Bool) (s : Search) : Bool :=
  s.deadline == tb.number + 1 && s.shard.isSome == shard

/-- R264: what the read-only SIEVE registers read. -/
def sieveView (d : Device) (k : Nat) : Option Nat :=
  if k == R.SIEVE_STATUS then
    let busy := ((List.range 64).map (fun e => (d.engBusy e).length)).sum
    some (busy <<< 12 + d.sieve.searches.length <<< 2 + boolBit (d.domOn 21) <<< 1 + boolBit (d.domOn 20))
  else if k == R.SIEVE_ENG_INFO then
    let e := d.fld R.SIEVE_ENG_SEL 5 0
    some (boolBit (d.domOn (if e < 32 then 20 else 21)) <<< 31 + (d.engBusy e).length <<< 16
      + (d.sieve.chanLast.getD e 0) <<< 8)
  else none

end Sys2Proof.Machine
end

