-- ==== Sys2Proof/Machine/Calendar.lean ====
section
/-! DEFINITION. The reservation calendar (R389 to R391): what each furrow can give, what admission has claimed of it,
inside the class-0 set-aside of R392 and outside it. -/
namespace Sys2Proof.Machine

/-- The amounts of one furrow: LPDDR5X stripe units, reads on each channel, contexts on each engine. -/
structure Claim where
  units : Nat
  reads : Tbl Nat
  ctxs : Tbl Nat
  deriving DecidableEq, Repr

/-- R392: set-aside amounts. -/
def Device.saUnits (d : Device) : Nat := d.fld R.QM_C0_UNITS 16 0
def Device.saReads (d : Device) : Nat := d.fld R.QM_C0_SIEVE 13 8
def Device.saCtxs (d : Device) : Nat := d.fld R.QM_C0_SIEVE 5 0

/-- A claim of n more fits beside what is claimed: the capacity, the set-aside, what is claimed outside and inside. -/
def claimFits (cap sa : Nat) (cur : Nat × Nat) (inside : Bool) (n : Nat) : Bool :=
  n == 0 || (cur.1 + cur.2 + n ≤ cap && (if inside then cur.2 + n ≤ sa else cur.1 + n ≤ cap - sa))

def claimAdd (cur : Nat × Nat) (inside : Bool) (n : Nat) : Nat × Nat :=
  if inside then (cur.1, cur.2 + n) else (cur.1 + n, cur.2)

/-- Contexts as the deal of R248 spreads them over the powered engines of a mask. -/
def Device.spreadCtxs (d : Device) (n mask : Nat) : Tbl Nat :=
  let es := d.engines mask
  if es.isEmpty then [] else es.zipIdx.map (fun p => (p.1, (n + es.length - 1 - p.2) / es.length))

/-- READS on each channel of a slot mask. -/
def spreadReads (n slots : Nat) : Tbl Nat :=
  if n == 0 then [] else (slotList slots).flatMap (fun s => (List.range 16).map (fun c => (16 * s + c, n)))

/-- R383: the claim of a reservation record. -/
def Device.resClaim (d : Device) (r : Reservation) : Claim :=
  ⟨r.units, spreadReads r.reads r.slots, d.spreadCtxs r.sieveCtx r.engMask⟩

/-- A claim fits in a furrow (R389); SIEVE_CTX that no powered engine can take does not. -/
def Device.claimOk (d : Device) (inside : Bool) (f : Nat) (c : Claim) : Bool :=
  claimFits 81920 d.saUnits (d.qm.calUnits.getD f (0, 0)) inside c.units
    && c.reads.all (fun p => claimFits 21 d.saReads ((d.qm.calReads.getD f []).getD p.1 (0, 0)) inside p.2)
    && c.ctxs.all (fun p => claimFits 32 d.saCtxs ((d.qm.calCtx.getD f []).getD p.1 (0, 0)) inside p.2)

def addAll (t : Tbl (Nat × Nat)) (inside : Bool) (l : Tbl Nat) : Tbl (Nat × Nat) :=
  l.foldl (fun t p => if p.2 == 0 then t else t.set p.1 (claimAdd (t.getD p.1 (0, 0)) inside p.2)) t

def Device.claimOne (d : Device) (inside : Bool) (f : Nat) (c : Claim) : Device :=
  let q := d.qm
  { d with qm := { q with
    calUnits := if c.units == 0 then q.calUnits else q.calUnits.set f (claimAdd (q.calUnits.getD f (0, 0)) inside c.units),
    calReads := if c.reads.isEmpty then q.calReads else q.calReads.set f (addAll (q.calReads.getD f []) inside c.reads),
    calCtx := if c.ctxs.isEmpty then q.calCtx else q.calCtx.set f (addAll (q.calCtx.getD f []) inside c.ctxs) } }

/-- The furrows from `lo` on, `n` of them. -/
def furRange (lo : W48) (n : Nat) : List Nat := (List.range n).map (fun i => (furAdd lo i).toNat)

/-- Claim in every furrow of a range, if the claim fits in every one. -/
def Device.claim (d : Device) (inside : Bool) (lo : W48) (n : Nat) (c : Claim) : Option Device :=
  let fs := furRange lo n
  if fs.all (fun f => d.claimOk inside f c) then some (fs.foldl (fun d f => d.claimOne inside f c) d) else none

/-- The calendar forgets the furrows that are past. -/
def calendarBoundary (tb : Timebase) (d : Device) : Device :=
  let keep (k : Nat) : Bool := furLe tb.number (BitVec.ofNat 48 k)
  let q := d.qm
  { d with qm := { q with
    calUnits := q.calUnits.filter (fun p => keep p.1), calReads := q.calReads.filter (fun p => keep p.1),
    calCtx := q.calCtx.filter (fun p => keep p.1), calLanes := q.calLanes.filter (fun p => keep p.1) } }

/-! ### Class grants -/

/-- R404: QM_CTX_CTRL.CLASSES. -/
def Device.classes (d : Device) (c : Nat) : Nat := d.fld (inst R.QM_CTX_CTRL c) 27 25

/-- The class is granted to the context. -/
def Device.granted (d : Device) (c cls : Nat) : Bool := bit cls (d.classes c)

/-- R43: class-0 work is admitted only while the timebase is LOCKED or in HOLDOVER. -/
def classOpen (tb : Timebase) (cls : Nat) : Bool := cls != 0 || tb.st == .locked || tb.st == .holdover

/-- R404: the admitted requests of a context's queue pairs. -/
def Device.ctxRequests (d : Device) (c : Nat) : Nat := (d.qm.reqs.filter (fun p => p.2.ctx == c)).length

/-- The requests of a context that are admitted; the shard work that a peer sent counts with those of the service context
(R391). -/
def Device.ctxInflight (d : Device) (c : Nat) : Nat :=
  d.ctxRequests c
    + (if c == d.fld R.BRX_SVC 9 0 then (d.brx.jobs.filter (fun p => p.2.kind != 1)).length else 0)

/-- R388: the context has INFLIGHT_MAX requests admitted. -/
def Device.ctxFull (d : Device) (c : Nat) : Bool := decide (max 1 (d.fld (inst R.QM_CTX_LIMITS c) 31 16) ≤ d.ctxInflight c)

/-- R391: shard work of the service context that may be admitted, from the next boundary to D − 1, with its claim. -/
def admitShard (tb : Timebase) (cls : Nat) (deadline : W48) (total : Nat) (ctxs : Nat) (d : Device) : Option (Nat × Device) :=
  let c := d.fld R.BRX_SVC 9 0
  let n := if furLe (tb.number + 1) (deadline - 1) then (deadline - tb.number).toNat - 1 else 0
  let per := if n == 0 then total else (total + n - 1) / n
  if (d.ctx c).st != .active || !d.granted c cls || !classOpen tb cls || d.ctxFull c || 2048 < n then none
  else
    let cl : Claim := ⟨per, [], if ctxs == 0 then [] else d.spreadCtxs ctxs (2 ^ 64 - 1)⟩
    if ctxs != 0 && cl.ctxs.isEmpty then none
    else (d.claim (cls == 0) (tb.number + 1) n cl).map (fun d => (per, d))

end Sys2Proof.Machine
end

