-- ==== Sys2Proof/Machine/Furrow.lean ====
section
/-! DEFINITION. The furrow timebase (02_the_furrow): edges and windows, the state decisions, the boundary of a
furrow as the timebase sees it, and its commands. -/
namespace Sys2Proof.Machine

/-- R4: the length of every furrow but a realignment furrow. -/
def furrowLen : Nat := 156250

/-- R526: where a point of a furrow of normal length falls in the current furrow. -/
def Timebase.point (tb : Timebase) (off : Nat) : Nat := if tb.realign then off + tb.len - furrowLen else off

/-- R32, R41: the decision clk of the furrow. -/
def Timebase.decisionClk (tb : Timebase) : Nat := tb.len - 78125

/-- The result of a capture window (R32). -/
inductive WindowResult where
  | onTime (e : Int) | slip (e : Int) | missing
  deriving DecidableEq, Repr

def windowResult : Option Int → WindowResult
  | none => .missing
  | some e => if e.natAbs ≤ 2 then .onTime e else .slip e

/-- R35: two edge positions lie within 2 clk of each other. -/
def near : Option Int → Int → Bool
  | some c, e => (e - c).natAbs ≤ 2
  | none, _ => false

/-- R27: REFCLK is present in the furrow. -/
def Timebase.refPresent (tb : Timebase) : Bool := tb.refOkAtStart && !tb.lossThis

def stay (st : TbState) : Decision := ⟨st, none⟩

/-- R35: the row that the result of the closing window selects, higher rows first. -/
def decideState (tb : Timebase) : Decision :=
  let r := windowResult tb.edge
  if tb.lossThis then stay .unlocked
  else if (tb.st == .locked || tb.st == .holdover) && tb.tcResult == .disagrees && tb.tcPrevBad then stay .unlocked
  else match tb.st with
  | .locked => match r with
    | .onTime _ => stay .locked
    | .slip _ | .missing => stay .holdover
  | .holdover => match r with
    | .onTime _ => stay .locked
    | .slip e =>
      if near tb.cand e then ⟨.unlocked, some e⟩
      else if 64 ≤ tb.holdCount then stay .unlocked else stay .holdover
    | .missing => if 64 ≤ tb.holdCount then stay .unlocked else stay .holdover
  | .unlocked => match tb.edge with
    | some e =>
      if tb.refPresent && near tb.prevEdge e && (tb.srcForce || tb.tcResult != .absent) then
        if e.natAbs ≤ 2 then stay .relock else ⟨.unlocked, some e⟩
      else stay .unlocked
    | none => stay .unlocked
  | .relock => match r with
    | .onTime _ =>
      if tb.srcForce || tb.tcResult == .agrees then
        if 3 ≤ tb.relockCount then stay .locked else stay .relock
      else stay .unlocked
    | .slip _ | .missing => stay .unlocked

/-- R35: the candidate phase after the window closes. -/
def nextCand (tb : Timebase) (d : Decision) : Option Int :=
  if d.st != .holdover then none
  else match windowResult tb.edge with
    | .slip e => some e
    | .onTime _ => none
    | .missing => tb.cand

/-- R38: the qualifying RELOCK windows after this one. -/
def nextRelock (tb : Timebase) (d : Decision) : Nat :=
  if tb.st == .relock && (d.st == .relock || d.st == .locked) then min (tb.relockCount + 1) 4 else tb.relockCount

/-- R32: the capture window closes; its result decides the state of the next furrow. -/
def Timebase.closeWindow (tb : Timebase) : Timebase :=
  let d := decideState tb
  { tb with
    decided := some d, prevEdge := tb.edge, edge := none,
    cand := nextCand tb d, relockCount := nextRelock tb d }

/-- R41: the decision in a realignment furrow; no window is evaluated. -/
def Timebase.realignDecide (tb : Timebase) : Timebase :=
  let st := if tb.lossThis || tb.realignSrcChange then TbState.unlocked else .relock
  { tb with decided := some (stay st), prevEdge := none }

/-- R39, R40: the events of a closing window, and the counters of R48. -/
def closeWindowDev (tb : Timebase) (d : Device) : Device :=
  let d := match windowResult tb.edge with
    | .onTime _ => d
    | .slip e => (d.inc R.FUR_SLIP_COUNT).raise 0x0101 [(4, ofSigned 32 e)]
    | .missing => (d.inc R.FUR_MISS_COUNT).raise 0x0102 []
  match (decideState tb).realign with
  | some e => d.raise 0x0106 [(4, ofSigned 32 e)]
  | none => d

/-- The decision of the furrow is taken at its clk, if it was not yet. -/
def State.passDecision (s : State) : State :=
  match s.tb.decided with
  | some _ => s
  | none =>
    let tb := s.tb.goto s.tb.decisionClk
    if tb.realign then { s with tb := tb.realignDecide }
    else { s with tb := tb.closeWindow, dev := (closeWindowDev tb s.dev).flush tb }

/-- R32, R33, R41: an edge at an offset: the phase error against the boundary of the window it falls in, or none
where it falls in no window that is evaluated. -/
def Timebase.edgeError (tb : Timebase) (o : Nat) : Option Int :=
  if tb.decisionClk ≤ o then
    if tb.decided.any (fun d => d.realign.isSome) then none else some ((o : Int) - tb.len)
  else if tb.realign then none
  else some o

/-- R32, R33: the first edge of a window, of the phase error given, is measured, and every further one raises
FUR_SPURIOUS. -/
def edgeOn (s : State) (tb : Timebase) : Option Int → State
  | none => { s with tb := tb }
  | some e =>
    match tb.edge with
    | some _ => { s with tb := tb, dev := (s.dev.raise 0x0103 []).flush tb }
    | none => { s with tb := { tb with edge := some e, phaseValid := true, lastErr := e } }

/-- R32: an edge at an offset of the furrow. -/
def edgeAt (s : State) (o : Nat) : State :=
  edgeOn s { s.tb with offset := o } (Timebase.edgeError { s.tb with offset := o } o)

/-- FURROW_IN_EDGE: a rising edge at an offset of the furrow (R32, R33). -/
def execFurrowInEdge (clk : Nat) (s : State) : Host.Outcome State Fault Refusal :=
  .next (s.live (fun s =>
    if s.tb.offset ≤ clk ∧ clk < s.tb.len then
      edgeAt (if s.tb.decisionClk ≤ clk ∧ ¬ s.tb.realign then s.passDecision else s) clk
    else s))

/-- R27: a loss of REFCLK is detected. One at the decision's own clk counts for the furrow that ends where the decision's command
has not been given yet; where it has, for the next: R27 does not order the two (DESIGN CHOICE, log entry 3). -/
def Timebase.refLoss (tb : Timebase) : Timebase :=
  let late := tb.decided.isSome || decide (tb.decisionClk < tb.offset)
  { tb with
    refclkOk := false, pllLocked := false,
    lossThis := tb.lossThis || !late, lossNext := tb.lossNext || late }

/-- REFCLK_LOSS: a loss is detected at an offset of the furrow (R27). -/
def execRefclkLoss (clk : Nat) (s : State) : Host.Outcome State Fault Refusal :=
  .next (s.live (fun s =>
    if s.tb.offset ≤ clk ∧ clk < s.tb.len then
      let tb := { s.tb with offset := clk }.refLoss
      { s with tb := tb, dev := (s.dev.raise 0x010A []).flush tb }
    else s))

/-- PLL_LOCK: REFCLK_OK reads 1 from the next boundary (R27). -/
def execPllLock (s : State) : Host.Outcome State Fault Refusal :=
  .next (s.live (fun s => { s with tb := { s.tb with pllLocked := true } }))

/-- CAPTURE_WINDOW_CLOSE (R32): at offset 78,125 of a furrow that is no realignment furrow. -/
def execCaptureWindowClose (s : State) : Host.Outcome State Fault Refusal :=
  .next (s.live (fun s => if s.tb.realign then s else s.passDecision))

/-- REALIGN_DECISION (R41). -/
def execRealignDecision (s : State) : Host.Outcome State Fault Refusal :=
  .next (s.live (fun s => if s.tb.realign then s.passDecision else s))

/-! ### The boundary as the timebase sees it (R42, step 1) -/

/-- The decision in force at the boundary. -/
def Timebase.decision (tb : Timebase) : Decision := tb.decided.getD (stay tb.st)

/-- R31: the state of the furrow that begins, `change` telling whether a change of source takes effect. -/
def Timebase.beginState (tb : Timebase) (change : Bool) : TbState :=
  if tb.decision.realign.isSome || change then .unlocked else tb.decision.st

/-- R37: RELOCK begins in FABRIC mode with a time code, whose number is adopted. -/
def Timebase.adopts (tb : Timebase) (host : Bool) : Option W48 :=
  if tb.beginState (host != tb.srcForce) == .relock && tb.st != .relock && !host then tb.tcNext else none

/-- R28, R30, R37: the number of the furrow that begins. -/
def Timebase.beginNumber (tb : Timebase) (host : Bool) (furSet : W48) : W48 :=
  if tb.setPending && host then furSet
  else match tb.adopts host with
    | some v => v
    | none => tb.number + 1

/-- R29: the comparison at the boundary. A number that is adopted agrees (DEDUCED, log entry 6). -/
def Timebase.compare (tb : Timebase) (host : Bool) : TcResult :=
  if host then .absent
  else match tb.tcNext with
    | none => .absent
    | some v => if (tb.adopts host).isSome || v == tb.number + 1 then .agrees else .disagrees

/-- R40: the length of the furrow that begins. -/
def Timebase.beginLen (tb : Timebase) : Nat :=
  match tb.decision.realign with
  | some e => ((furrowLen : Int) + e).toNat
  | none => furrowLen

/-- R42, step 1: the timebase of the furrow that begins; `host` is FUR_CTRL.SOURCE as last written, `furSet` FUR_SET. -/
def Timebase.boundary (tb : Timebase) (host : Bool) (furSet : W48) : Timebase :=
  let change := host != tb.srcForce
  let st := tb.beginState change
  let re := tb.decision.realign.isSome
  { tb with
    number := tb.beginNumber host furSet,
    offset := 0,
    len := tb.beginLen,
    st := st,
    realign := re,
    realignFromHold := re && tb.st == .holdover,
    realignSrcChange := re && change,
    holdCount := if st == .holdover then min (tb.holdCount + 1) 64 else 0,
    relockCount := if st == .relock && tb.st == .relock then min tb.relockCount 4 else 0,
    srcForce := host,
    refclkOk := tb.pllLocked,
    lossThis := tb.lossNext,
    lossNext := false,
    refOkAtStart := tb.pllLocked,
    edge := if re then none else tb.edge,
    cand := if st == .holdover then tb.cand else none,
    tcNext := none,
    tcResult := tb.compare host,
    tcPrevBad := tb.tcResult == .disagrees,
    decided := none,
    setPending := false,
    lockAt := if st == .locked && tb.st != .locked then tb.beginNumber host furSet else tb.lockAt,
    clks := tb.clks + tb.len }

/-- R47: the events of the boundary of the timebase, `old` before it and `new` after it. -/
def boundaryEvents (old new : Timebase) (d : Device) : Device :=
  let entered (st : TbState) : Bool := new.st == st && old.st != st
  let d := if entered .holdover then d.raise 0x0104 [] else d
  let d := if (entered .unlocked && !new.realign) || (old.realign && old.realignFromHold && new.st == .unlocked && !new.realign)
    then d.raise 0x0105 [] else d
  let d := if entered .relock then d.raise 0x0107 [] else d
  let d := if entered .locked then d.raise 0x0108 [] else d
  let d := if new.tcResult == .disagrees then (d.inc R.FUR_TC_ERR_COUNT).raise 0x0109 [] else d
  if old.setPending && !new.srcForce then d.raise 0x010B [] else d

/-! ### Its registers -/

/-- R31: FUR_CTRL.SOURCE as last written, true for HOST. -/
def Device.furSource (d : Device) : Bool := d.fld R.FUR_CTRL 0 0 == 1

/-- R30: FUR_SET. -/
def Device.furSet (d : Device) : W48 := BitVec.ofNat 48 (d.reg64 R.FUR_SET_LO)

/-- R31: a write of FUR_CTRL.SOURCE. -/
def furSourceWrite (v : Nat) (d : Device) : Device := d.setFld R.FUR_CTRL 0 0 v

/-- FUR_SOURCE_WRITE (R31). -/
def execFurSourceWrite (source : Nat) (s : State) : Host.Outcome State Fault Refusal :=
  .next (s.onAon (fun _ d => furSourceWrite source d))

/-- R30: SET_APPLY is accepted only in HOST mode while UNLOCKED. -/
def setApply (s : State) : State :=
  if s.tb.srcForce && s.tb.st == .unlocked then { s with tb := { s.tb with setPending := true } }
  else { s with dev := s.dev.raise 0x010B [] }

/-- SET_APPLY (R30). -/
def execSetApply (s : State) : Host.Outcome State Fault Refusal :=
  .next (s.live (fun s => (setApply { s with dev := s.dev.dropPend }).flushed))

/-- R48: the counters that FUR_CTRL.CNT_CLR clears. -/
def furCounters : List Nat := [R.FUR_SLIP_COUNT, R.FUR_MISS_COUNT, R.FUR_TC_ERR_COUNT]

/-- FUR_CNT_CLR (R48). -/
def execFurCntClr (s : State) : Host.Outcome State Fault Refusal :=
  .next (s.onAon (fun _ d => d.clear furCounters))

/-- R48: what the FUR registers read that mirror the timebase. -/
def furView (tb : Timebase) (k : Nat) : Option Nat :=
  if k == R.FUR_STATUS then some
    (tb.holdCount <<< 8 + boolBit tb.srcForce <<< 7 + tb.relockCount <<< 4 + boolBit tb.refclkOk <<< 3
      + boolBit tb.realign <<< 2 + (match tb.st with | .locked => 0 | .holdover => 1 | .unlocked => 2 | .relock => 3))
  else if k == R.FUR_COUNT_LO then some (tb.number.toNat % 2 ^ 32)
  else if k == R.FUR_COUNT_HI then some (tb.number.toNat / 2 ^ 32)
  else if k == R.FUR_OFFSET_CAP then some tb.offsetCap
  else if k == R.FUR_PHASE then some (boolBit tb.phaseValid <<< 31 + ofSigned 18 tb.lastErr)
  else if k == R.FUR_LOCK_AT_LO then some (tb.lockAt.toNat % 2 ^ 32)
  else if k == R.FUR_LOCK_AT_HI then some (tb.lockAt.toNat / 2 ^ 32)
  else none

end Sys2Proof.Machine
end

