-- ==== Sys2Proof/Machine/Bruxia.lean ====
section
/-! DEFINITION. The Bruxia port (10_bruxia_and_planes): links, packets, heartbeats and fencing, shard work and the
fan-out of FABRIC handoffs. -/
namespace Sys2Proof.Machine

/-! ### Identity (R265, R266) -/

def identityOf (plane idx : Nat) : Nat := plane * 8192 + idx
def planeOf (id : Nat) : Nat := id / 8192 % 2
def indexOf (id : Nat) : Nat := id % 8192

/-- BRX_ID. -/
def Device.identity (d : Device) : Nat := d.fld R.BRX_ID 13 0
def Device.planeSize (d : Device) : Nat := d.fld R.BRX_CFG 12 0
def Device.corpusSlot (d : Device) : Nat := d.fld R.BRX_CFG 31 24

/-- R266: the plane of the primary of a shard. -/
def Device.primaryPlane (d : Device) (s : Nat) : Nat :=
  let m := d.fld R.BRX_CFG 23 22
  if m == 0 then 0 else if m == 1 then 1 else s % 2

/-- SERVE and FANOUT, each 0 while PD_X_FAB's function is not enabled (R458). -/
def Device.serving (d : Device) : Bool := d.fld R.BRX_CTRL 0 0 == 1 && d.funcOn 18
def Device.fanout (d : Device) : Bool := d.fld R.BRX_CTRL 1 1 == 1 && d.funcOn 18

/-! ### Ports (R268 to R271) -/

def noPort : BrxPort := ⟨.disabled, none, none⟩
def Device.port' (d : Device) (p : Nat) : BrxPort := d.brx.ports.getD p noPort
def Device.setPort (d : Device) (p : Nat) (x : BrxPort) : Device := { d with brx := { d.brx with ports := d.brx.ports.set p x } }
def Device.upPorts (d : Device) : List Nat := (List.range 8).filter (fun p => (d.port' p).st == .up)

/-- R280: a module that is excluded; with no port UP every peer is (R271). -/
def Device.isExcluded (d : Device) (id : Nat) : Bool :=
  id != d.identity && (d.upPorts.isEmpty || !d.brx.included.contains id)

/-- R278, R279: self-fenced. -/
def Device.selfFenced (d : Device) : Bool := d.brx.fenced

/-- R269: a port is enabled. -/
def portEnable (p : Nat) (d : Device) : Device :=
  let e := d.reg R.BRX_PORT_CTRL
  if 7 < p || bit p e then d
  else (d.setReg R.BRX_PORT_CTRL (e + 2 ^ p)).setPort p ⟨.training, none, none⟩

/-- PORT_ENABLE (R269). -/
def execPortEnable (port : Nat) (s : State) : Host.Outcome State Fault Refusal := .next (s.onReg (fun _ d => portEnable port d))

def portDisable (p : Nat) (d : Device) : Device :=
  let e := d.reg R.BRX_PORT_CTRL
  if 7 < p || !bit p e then d
  else (d.setReg R.BRX_PORT_CTRL (e - 2 ^ p)).setPort p noPort

/-- PORT_DISABLE (R269). -/
def execPortDisable (port : Nat) (s : State) : Host.Outcome State Fault Refusal := .next (s.onReg (fun _ d => portDisable port d))

/-- R19: the port belongs to PD_X_FAB; while the domain is not ON it trains, sends and receives nothing. -/
def Device.fabOn (d : Device) : Bool := d.domOn 18

def portTrained (p : Nat) (d : Device) : Device :=
  if d.fabOn && (d.port' p).st == .training then d.setPort p ⟨.hello, none, none⟩ else d

/-- PORT_TRAINING_DONE (R269). -/
def execPortTrainingDone (port : Nat) (s : State) : Host.Outcome State Fault Refusal :=
  .next (s.onDev (fun _ d => portTrained port d))

def portTrainFail (p : Nat) (d : Device) : Device :=
  if d.fabOn && (d.port' p).st == .training then (d.setPort p ⟨.failed, none, none⟩).raise 0x0703 [] else d

/-- PORT_TRAINING_TIMEOUT (R269). -/
def execPortTrainingTimeout (port : Nat) (s : State) : Host.Outcome State Fault Refusal :=
  .next (s.onDev (fun _ d => portTrainFail port d))

/-- R270: `lock`: FEC lock was lost; `uncorr`: uncorrectable codewords counted in the furrow. -/
def portFault (p : Nat) (lock : Bool) (uncorr : Nat) (d : Device) : Device :=
  if !d.fabOn then d
  else
  let d := d.incBy (inst R.BRX_PORT_FEC_UNCORR p) uncorr
  let x := d.port' p
  if x.st == .up && (lock || 65536 < uncorr) then d.setPort p { x with down := some (if lock then 0 else 1) } else d

/-- PORT_LINK_FAULT (R270). -/
def execPortLinkFault (port : Nat) (lock : Bool) (uncorr : Nat) (s : State) : Host.Outcome State Fault Refusal :=
  .next (s.onDev (fun _ d => portFault port lock uncorr d))

/-- R270: the ports that went down enter TRAINING at the boundary. -/
def portBoundary (d : Device) : Device :=
  (List.range 8).foldl (fun d p =>
    let x := d.port' p
    match x.down with
    | some cause => ((d.setPort p ⟨.training, none, none⟩).inc (inst R.BRX_PORT_DOWNS p)).raise 0x0702 [(1, p), (1, Config.portDownCause cause)]
    | none => d) d

/-! ### Packets (R273 to R275) -/

def pktClass (p : List Byte) : Nat := fieldLe p 0 1
def pktFlags (p : List Byte) : Nat := fieldLe p 1 1
def pktSrc (p : List Byte) : Nat := fieldLe p 2 2
def pktTag (p : List Byte) : Nat := fieldLe p 0xC 4
def pktFurrow (p : List Byte) : W48 := BitVec.ofNat 48 (fieldLe p 0x18 8)
def pktPayload (p : List Byte) : List Byte := (p.drop 32).take (fieldLe p 8 4)

/-- The packet with its CRC field taken as 0. -/
def pktNoCrc (p : List Byte) : List Byte := p.take 0x10 ++ leBytes 4 0 ++ p.drop 0x14

def pktCrcOk (p : List Byte) : Bool :=
  p.length == 32 + fieldLe p 8 4 && fieldLe p 0x10 4 == crc32c (pktNoCrc p)

/-- R273: a packet as the port sends it. -/
def makePkt (tb : Timebase) (d : Device) (cls dst tag : Nat) (payload : List Byte) : List Byte :=
  let h (crc : Nat) : List Byte :=
    leBytes 1 cls ++ leBytes 1 (boolBit (tb.st == .unlocked) + 2 * boolBit d.selfFenced) ++ leBytes 2 d.identity
      ++ leBytes 2 dst ++ leBytes 2 0 ++ leBytes 4 payload.length ++ leBytes 4 tag ++ leBytes 4 crc ++ leBytes 4 0
      ++ leBytes 8 tb.number.toNat
  h (crc32c (h 0 ++ payload)) ++ payload

/-- R271: a unicast leaves on the (index mod u)-th UP port, a multicast on the lowest. -/
def brxSend (tb : Timebase) (cls dst tag : Nat) (payload : List Byte) (d : Device) : Device :=
  let ups := d.upPorts
  if ups.isEmpty then d
  else
    let p := if indexOf dst == 0x1FFF then ups.headD 0 else ups.getD (indexOf dst % ups.length) 0
    (({ d with brx := { d.brx with sent := d.brx.sent ++ [⟨p, makePkt tb d cls dst tag payload⟩] } } : Device)).inc R.BRX_TX_PKTS

/-- R275: the classes dropped while UNLOCKED. -/
def lockedClass (c : Nat) : Bool := [4, 5, 6, 7, 8, 0x10, 0x11].contains c

/-- R28: the furrow of a packet is within 2 of the receiver's. -/
def furNear (a b : W48) : Bool := (a - b).toNat ≤ 2 || (b - a).toNat ≤ 2

/-- R274, R275: what the port does with a packet that arrives: `cls` names the classes its row takes. -/
def brxReceive (cls : Nat) (pkt : List Byte) (f : Timebase → Device → Device) (tb : Timebase) (d : Device) : Device :=
  if pktClass pkt != cls || !d.fabOn then d
  else
    let d := d.inc R.BRX_RX_PKTS
    if !pktCrcOk pkt then d.inc R.BRX_CRC_DROPS
    else if 2 < cls && !furNear (pktFurrow pkt) tb.number then
      let d := d.inc R.BRX_FURROW_DROPS
      if d.brx.dropSeen then d else ({ d with brx := { d.brx with dropSeen := true } } : Device).raise 0x0709 []
    else if lockedClass cls && tb.st == .unlocked then d.inc R.BRX_UNLOCK_DROPS
    else f tb d

/-- RESERVED_CLASS_PACKET (R274). -/
def reservedClass (pkt : List Byte) (d : Device) : Device :=
  let c := pktClass pkt
  if (1 ≤ c && c ≤ 8) || (0x10 ≤ c && c ≤ 0x13) || !d.fabOn then d else (d.inc R.BRX_RX_PKTS).inc R.BRX_CRC_DROPS

def execReservedClassPacket (pkt : List Byte) (s : State) : Host.Outcome State Fault Refusal :=
  .next (s.onDev (fun _ d => reservedClass pkt d))

/-- TIME (R29, R30): a TIME packet gives the time code of the next boundary, which is used in FABRIC mode alone; the first
byte of the payload on holds it. The rule knows one time code a furrow: of two packets the later one counts (DESIGN CHOICE,
log entry 97). -/
def execTime (pkt : List Byte) (s : State) : Host.Outcome State Fault Refusal :=
  .next (s.live (fun s =>
    let s' := s.onPins (brxReceive 1 pkt (fun _ d => d))
    if pktClass pkt == 1 && pktCrcOk pkt && s.dev.fabOn && !s.tb.srcForce then
      { s' with tb := { s'.tb with tcNext := some (BitVec.ofNat 48 (fieldLe (pktPayload pkt) 0 8)) } } else s'))

/-- R269: a HELLO arrives on a port. -/
def helloArrives (p : Nat) (pkt : List Byte) (tb : Timebase) (d : Device) : Device :=
  let x := d.port' p
  if x.st != .hello then d
  else if fieldLe (pktPayload pkt) 0 1 != 1 then d.raise 0x0704 []
  else match x.lastHello with
    | some f =>
      if f == tb.number then d
      else if f + 1 == tb.number then (d.setPort p ⟨.up, none, none⟩).raise 0x0701 [(1, p)]
      else d.setPort p { x with lastHello := some tb.number }
    | none => d.setPort p { x with lastHello := some tb.number }

/-- HELLO (R269). -/
def execHello (port : Nat) (pkt : List Byte) (s : State) : Host.Outcome State Fault Refusal :=
  .next (s.onDev (brxReceive 2 pkt (helloArrives port pkt)))

/-- R269: ports in HELLO send their packet at offset 0. -/
def helloSend (tb : Timebase) (d : Device) : Device :=
  (List.range 8).foldl (fun d p =>
    if d.fabOn && (d.port' p).st == .hello then
      let pl := leBytes 1 1 ++ leBytes 2 d.identity ++ leBytes 1 p
      (({ d with brx := { d.brx with sent := d.brx.sent ++ [⟨p, makePkt tb d 2 0 0 pl⟩] } } : Device)).inc R.BRX_TX_PKTS
    else d) d

/-! ### Heartbeats and fencing (R276 to R280) -/

/-- R276: the digest record. -/
def digestRecord (d : Device) : List Byte :=
  let slot (i : Nat) : List Byte :=
    if d.fld (idxReg R.SIEVE_IDX_CFG i) 11 11 == 1 then
      leBytes 4 (d.reg (idxReg R.SIEVE_IDX_CUR_VER i)) ++ leBytes 4 (d.fld (idxReg R.SIEVE_IDX_CTRL i) 31 24)
    else leBytes 8 0
  let table (t : Nat) : List Byte :=
    if d.fld (inst R.GATH_TBL_CFG t) 31 31 == 1 then leBytes 8 (d.reg (inst R.GATH_TBL_CUR_VER t)) else leBytes 8 0
  leBytes 8 d.sec.runBuild ++ leBytes 2 d.planeSize ++ leBytes 1 (d.fld R.BRX_CFG 23 22) ++ leBytes 1 d.corpusSlot
    ++ leBytes 4 0 ++ leBytes 8 (d.reg64 R.BRX_CFG_TAG_LO) ++ List.replicate 232 0
    ++ ((List.range 256).map slot).flatten ++ ((List.range 64).map table).flatten

/-- R276: the plane digest. -/
def digestForm (d : Device) : Device := d.setReg64 R.BRX_DIGEST_LO (ofLe ((sha384 (digestRecord d)).take 8))

/-- Keep a heartbeat: the newest first, three of a module. -/
def Device.keepBeat (d : Device) (id : Nat) (b : Beat) : Device :=
  let l := (d.brx.beats.getD id []).filter (fun x => x.furrow != b.furrow)
  let (later, earlier) := l.partition (fun x => furLt b.furrow x.furrow)
  { d with brx := { d.brx with beats := d.brx.beats.set id ((later ++ b :: earlier).take 3) } }

def stateCode : TbState → Nat
  | .locked => 0 | .holdover => 1 | .unlocked => 2 | .relock => 3

/-- R277: the heartbeat of the furrow, sent to both planes; the module counts its own as received. -/
def heartbeatSend (tb : Timebase) (d : Device) : Device :=
  if !d.serving then d
  else
    let dig := d.reg64 R.BRX_DIGEST_LO
    let pl := leBytes 8 dig ++ leBytes 1 (stateCode tb.st + 4 * boolBit d.selfFenced + 8) ++ List.replicate 7 0
    let d := brxSend tb 3 (identityOf 1 0x1FFF) 0 pl (brxSend tb 3 (identityOf 0 0x1FFF) 0 pl d)
    d.keepBeat d.identity ⟨tb.number, BitVec.ofNat 64 dig, tb.st == .unlocked, d.selfFenced, true⟩

/-- R277, R278: a heartbeat arrives; one for a furrow whose evaluation is past is ignored. -/
def heartbeatArrives (pkt : List Byte) (tb : Timebase) (d : Device) : Device :=
  let f := pktFurrow pkt
  if furLt f tb.number || (f == tb.number && d.brx.evaluated) then d
  else
    let p := pktPayload pkt
    let st := fieldLe p 8 1
    d.keepBeat (pktSrc pkt % 16384)
      ⟨f, BitVec.ofNat 64 (fieldLe p 0 8), bit 0 (pktFlags pkt) || bits 1 0 st == 2, bit 2 st || bit 1 (pktFlags pkt), bit 3 st⟩

/-- HEARTBEAT (R277). -/
def execHeartbeat (pkt : List Byte) (s : State) : Host.Outcome State Fault Refusal :=
  .next (s.onDev (brxReceive 3 pkt (heartbeatArrives pkt)))

/-- R278: the digest that more than half of a plane carries. -/
def majority (d : Device) (n : W48) (plane : Nat) : Option W64 :=
  let ds := d.brx.beats.filterMap (fun p =>
    if planeOf p.1 == plane && indexOf p.1 < d.planeSize then
      (p.2.find? (fun b => b.furrow == n && !b.unlocked)).map (·.digest)
    else none)
  ds.find? (fun x => d.planeSize < 2 * (ds.filter (· == x)).length)

/-- R278: a module's heartbeat for n, or else for n − 1. -/
def beatFor (d : Device) (n : W48) (id : Nat) : Option Beat :=
  let l := d.brx.beats.getD id []
  match l.find? (fun b => b.furrow == n) with
  | some b => some b
  | none => l.find? (fun b => b.furrow + 1 == n)

/-- R278 to R280: the evaluation of the heartbeats of a furrow. -/
def evaluate (tb : Timebase) (d : Device) : Device :=
  if d.brx.evaluated then d
  else
    let n := tb.number
    let own := planeOf d.identity
    let majs := [majority d n 0, majority d n 1]
    let maj (p : Nat) : Bool := (majs.getD p none).isSome
    let ref := [0, 1].foldl (fun r p => match majs.getD p none with | some x => r.set p x | none => r) d.brx.ref
    let refOf (p : Nat) : W64 := ref.getD p 0
    let dig : W64 := BitVec.ofNat 64 (d.reg64 R.BRX_DIGEST_LO)
    let fenced := tb.st == .unlocked || !maj own || dig != refOf own
    let peers := (d.brx.beats.map (·.1)).filter (fun i => i != d.identity && indexOf i < d.planeSize)
    let inc := peers.filter (fun i => match beatFor d n i with
      | some b => !(b.unlocked || b.fenced || !b.serving) && maj (planeOf i) && b.digest == refOf (planeOf i)
      | none => false)
    let before := match d.brx.next with | some x => x | none => (d.brx.fenced, d.brx.included)
    let newEx := before.2.filter (fun i => !inc.contains i)
    let newIn := inc.filter (fun i => !before.2.contains i)
    let missed := peers.map (fun i => (i, if (d.brx.beats.getD i []).any (fun b => b.furrow == n) then 0 else min 2 (d.brx.missed.getD i 0 + 1)))
    let wasMaj := d.brx.majBefore
    let d := { d with brx := { d.brx with
      ref := ref, next := some (fenced, inc), evaluated := true, majBefore := maj own, missed := missed,
      evals := min 2 (d.brx.evals + 1) } }
    let noMaj := d.fld R.BRX_CTRL 0 0 == 1 && !maj own
    let d := ((d.setReg64 R.BRX_REF_LO (refOf own).toNat).setFld R.BRX_STATUS 30 30 (boolBit (maj own))).setFld R.BRX_STATUS 29 29
      (boolBit (maj (1 - own)))
    let d := if noMaj && wasMaj then d.raise 0x0707 [] else d
    if newEx.isEmpty && newIn.isEmpty then d else d.raise 0x0708 [(2, newEx.length), (2, newIn.length)]

/-- R278, R279: the outcome of the evaluation takes effect at the boundary; the digests are those it compared. -/
def fencingBoundary (d : Device) : Device :=
  let d := if d.brx.fenced then d.inc R.BRX_FENCED_FURROWS else d
  let (f, i) := d.brx.next.getD (d.brx.fenced, d.brx.included)
  let d := if f && !d.brx.fenced then d.raise 0x0705 [(8, d.reg64 R.BRX_DIGEST_LO), (8, d.reg64 R.BRX_REF_LO)] else d
  let d := if !f && d.brx.fenced then d.raise 0x0706 [] else d
  { d with brx := { d.brx with fenced := f, included := i, next := none, evaluated := false, dropSeen := false, nackSeen := false } }

/-- R473: from Dormant on the module is self-fenced, until an evaluation includes it. -/
def selfFence (d : Device) : Device :=
  let d := { d with brx := { d.brx with next := none } }
  if d.brx.fenced then d
  else { d with brx := { d.brx with fenced := true } }.raise 0x0705 [(8, d.reg64 R.BRX_DIGEST_LO), (8, d.reg64 R.BRX_REF_LO)]

/-! ### Its registers -/

/-- R277, R279: SERVE is written. -/
def serveWrite (v : Nat) (d : Device) : Device :=
  let on := d.fld R.BRX_CTRL 0 0 == 0 && v % 2 == 1
  let d := d.setFld R.BRX_CTRL 0 0 v
  if on then { d with brx := { d.brx with majBefore := true } } else d

/-- BRX_SERVE_WRITE (R277). -/
def execBrxServeWrite (serve : Nat) (s : State) : Host.Outcome State Fault Refusal := .next (s.onReg (fun _ d => serveWrite serve d))

/-- BRX_FANOUT_WRITE (R292). -/
def execBrxFanoutWrite (fanout : Nat) (s : State) : Host.Outcome State Fault Refusal :=
  .next (s.onReg (fun _ d => d.setFld R.BRX_CTRL 1 1 fanout))

def brxCounters : List Nat :=
  [R.BRX_TX_PKTS, R.BRX_RX_PKTS, R.BRX_CRC_DROPS, R.BRX_FURROW_DROPS, R.BRX_UNLOCK_DROPS, R.BRX_HEDGE_DISCARDS,
   R.BRX_FALLBACKS, R.BRX_NACKS_SENT, R.BRX_NACKS_RECV, R.BRX_FENCED_FURROWS]
  ++ (List.range 8).flatMap (fun p => [inst R.BRX_PORT_FEC_CORR p, inst R.BRX_PORT_FEC_UNCORR p, inst R.BRX_PORT_DOWNS p])

/-- BRX_CNT_CLR (R292). -/
def execBrxCntClr (s : State) : Host.Outcome State Fault Refusal := .next (s.onReg (fun _ d => d.clear brxCounters))

def tagStage (tb : Timebase) (d : Device) : Device :=
  let at_ := d.furReg R.BRX_APPLY_LO R.BRX_APPLY_HI
  if tb.stageable at_ then { d with brx := { d.brx with pendTag := some at_ } }.setFld R.BRX_STAGE_CTRL 2 2 1
  else (d.setFld R.BRX_STAGE_CTRL 17 16 3).raise 0x070C []

/-- BRX_TAG_STAGE (R276). -/
def execBrxTagStage (s : State) : Host.Outcome State Fault Refusal := .next (s.onReg tagStage)

def tagCancel (d : Device) : Device := { d with brx := { d.brx with pendTag := none } }.setFld R.BRX_STAGE_CTRL 2 2 0

/-- BRX_TAG_CANCEL (R292). -/
def execBrxTagCancel (s : State) : Host.Outcome State Fault Refusal := .next (s.onReg (fun _ d => tagCancel d))

/-- R276, R44: the staged CFG_TAG at a boundary. -/
def tagBoundary (due : Bool → W48 → Due) (d : Device) : Device :=
  match d.brx.pendTag with
  | none => d
  | some f => match due true f with
    | .wait => d
    | .apply => ((tagCancel (d.setReg64 R.BRX_CFG_TAG_LO (d.reg64 R.BRX_CFG_TAG_NEXT_LO))).setFld R.BRX_STAGE_CTRL 17 16 1).raise 0x070C []
    | .drop => ((tagCancel d).setFld R.BRX_STAGE_CTRL 17 16 2).raise 0x070C []

/-- R292: what the read-only BRX registers read; EXCLUDED is 0, its reset value, until an evaluation has been made. -/
def brxView (d : Device) (k : Nat) : Option Nat :=
  let code : PortSt → Nat
    | .disabled => 0 | .training => 1 | .hello => 2 | .up => 3 | .failed => 4
  if k == R.BRX_STATUS then
    let all := 2 * d.planeSize - 1
    some (boolBit d.selfFenced <<< 31 + bits 30 29 (d.reg R.BRX_STATUS) <<< 29
      + (if d.brx.evals == 0 then 0 else if d.upPorts.isEmpty then all else all - d.brx.included.length) <<< 15 + d.upPorts.length)
  else if k == R.BRX_PORT_STATUS then some (((List.range 8).map (fun p => code (d.port' p).st <<< (3 * p))).sum)
  else if k == R.BRX_PEER_INFO then
    let i := d.fld R.BRX_PEER_SEL 13 0
    let excl := d.isExcluded i || d.brx.evals == 0
    match (d.brx.beats.getD i []).head? with
    | none => some (boolBit excl <<< 31 + d.brx.evals <<< 26)
    | some b => some (boolBit excl <<< 31 + boolBit (b.digest != d.brx.ref.getD (planeOf i) 0) <<< 30
        + boolBit b.unlocked <<< 29 + boolBit (!b.serving || b.fenced) <<< 28 + d.brx.missed.getD i 0 <<< 26 + b.furrow.toNat % 65536)
  else none

/-! ### NACK and the checks of a request for shard work (R285) -/

def sendNack (tb : Timebase) (origin tag reason : Nat) (d : Device) : Device :=
  let d := (brxSend tb 8 origin tag (leBytes 1 reason) d).inc R.BRX_NACKS_SENT
  if d.brx.nackSeen then d else ({ d with brx := { d.brx with nackSeen := true } } : Device).raise 0x070B [(1, reason)]

/-- R285: reason 1, then 2 where the version is not there; the rest is the request's own. -/
def nackFirst (d : Device) (versionOk : Bool) : Option Nat :=
  if d.selfFenced || !d.serving then some 1 else if !versionOk then some 2 else none

/-- R285: reason 4. -/
def tooLate (tb : Timebase) (deadline : W48) : Bool := !furLe (tb.number + 1) (deadline - 1)

/-- The header object and the tombstone object of a version of a slot, CUR or PREV. -/
def Device.idxVersion (d : Device) (slot ver : Nat) : Option (Nat × Nat) :=
  let cur := d.reg (idxReg R.SIEVE_IDX_CUR slot)
  let prev := d.reg (idxReg R.SIEVE_IDX_PREV slot)
  if cur % 65536 != 0 && d.reg (idxReg R.SIEVE_IDX_CUR_VER slot) == ver then some (cur % 65536, cur / 65536)
  else if prev % 65536 != 0 && d.reg (idxReg R.SIEVE_IDX_PREV_VER slot) == ver then some (prev % 65536, prev / 65536)
  else none

/-- R285: the service area. -/
def Device.serviceWin (d : Device) : Window := (d.ctx (d.fld R.BRX_SVC 9 0)).win 0

/-- The lowest free place in the service area. -/
def servicePlace (d : Device) (len : Nat) : Option Nat :=
  let w := d.serviceWin
  let used := (d.brx.jobs.filter (fun p => 0 < p.2.area.2)).map (fun p => p.2.area)
  let fits (b : Nat) : Bool := b + len ≤ w.size && !used.any (fun u => overlaps b len u.1 u.2)
  if !(w.tier == 1 && w.perm && 32 * 2 ^ 20 ≤ w.size) then none
  else
    let cs := (0 :: used.map (fun u => (u.1 + u.2 + 63) / 64 * 64)).filter fits
    if cs.isEmpty then none else some (cs.foldl min (cs.headD 0))

def Device.addJob (d : Device) (j : ShardJob) : Device :=
  { d with brx := { d.brx with jobs := d.brx.jobs.set d.brx.nextJob j, nextJob := d.brx.nextJob + 1 } }

def Device.dropJob (d : Device) (i : Nat) : Device := { d with brx := { d.brx with jobs := d.brx.jobs.del i } }

/-- R285: the descriptor of the search that a QUERY asks for; it runs on the engines that are powered as it is admitted (DESIGN
CHOICE, log entry 162). -/
def shardDesc (d : Device) (q : List Byte) (off m : Nat) : List Byte :=
  let f := fieldLe q
  leBytes 1 1 ++ leBytes 1 (f 6 1) ++ leBytes 2 d.corpusSlot ++ leBytes 4 (f 0 4) ++ leBytes 2 (f 4 2)
    ++ leBytes 2 (indexOf d.identity) ++ leBytes 1 (f 0x10 1) ++ leBytes 1 0 ++ leBytes 1 0 ++ leBytes 1 0xFF
    ++ leBytes 8 off ++ leBytes 8 (off + 512 * m) ++ leBytes 8 0 ++ leBytes 8 d.engMask
    ++ leBytes 2 (f 0x14 2) ++ leBytes 2 (f 0x16 2) ++ leBytes 4 (f 0x18 4) ++ leBytes 2 0 ++ leBytes 2 0 ++ leBytes 4 (f 0x1C 4)
    ++ leBytes 1 (f 0x11 1) ++ leBytes 1 (f 0x12 1) ++ leBytes 1 0 ++ List.replicate 5 0
    ++ sliceBytes q 0x20 32 ++ List.replicate 152 0

/-- R255: the stripe units of an IVF search. -/
def ivfUnits (m budget nprobe extra lookups : Nat) : Nat :=
  (budget * (16 * m + 128) * (nprobe + extra) + 4096 * nprobe - 1) / (4096 * nprobe) + (lookups + 63) / 64

/-- QUERY (R285). -/
def queryArrives (pkt : List Byte) (tb : Timebase) (d : Device) : Device :=
  let q := pktPayload pkt
  let f := fieldLe q
  let own := indexOf d.identity
  if !bit (own % 8) (f (0x40 + own / 8) 1) then d
  else
    let deadline : W48 := BitVec.ofNat 48 (f 8 8)
    let nack (r : Nat) (d : Device) : Device := sendNack tb (pktSrc pkt) (pktTag pkt) r d
    let ver := d.idxVersion d.corpusSlot (f 0 4)
    match nackFirst d ver.isSome, ver with
    | some r, _ => nack r d
    | none, none => nack 2 d
    | none, some bind =>
      let m := hdrM (d.slotHdr d.corpusSlot bind.1)
      let k := f 4 2
      let np := f 0x14 2 + f 0x16 2
      let len := 512 * m + 8 * np
      let look := if f 0x1C 4 == 0 then 4 * k else f 0x1C 4
      match servicePlace d len with
      | none => nack 3 d
      | some off =>
        let c := d.fld R.BRX_SVC 9 0
        let desc := shardDesc d q off m
        let d1 := d.bgWrite none (d.serviceWin.base + off) (sliceBytes q 0x340 len)
        match sieveCheck d1 c (some (d1.slotHdr d.corpusSlot bind.1)) true desc (16 * k) 1 with
        | some reason => nack 3 (d.raiseCtx 0x0601 c [(2, d.corpusSlot), (1, reason)])
        | none =>
          match admitShard tb (f 7 1) deadline (ivfUnits m (f 0x18 4) (f 0x14 2) (f 0x16 2) look) (f 0x10 1) d1 with
          | none => nack 3 d
          | some (per, d') =>
            if tooLate tb deadline then nack 4 d
            else
            let d := d'
            let job := d.brx.nextJob
            let d := d.addJob ⟨0, pktSrc pkt, pktTag pkt, f 7 1, deadline, tb.number + 1, f 0 4, (off, len), 0, 0, 0, 0, [], false, per, 0⟩
            let ss := sieveSearches tb d c bind desc none (some job) deadline
            { d with sieve := { d.sieve with waiting := d.sieve.waiting ++ ss } }

/-- QUERY (R285). -/
def execQuery (pkt : List Byte) (s : State) : Host.Outcome State Fault Refusal :=
  .next (s.onDev (brxReceive 4 pkt (queryArrives pkt)))

/-- R286: the RESULT of a shard search; `how` is its STATUS. -/
def sendResult (tb : Timebase) (how : Nat) (s : Search) (d : Device) : Device :=
  match s.shard with
  | none => d
  | some j => match d.brx.jobs.get? j with
    | none => d
    | some job =>
      let n := if how == 2 then 0 else s.coll.length
      let short := s.filtered && s.coll.length < s.k
      let d := if short && how != 2 then d.inc R.SIEVE_FILTER_SHORT else d
      let pl := leBytes 1 how ++ leBytes 1 0 ++ leBytes 2 (boolBit (short && how != 2) + 8 * boolBit s.media.isSome)
        ++ leBytes 2 (indexOf d.identity) ++ leBytes 2 n ++ leBytes 4 job.version ++ leBytes 4 0
        ++ ((s.coll.take n).map (sieveEntry (s.dsc 0xA 2))).flatten
      (if tb.st == .unlocked then d else brxSend tb 5 job.origin job.tag pl d).dropJob j

/-- SEARCH_LAND (R254, R285). -/
def searchLand (c : Nat) (tb : Timebase) (d : Device) : Device :=
  match d.search? c with
  | none => d
  | some s =>
    if !s.allStopped then d
    else
      let d := d.dropSearch c
      if s.shard.isSome then sendResult tb 0 s d else endSearch false s d

def execSearchLand (coll : Nat) (s : State) : Host.Outcome State Fault Refusal := .next (s.onDev (searchLand coll))

/-- R254, R285: one search is harvested. -/
def harvestOne (tb : Timebase) (d : Device) (s : Search) : Device :=
  if s.shard.isSome then
    let d := d.raiseCtx 0x0602 s.owner [(2, s.slot)]
    if bit 0 (s.dsc 1 1) then sendResult tb 1 s (d.inc R.SIEVE_HARVESTED) else sendResult tb 2 s (d.inc R.SIEVE_ABANDONED)
  else endSearch true s d

def searchHarvest (shard : Bool) (tb : Timebase) (d : Device) : Device :=
  let run := d.sieve.searches.filter (fun p => harvestDue tb shard p.2)
  let wait := d.sieve.waiting.filter (harvestDue tb shard)
  let d := { d with sieve := { d.sieve with
    searches := d.sieve.searches.filter (fun p => !harvestDue tb shard p.2),
    waiting := d.sieve.waiting.filter (fun s => !harvestDue tb shard s) } }
  (run.map (·.2) ++ wait).foldl (harvestOne tb) d

/-- HEARTBEAT_EVAL (R278). -/
def execHeartbeatEval (s : State) : Host.Outcome State Fault Refusal := .next (s.atPoint (s.tb.point 100000) evaluate)

/-! ### TEXT_REQ (R287) -/

/-- R287, R288: the corpus text object of a version. -/
def Device.corpusText (d : Device) (ver : Nat) : Nat :=
  if d.reg (idxReg R.SIEVE_IDX_CUR_VER d.corpusSlot) == ver && d.idxCur d.corpusSlot != 0 then d.fld R.BRX_TEXT 15 0
  else d.fld R.BRX_TEXT 31 16

def textReqArrives (pkt : List Byte) (tb : Timebase) (d : Device) : Device :=
  let q := pktPayload pkt
  let ver := fieldLe q 0 4
  let deadline : W48 := BitVec.ofNat 48 (fieldLe q 4 8)
  let room := fieldLe q 0xC 4
  let items := (List.range ((q.length - 16) / 12)).map (fun i => (fieldLe q (16 + 12 * i) 4, fieldLe q (20 + 12 * i) 8))
  let nack (r : Nat) : Device := sendNack tb (pktSrc pkt) (pktTag pkt) r d
  match nackFirst d (d.idxVersion d.corpusSlot ver).isSome with
  | some r => nack r
  | none =>
    let id := d.corpusText ver
    if (d.textObj id).isNone then nack 3
    else if tooLate tb deadline then nack 4
    else
      let j := d.brx.nextJob
      let d := d.addJob ⟨1, pktSrc pkt, pktTag pkt, 0, deadline, tb.number, ver, (0, 0), id, 0, 0, room, items, false, 0, 0⟩
      items.foldl (fun d it => d.askText (.textReq j it.1) id (it.2 % 2 ^ 32) room) d

/-- R287: shard text replies stop at offset 100,000 of D − 1. -/
def shardOpen (tb : Timebase) (deadline : W48) : Bool :=
  furLt tb.number (deadline - 1) || (tb.number + 1 == deadline && tb.offset ≤ tb.point 100000)

/-- R287: the text that a shard has read goes out; `last` is the last clk at which a job of this furrow's end may send. The last
TEXT_DATA of a job tells of a page that could not be read. None goes out while UNLOCKED (R43). -/
def serveText (last : Bool) (tb : Timebase) (d : Device) : Device :=
  (d.brx.jobs.filter (fun p => p.2.kind == 1)).foldl (fun d p =>
    let (j, job) := p
    if !shardOpen tb job.deadline then d.dropJob j
    else if tb.st == .unlocked then d
    else
      let (wait, ready) := job.items.partition (fun it => d.textWaits (.textReq j it.1))
      let bad (it : Nat × Nat) : Bool := d.flash.failed.contains (2 ^ 32 + j, it.1)
      let send := ready.filter (fun it => !bad it && it.2 % 2 ^ 32 < d.passages job.obj)
      let d := send.foldl (fun d it =>
        brxSend tb 7 job.origin job.tag (leBytes 4 it.1 ++ (d.textItem job.obj (it.2 % 2 ^ 32) job.maxBytes).1) d) d
      let failed := job.failed || job.items.any bad
      if wait.isEmpty || (last && tb.number + 1 == job.deadline) then
        let d := if failed then brxSend tb 7 job.origin job.tag (leBytes 4 0xFFFFFFFF) d else d
        d.dropJob j
      else { d with brx := { d.brx with jobs := d.brx.jobs.set j { job with items := wait, failed := failed } } }) d

/-- SEARCH_HARVEST (R254, R285): at offset 120,000 for the searches of handoffs, at 100,000 for shard work. -/
def execSearchHarvest (shard : Bool) (s : State) : Host.Outcome State Fault Refusal :=
  .next (s.atPoint (s.tb.point (if shard then 100000 else 120000)) (fun tb d =>
    let d := searchHarvest shard tb d
    if shard then serveText true tb d else d))

/-- TEXT_REQ (R287). -/
def execTextReq (pkt : List Byte) (s : State) : Host.Outcome State Fault Refusal :=
  .next (s.onDev (fun tb d => serveText false tb (brxReceive 6 pkt (textReqArrives pkt) tb d)))

/-- FLASH_READ_DONE (R426, R427): an attempt at outstanding read number `read` ends; text that was waited for goes out (R287). -/
def execFlashReadDone (read : Nat) (res : ReadTry) (s : State) : Host.Outcome State Fault Refusal :=
  .next (s.onDev (fun tb d => serveText false tb (flashReadDone read res tb d)))

/-! ### Fan-out (R281 to R284, R289) -/

def Device.remote? (d : Device) (h : Nat) : Option Remote := d.brx.remotes.get? h

def Device.setRemote (d : Device) (h : Nat) (r : Remote) : Device := { d with brx := { d.brx with remotes := d.brx.remotes.set h r } }

def Remote.count (r : Remote) (i n : Nat) : Remote := { r with used := addAt r.used i n }

/-- The items of a unit for which no reply has come but a NACK, by their numbers. -/
def RemoteUnit.missing (u : RemoteUnit) : List Nat := (u.items.map (·.1)).filter (fun i => !u.got.contains i)

/-- KIND_DETAIL of R289 and of R302. -/
def remoteDetail (r : Remote) : List Byte :=
  let asked := r.units.filter (fun u => !u.planes.isEmpty)
  if r.kind == 2 then
    let remote := (r.units.map (fun u => u.got.length)).sum
    let nacked := (r.units.map (fun u => if u.nacks.isEmpty then 0 else u.missing.length)).sum
    leBytes 4 r.localDone ++ leBytes 4 remote ++ leBytes 4 nacked ++ leBytes 4 r.notAsked
  else
    let n := if r.kind == 0 then asked.length else (asked.map (fun u => u.items.length)).sum
    let came := r.units.flatMap (·.came)
    let prim := (came.filter (·.primary)).length
    leBytes 2 n ++ leBytes 2 prim ++ leBytes 2 (came.length - prim) ++ leBytes 2 (r.used.getD 0 0)
      ++ leBytes 2 (r.used.getD 1 0) ++ leBytes 2 (r.used.getD 2 0)
      ++ leBytes 2 ((r.units.filter (·.unasked)).length) ++ leBytes 2 ((came.filter (·.harvested)).length)

def Device.putRemote (d : Device) (h : Nat) (r : Remote) : Device := (d.setRemote h r).setDetail h (remoteDetail r)

/-- R283: the planes in which a shard is asked first. -/
def firstPlanes (d : Device) (cls idx : Nat) : List Nat :=
  let open_ (p : Nat) : Bool := !d.isExcluded (identityOf p idx)
  if cls == 0 then [0, 1].filter open_
  else
    let p := d.primaryPlane idx
    if open_ p then [p] else if open_ (1 - p) then [1 - p] else []

/-- The ASK bitmap of R284. -/
def askBits (idxs : List Nat) : List Byte :=
  (List.range 768).map (fun i => BitVec.ofNat 8 ((List.range 8).foldl (fun b k => if idxs.contains (8 * i + k) then b + 2 ^ k else b) 0))

def chunks (n : Nat) : Nat → List α → List (List α)
  | 0, _ => []
  | fuel + 1, l => if l.isEmpty then [] else l.take n :: chunks n fuel (l.drop n)

/-- R284, R287, R300: requests to units of a handoff in one plane. -/
def sendAsk (tb : Timebase) (h : Handoff) (r : Remote) (plane : Nat) (us : List RemoteUnit) (d : Device) : Device :=
  if us.isEmpty then d
  else if r.kind == 0 then
    let pl := r.query.take 0x40 ++ askBits (us.map (·.idx)) ++ r.query.drop 0x40
    brxSend tb 4 (identityOf plane 0x1FFF) h.id pl d
  else us.foldl (fun d u =>
    let dst := identityOf plane u.idx
    let entries (l : List (Nat × Nat)) : List Byte := (l.map (fun it => leBytes 4 it.1 ++ leBytes 8 it.2)).flatten
    (chunks (if r.kind == 1 then 3412 else 3411) u.items.length u.items).foldl (fun d part =>
      if r.kind == 1 then
        brxSend tb 6 dst h.id (leBytes 4 r.version ++ leBytes 8 h.deadline.toNat ++ leBytes 4 (h.stride - 8) ++ entries part) d
      else
        brxSend tb 0x10 dst h.id (leBytes 1 r.table ++ leBytes 1 r.format ++ leBytes 1 r.cls ++ leBytes 1 0 ++ leBytes 4 part.length
          ++ leBytes 4 r.version ++ leBytes 4 0 ++ leBytes 8 h.deadline.toNat ++ entries part) d) d) d

/-- R283: the first sending. -/
def firstSending (tb : Timebase) (h : Handoff) (r : Remote) (d : Device) : Device × Remote :=
  let us := r.units.map (fun u =>
    let ps := firstPlanes d r.cls u.idx
    { u with planes := ps, unasked := ps.isEmpty })
  let n := ((us.filter (·.unasked)).map (fun u => u.items.length)).sum
  let r := { r with units := us, started := true, notAsked := n }
  let d := [0, 1].foldl (fun d p => sendAsk tb h r p (us.filter (fun u => u.planes.contains p)) d) d
  (d, r)

/-- R283: some units are asked in the other plane, each at most once and only where it is not excluded. -/
def laterSending (tb : Timebase) (h : Handoff) (r : Remote) (want : RemoteUnit → Bool) (d : Device) : Device × Remote :=
  let go (u : RemoteUnit) : Option Nat := match u.planes with
    | [p] => if want u && !d.isExcluded (identityOf (1 - p) u.idx) then some (1 - p) else none
    | _ => none
  let sel := r.units.filter (fun u => (go u).isSome)
  if sel.isEmpty then (d, r)
  else
    let d := [0, 1].foldl (fun d p => sendAsk tb h r p (sel.filter (fun u => go u == some p)) d) d
    let r := { r with units := r.units.map (fun u => match go u with | some p => { u with planes := u.planes ++ [p] } | none => u) }
    (d.incBy R.BRX_FALLBACKS sel.length, r.count 2 sel.length)

/-- R283: the sending of FALLBACK_REL. -/
def fallbackSending (hid : Nat) (tb : Timebase) (d : Device) : Device :=
  match d.handoff? hid, d.remote? hid with
  | some h, some r =>
    if r.cls == 0 || r.fallback == 0 || r.fell || !r.started || tb.number != furAdd h.issue r.fallback || tb.st == .unlocked
      || d.selfFenced then d
    else
      let (d, r) := laterSending tb h { r with fell := true } (fun u => !u.replied && u.nacks.isEmpty) d
      d.putRemote hid r
  | _, _ => d

/-- FALLBACK_SENDING (R283). -/
def execFallbackSending (handoff : Nat) (s : State) : Host.Outcome State Fault Refusal :=
  .next (s.onDev (fallbackSending handoff))

/-- R280, R458: a reply that is discarded: its sender is excluded, or PD_X_FAB's function was disabled in abort mode. -/
def Device.discards (d : Device) (pkt : List Byte) : Bool := d.isExcluded (pktSrc pkt) || d.power.funcAbort.contains 18

/-- The handoff and the unit that a reply from a module concerns. -/
def askedUnit (d : Device) (pkt : List Byte) : Option (Handoff × Remote × RemoteUnit) :=
  match d.handoff? (pktTag pkt), d.remote? (pktTag pkt) with
  | some h, some r =>
    (r.units.find? (fun u => u.idx == indexOf (pktSrc pkt) && u.planes.contains (planeOf (pktSrc pkt)))).map (fun u => (h, r, u))
  | _, _ => none

/-- The same, for the replies that R280 discards where their sender is excluded. -/
def replyUnit (d : Device) (pkt : List Byte) : Option (Handoff × Remote × RemoteUnit) :=
  if d.discards pkt then none else askedUnit d pkt

def Remote.setUnit (r : Remote) (u : RemoteUnit) : Remote :=
  { r with units := r.units.map (fun x => if x.idx == u.idx then u else x) }

/-- R283: of two replies for an item that complete in one clk, plane A's is used. -/
def RemoteUnit.yields (tb : Timebase) (pkt : List Byte) (item : Nat) (u : RemoteUnit) : Bool :=
  planeOf (pktSrc pkt) == 0
    && u.came.any (fun c => c.item == item && c.plane == 1 && c.furrow == tb.number && c.clk == tb.offset)

/-- A reply for an item is used: it lands, or takes the place of the other plane's. -/
def takeReply (tb : Timebase) (pkt : List Byte) (h : Handoff) (item : Nat) (data : List Byte) (harvested : Bool)
    (flags : List (Nat × Nat)) (d : Device) (u : RemoteUnit) : Device × RemoteUnit :=
  let src := pktSrc pkt
  let c : Came := ⟨item, tb.number, tb.offset, planeOf src, planeOf src == d.primaryPlane (indexOf src), harvested, flags⟩
  if u.yields tb pkt item then
    (d.relandItem h.id item data, { u with came := c :: u.came.filter (fun x => x.item != item) })
  else (d.landItem h.id item data, { u with replied := true, got := u.got ++ [item], came := c :: u.came })

/-- A reply is discarded and counted (R283). -/
def Device.hedged (d : Device) (yes : Bool) (r : Remote) : Device × Remote :=
  if yes then (d.inc R.BRX_HEDGE_DISCARDS, r.count 0 1) else (d, r)

/-- R82, R283: a reply of `n` items that comes for no open handoff. -/
def strayReply (n : Nat) (pkt : List Byte) (d : Device) : Device :=
  if d.discards pkt || (d.handoff? (pktTag pkt)).isSome then d
  else (List.range n).foldl (fun d _ => d.lateItem (pktTag pkt)) d

/-- R286: a RESULT arrives. -/
def resultArrives (pkt : List Byte) (tb : Timebase) (d : Device) : Device :=
  match replyUnit d pkt with
  | none => strayReply 1 pkt d
  | some (h, r, u) =>
    let p := pktPayload pkt
    if r.kind != 0 || fieldLe p 4 2 != u.idx then d
    else if h.cutoff then d.lateItem h.id
    else
      let yields := u.yields tb pkt u.idx
      let (d, r) := d.hedged u.replied r
      if u.replied && !yields then d.putRemote h.id r
      else
        let n := fieldLe p 6 2
        let body := (p.drop 16).take (16 * n)
        let fill := (List.replicate (h.stride / 16 - n) (fillBytes true 0 false)).flatten
        let fl := fieldLe p 2 2
        let (d, u) := takeReply tb pkt h u.idx (body ++ fill) (fieldLe p 0 1 == 1)
          ((if bit 0 fl then [(0, 0x6C)] else []) ++ (if bit 3 fl then [(3, detLpddrEcc)] else [])) d u
        d.putRemote h.id (r.setUnit u)

/-- RESULT (R286). -/
def execResult (pkt : List Byte) (s : State) : Host.Outcome State Fault Refusal :=
  .next (s.onDev (brxReceive 5 pkt (resultArrives pkt)))

/-- R287: a TEXT_DATA arrives; the one that only tells of a page that could not be read has no item, and stands among the
reasons as 0: it is a reply that was no NACK VERSION. -/
def textDataArrives (pkt : List Byte) (tb : Timebase) (d : Device) : Device :=
  let p := pktPayload pkt
  let item := fieldLe p 0 4
  match replyUnit d pkt with
  | none => strayReply (if item == 0xFFFFFFFF then 0 else 1) pkt d
  | some (h, r, u) =>
    if r.kind != 1 then d
    else if item == 0xFFFFFFFF then (d.flagHandoff h.id 3 0x90).putRemote h.id (r.setUnit { u with replied := true, nacks := u.nacks ++ [0] })
    else if h.cutoff then d.lateItem h.id
    else if !u.items.any (fun x => x.1 == item) then d
    else
      let had := u.got.contains item
      let (d, r) := d.hedged had r
      if had && !u.yields tb pkt item then d.putRemote h.id r
      else
        let (d, u) := takeReply tb pkt h item (sliceBytes (p.drop 4) 0 h.stride) false [] d u
        d.putRemote h.id (r.setUnit u)

/-- TEXT_DATA (R287). -/
def execTextData (pkt : List Byte) (s : State) : Host.Outcome State Fault Refusal :=
  .next (s.onDev (brxReceive 7 pkt (textDataArrives pkt)))

/-- R283: a NACK arrives; R280 discards none. A self-fenced module makes no later sending (R279). -/
def nackArrives (pkt : List Byte) (tb : Timebase) (d : Device) : Device :=
  let d := d.inc R.BRX_NACKS_RECV
  match if d.power.funcAbort.contains 18 then none else askedUnit d pkt with
  | none => d
  | some (h, r, u) =>
    let d := if r.kind == 2 then d.inc R.GATH_NACKS else d
    if h.cutoff then d
    else
      let r := (r.setUnit { u with nacks := u.nacks ++ [fieldLe (pktPayload pkt) 0 1] }).count 1 1
      let (d, r) := if r.cls == 0 || d.selfFenced then (d, r) else laterSending tb h r (fun x => x.idx == u.idx && !x.replied) d
      d.putRemote h.id r

/-- NACK (R283). -/
def execNack (pkt : List Byte) (s : State) : Host.Outcome State Fault Refusal :=
  .next (s.onDev (brxReceive 8 pkt (nackArrives pkt)))

/-- R289, R302: conditions that the replies of a handoff add at its close; the second is of each shard, passage or row. -/
def remoteConds (r : Remote) : List (Nat × Nat) :=
  let g := r.kind == 2
  let fenced := r.units.any (·.unasked)
  let ver := r.units.any (fun u => !u.missing.isEmpty && !u.nacks.isEmpty && u.nacks.all (· == 2))
  (if fenced then [(9, if g then 0x75 else 0x71)] else []) ++ (if ver then [(0xA, if g then 0x74 else 0x6D)] else [])

/-! ### The issue of a FABRIC handoff -/

/-- R282: the number of the first check that fails; `h` is the header that the request is bound to. -/
def fabricCheck (d : Device) (x : Context) (hdr : Option (List Byte)) (h : Handoff) : Option Nat :=
  let f := fieldLe h.desc
  let inR (lo hi v : Nat) : Bool := lo ≤ v && v ≤ hi
  let rel := (h.deadline - h.issue).toNat
  let zero (lo hi : Nat) : Bool := (List.range (hi - lo)).all (fun i => f (lo + i) 1 == 0)
  let np := f 0x20 2 + f 0x22 2
  let search := f 0 1 == 0
  let fieldsOk :=
    if search then
      f 1 1 ≤ 1 && inR 1 1024 (f 4 2) && inR 1 64 (f 6 1) && f 8 8 % 64 == 0 && f 0x18 8 % 64 == 0 && inR 1 512 (f 0x20 2) && np ≤ 512
        && 1 ≤ f 0x24 4 && f 0x2C 1 ≤ 4 && f 0x2D 1 ≤ 1 && zero 0x11 0x18 && zero 0x2E 0x30 && zero 0x50 256
    else f 0 1 == 1 && f 1 1 ≤ 1 && inR 1 h.itemsMax (f 4 4) && f 0x10 8 % 8 == 0 && zero 9 0x10 && zero 0x18 256
  let hd := hdr.getD []
  let tw := sieveWin x (f 7 1)
  let pw := sieveWin x (f 0x10 1)
  let lw := sieveWin x (f 8 1)
  firstFail [
    (!fieldsOk, 1),
    (hdr.isNone || d.idxCur d.corpusSlot == 0 || !d.idxPublic d.corpusSlot || hdrGraph (d.slotHdr d.corpusSlot (d.idxCur d.corpusSlot)), 2),
    (search && !(tw.tier == 1 && f 8 8 + 512 * hdrM hd ≤ tw.size && pw.holds (f 0x18 8) (8 * np)
      && (readProbes d.mem (pw.base + f 0x18 8) np).all (fun p => p.1 < fieldLe hd 0x18 4)
      && d.planeSize ≤ h.itemsMax && 16 * f 4 2 ≤ h.stride), 3),
    (!search && !(lw.holds (f 0x10 8) (8 * f 4 4)
      && (List.range (f 4 4)).all (fun i =>
        let id := d.mem.readLe (lw.base + f 0x10 8 + 8 * i) 8
        bit 63 id && bits 44 32 id < d.planeSize)), 4),
    (!(f 2 2 == 0 || f 2 2 < rel), 5)]

/-- R284: the QUERY payload but for its ASK bitmap. -/
def queryBase (d : Device) (x : Context) (h : Handoff) (cls ver m : Nat) : List Byte :=
  let f := fieldLe h.desc
  let t := (sieveWin x (f 7 1)).base + f 8 8
  let p := (sieveWin x (f 0x10 1)).base + f 0x18 8
  leBytes 4 ver ++ leBytes 2 (f 4 2) ++ leBytes 1 (f 1 1) ++ leBytes 1 cls ++ leBytes 8 h.deadline.toNat ++ leBytes 1 (f 6 1)
    ++ leBytes 1 (f 0x2C 1) ++ leBytes 1 (f 0x2D 1) ++ leBytes 1 0 ++ leBytes 2 (f 0x20 2) ++ leBytes 2 (f 0x22 2) ++ leBytes 4 (f 0x24 4)
    ++ leBytes 4 (f 0x28 4) ++ sliceBytes h.desc 0x30 32 ++ d.mem.readBytes t (512 * m)
    ++ d.mem.readBytes p (8 * (f 0x20 2 + f 0x22 2))

/-- The units of items by the index each belongs to. -/
def groupItems (items : List (Nat × Nat × Nat)) : List RemoteUnit :=
  let idxs := (items.map (·.1)).eraseDups
  idxs.map (fun i => ⟨i, (items.filter (fun x => x.1 == i)).map (·.2), [], [], false, [], false, []⟩)

def freshRemote (kind cls version fallback : Nat) (units : List RemoteUnit) : Remote :=
  ⟨kind, cls, version, fallback, false, false, units, List.replicate 3 0, [], 0, 0, 0, [], 0, 0, 0⟩

/-- Flags of a landing record, each with its detail: UNLOCKED and FENCED (R16: each condition that holds). -/
def shutFlags (unlocked fenced : Bool) (detail : Nat) : List (Nat × Nat) :=
  (if unlocked then [(1, 0)] else []) ++ (if fenced then [(2, detail)] else [])

/-- R279, R289, R292: why the module sends nothing at issue: the flags and their details; none, and it sends. -/
def fabricShut (tb : Timebase) (d : Device) (detail : Nat) : List (Nat × Nat) :=
  shutFlags (tb.st == .unlocked) (d.selfFenced || !d.fanout) detail

def Handoff.flag (h : Handoff) (b detail : Nat) : Handoff :=
  { h with flags := Nat.lor h.flags (2 ^ b), flagDetails := h.flagDetails.set b detail }

def Handoff.flagAll (h : Handoff) (l : List (Nat × Nat)) : Handoff := l.foldl (fun h p => h.flag p.1 p.2) h

/-- R281 to R284: a FABRIC handoff is issued; `start` where a reservation lets it start. -/
def fabricIssue (tb : Timebase) (start : Bool) (d : Device) (h : Handoff) (q : Request) : Device × Handoff :=
  let x := d.ctx h.ctx
  let bind := q.bindings.get? d.corpusSlot
  let hdr := bind.map (fun b => d.slotHdr d.corpusSlot b.1)
  match fabricCheck d x hdr h with
  | some n => (d.raiseCtx 0x070A h.ctx [(1, n)], { h with noWork := true, expected := 0 })
  | none =>
    let f := fieldLe h.desc
    let search := f 0 1 == 0
    let np := f 0x20 2 + f 0x22 2
    let h := { h with
      expected := if search then d.planeSize else f 4 4,
      srcRanges :=
        if search then [((sieveWin x (f 7 1)).base + f 8 8, 512 * hdrM (hdr.getD [])), ((sieveWin x (f 0x10 1)).base + f 0x18 8, 8 * np)]
        else [((sieveWin x (f 8 1)).base + f 0x10 8, 8 * f 4 4)] }
    match fabricShut tb d 0x70 with
    | p :: l => (d, { h.flagAll (p :: l) with noWork := true })
    | [] =>
      if !start then (d, { h with noWork := true })
      else
        let ver := match bind with | some b => b.2.2 | none => 0
        let units :=
          if search then (List.range d.planeSize).map (fun s => (⟨s, [(s, s)], [], [], false, [], false, []⟩ : RemoteUnit))
          else
            let lw := sieveWin x (f 8 1)
            groupItems ((List.range (f 4 4)).map (fun i =>
              let id := d.mem.readLe (lw.base + f 0x10 8 + 8 * i) 8
              (bits 44 32 id, i, id)))
        let r := freshRemote (if search then 0 else 1) q.cls ver (f 2 2) units
        let r := if search then { r with query := queryBase d x h q.cls ver (hdrM (hdr.getD [])) } else r
        let (d, r) := firstSending tb h r d
        let h := if r.units.any (·.unasked) then h.flag 2 0x71 else h
        (d.setRemote h.id r, { h with detail := remoteDetail r })

end Sys2Proof.Machine
end

