-- ==== Sys2Proof/Machine/Gather.lean ====
section
/-! DEFINITION. The gather unit (11_embedding_tables): tables and their versions, rows, gather handoffs at both ends,
build batches and their mirrors. -/
namespace Sys2Proof.Machine

/-! ### Tables (R293 to R296) -/

def tblReg (a t : Nat) : Nat := inst a t

def Device.tblPlane (d : Device) (t : Nat) : Bool := d.fld (tblReg R.GATH_TBL_CFG t) 31 31 == 1
def Device.tblPublic (d : Device) (t : Nat) : Bool := d.fld (tblReg R.GATH_TBL_CFG t) 30 30 == 1
def Device.tblMirrored (d : Device) (t : Nat) : Bool := d.fld (tblReg R.GATH_TBL_CFG t) 29 29 == 1 && d.tblPlane t
def Device.tblCode4 (d : Device) (t : Nat) : Bool := d.fld (tblReg R.GATH_TBL_CFG t) 28 28 == 1
def Device.tblDim (d : Device) (t : Nat) : Nat := d.fld (tblReg R.GATH_TBL_CFG t) 9 0 + 1
def Device.tblOwner (d : Device) (t : Nat) : Option Nat :=
  if d.tblPublic t then none else some (d.fld (tblReg R.GATH_TBL_CFG t) 25 16)
def Device.tblRows (d : Device) (t : Nat) : Nat := d.reg (tblReg R.GATH_TBL_ROWS_LO t) + 2 ^ 32 * d.reg (tblReg R.GATH_TBL_ROWS_HI t)
def Device.tblRpm (d : Device) (t : Nat) : Nat := d.reg (tblReg R.GATH_TBL_RPM_LO t) + 2 ^ 32 * d.reg (tblReg R.GATH_TBL_RPM_HI t)
def Device.tblCur (d : Device) (t : Nat) : Nat := d.fld (tblReg R.GATH_TBL_CUR t) 15 0

/-- R295: S. -/
def rowStrideOf (code4 : Bool) (dim : Nat) : Nat := (4 + (if code4 then (dim + 1) / 2 else dim) + 15) / 16 * 16

def Device.tblStride (d : Device) (t : Nat) : Nat := rowStrideOf (d.tblCode4 t) (d.tblDim t)

/-- R294: the index that owns a row. -/
def Device.rowIndex (d : Device) (t r : Nat) : Nat := if d.tblRpm t == 0 then 0 else r / d.tblRpm t

/-- R294: a row of this module's own range. -/
def Device.rowLocal (d : Device) (t r : Nat) : Bool := !d.tblPlane t || d.rowIndex t r == indexOf d.identity

/-- R294: the local number of a row. -/
def Device.localRow (d : Device) (t r : Nat) : Nat := if d.tblPlane t then r - d.rowIndex t r * d.tblRpm t else r

/-- R294: this module owns its range. -/
def Device.ownsRange (d : Device) (t : Nat) : Bool :=
  !d.tblPlane t || d.primaryPlane (indexOf d.identity) == planeOf d.identity

/-- R306: the table versions a request binds to, keyed 256 + table. -/
def Device.bindTables (d : Device) (c : Nat) : Tbl (Nat × Nat × Nat) :=
  ((List.range 64).filter (fun t => d.tblCur t != 0 && (match d.tblOwner t with | none => true | some o => o == c))).map (fun t =>
    (256 + t, d.tblCur t, 0, d.reg (tblReg R.GATH_TBL_CUR_VER t)))

/-- R295: code k of a row. -/
def rowCode (code4 : Bool) (row : List Byte) (k : Nat) : Nat :=
  if code4 then bits (4 * (k % 2) + 3) (4 * (k % 2)) (fieldLe row (4 + k / 2) 1) else fieldLe row (4 + k) 1

/-- R296: one element in FP32. -/
def rowElem (row : List Byte) (c : Nat) : Nat :=
  let wide (w : Nat) : Nat := (convertFp fp16 fp32 w).1
  (fp32.fma (wide (fieldLe row 2 2)) (wide (fieldLe row 0 2)) (fp32.roundDyadic false false c 0).1).1

/-- R298: the item of a stored row in a delivered format. -/
def rowItem (code4 : Bool) (dim fmt : Nat) (row : List Byte) : List Byte :=
  if fmt == 0 then row
  else ((List.range dim).map (fun k =>
    let x := rowElem row (rowCode code4 row k)
    if fmt == 1 then leBytes 4 x else leBytes 2 (convertFp fp32 (if fmt == 2 then fp16 else bf16) x).1)).flatten

/-- R298: its size. -/
def itemBytes (stride dim fmt : Nat) : Nat := if fmt == 0 then stride else if fmt == 1 then 4 * dim else 2 * dim

/-- R296: a scale or an offset is a NaN or an infinity. -/
def rowNonFinite (row : List Byte) : Bool :=
  let fin (w : Nat) : Bool := match fp16.decode w with | .fin _ _ _ => true | _ => false
  !(fin (fieldLe row 0 2) && fin (fieldLe row 2 2))

/-- A local row of a version object, as stored. -/
def Device.readRow (d : Device) (obj t l : Nat) : List Byte := match d.obj? obj with
  | some o => d.mem.readBytes (o.base + l * d.tblStride t) (d.tblStride t)
  | none => List.replicate (d.tblStride t) 0

/-- Stripe units, in 64ths, of one row read (R300). -/
def Device.rowWork (d : Device) (t : Nat) : Nat := (d.tblStride t + 63) / 64

/-- The device address of a row. -/
def Device.rowAddr (d : Device) (obj t l : Nat) : Nat := match d.obj? obj with
  | some o => o.base + l * d.tblStride t
  | none => lpBase

/-- R152, R162: the channel of a row serves it, and the object is in use. -/
def Device.serveRow (tb : Timebase) (d : Device) (obj t l : Nat) : Device :=
  (d.use tb obj).chanTake (d.rowAddr obj t l) (d.rowWork t)

/-! ### Versions (R305) -/

/-- The checks at the switch. -/
def Device.tblNextOk (d : Device) (t : Nat) : Bool :=
  match d.obj? (d.fld (tblReg R.GATH_TBL_NEXT t) 15 0) with
  | none => false
  | some o => o.st == .sealed && o.kind == 4 && o.tier == 2 && o.owner == d.tblOwner t && d.tblRpm t * d.tblStride t ≤ o.size

def tblSwitch (t : Nat) (d : Device) : Device :=
  let k (a : Nat) : Nat := tblReg a t
  if d.tblNextOk t then
    let d := (d.setReg (k R.GATH_TBL_PREV) (d.tblCur t)).setReg (k R.GATH_TBL_PREV_VER) (d.reg (k R.GATH_TBL_CUR_VER))
    let d := (d.setReg (k R.GATH_TBL_CUR) (d.fld (k R.GATH_TBL_NEXT) 15 0)).setReg (k R.GATH_TBL_CUR_VER) (d.reg (k R.GATH_TBL_NEXT_VER))
    (d.setFld (k R.GATH_TBL_CTRL) 17 16 1).raise 0x0805 []
  else (d.setFld (k R.GATH_TBL_CTRL) 17 16 2).raise 0x0806 []

/-- R305, R44: staged table switches at a boundary. -/
def tableBoundary (due : Bool → W48 → Due) (d : Device) : Device :=
  d.gath.pendTbl.foldl (fun d p =>
    let settle (d : Device) : Device :=
      { d with gath := { d.gath with pendTbl := d.gath.pendTbl.del p.1 } }.setFld (tblReg R.GATH_TBL_CTRL p.1) 2 2 0
    match due (d.tblPlane p.1) p.2 with
    | .wait => d
    | .apply => tblSwitch p.1 (settle d)
    | .drop => (settle d).setFld (tblReg R.GATH_TBL_CTRL p.1) 17 16 2) d

def tblStage (tb : Timebase) (d : Device) : Device :=
  let t := d.fld R.GATH_TBL_SEL 5 0
  let at_ := d.furReg (tblReg R.GATH_TBL_APPLY_LO t) (tblReg R.GATH_TBL_APPLY_HI t)
  if tb.stageable at_ then
    { d with gath := { d.gath with pendTbl := d.gath.pendTbl.set t at_ } }.setFld (tblReg R.GATH_TBL_CTRL t) 2 2 1
  else d.setFld (tblReg R.GATH_TBL_CTRL t) 17 16 3

/-- GATH_TBL_STAGE (R305). -/
def execGathTblStage (s : State) : Host.Outcome State Fault Refusal := .next (s.onReg tblStage)

def tblCancel (d : Device) : Device :=
  let t := d.fld R.GATH_TBL_SEL 5 0
  { d with gath := { d.gath with pendTbl := d.gath.pendTbl.del t } }.setFld (tblReg R.GATH_TBL_CTRL t) 2 2 0

/-- GATH_TBL_CANCEL (R314). -/
def execGathTblCancel (s : State) : Host.Outcome State Fault Refusal := .next (s.onReg (fun _ d => tblCancel d))

def gathCounters : List Nat := [R.GATH_ROWS_LOCAL, R.GATH_ROWS_REMOTE, R.GATH_ROWS_SERVED, R.GATH_NACKS, R.GATH_RECORDS,
  R.GATH_REJECTS, R.GATH_NONFINITE]

/-- GATH_CNT_CLR (R314). -/
def execGathCntClr (s : State) : Host.Outcome State Fault Refusal := .next (s.onReg (fun _ d => d.clear gathCounters))

/-! ### Gather handoffs (R297 to R302) -/

/-- The row numbers of a descriptor's list. -/
def rowList (d : Device) (x : Context) (desc : List Byte) : List Nat :=
  let a := (sieveWin x (fieldLe desc 8 1)).base + fieldLe desc 0x10 8
  (List.range (fieldLe desc 4 4)).map (fun i => d.mem.readLe (a + 8 * i) 8)

/-- R299: the number of the first check that fails. -/
def gatherCheck (d : Device) (x : Context) (bound : Bool) (h : Handoff) : Option Nat :=
  let f := fieldLe h.desc
  let t := f 0 1
  let lw := sieveWin x (f 8 1)
  let rows := rowList d x h.desc
  let rel := (h.deadline - h.issue).toNat
  let zero (lo hi : Nat) : Bool := (List.range (hi - lo)).all (fun i => f (lo + i) 1 == 0)
  let remote := rows.any (fun r => !d.rowLocal t r)
  firstFail [
    (63 < t || !bound || d.tblCur t == 0 || !(match d.tblOwner t with | none => true | some o => o == h.ctx), 1),
    (!(lw.holds (f 0x10 8) (8 * f 4 4)) || f 0x10 8 % 8 != 0 || rows.any (fun r => d.tblRows t ≤ r), 2),
    (f 4 4 == 0 || h.itemsMax < f 4 4 || h.stride < itemBytes (d.tblStride t) (d.tblDim t) (f 1 1), 3),
    (3 < f 1 1 || !(f 2 2 == 0 || f 2 2 < rel) || !zero 9 0x10 || !zero 0x18 256, 4),
    (remote && !(d.tblPlane t && d.tblPublic t && 2 ≤ rel), 5)]

/-- A GATHER handoff is issued; its work starts at the next boundary (R300). -/
def gatherIssue (tb : Timebase) (start : Bool) (d : Device) (h : Handoff) (q : Request) : Device × Handoff :=
  let x := d.ctx h.ctx
  let t := fieldLe h.desc 0 1
  let bind := q.bindings.get? (256 + t)
  match gatherCheck d x bind.isSome h with
  | some n => (d.raiseCtx 0x0801 h.ctx [(1, n)], { h with noWork := true, expected := 0 })
  | none =>
    let f := fieldLe h.desc
    let h := { h with expected := f 4 4, srcRanges := [((sieveWin x (f 8 1)).base + f 0x10 8, 8 * f 4 4)] }
    let rows := (rowList d x h.desc).zipIdx
    let (loc, rem) := rows.partition (fun p => d.rowLocal t p.1)
    let shut := if rem.isEmpty then [] else fabricShut tb d 0x75
    let h := h.flagAll shut
    if !start then (d, { h with noWork := true })
    else
      let units := if !shut.isEmpty then [] else groupItems (rem.map (fun p => (d.rowIndex t p.1, p.2, p.1)))
      let ver := match bind with | some b => b.2.2 | none => 0
      let obj := match bind with | some b => b.1 | none => 0
      let r := { freshRemote 2 q.cls ver (f 2 2) units with
        table := t, format := f 1 1, obj := obj, locals := loc.map (fun p => (p.2, d.localRow t p.1)),
        notAsked := if !shut.isEmpty then rem.length else 0 }
      let d := d.use tb obj
      (d.setRemote h.id r, { h with
        detail := remoteDetail r, pinned := obj :: h.pinned, noWork := !shut.isEmpty && loc.isEmpty })

/-- R300: gathers issued in an earlier furrow start; work counts begin anew. Where the
module is UNLOCKED or self-fenced by then, it asks no peer (R43, R279). -/
def gatherBoundary (tb : Timebase) (d : Device) : Device :=
  let d := { d with brx := { d.brx with
    remotes := d.brx.remotes.mapVals (fun _ r => { r with work := 0 }),
    jobs := d.brx.jobs.mapVals (fun _ j => { j with work := 0 }) } }
  d.brx.remotes.foldl (fun d p =>
    match d.handoff? p.1 with
    | some h =>
      if p.2.kind == 2 && !p.2.started && furLt h.issue tb.number && !p.2.units.isEmpty && (tb.st == .unlocked || d.selfFenced) then
        ((shutFlags (tb.st == .unlocked) d.selfFenced 0x75).foldl (fun d f => d.flagHandoff p.1 f.1 f.2) d).putRemote p.1 { p.2 with
          started := true, units := [], notAsked := p.2.notAsked + (p.2.units.map (fun u => u.items.length)).sum }
      else if p.2.kind == 2 && !p.2.started && furLt h.issue tb.number then
        let n := p.2.notAsked
        let (d, r) := firstSending tb h p.2 d
        let r := { r with notAsked := r.notAsked + n }
        let d := if r.units.any (·.unasked) then d.flagHandoff p.1 2 0x75 else d
        d.putRemote p.1 r
      else d
    | none => d) d

/-- A row that is delivered counts where its scale or offset is not finite (R296). -/
def Device.countRow (d : Device) (row : List Byte) : Device := if rowNonFinite row then d.inc R.GATH_NONFINITE else d

/-- R300: the next local row of a handoff is delivered. -/
def localRowRead (hid : Nat) (ecc : Option Nat) (tb : Timebase) (d : Device) : Device :=
  match d.handoff? hid, d.remote? hid with
  | some h, some r => match r.locals with
    | [] => d
    | (item, l) :: rest =>
      let grant := match h.res with | some v => v.units | none => 0
      let work := r.work + d.rowWork r.table
      if r.kind != 2 || !r.started || 64 * grant < work || h.cutoff || !d.chanFits (d.rowAddr r.obj r.table l) (d.rowWork r.table) then d
      else
        let n := r.localDone + 1
        let row := d.readRow r.obj r.table l
        let d := d.serveRow tb r.obj r.table l
        let d := if ecc.isSome then (d.flagHandoff hid 3 detLpddrEcc).lpEcc? ecc else d
        let body := rowItem (d.tblCode4 r.table) (d.tblDim r.table) r.format row
        let d := (d.landItem hid item (sliceBytes body 0 h.stride)).countRow row
        (d.inc R.GATH_ROWS_LOCAL).putRemote hid { r with locals := rest, localDone := n, work := work }
  | _, _ => d

/-- R301: the next row of a request of another module is read and sent. -/
def servedRowRead (j : Nat) (ecc : Option Nat) (tb : Timebase) (d : Device) : Device :=
  match d.brx.jobs.get? j with
  | none => d
  | some job => match job.items with
    | [] => d.dropJob j
    | (item, l) :: rest =>
      let work := job.work + d.rowWork job.table
      if job.kind != 2 || furLt tb.number job.start || 64 * job.units < work || tb.st == .unlocked
          || !d.chanFits (d.rowAddr job.obj job.table l) (d.rowWork job.table) then d
      else if !shardOpen tb job.deadline then d.dropJob j
      else
        let row := d.readRow job.obj job.table l
        let d := d.serveRow tb job.obj job.table l
        let body := rowItem (d.tblCode4 job.table) (d.tblDim job.table) job.format row
        let d := brxSend tb 0x11 job.origin job.tag (leBytes 4 1 ++ leBytes 4 (8 * boolBit ecc.isSome) ++ leBytes 4 item ++ body) (d.lpEcc? ecc)
        let d := (d.countRow row).inc R.GATH_ROWS_SERVED
        if rest.isEmpty then d.dropJob j
        else { d with brx := { d.brx with jobs := d.brx.jobs.set j { job with items := rest, work := work } } }

/-- GATHER_ROW_READ (R300, R301): the next row of handoff `id`, or of job `id` for another module, with an LPDDR5X
error on a channel or without. -/
def execGatherRowRead (served : Bool) (id : Nat) (ecc : Option Nat) (s : State) : Host.Outcome State Fault Refusal :=
  .next (s.onDev (fun tb d => if served then servedRowRead id ecc tb d else localRowRead id ecc tb d))

/-- The object of a version of a table, CUR or PREV. -/
def Device.tblVersion (d : Device) (t ver : Nat) : Option Nat :=
  let k (a : Nat) : Nat := tblReg a t
  if 63 < t then none
  else if d.tblCur t != 0 && d.reg (k R.GATH_TBL_CUR_VER) == ver then some (d.tblCur t)
  else if d.fld (k R.GATH_TBL_PREV) 15 0 != 0 && d.reg (k R.GATH_TBL_PREV_VER) == ver then some (d.fld (k R.GATH_TBL_PREV) 15 0)
  else none

/-- R301: a GATHER_REQ arrives. -/
def gatherReqArrives (pkt : List Byte) (tb : Timebase) (d : Device) : Device :=
  let q := pktPayload pkt
  let f := fieldLe q
  let t := f 0 1
  let n := f 4 4
  let deadline : W48 := BitVec.ofNat 48 (f 16 8)
  let rows := (List.range n).map (fun i => (f (24 + 12 * i) 4, f (28 + 12 * i) 8))
  let nack (r : Nat) (d : Device) : Device := sendNack tb (pktSrc pkt) (pktTag pkt) r d
  let obj := d.tblVersion t (f 8 4)
  match nackFirst d obj.isSome, obj with
  | some r, _ => nack r d
  | none, none => nack 2 d
  | none, some o =>
    let units := (n * d.rowWork t + 63) / 64
    if !(d.tblPlane t && d.tblPublic t) || 3 < f 1 1 || rows.any (fun r => !d.rowLocal t r.2 || d.tblRows t ≤ r.2) then nack 3 d
    else match admitShard tb (f 2 1) deadline units 0 d with
      | none => nack 3 d
      | some (per, d') =>
        if tooLate tb deadline then nack 4 d
        else
          d'.addJob ⟨2, pktSrc pkt, pktTag pkt, f 2 1, deadline, tb.number + 1, f 8 4, (0, 0), o, t, f 1 1, 0,
            rows.map (fun r => (r.1, d.localRow t r.2)), false, per, 0⟩

/-- GATHER_REQ (R301). -/
def execGatherReq (pkt : List Byte) (s : State) : Host.Outcome State Fault Refusal :=
  .next (s.onDev (brxReceive 0x10 pkt (gatherReqArrives pkt)))

/-- R300, R304: GATHER_DATA arrives: rows not yet landed land. -/
def gatherDataArrives (pkt : List Byte) (tb : Timebase) (d : Device) : Device :=
  let p := pktPayload pkt
  let n := fieldLe p 0 4
  match replyUnit d pkt with
  | none => strayReply (min n (p.length / 8)) pkt d
  | some (h, r, u) =>
    if r.kind != 2 then d
    else
      let size := itemBytes (d.tblStride r.table) (d.tblDim r.table) r.format
      let es := (List.range n).map (fun i => (fieldLe p (8 + (4 + size) * i) 4, sliceBytes p (12 + (4 + size) * i) size))
      let mine := es.filter (fun e => u.items.any (fun x => x.1 == e.1))
      let new := mine.filter (fun e => !u.got.contains e.1 || u.yields tb pkt e.1)
      if h.cutoff then mine.foldl (fun d _ => d.lateItem h.id) d
      else
        let (d, r) := d.hedged (new.isEmpty || new.any (fun e => u.got.contains e.1)) r
        let fl := if bit 3 (fieldLe p 4 4) then [(3, detLpddrEcc)] else []
        let (d, u') := new.foldl (fun a e => takeReply tb pkt h e.1 (sliceBytes e.2 0 h.stride) false fl a.1 a.2) (d, u)
        (d.incBy R.GATH_ROWS_REMOTE (u'.got.length - u.got.length)).putRemote h.id
          (if new.isEmpty then r else r.setUnit { u' with replied := true })

/-- GATHER_DATA (R300). -/
def execGatherData (pkt : List Byte) (s : State) : Host.Outcome State Fault Refusal :=
  .next (s.onDev (brxReceive 0x11 pkt (gatherDataArrives pkt)))

/-! ### Build batches (R307 to R312) -/

def buildWord (d : Device) (i : Nat) : Nat := d.reg (R.GATH_BUILD_W0 + 4 * i)

/-- R307: GO: the acceptance, checked in the order of R527. -/
def buildGo (d : Device) : Device :=
  let t := buildWord d 0
  let src := bits 15 0 (buildWord d 1)
  let dst := bits 31 16 (buildWord d 1)
  let so := buildWord d 2 + 2 ^ 32 * buildWord d 3
  let n := buildWord d 4
  let ro := buildWord d 5
  let recLen := 8 + d.tblStride t
  let past (id off len : Nat) : Bool := match d.obj? id with | some o => o.size < off + len | none => false
  let bad := 63 < t || so % 8 != 0 || ro % 64 != 0 || past src so (n * recLen) || past dst ro (16 + 8 * n)
  let ss := objSt d src
  let ds := objSt d dst
  let state := !(ss == some .sealed || ss == some .shareObject) || !(ds == some .building || ds == some .shareObject)
  match firstFail [(bad, 1), (16 ≤ d.gath.batches.length, 6), (state, 3)] with
  | some r => d.setFld R.GATH_BUILD_STATUS 31 24 r
  | none =>
    let seq := (d.fld R.GATH_BUILD_STATUS 23 0 + 1) % 2 ^ 24
    let d := d.setReg R.GATH_BUILD_STATUS seq
    { d with gath := { d.gath with batches := d.gath.batches ++ [⟨seq, t, src, dst, so, ro, n, false, 0, [], 0, 0, []⟩] } }

/-- GATH_BUILD_GO (R307). -/
def execGathBuildGo (s : State) : Host.Outcome State Fault Refusal := .next (s.onReg (fun _ d => buildGo d))

/-- R308: why a record is not accepted; `owner` tells whether its sender may write here. -/
def recordReason (d : Device) (t r : Nat) (owner : Bool) : Nat :=
  if !(d.rowLocal t r && owner) then 1
  else if d.tblRows t ≤ r then 2
  else if objSt d (d.fld (tblReg R.GATH_TBL_NEXT t) 15 0) != some .building then 3
  else 0

/-- R308: a record is written into the NEXT object. -/
def writeRecord (t r : Nat) (row : List Byte) (d : Device) : Device :=
  let id := d.fld (tblReg R.GATH_TBL_NEXT t) 15 0
  match d.obj? id with
  | none => d
  | some o =>
    let off := d.localRow t r * d.tblStride t
    if o.tier != 2 || o.size < off + row.length then d
    else { d with mem := d.mem.writeBytes (o.base + off) row }.updObj id (fun o => o.mark off row.length)

/-- R308: records applied in order: those accepted and those not, each with its position. -/
def applyRecords (t : Nat) (owner : Bool) (recs : List (Nat × List Byte)) (d : Device) :
    Device × List Nat × List (Nat × Nat) :=
  recs.zipIdx.foldl (fun (acc : Device × List Nat × List (Nat × Nat)) x =>
    let (d, ok, no) := acc
    let ((r, row), pos) := x
    let why := recordReason d t r owner
    if why == 0 then ((writeRecord t r row d).inc R.GATH_RECORDS, ok ++ [pos], no)
    else
      let d := d.inc R.GATH_REJECTS
      let d := if no.isEmpty then d.raise 0x0803 [(1, t), (8, r), (1, why)] else d
      (d, ok, no ++ [(pos, why)])) (d, [], [])

def Device.setBatch (d : Device) (b : Batch) : Device :=
  { d with gath := { d.gath with batches := d.gath.batches.map (fun x => if x.seq == b.seq then b else x) } }

/-- R307: the result area of a batch is written, and the batch ends. -/
def finishBatch (tb : Timebase) (b : Batch) (d : Device) : Device :=
  let body := leBytes 4 b.accepted ++ leBytes 4 b.rejects.length ++ leBytes 4 b.overwritten ++ leBytes 4 b.missed
    ++ (b.rejects.map (fun x => leBytes 4 x.1 ++ leBytes 4 x.2)).flatten
  let d := match d.obj? b.dst with
    | some o =>
      if o.st == ObjState.shareObject then d.bgWrite none (o.base + b.dstOff) body
      else if o.st == ObjState.building && o.tier == 2 then
        { d with mem := d.mem.writeBytes (o.base + b.dstOff) body }.updObj b.dst (fun o => o.mark b.dstOff body.length)
      else if o.st == ObjState.building && o.tier == 3 && !d.unwritable o then
        ((d.queuePages b.dst o tb b.dstOff body).updObj b.dst (fun o => o.mark b.dstOff body.length)).syncDir b.dst
      else d
    | none => d
  let d := { d with gath := { d.gath with batches := d.gath.batches.filter (fun x => x.seq != b.seq) } }
  d.raise 0x0802 [(4, b.seq), (4, b.accepted), (4, b.rejects.length), (4, b.overwritten), (4, b.missed)]

/-- The module of this index in the other plane. -/
def Device.mirrorPeer (d : Device) : Nat := identityOf (1 - planeOf d.identity) (indexOf d.identity)

/-- R310: n records of a batch count as missed. -/
def mirrorMissed (t n : Nat) (b : Batch) (d : Device) : Device × Batch :=
  let d := (List.range n).foldl (fun d _ => (d.inc R.GATH_REJECTS).raise 0x0804 [(1, t), (2, d.mirrorPeer)]) d
  (d, { b with missed := b.missed + n })

/-- The length of a record of a table. -/
def Device.batchRecLen (d : Device) (t : Nat) : Nat := 8 + d.tblStride t

/-- The records of a batch: the row that each names, and its bytes. -/
def Device.batchRecs (d : Device) (b : Batch) : List (Nat × List Byte) :=
  (List.range b.count).map (fun i =>
    let l := d.objBytes b.src (b.srcOff + i * d.batchRecLen b.table) (d.batchRecLen b.table)
    (fieldLe l 0 8, l.drop 8))

/-- R162, R307: what the next `n` records of a batch take of a channel: their bytes where they are read out of LPDDR5X, and the
rows of those that are accepted. -/
def Device.batchNeed (d : Device) (b : Batch) (n ch : Nat) : Nat :=
  let t := b.table
  let next := d.fld (tblReg R.GATH_TBL_NEXT t) 15 0
  let read := match d.obj? b.src with
    | some o => if o.tier == 2 then linesOn ch (o.base + b.srcOff + d.gath.moved * d.batchRecLen t) (n * d.batchRecLen t) else 0
    | none => 0
  let rows := ((d.batchRecs b).drop d.gath.moved).take n
  read + (rows.map (fun x =>
    if recordReason d t x.1 (d.ownsRange t) == 0 then linesOn ch (d.rowAddr next t (d.localRow t x.1)) (d.tblStride t) else 0)).sum

/-- They fit in what is left of the furrow. -/
def Device.batchFits (d : Device) (f : Nat) (b : Batch) (n : Nat) : Bool :=
  (List.range 128).all (fun ch => d.batchNeed b n ch ≤ d.spareOn f ch)

/-- R162, R307: at the end of a furrow the front batch, where it is not done, has moved the records that fitted in what was left. -/
def batchBoundary (n : W48) (d : Device) : Device :=
  match d.gath.batches with
  | [] => d
  | b :: _ =>
    let k := if b.applied then 0 else mostThatFit (b.count - d.gath.moved) (d.batchFits n.toNat b)
    if k == 0 then d
    else
      let d := d.takeSpare (d.batchNeed b k)
      { d with gath := { d.gath with moved := d.gath.moved + k } }

/-- R307, R308, R310: the front batch applies its records; a mirrored one goes out to the peer and waits. The unreserved capacity
of this furrow holds what is left of it to move (R162): before, it is not done. -/
def batchDone (tb : Timebase) (d : Device) : Device :=
  match d.gath.batches with
  | [] => d
  | b :: _ =>
    let left := b.count - d.gath.moved
    if b.applied || !d.batchFits tb.number.toNat b left then d
    else
      let d := d.takeSpare (d.batchNeed b left)
      let d := { d with gath := { d.gath with moved := 0 } }
      let t := b.table
      let len := d.batchRecLen t
      let recs := d.batchRecs b
      let (d, ok, no) := applyRecords t (d.ownsRange t) recs d
      let rowOf (p : Nat) : Nat := (recs.getD p (0, [])).1
      let last := ok.filter (fun p => !ok.any (fun q => p < q && rowOf q == rowOf p))
      let b := { b with applied := true, accepted := ok.length, rejects := no, overwritten := ok.length - last.length }
      if !d.tblMirrored t || last.isEmpty then finishBatch tb b d
      else if d.isExcluded d.mirrorPeer then
        let (d, b) := mirrorMissed t last.length b d
        finishBatch tb b d
      else
        let per := max 1 ((40960 - 16) / len)
        let parts := chunks per last.length last
        let ver := d.reg (tblReg R.GATH_TBL_NEXT_VER t)
        let d := parts.foldl (fun d ps =>
          let body := (ps.map (fun p => let x := recs.getD p (0, []); leBytes 8 x.1 ++ x.2)).flatten
          brxSend tb 0x12 d.mirrorPeer b.seq (leBytes 1 t ++ leBytes 3 0 ++ leBytes 4 ver ++ leBytes 4 ps.length ++ leBytes 4 0 ++ body) d) d
        d.setBatch { b with out := parts.map (fun ps => ⟨ps.map rowOf, tb.number⟩) }

/-- GATH_BATCH_DONE (R307). -/
def execGathBatchDone (s : State) : Host.Outcome State Fault Refusal := .next (s.onDev batchDone)

/-- R310: two furrows after the last TABLE_WRITE of a batch, records with no acknowledgement count as missed. -/
def mirrorTimeout (tb : Timebase) (d : Device) : Device :=
  match d.gath.batches with
  | [] => d
  | b :: _ =>
    if !b.applied || b.out.isEmpty || b.out.any (fun p => furLt tb.number (furAdd p.at_ 2)) then d
    else
      let n := (b.out.map (fun p => p.rows.length)).sum
      let (d, b) := mirrorMissed b.table n { b with out := [] } d
      finishBatch tb b d

/-- MIRROR_ACK_TIMEOUT (R310). -/
def execMirrorAckTimeout (s : State) : Host.Outcome State Fault Refusal := .next (s.onDev mirrorTimeout)

/-- R311: a TABLE_WRITE arrives. -/
def tableWriteArrives (pkt : List Byte) (tb : Timebase) (d : Device) : Device :=
  let q := pktPayload pkt
  let f := fieldLe q
  let t := f 0 1 % 64
  let n := f 8 4
  let len := 8 + d.tblStride t
  let recs := (List.range n).map (fun i => (f (16 + len * i) 8, sliceBytes q (24 + len * i) (len - 8)))
  let ack (ok : Nat) (no : List (Nat × Nat)) (d : Device) : Device :=
    brxSend tb 0x13 (pktSrc pkt) (pktTag pkt) (leBytes 4 ok ++ leBytes 4 no.length
      ++ (no.map (fun x => leBytes 4 x.1 ++ leBytes 4 x.2)).flatten) d
  if pktSrc pkt != d.mirrorPeer then ack 0 ((List.range n).map (fun i => (i, 1))) (d.incBy R.GATH_REJECTS n)
  else
    let (d, ok, no) := applyRecords t true recs d
    ack ok.length no d

/-- TABLE_WRITE (R311). -/
def execTableWrite (pkt : List Byte) (s : State) : Host.Outcome State Fault Refusal :=
  .next (s.onDev (brxReceive 0x12 pkt (tableWriteArrives pkt)))

/-- R310: a TABLE_ACK settles a packet of its batch that waits: the oldest whose records are as many as the ACK accepts and
refuses together (R304: the ACK names its packet by nothing else). -/
def tableAckArrives (pkt : List Byte) (tb : Timebase) (d : Device) : Device :=
  let p := pktPayload pkt
  match d.gath.batches with
  | [] => d
  | b :: _ => match b.out.find? (fun o => o.rows.length == fieldLe p 0 4 + fieldLe p 4 4) with
    | none => d
    | some o =>
      if pktSrc pkt != d.mirrorPeer || pktTag pkt != b.seq then d
      else
        let rest := b.out.erase o
        let (d, b) := mirrorMissed b.table (fieldLe p 4 4) { b with out := rest } d
        if rest.isEmpty then finishBatch tb b d else d.setBatch b

/-- TABLE_ACK (R310). -/
def execTableAck (pkt : List Byte) (s : State) : Host.Outcome State Fault Refusal :=
  .next (s.onDev (brxReceive 0x13 pkt (tableAckArrives pkt)))

/-- R307, R312: an object that the running batch, the front one, writes. -/
def Device.batchTarget (d : Device) (id : Nat) : Bool :=
  d.gath.batches.head?.any (fun b => d.fld (tblReg R.GATH_TBL_NEXT b.table) 15 0 == id)

/-- R314: what the read-only GATH registers read. STRIDE of a version that names no object is the 0 of its reset (log entry
130). -/
def gathView (d : Device) (k : Nat) : Option Nat :=
  let t := k / 2 ^ 32
  let a := k % 2 ^ 32
  if a == R.GATH_STATUS then some d.gath.batches.length
  else if a == R.GATH_TBL_CUR || a == R.GATH_TBL_PREV || a == R.GATH_TBL_NEXT then
    let obj := bits 15 0 (d.reg k)
    some (if obj == 0 then 0 else obj + d.tblStride t <<< 16)
  else none

end Sys2Proof.Machine
end

