-- ==== Sys2Proof/Machine/Requests.lean ====
section
/-! DEFINITION. Admitted requests as the units that work for them see them: their windows, the order in which work is
taken (R71, R327), their stages (R384). -/
namespace Sys2Proof.Machine

/-- R71: the round-robin pointer, and a queue pair's place counted from it. -/
def Device.rrPlace (d : Device) (qp : Nat) : Nat := (qp + 4096 - d.fld R.ARR_SOW_RR 11 0 % 4096) % 4096

/-- R71: of two requests, the one admitted first, then by queue pair, then in ring order. -/
def Device.admBefore (d : Device) (a b : Request) : Bool :=
  if a.admitted != b.admitted then furLt a.admitted b.admitted
  else if a.qp != b.qp then d.rrPlace a.qp < d.rrPlace b.qp
  else a.order < b.order

/-- R327: class 0 first, then as R71. -/
def Device.workBefore (d : Device) (a b : Request) : Bool :=
  if (a.cls == 0) != (b.cls == 0) then a.cls == 0 else d.admBefore a b

/-- Bytes at an offset of a window of a context; none where the range does not lie in a CENTRAL_STORE window. -/
def Device.winBytes (d : Device) (c w off n : Nat) : Option (List Byte) :=
  let x := (d.ctx c).win w
  if x.holds off n then some (d.mem.readBytes (x.base + off) n) else none

/-- Write through the background port at an offset of a READ_WRITE window; nothing where the range does not lie in one. -/
def Device.winWrite (d : Device) (c w off : Nat) (data : List Byte) : Device :=
  let x := (d.ctx c).win w
  if x.holds off data.length && x.perm then d.bgWrite none (x.base + off) data else d

/-! ### The descriptor (R382) -/

def Request.f (q : Request) (off n : Nat) : Nat := fieldLe q.bytes off n
def Request.vocab (q : Request) : Nat := q.f 3 1
def Request.template (q : Request) : Nat := q.f 0x16 1
def Request.generate (q : Request) : Bool := bit 0 (q.f 1 1)
def Request.promptGiven (q : Request) : Bool := bit 1 (q.f 1 1)
def Request.include_ (q : Request) : Bool := bit 2 (q.f 1 1)
def Request.isPipeline (q : Request) : Bool := q.f 0 1 == 0
def Request.userSegCount (q : Request) : Nat := q.f 0x12 1
def Request.segCount (q : Request) : Nat := q.f 0x12 1 + q.f 0x2E 2

/-- R387, check 6: the vocabulary slot is named by a request with text work. -/
def Request.usesVocab (q : Request) : Bool :=
  q.isPipeline && (q.generate || q.segCount != 0 || q.f 0x20 4 != 0 || q.stages.any (fun t => t.type != 0))

/-- The template slot is named by a request with an ASSEMBLE stage. -/
def Request.usesTemplate (q : Request) : Bool := q.isPipeline && q.stages.any (fun t => t.type == 2)

/-- The AUTOMATON and the ALLOW slot that a request names. -/
def Request.grammar (q : Request) : Option Nat := if q.isPipeline && q.f 0x18 1 != 0xFF then some (q.f 0x18 1) else none
def Request.allow (q : Request) : Option Nat := if q.isPipeline && q.f 0x19 1 != 0xFF then some (q.f 0x19 1) else none

/-- A range of the request block, in the window as admitted. -/
def Request.block (q : Request) (m : Memory) (off n : Nat) : List Byte := m.readBytes (q.blockBase + off) n

/-- R320: reference `i` of the combined list. -/
def Request.segRef (q : Request) (m : Memory) (i : Nat) : List Byte := q.block m (q.f 0x50 8 + 64 * i) 64

/-! ### Token lists (R326) -/

/-- The 64-byte header and the entries of a token list. -/
def tokenList (toks : List Nat) (total invalid flags voc : Nat) : List Byte :=
  leBytes 4 toks.length ++ leBytes 4 total ++ leBytes 4 invalid ++ leBytes 1 flags ++ leBytes 1 voc
    ++ List.replicate 50 0 ++ toks.flatMap (leBytes 4)

/-- The tokens of a list at an offset of a window, at most `most` of them. -/
def Device.readTokens (d : Device) (c w off most : Nat) : List Nat :=
  match d.winBytes c w off 64 with
  | none => []
  | some h =>
    let n := min (fieldLe h 0 4) most
    match d.winBytes c w (off + 64) (4 * n) with
    | none => []
    | some l => (List.range n).map (fun i => bits 19 0 (fieldLe l (4 * i) 4))

/-- The token list of reference `i` of a request. -/
def Device.segTokens (d : Device) (q : Request) (i : Nat) : List Nat :=
  let r := q.segRef d.mem i
  d.readTokens q.ctx (fieldLe r 2 1) (fieldLe r 8 8) (fieldLe r 4 4)

/-! ### Stages (R384) -/

/-- Every run at an earlier chain position than `p` has ended. -/
def Request.posReady (q : Request) (p : Nat) : Bool := q.stages.all (fun t => min (p - t.pos) t.reps ≤ t.ended)

/-- R384: every stage has completed. A request without stages has its user segments as its last work (log entry 131). -/
def Request.stagesDone (q : Request) : Bool := if q.stages.isEmpty then q.userSegs else q.stages.all (fun t => t.reps ≤ t.ended)

def Request.setStage (q : Request) (k : Nat) (f : Stage → Stage) : Request := { q with stages := q.stages.modify k f }

/-- The next TOKENIZE or ASSEMBLE stage that may start. An ASSEMBLE stage waits for the user segments. -/
def Request.nextUnitStage (q : Request) : Option (Nat × Stage) :=
  (q.stages.zipIdx.find? (fun p => p.1.type != 0 && p.1.placed == 0 && q.posReady p.1.pos && (p.1.type == 1 || q.userSegs))).map
    (fun p => (p.2, p.1))

/-- R384: start the TOKENIZE and ASSEMBLE stages that may start; `fuel` bounds them by the number of stages. -/
def startStages (rid : Nat) : Nat → Device → Device
  | 0, d => d
  | fuel + 1, d =>
    match d.req? rid with
    | none => d
    | some q =>
      if q.cancel.isSome then d else
      match q.nextUnitStage with
      | none => d
      | some (k, t) =>
        let a (i : Nat) : Nat := (t.args.getD i 0).toNat
        if t.type == 2 then
          let d := d.setReq rid (q.setStage k (fun t => { t with placed := 1 }))
          startStages rid fuel { d with pasm := { d.pasm with queue := d.pasm.queue ++ [(rid, k)] } }
        else
          let ids := (List.range (a 1)).filterMap (fun i => if a 0 + i < q.segCount then some (a 0 + i) else none)
          let d := d.setReq rid (q.setStage k (fun t => { t with placed := 1, ended := if ids.isEmpty then 1 else 0 }))
          startStages rid fuel { d with text := { d.text with
            queue := d.text.queue ++ ids.map (fun i => ⟨rid, i, some k⟩) } }

def Device.startStages (d : Device) (rid : Nat) : Device := Sys2Proof.Machine.startStages rid 33 d

/-- A TOKENIZE or ASSEMBLE stage completes. -/
def Device.endStage (d : Device) (rid k : Nat) : Device :=
  (d.updReq rid (fun q => q.setStage k (fun t => { t with ended := 1 }))).startStages rid

/-- Put a value in its place in a list ordered by `before`, after its equals. -/
def insertBy {α : Type} (before : α → α → Bool) (x : α) : List α → List α
  | [] => [x]
  | y :: t => if before x y then x :: y :: t else y :: insertBy before x t

/-- A list in order; equals keep their order. -/
def sortBy {α : Type} (before : α → α → Bool) (l : List α) : List α := l.foldl (fun a x => insertBy before x a) []

end Sys2Proof.Machine
end

