-- ==== Sys2Proof/Machine/StoreMove.lean ====
section
/-! DEFINITION. The store-move slot (R113), the rake slot (R116, R214 to R230) and the sync slot but for HOFF
(R120, R121). -/
namespace Sys2Proof.Machine

/-- R101, R67: a store port is named by the band and free. -/
def portExc (r : Run) (p : Nat) : List Nat :=
  whenB (15 < p) 0x5B ++ whenB (!bit p r.fp.ports) 0x41 ++ whenB (r.now < r.ports.getD p 0) 0x5D

def Run.holdPort (r : Run) (p n : Nat) : Run := { r with ports := r.ports.set p (r.now + n) }

def setaOp (a imm : Nat) : SlotOp :=
  .mk 1 (fun _ _ => whenB (15 < a || 2 ^ 48 ≤ imm) 0x5B) (fun _ d r => (d, r.at (r.now + 1) 33 (.areg a imm)))

/-- R113: a[B] + SIMM, sign-extended, modulo 2^64. -/
def addaValue (r : Run) (b simm : Nat) : Nat := ofSigned 64 ((r.areg b : Int) + toSigned 32 simm)

def addaOp (a b simm : Nat) : SlotOp :=
  .mk 1 (fun _ _ => whenB (15 < a || 15 < b) 0x5B) (fun _ d r => (d, r.at (r.now + 1) 33 (.areg a (addaValue r b simm))))

def ldaOp (a port sw sa soff : Nat) : SlotOp :=
  .mk 1
    (fun d r => portExc r port ++ memExc d r sw (r.areg sa + 8 * soff) 8 false)
    (fun _ d r =>
      let x := r.addr sw (r.areg sa + 8 * soff)
      let l := r.lat sw
      (d, (((r.holdPort port 1).at (r.now + l + 1) 33 (.areg a (ofLe (plotRead d r r.now x 8)))).occupy
        (readOcc d l ((unitsOf x 8).map (fun u => (r.now, u)))))))

/-- R113: unit k is read at issue + k and visible from issue + k + Ls + Ld. -/
def copyAct (port sw sa dw da soff doff len : Nat) (d : Device) (r : Run) : Device × Run :=
  let src := r.addr sw (r.areg sa + 64 * soff)
  let dst := r.addr dw (r.areg da + 64 * doff)
  let ls := r.lat sw
  let l := ls + r.lat dw
  let r' := (List.range len).foldl (fun r' k => r'.at (r.now + k) 32 (.copyUnit (src + 64 * k) (dst + 64 * k) (r.now + k + l)))
    (r.holdPort port len)
  let rd := readOcc d ls ((List.range len).flatMap (fun k => (unitsOf (src + 64 * k) 64).map (fun u => (r.now + k, u))))
  let wr := writeOcc d ((List.range len).flatMap (fun k => (unitsOf (dst + 64 * k) 64).map (fun u => (r.now + k + l, u))))
  (d, (r'.occupy rd).occupy wr)

def copyOp (port sw sa dw da soff doff len : Nat) : SlotOp :=
  .mk 1
    (fun d r => whenB (len == 0) 0x5B ++ portExc r port ++ memExc d r sw (r.areg sa + 64 * soff) (64 * len) false
      ++ memExc d r dw (r.areg da + 64 * doff) (64 * len) true)
    (fun _ => copyAct port sw sa dw da soff doff len)

/-- R113: every unit holds bits 31:0 of a[PR], repeated. -/
def fillUnit (r : Run) (pr : Nat) : List Byte := (List.replicate 16 (leBytes 4 (r.areg pr % 2 ^ 32))).flatten

def fillAct (port dw da pr doff len : Nat) (d : Device) (r : Run) : Device × Run :=
  let dst := r.addr dw (r.areg da + 64 * doff)
  let l := r.lat dw
  let data := fillUnit r pr
  let r' := (List.range len).foldl (fun r' k => r'.at (r.now + k + l) 18 (.store (dst + 64 * k) data)) (r.holdPort port len)
  (d, r'.occupy (writeOcc d ((List.range len).flatMap (fun k => (unitsOf (dst + 64 * k) 64).map (fun u => (r.now + k + l, u))))))

def fillOp (port dw da pr doff len : Nat) : SlotOp :=
  .mk 1 (fun d r => whenB (len == 0) 0x5B ++ portExc r port ++ memExc d r dw (r.areg da + 64 * doff) (64 * len) true)
    (fun _ => fillAct port dw da pr doff len)

/-- R113: the latch takes its values from issue + 1. R67: a window slot must be named by the band. -/
def rksetOp (sw sa dw da soff doff : Nat) : SlotOp :=
  .mk 1 (fun _ r => whenB (!bit sw r.fp.windows || !bit dw r.fp.windows) 0x41)
    (fun _ d r => (d, r.at (r.now + 1) 33 (.latch sw (r.areg sa + 64 * soff) dw (r.areg da + 64 * doff))))

/-- R113, R110: the descriptor enters packing register P for MMs issued at or after issue + Ls + 2. Its port is busy 2 clk, and
its second 64 B occupy their bank 1 clk after the first; the rule does not say when they are read: all 128 B are read as they
stand at issue (DESIGN CHOICE, log entry 104). -/
def pdldOp (port sw sa soff p : Nat) : SlotOp :=
  .mk 1
    (fun d r => whenB (p == 0 || 15 < p) 0x5B ++ portExc r port ++ memExc d r sw (r.areg sa + 64 * soff) 128 false)
    (fun _ d r =>
      let x := r.addr sw (r.areg sa + 64 * soff)
      let l := r.lat sw
      (d, ((r.holdPort port 2).at (r.now + l + 2) 31 (.packed p (plotRead d r r.now x 128))).occupy
        (readOcc d l ((unitsOf x 64).map (fun u => (r.now, u)) ++ (unitsOf (x + 64) 64).map (fun u => (r.now + 1, u))))))

/-! ### The rake -/

/-- R222: B, the bytes of a result. -/
def rakeBytes (op k : Nat) : Nat := pad64 (64 + (if op == 3 then 16 else 8) * k)

/-- R117: occupancy. -/
def rakeOcc (s : RakeSlot) : Nat :=
  let n := (s.len + s.lanes - 1) / s.lanes
  if s.op == 1 then n + 8 else if s.k ≤ 512 then n + 64 else 2 * n + 128

/-- The bytes of one element of the source (R227). -/
def RakeSlot.elem (s : RakeSlot) : Nat := if s.op == 3 then 16 else sfmtBytes s.sfmt

def rakeExc (s : RakeSlot) (d : Device) (r : Run) : List Nat :=
  let (sw, so, dw, dd) := r.latch
  whenB (!s.accepted || s.len == 0 || s.k == 0 || s.lanes == 0 || 32 < s.lanes || so % 64 != 0 || dd % 64 != 0) 0x5B
    ++ whenB ((List.range s.lanes).any (fun l => !bit l r.fp.rake) || (s.op != 1 && !r.fp.bitonic)) 0x41
    ++ memExc d r sw so (s.len * s.elem) false ++ memExc d r dw dd (rakeBytes s.op s.k) true
    ++ whenB (r.rake.any (fun o => r.now < o.occEnd)) 0x5D

/-- R117, R214, R220: the lanes read one element each per clk; the result is complete at issue + Ls + occupancy +
B / 64 + Ld - 1. -/
def rakeAct (s : RakeSlot) (d : Device) (r : Run) : Device × Run :=
  let (sw, so, dw, dd) := r.latch
  let src := r.addr sw so
  let dst := r.addr dw dd
  let n := (s.len + s.lanes - 1) / s.lanes
  let occ := rakeOcc s
  let units := rakeBytes s.op s.k / 64
  let due := r.now + r.lat sw + occ + units + r.lat dw - 1
  let o : RakeOp := ⟨s.op, s.len, s.k, s.sfmt, s.lanes, s.min, src, dst, r.now + occ, due, [], []⟩
  let reads (pass base : Nat) (r' : Run) : Run := (List.range n).foldl (fun r' c =>
    let n := min s.lanes (s.len - c * s.lanes)
    (r'.at (base + c) 32 (.rakeRead pass (c * s.lanes) n)).at (base + c) 34 (.rakeCount n)) r'
  let occOf (base : Nat) : List (Nat × Nat) := readOcc d (r.lat sw) ((List.range n).flatMap (fun c =>
    (unitsOf (src + c * s.lanes * s.elem) (min s.lanes (s.len - c * s.lanes) * s.elem)).map (fun u => (base + c, u))))
  let r' := reads 1 r.now { r with rake := r.rake ++ [o] }
  let r' := if 512 < s.k then reads 2 (r.now + n + 64) r' else r'
  let r' := r'.occupy (occOf r.now)
  let r' := if 512 < s.k then r'.occupy (occOf (r.now + n + 64)) else r'
  let r' := r'.at (due + 1 - units) 16 (.rakeResult (r.now + occ) units)
  (d, r'.occupy (writeOcc d ((List.range units).map (fun k => (due + 1 + k - units, dst + 64 * k)))))

/-- R117, R222, R231: the result of the operation that is complete first is at its destination, all its units visible. Nothing
is complete in a replay pause. -/
def rakeResultDone (i : Nat) (d : Device) : Device :=
  match d.run? i with
  | none => d
  | some r0 =>
    match r0.replay, r0.nextRake with
    | none, some o0 =>
      let d := d.runUpTo i o0.due 17 -- R100: the rake stands before the accumulation slot among the writes of a clk
      match d.run? i with
      | none => d
      | some r =>
        match r.nextRake with
        | none => d
        | some o =>
          let (d, r) := rakeComplete o d r
          d.setRun i r
    | _, _ => d

/-- RAKE_RESULT_DONE (R117). -/
def execRakeResultDone (run : Nat) (s : State) : Host.Outcome State Fault Refusal :=
  .next (s.onDev (fun _ d => rakeResultDone run d))

/-- R231 -/
def rakeCounters (die : Nat) : List Nat :=
  [R.RAKE_OPS, R.RAKE_TWO_PASS, R.RAKE_NAN, R.RAKE_DUPS, R.RAKE_ELEMS_LO, R.RAKE_ELEMS_HI].map (fun a => dieReg a die)

/-- R231: the element reads of a run up to a machine clk that are not counted yet, none behind a bank conflict. -/
def Run.readBy (clk : Nat) (p : Nat × Nat × Pend) (r : Run) : Nat := match p.2.2 with
  | .rakeCount n => if p.1 ≤ clk && !r.pend.any (fun q => q.1 ≤ p.1 && (match q.2.2 with | .conflict _ => true | _ => false)) then n else 0
  | _ => 0

/-- R231: the element reads of the runs of a die are counted up to a clk of the furrow. -/
def Device.settleElems (die o : Nat) (d : Device) : Device :=
  (d.plots.runs.filter (fun p => p.2.plot.die == die)).foldl (fun d p =>
    match d.run? p.1 with
    | none => d
    | some r =>
      let n := (r.pend.map (fun x => r.readBy (r.clkAt o) x)).sum
      (d.inc64 (dieReg R.RAKE_ELEMS_LO die) n).setRun p.1 { r with pend := r.pend.filter (fun x => r.readBy (r.clkAt o) x == 0) }) d

/-- RAKE_CNT_CLR (R231). -/
def execRakeCntClr (die : Nat) (s : State) : Host.Outcome State Fault Refusal :=
  .next (s.onReg (fun tb d => (d.settleElems die tb.offset).clear (rakeCounters die)))

/-! ### The sync slot -/

/-- R121: the next bundle issues at elapsed clk CLK, which must lie after this one. -/
def waitclkOp (clk : Nat) : SlotOp :=
  .mk 5 (fun _ r => whenB (2 ^ 18 ≤ clk) 0x5B ++ whenB (clk ≤ r.elapsed) 0x5F) (fun _ d r => (d, { r with waitClk := some clk }))

/-- The furrow that contains a clk of a run: its start furrow, and one more for each boundary passed. The timebase's
own number is that of now. -/
def rdfurOp (a : Nat) : SlotOp :=
  .mk 5 (fun _ _ => whenB (15 < a) 0x5B) (fun tb d r => (d, r.at (r.now + 1) 33 (.areg a tb.number.toNat)))

def rdclkOp (a : Nat) : SlotOp :=
  .mk 5 (fun _ _ => whenB (15 < a) 0x5B) (fun _ d r => (d, r.at (r.now + 1) 33 (.areg a r.elapsed)))

end Sys2Proof.Machine
end

