-- ==== Sys2Proof/Machine/Handoff.lean ====
section
/-! DEFINITION. Deadline handoffs from issue to close (R77 to R85, R122): HOFF, items that land, the cutoff, the
landing record and the conditions of the request. -/
namespace Sys2Proof.Machine

/-! ### Reservations (R390) -/

/-- R390: a record matches a handoff that is issued now. -/
def resMatches (q : Request) (h : Handoff) (r : Reservation) : Bool :=
  !r.used && r.handle == h.handle && r.decl == h.decl && r.kind == h.kind
    && furLe (furAdd q.admitted r.firstRel) h.issue && furLe h.deadline (furAdd q.admitted r.lastRel)
    && (h.kind != 0 || (fieldLe h.desc 0xC 1 ≤ r.sieveCtx && Nat.land (fieldLe h.desc 0x28 8) r.engMask == fieldLe h.desc 0x28 8))

/-- R390: the units that a streamed generation stage reserved. -/
def streamRes (d : Device) (h : Handoff) (g : Nat) : Option Reservation :=
  match d.seq.stages.get? g with
  | some t => if t.chain == 2 && h.kind == 3 then some ⟨3, h.decl, h.handle, 0, 0, d.fld (inst R.SEQ_MDL_STREAM t.model) 16 0, 0, 0, 0, 0, true⟩ else none
  | none => none

/-- The record of one request that a handoff uses up. -/
def takeRecord (h : Handoff) (rid : Nat) (d : Device) : Option (Device × Reservation) :=
  (d.req? rid).bind (fun q => (q.res.findIdx? (resMatches q h)).bind (fun i => (q.res[i]?).map (fun v =>
    (d.setReq rid { q with res := q.res.modify i (fun r => { r with used := true }) }, v))))

/-- R390: the reservation a handoff takes: a streamed stage's units, or a record of its request, in a generation stage of the
first of its requests that has one. -/
def takeRes (h : Handoff) (d : Device) : Device × Option Reservation :=
  match h.gen.bind (streamRes d h) with
  | some r => (d, some r)
  | none => match h.reqs.findSome? (fun rid => takeRecord h rid d) with
    | some (d, r) => (d, some r)
    | none => (d, none)

/-! ### The work of each kind at issue -/

/-- R242 to R247: a SIEVE handoff. -/
def sieveIssue (tb : Timebase) (start : Bool) (d : Device) (h : Handoff) (q : Request) : Device × Handoff :=
  let slot := fieldLe h.desc 2 2
  let b := q.bindings.get? slot
  match sieveCheck d h.ctx (b.map (fun b => d.slotHdr slot b.1)) false h.desc h.stride h.itemsMax with
  | some r => (d.raiseCtx 0x0601 h.ctx [(2, slot), (1, r)], { h with noWork := true, expected := 0 })
  | none =>
    let n := fieldLe h.desc 0 1
    let x := d.ctx h.ctx
    let hdr := match b with | some b => d.slotHdr slot b.1 | none => []
    let f := fieldLe h.desc
    let ranges :=
      ((sieveWin x (f 0xD 1)).base + f 0x10 8, n * 512 * hdrM hdr) ::
        ((if hdrGraph hdr then [] else [((sieveWin x (f 0xE 1)).base + f 0x18 8, n * probeStride h.desc)])
          ++ (if f 0xF 1 == 0xFF then [] else [((sieveWin x (f 0xF 1)).base + f 0x20 8, (fieldLe hdr 8 4 + 7) / 8)]))
    let h := { h with expected := n, srcRanges := ranges, noWork := !start }
    match start, b with
    | true, some b =>
      ({ d with sieve := { d.sieve with
          waiting := d.sieve.waiting ++ sieveSearches tb d h.ctx (b.1, b.2.1) h.desc (some h.id) none h.deadline } }, h)
    | _, _ => (d, h)

/-- R163: a TIER handoff. -/
def tierIssue (tb : Timebase) (start : Bool) (d : Device) (h : Handoff) : Device × Handoff :=
  match tierItems (d.ctx h.ctx) h.desc h.stride h.itemsMax with
  | none => (d, { h with noWork := true, expected := 0 })
  | some l =>
    let h := { h with expected := l.length, srcRanges := l.map (fun i => (i.addr, i.len)), noWork := !start }
    (if start then tierDeliver tb d h else d, h)

/-- R164: the entries of a FLASH_TEXT list; none where the descriptor is invalid. -/
def textEntries (d : Device) (h : Handoff) : Option (Nat × List (Nat × Nat)) :=
  let f := fieldLe h.desc
  let w := sieveWin (d.ctx h.ctx) (f 4 1)
  let n := f 0 4
  if !(1 ≤ n && n ≤ h.itemsMax && f 8 8 % 8 == 0 && w.holds (f 8 8) (8 * n)) then none
  else
    let a := w.base + f 8 8
    let l := (List.range n).map (fun i => (d.mem.readLe (a + 8 * i) 2, d.mem.readLe (a + 8 * i + 4) 4))
    if l.all (fun e => match d.textObj e.1 with | some o => o.readableBy h.ctx | none => false) then some (a, l) else none

/-- R164: a FLASH_TEXT handoff: its page reads go out. -/
def textIssue (tb : Timebase) (start : Bool) (d : Device) (h : Handoff) : Device × Handoff :=
  match textEntries d h with
  | none => (d, { h with noWork := true, expected := 0 })
  | some (a, l) =>
    let h := { h with
      expected := l.length, srcRanges := [(a, 8 * l.length)], pinned := (l.map (·.1)).eraseDups, texts := l, noWork := !start }
    if !start then (d, h)
    else (l.zipIdx.foldl (fun d e => (d.use tb e.1.1).askText (.text h.id e.2) e.1.1 e.1.2 (h.stride - 8)) d, h)

/-- The work of a handoff is passed to its delivering unit. -/
def passWork (tb : Timebase) (start : Bool) (q : Request) (d : Device) (h : Handoff) : Device × Handoff :=
  if h.kind == 0 then sieveIssue tb start d h q
  else if h.kind == 1 then textIssue tb start d h
  else if h.kind == 2 then fabricIssue tb start d h q
  else if h.kind == 3 then tierIssue tb start d h
  else gatherIssue tb start d h q

/-! ### The landing area (R79) -/

/-- The fill pattern of an item slot. -/
def fillPattern (kind op stride : Nat) : List Byte :=
  if kind == 1 || (kind == 2 && op == 1) then sliceBytes (leBytes 4 0 ++ leBytes 4 0xFFFFFFFF) 0 stride
  else if kind == 0 || kind == 2 then (List.replicate (stride / 16) (fillBytes true 0 false)).flatten
  else List.replicate stride 0

/-- LANDING_PREPARE (R79) -/
def prepareLanding (h : Handoff) (d : Device) : Device :=
  let d := d.bgWrite (some h.id) (h.addr + 64) (List.replicate (bitmapBytes h.itemsMax) 0)
  let p := fillPattern h.kind (fieldLe h.desc 0 1) h.stride
  (List.range h.itemsMax).foldl (fun d i => d.bgWrite (some h.id) (h.itemAddr i) p) d

/-! ### HOFF (R120, R122) -/

/-- The declaration of a consumer. -/
def consumerDecl (d : Device) (r : Run) (hr decl : Nat) : Option HoDecl :=
  (d.plots.dir.get? (65536 * r.ctx + r.areg hr % 65536)).bind (fun p => p.decls[decl]?)

def hoffExc (decl w a hr : Nat) (d : Device) (r : Run) : List Nat :=
  let h := r.areg hr % 65536
  whenB (r.areg a % 64 != 0) 0x5B ++ memExc d r w (r.areg a) 256 false
    ++ (if !d.loaded r.ctx h then [0x4B]
        else match consumerDecl d r hr decl with
          | none => [0x5B]
          | some x =>
            let win := (d.ctx r.ctx).win x.window
            let n := landingLen x.itemsMax x.stride
            if !win.holds x.landingOff n then [0x58]
            else whenB (!win.perm) 0x59 ++ whenB (d.inLanding (some r.ctx) (win.base + x.landingOff) n) 0x49)

/-- R77: the run of the consumer that a handoff is for. Where the consumer runs several times the rule names none: it is the
earliest run not yet placed (DESIGN CHOICE, log entry 98). -/
def bindConsumer (d : Device) (q : Request) (gen : Option Nat) (h : Nat) : Option (Nat × Nat) :=
  match gen with
  | some g => (d.seq.stages.get? g).bind (fun t =>
      (t.plots.zipIdx.find? (fun p => p.1.2 == h && !t.placed.contains p.2)).map (fun p => (p.2, 0)))
  | none =>
    let c := q.stages.zipIdx.filter (fun p => p.1.type == 0 && p.1.handle == h && p.1.placed < p.1.reps)
    (c.foldl (fun (b : Option (Stage × Nat)) p => match b with
      | some x => if p.1.pos + p.1.placed < x.1.pos + x.1.placed then some p else b
      | none => some p) none).map (fun p => (p.2, p.1.placed))

def hoffAct (tb : Timebase) (decl w a hr : Nat) (d : Device) (r : Run) : Device × Run :=
  match (d.reqsOf r.req r.gen).head?.bind (fun i => (d.req? i).map (fun q => (i, q))), consumerDecl d r hr decl with
  | some (rid, q), some x =>
    let win := (d.ctx r.ctx).win x.window
    let hd := r.areg hr % 65536
    let id := d.plots.nextHandoff
    let h : Handoff := {
      id := id, kind := x.kind, ctx := r.ctx, req := rid, gen := r.gen, handle := hd, bind := bindConsumer d q r.gen hd,
      decl := decl, issue := tb.number, deadline := furAdd tb.number x.deadlineRel, addr := win.base + x.landingOff,
      stride := x.stride, itemsMax := x.itemsMax, early := x.early, expected := 0, landedItems := [], flags := 0,
      detail := [], flagDetails := [], noWork := false, cutoff := false, closeAt := none, pinned := [], srcRanges := [],
      desc := plotRead d r r.now (r.addr w (r.areg a)) 256, texts := [], res := none, reqs := d.reqsOf r.req r.gen }
    let (d, res) := takeRes h d
    let h := { h with res := res }
    let met := match h.bind with | some b => [(runKey rid r.gen b.1 b.2, decl)] | none => []
    let d := { d with plots := { d.plots with
      nextHandoff := (id + 1) % 2 ^ 32, handoffs := d.plots.handoffs.set id h, issued := d.plots.issued ++ met } }
    let d := prepareLanding h d
    let (d, h) := passWork tb res.isSome q d h
    let d := if h.unpromised then d.unpromise h else d
    let d := if h.noWork || h.kind == 3 then d else h.srcRanges.foldl (fun d r => d.useRange tb r.1 r.2) d
    ({ d with plots := { d.plots with handoffs := d.plots.handoffs.set id h } }, r)
  | _, _ => (d, r)

/-! ### Items (R80, R82) -/

/-- What an item of a FLASH_TEXT handoff holds, and whether its text was cut; none while a page of it is out or could
not be read. -/
def textData (d : Device) (h : Handoff) (i : Nat) : Option (List Byte × Bool × Bool) :=
  match h.texts[i]? with
  | none => none
  | some (id, j) =>
    if d.textWaits (.text h.id i) || d.flash.failed.contains (h.id, i) then none
    else
      let (b, cut) := d.textItem id j (h.stride - 8)
      some (sliceBytes b 0 h.stride, cut, d.passages id ≤ j)

/-- R164, R163: the next item of a TIER or FLASH_TEXT handoff lands. -/
def itemLand (hid i : Nat) (err : Option (Bool × Nat)) (d : Device) : Device :=
  match d.handoff? hid with
  | none => d
  | some h =>
    let landed (data : List Byte) : Device :=
      let d := match err with
        | some (true, ch) => (d.flagHandoff hid 3 detLpddrEcc).lpEcc ch
        | some (false, a) => (d.flagHandoff hid 3 detStoreEcc).storeEcc a
        | none => d
      d.landItem hid i data
    if h.noWork then d
    else if h.kind == 3 then (match tierItemData d h i with | some b => landed b | none => d)
    else if h.kind == 1 then
      match textData d h i with
      | none => d
      | some (b, cut, absent) =>
        if h.landedItems.contains i then d
        else if absent then (if h.cutoff then d.lateItem hid else d.bgWrite (some hid) (h.itemAddr i) b)
        else
          let n := fieldLe h.detail 0 4
          let d := landed b
          if cut && !h.cutoff then d.setDetail hid (leBytes 4 (n + 1)) else d
    else d

/-- ITEM_LAND (R80): item `item` of a TIER or FLASH_TEXT handoff; `err` is an uncorrectable error met on the way: of an
LPDDR5X channel (true) or of the Central Store at an address (false). Items of the other kinds land in the rows of
their own units. -/
def execItemLand (handoff item : Nat) (err : Option (Bool × Nat)) (s : State) : Host.Outcome State Fault Refusal :=
  .next (s.onDev (fun tb d => itemLand handoff item err (d.catchUp tb.offset none)))

/-- R82: an item for a handoff that is past its cutoff, or closed. -/
def lateArrival (hid : Nat) (d : Device) : Device :=
  match d.handoff? hid with
  | none => d.lateItem hid
  | some h => if h.cutoff then d.lateItem hid else d

/-- HANDOFF_LATE_ITEM (R82). -/
def execHandoffLateItem (handoff : Nat) (s : State) : Host.Outcome State Fault Refusal :=
  .next (s.onDev (fun _ d => lateArrival handoff d))

/-! ### Cutoff and close (R81 to R84) -/

/-- The furrow at whose boundary a handoff closes. -/
def Handoff.closes (h : Handoff) : W48 := h.closeAt.getD h.deadline

/-- R84: the MEDIA_ERROR flag of reads that failed. -/
def noteFailed (h : Handoff) (d : Device) : Device := match d.flash.failDetail.get? h.id with
  | some det => d.flagHandoff h.id 3 det
  | none => d

/-- R286, R302: the flags of the replies in use. -/
def noteReplies (h : Handoff) (d : Device) : Device := match d.remote? h.id with
  | some r => ((r.units.flatMap (fun u => u.came.reverse)).flatMap (·.flags)).foldl (fun d f => d.flagHandoff h.id f.1 f.2) d
  | none => d

/-- R81: the cutoff of one handoff that closes at the boundary of furrow `f`: its record is written. -/
def cutoffOne (f : W48) (d : Device) (h : Handoff) : Device :=
  if h.cutoff || !furLe h.closes f then d
  else
    let d := noteReplies h (noteFailed h d)
    match d.handoff? h.id with
    | none => d
    | some h =>
      let d := d.bgWrite (some h.id) h.addr (h.record (h.status h.closeAt.isSome) f)
      d.updHandoff h.id (fun h => { h with cutoff := true })

def cutoffs (f : W48) (d : Device) : Device := (d.plots.handoffs.map (·.2)).foldl (cutoffOne f) d

/-- LANDING_CUTOFF (R81): 64 clk before the boundary. -/
def execLandingCutoff (s : State) : Host.Outcome State Fault Refusal :=
  .next (s.atPoint (s.tb.len - 64) (fun tb d => cutoffs (tb.number + 1) d))

/-- R84: the conditions a handoff gives its request. -/
def Handoff.conds (h : Handoff) : List (Nat × Nat) :=
  let st := h.status h.closeAt.isSome
  let det (b : Nat) : Nat := h.flagDetails.getD b 0
  (if st == 1 then [(1, 0x50 + h.kind)] else if st == 2 then [(6, 0x50 + h.kind)] else [])
    ++ (if bit 0 h.flags then [(2, det 0)] else []) ++ (if bit 1 h.flags then [(0xC, det 1)] else [])
    ++ (if bit 2 h.flags then [(9, det 2)] else []) ++ (if bit 3 h.flags then [(0xD, det 3)] else [])

/-- What the units keep of a handoff is dropped. -/
def Device.dropHandoff (d : Device) (hid : Nat) : Device :=
  { d with
    plots := { d.plots with handoffs := d.plots.handoffs.del hid },
    store := { d.store with deliv := d.store.deliv.del hid },
    brx := { d.brx with remotes := d.brx.remotes.del hid },
    sieve := { d.sieve with tally := d.sieve.tally.del hid },
    flash := { d.flash with
      reads := d.flash.reads.filter (fun r => match r.user with | .text h _ => h != hid | _ => true),
      failed := d.flash.failed.filter (fun p => p.1 != hid), failDetail := d.flash.failDetail.del hid } }

/-- R45: a deadline handoff that was due in an UNLOCKED furrow; one that its unit flagged has the condition already. -/
def Handoff.dueUnlocked (h : Handoff) (tb : Timebase) : Bool :=
  tb.st == .unlocked && furLe h.deadline tb.number && !bit 1 h.flags

/-- R45, R81, R84: one handoff closes. -/
def closeOne (tb : Timebase) (d : Device) (h : Handoff) : Device :=
  let st := h.status h.closeAt.isSome
  let cs := h.conds ++ (match d.brx.remotes.get? h.id with | some r => remoteConds r | none => [])
    ++ (if h.dueUnlocked tb then [(0xC, 0)] else [])
  let d := if h.unpromised then d.unpromise h else d
  let d := h.reqs.foldl (fun d r => d.updReq r (fun q => { q with conds := q.conds ++ cs })) d
  let d := if st == 1 then (d.inc R.ARR_SOW_HO_SHORT).raiseDie 0x0206 (d.plotDie h.ctx h.handle) h.ctx [(2, h.handle)]
    else if st == 2 then (d.inc R.ARR_SOW_HO_NONE).raiseDie 0x0207 (d.plotDie h.ctx h.handle) h.ctx [(2, h.handle)] else d
  let d := d.dropHandoff h.id
  { d with plots := { d.plots with closed := d.plots.closed.set h.id (h.ctx, h.handle, d.plotDie h.ctx h.handle) } }

/-- R42, step 3: the handoffs that close at the boundary of the furrow that begins. -/
def closeHandoffs (tb : Timebase) (d : Device) : Device :=
  let d := cutoffs tb.number d
  ((d.plots.handoffs.map (·.2)).filter (fun h => furLe h.closes tb.number)).foldl (closeOne tb) d

/-- R83: the handoffs that have landed all by the freeze close early at the next boundary. -/
def earlyCloses (tb : Timebase) (d : Device) : Device :=
  { d with plots := { d.plots with handoffs := d.plots.handoffs.mapVals (fun _ h =>
    if h.early && !h.noWork && h.closeAt.isNone && h.landedItems.length == h.expected && furLt (tb.number + 1) h.deadline
    then { h with closeAt := some (tb.number + 1) } else h) } }

end Sys2Proof.Machine
end

