-- ==== Sys2Proof/Machine/Utf8.lean ====
section
/-! DEFINITION. UTF-8 as the text unit reads it (R321, R322): rows of well-formed sequences, characters and maximal
invalid subsequences. -/
namespace Sys2Proof.Machine

/-- R321: the ranges of the second and later bytes after a first byte; none for a byte that begins no row. -/
def utf8Row (b : Nat) : Option (List (Nat × Nat)) :=
  let t := (0x80, 0xBF)
  if b ≤ 0x7F then some []
  else if 0xC2 ≤ b && b ≤ 0xDF then some [t]
  else if b == 0xE0 then some [(0xA0, 0xBF), t]
  else if b == 0xED then some [(0x80, 0x9F), t]
  else if 0xE1 ≤ b && b ≤ 0xEF then some [t, t]
  else if b == 0xF0 then some [(0x90, 0xBF), t, t]
  else if 0xF1 ≤ b && b ≤ 0xF3 then some [t, t, t]
  else if b == 0xF4 then some [(0x80, 0x8F), t, t]
  else none

def inRanges : List (Nat × Nat) → List Byte → Bool
  | _, [] => true
  | [], _ :: _ => false
  | r :: rs, b :: bs => r.1 ≤ b.toNat && b.toNat ≤ r.2 && inRanges rs bs

/-- The bytes are a prefix of a row: some `n` for a row of n bytes more than the first. -/
def utf8Prefix : List Byte → Option Nat
  | [] => none
  | b :: bs => match utf8Row b.toNat with
    | some rs => if inRanges rs bs then some rs.length else none
    | none => none

/-- The bytes are one whole character. -/
def utf8Char (l : List Byte) : Bool := utf8Prefix l == some (l.length - 1) && l != []

/-- A piece of text: a character, or a maximal invalid subsequence. -/
structure Piece where
  bytes : List Byte
  ok : Bool
  deriving DecidableEq, Repr

/-- A byte that begins afresh: the bytes pending after it and the pieces it gives. -/
def utf8Fresh (b : Byte) : List Byte × List Piece :=
  if utf8Char [b] then ([], [⟨[b], true⟩])
  else if (utf8Prefix [b]).isSome then ([b], [])
  else ([], [⟨[b], false⟩])

/-- R322: one more byte after the pending bytes of a character. -/
def utf8Step (pend : List Byte) (b : Byte) : List Byte × List Piece :=
  if pend == [] then utf8Fresh b
  else
    let l := pend ++ [b]
    if utf8Char l then ([], [⟨l, true⟩])
    else if (utf8Prefix l).isSome then (l, [])
    else let (p, out) := utf8Fresh b; (p, ⟨pend, false⟩ :: out)

/-- The pieces of some bytes after pending ones. -/
def utf8Run (pend : List Byte) (l : List Byte) : List Byte × List Piece :=
  l.foldl (fun a b => let (p, out) := utf8Step a.1 b; (p, a.2 ++ out)) (pend, [])

/-- What stays pending at the end of all input is an invalid subsequence. -/
def utf8End (pend : List Byte) : List Piece := if pend == [] then [] else [⟨pend, false⟩]

/-- R321: the pieces of the buffers of a segment, and the carries between them. -/
def segmentPieces (bufs : List (List Byte)) : List Piece × Nat :=
  let n := bufs.length
  let (p, out, c) := bufs.zipIdx.foldl (fun (a : List Byte × List Piece × Nat) b =>
    let (p, o) := utf8Run a.1 b.1
    (p, a.2.1 ++ o, if p != [] && b.2 + 1 < n then a.2.2 + 1 else a.2.2)) ([], [], 0)
  (out ++ utf8End p, c)

/-- U+FFFD. -/
def replacement : List Byte := [0xEF, 0xBF, 0xBD]

/-- R330: well-formed UTF-8. -/
def wellFormed (l : List Byte) : Bool := let (p, out) := utf8Run [] l; p == [] && out.all (·.ok)

/-- The characters of well-formed text. -/
def chars (l : List Byte) : List (List Byte) := (utf8Run [] l).2.map (·.bytes)

end Sys2Proof.Machine
end

