-- ==== Sys2Proof/Machine/Text.lean ====
section
/-! DEFINITION. The text unit (12_text_and_prompts): vocabularies (R315 to R319), segments and their tokens (R320 to
R327), the detokenizer (R328, R329, R331 to R333). -/
namespace Sys2Proof.Machine

/-! ### Vocabulary images -/

/-- R317: an entry of the node array. -/
structure VNode where
  first : Option Nat
  parent : Nat
  label : Nat
  type : Nat
  code : Nat
  deriving DecidableEq, Repr

def noIdx : Nat := 0x1FFFFF
def detachedIdx : Nat := 0x1FFFFE

def readNode (w : Nat) : VNode :=
  ⟨if bits 63 43 w == noIdx then none else some (bits 63 43 w), bits 42 22 w, bits 21 14 w, bits 13 12 w, bits 11 0 w⟩

structure VEdge where
  last : Bool
  node : Nat
  label : Nat
  rsv : Nat
  deriving DecidableEq, Repr

def readEdge (w : Nat) : VEdge := ⟨bit 29 w, bits 28 8 w, bits 7 0 w, bits 31 30 w⟩

/-- The arrays of a vocabulary in a memory: where they start, and N. -/
structure VocArrays where
  mem : Memory
  base : Nat
  nodes : Nat
  edges : Nat
  deriving DecidableEq, Repr

def VocArrays.node (a : VocArrays) (t : Nat) : VNode := readNode (a.mem.readLe (a.base + 8 * t) 8)

def VocArrays.edge (a : VocArrays) (e : Nat) : VEdge := readEdge (a.mem.readLe (a.base + 8 * a.nodes + 4 * e) 4)

/-- The child list that starts at an edge: at most 256 edges, up to the one marked LAST. -/
def VocArrays.kids (a : VocArrays) : Nat → Nat → List VEdge
  | 0, _ => []
  | fuel + 1, e =>
    if a.edges ≤ e then []
    else let x := a.edge e; if x.last then [x] else x :: a.kids fuel (e + 1)

/-- The children of a node (none: the root, whose list starts at edge 0). -/
def VocArrays.children (a : VocArrays) (n : Option Nat) : List VEdge := match n with
  | none => a.kids 256 0
  | some t => match (a.node t).first with
    | some e => a.kids 256 e
    | none => []

/-- The child of a node with a label. -/
def VocArrays.child (a : VocArrays) (n : Option Nat) (b : Nat) : Option Nat :=
  ((a.children n).find? (fun e => e.label == b)).map (·.node)

/-- The LABELs on the path from the root to a node, and whether the path starts at the root; `fuel` bounds its depth. -/
def VocArrays.path (a : VocArrays) : Nat → Nat → List Byte × Bool
  | 0, _ => ([], false)
  | fuel + 1, t =>
    let x := a.node t
    let b := BitVec.ofNat 8 x.label
    if x.parent == noIdx then ([b], true)
    else if x.parent == detachedIdx || a.nodes ≤ x.parent then ([], false)
    else let (l, ok) := a.path fuel x.parent; (l ++ [b], ok)

/-- R318: the bytes of a token: its path, a BYTE token's LABEL, nothing for a token that is detached. -/
def VocArrays.spell (a : VocArrays) (t : Nat) : List Byte :=
  let x := a.node t
  if x.parent == detachedIdx then (if x.type == 2 then [BitVec.ofNat 8 x.label] else [])
  else (a.path 64 t).1

def rising : List Nat → Bool
  | a :: b :: t => decide (a < b) && rising (b :: t)
  | _ => true

/-- R317, R318: a child list is contiguous and ends, its LABELs rise, and each edge fits its node. -/
def VocArrays.listOk (a : VocArrays) (src : Option Nat) : Bool :=
  let l := a.children src
  let p := match src with | none => noIdx | some t => t
  (l.getLast?.map (·.last)).getD (match src with | none => false | some t => (a.node t).first.isNone)
    && rising (l.map (·.label))
    && l.all (fun e => e.rsv == 0 && e.node < a.nodes && (a.node e.node).parent == p && (a.node e.node).label == e.label)

/-- R319: an edge names a node below its source, so every edge lies in the child list of its source: lists that fit their
nodes share no edge, and hold them all where their lengths add up to E. -/
def VocArrays.edgesListed (a : VocArrays) : Bool :=
  (a.children none).length + ((List.range a.nodes).map (fun t => (a.children (some t)).length)).sum == a.edges

/-- R319, check 4. -/
def VocArrays.ok (a : VocArrays) (tokens : Nat) (byteBase : Option Nat) : Bool :=
  let ns := List.range a.nodes
  a.listOk none && ns.all (fun t => a.listOk (some t))
    && a.edgesListed
    && ns.all (fun t =>
      let x := a.node t
      (if t < tokens then x.type != 3 else x.type == 3) && (x.type != 3 || x.code == 0)
        && (if x.parent == detachedIdx then x.type == 1 || x.type == 2
            else x.type != 2 && (a.path 64 t).2
              && a.child (if x.parent == noIdx then none else some x.parent) x.label == some t))
    && (match byteBase with
      | none => true
      | some b => b + 256 ≤ tokens && (List.range 256).all (fun i => (a.node (b + i)).type == 2 && (a.node (b + i)).label == i))

/-- R316: the header of an image; none where it does not meet R316. -/
def vocHeader (h : List Byte) (size : Nat) : Option (Nat × Nat × Nat × Option Nat × Nat × Nat × Nat) :=
  let f := fieldLe h
  let v := f 4 4
  let n := f 8 4
  let e := f 0xC 4
  let bb := f 0x10 4
  let ok := f 0 2 == 1 && 1 ≤ v && v ≤ 1048576 && v ≤ n && n ≤ 2097150 && 1 ≤ e && e ≤ n
    && f 2 2 == 0 && f 0x18 2 ≤ 4095 && f 0x1A 2 ≤ 4095 && (h.drop 0x1C).all (· == 0) && 64 + 8 * n + 4 * e ≤ size
    && (bb != 0xFFFFFFFF || f 0x14 4 < v)
  if ok then some (v, n, e, if bb == 0xFFFFFFFF then none else some bb, f 0x14 4, f 0x18 2, f 0x1A 2) else none

/-! ### Vocabulary slots (R315, R319) -/

def Device.voc? (d : Device) (n : Nat) : Option VocSlot := d.text.vocs.get? n

def Device.setVoc (d : Device) (n : Nat) (v : Option VocSlot) : Device :=
  { d with text := { d.text with vocs := match v with | some x => d.text.vocs.set n x | none => d.text.vocs.del n } }

/-- The owner that a configuration register gives: bit 31 PUBLIC, bits 25:16 OWNER. -/
def ownerOf (cfg : Nat) : Option Nat := if bit 31 cfg then none else some (bits 25 16 cfg)

/-- A slot may be used by a context. -/
def usableBy (owner : Option Nat) (c : Nat) : Bool := match owner with | none => true | some o => o == c

/-- R319, check 1, as every slot that loads from a SEALED LPDDR5X object of KIND DATA makes it. -/
def dataSource (d : Device) (obj : Nat) (owner : Option Nat) : Option Nat := match d.obj? obj with
  | none => some 2
  | some o => if !(o.st == .sealed && o.tier == 2 && o.kind == 0) then some 2 else if o.owner != owner then some 3 else none

def vocFail (n reason : Nat) (d : Device) : Device :=
  (d.setFld (inst R.TEXT_VOC_CMD n) 23 16 reason).raise 0x0902 [(1, n), (1, reason)]

def textVocLoad (d : Device) : Device :=
  let n := d.fld R.TEXT_VOC_SEL 2 0
  let cfg := d.reg (inst R.TEXT_VOC_CFG n)
  let obj := d.fld (inst R.TEXT_VOC_OBJ n) 15 0
  if (d.voc? n).isSome then vocFail n 2 d
  else match dataSource d obj (ownerOf cfg) with
    | some r => vocFail n r d
    | none => d.setVoc n (some ⟨.loading, ownerOf cfg, obj, 65536 * bits 15 8 cfg, 65536 * bits 7 0 cfg, false, 0, 0, 0, none, 0, 0, 0⟩)

/-- TEXT_VOC_LOAD (R319). -/
def execTextVocLoad (s : State) : Host.Outcome State Fault Refusal := .next (s.onReg (fun _ d => textVocLoad d))

def textVocUnload (d : Device) : Device :=
  let n := d.fld R.TEXT_VOC_SEL 2 0
  match d.voc? n with
  | some v => if v.st == .ready then d.setVoc n (some { v with st := .leaving }) else d
  | none => d

/-- TEXT_VOC_UNLOAD (R319). -/
def execTextVocUnload (s : State) : Host.Outcome State Fault Refusal := .next (s.onReg (fun _ d => textVocUnload d))

/-- R319, checks 2 to 4: the reason, or the slot and the arrays to copy. -/
def vocCheck (d : Device) (n : Nat) (v : VocSlot) : Except Nat VocSlot :=
  match d.obj? v.obj with
  | none => .error 2
  | some o =>
    match vocHeader (d.mem.readBytes o.base 64) o.size with
    | none => .error 1
    | some (t, nn, e, bb, unk, bc, uc) =>
      let a : VocArrays := ⟨d.mem, o.base + 64, nn, e⟩
      let clash := d.text.vocs.any (fun p => p.1 != n && (p.2.st != .loading || p.2.passed) && overlaps v.base v.size p.2.base p.2.size)
      if bb.isNone && (a.node unk).type != 0 then .error 1
      else if v.size < 8 * nn + 4 * e || 12582912 < v.base + v.size || clash then .error 4
      else if !a.ok t bb then .error 5
      else .ok { v with passed := true, tokens := t, nodes := nn, edges := e, byteBase := bb, unk := unk, byteCode := bc, unkCode := uc }

def vocCheckDone (n : Nat) (d : Device) : Device :=
  match d.voc? n with
  | none => d
  | some v =>
    if v.st != .loading || v.passed then d else
    match vocCheck d n v with
    | .error r => vocFail n r (d.setVoc n none)
    | .ok v' =>
      let base := match d.obj? v.obj with | some o => o.base + 64 | none => 0
      let len := 8 * v'.nodes + 4 * v'.edges
      let d := (d.setVoc n (some v')).setFld (inst R.TEXT_VOC_CMD n) 23 16 0
      { d with text := { d.text with vocMem := d.text.vocMem.paste v.base len (d.mem.cut base len) } }

/-- VOC_CHECK_DONE (R319). -/
def execVocCheckDone (slot : Nat) (s : State) : Host.Outcome State Fault Refusal := .next (s.onDev (fun _ d => vocCheckDone slot d))

/-- Some admitted request, loaded template, grammar or model slot is bound to a vocabulary slot. -/
def Device.vocBound (d : Device) (n : Nat) : Bool :=
  d.qm.reqs.any (fun p => p.2.usesVocab && p.2.vocab == n)
    || d.pasm.tpls.any (fun p => p.2.vocab == n) || d.esp.grams.any (fun p => p.2.vocab == n)

/-- R319: what a boundary does to the vocabulary slots. -/
def vocBoundary (d : Device) : Device :=
  d.text.vocs.foldl (fun d p =>
    if p.2.st == .loading && p.2.passed then (d.setVoc p.1 (some { p.2 with st := .ready })).raise 0x0901 []
    else if p.2.st == .leaving && !d.vocBound p.1 then d.setVoc p.1 none
    else d) d

def Device.vocReady (d : Device) (n c : Nat) : Option VocSlot := match d.voc? n with
  | some v => if v.st == .ready && usableBy v.owner c then some v else none
  | none => none

def Device.vocArrays (d : Device) (v : VocSlot) : VocArrays := ⟨d.text.vocMem, v.base, v.nodes, v.edges⟩

/-! ### Segmentation (R323 to R325) -/

/-- R323: trusted mode admits CONTROL tokens. -/
def eligible (a : VocArrays) (trusted : Bool) (tokens t : Nat) : Bool :=
  t < tokens && ((a.node t).type == 0 || ((a.node t).type == 1 && trusted))

/-- A byte of the repaired segment: marked invalid, and the length of the character it begins (0 where it begins none). -/
structure SegByte where
  b : Byte
  marked : Bool
  len : Nat
  deriving DecidableEq, Repr

/-- R322: the repaired bytes of a piece. -/
def repair (byteTokens : Bool) (p : Piece) : List SegByte :=
  if p.ok || !byteTokens then
    let l := if p.ok then p.bytes else replacement
    l.zipIdx.map (fun x => ⟨x.1, false, if x.2 == 0 then l.length else 0⟩)
  else p.bytes.map (fun b => ⟨b, true, 0⟩)

/-- What is known of a byte position: its cost, the start and the token it was reached by. -/
abbrev Lattice := Tbl (Nat × Nat × Nat)

def relax (l : Lattice) (c s e t code : Nat) : Lattice :=
  match l.get? e with
  | some (c', _, _) => if c + code < c' then l.set e (c + code, s, t) else l
  | none => l.set e (c + code, s, t)

/-- The walk of the trie from a start over the bytes that follow. -/
def walkTrie (a : VocArrays) (trusted : Bool) (tokens c s : Nat) : List SegByte → Nat → Option Nat → Lattice → Lattice
  | [], _, _, l => l
  | x :: xs, e, node, l =>
    if x.marked then l
    else match a.child node x.b.toNat with
      | none => l
      | some t =>
        let l := if eligible a trusted tokens t then relax l c s e t (a.node t).code else l
        walkTrie a trusted tokens c s xs (e + 1) (some t) l

/-- R324: the fallback at a start. -/
def fallback (v : VocSlot) (x : SegByte) (c s : Nat) (l : Lattice) : Lattice :=
  match v.byteBase with
  | some bb => relax l c s (s + 1) (bb + x.b.toNat) v.byteCode
  | none => if x.len != 0 then relax l c s (s + x.len) v.unk v.unkCode else l

/-- R324: the least costs of every position of a segment. -/
def lattice (v : VocSlot) (a : VocArrays) (trusted : Bool) : List SegByte → Nat → Lattice → Lattice
  | [], _, l => l
  | x :: xs, s, l =>
    let l := match l.get? s with
      | none => l
      | some (c, _, _) => fallback v x c s (walkTrie a trusted v.tokens c s ((x :: xs).take 64) (s + 1) none l)
    lattice v a trusted xs (s + 1) l

/-- R324: the trace back, `fuel` bounding it by the number of bytes. -/
def traceBack (l : Lattice) : Nat → Nat → List Nat → List Nat
  | 0, _, acc => acc
  | fuel + 1, e, acc =>
    if e == 0 then acc
    else match l.get? e with
      | some (_, s, t) => traceBack l fuel s (t :: acc)
      | none => acc

/-- R324: the tokens of a repaired segment. -/
def tokenize (v : VocSlot) (a : VocArrays) (trusted : Bool) (b : List SegByte) : List Nat :=
  traceBack (lattice v a trusted b 0 [(0, (0, 0, 0))]) b.length b.length []

/-- R321 to R324: the tokens of pieces of text. -/
def tokenizePieces (d : Device) (v : VocSlot) (trusted : Bool) (ps : List Piece) : List Nat :=
  tokenize v (d.vocArrays v) trusted (ps.flatMap (repair v.byteBase.isSome))

/-! ### Segments (R320, R326, R327) -/

/-- R320: the buffers of a segment reference. -/
def Device.segBuffers (d : Device) (c : Nat) (r : List Byte) : List (List Byte) :=
  (List.range (fieldLe r 0 1)).map (fun k =>
    let b := (d.winBytes c (fieldLe r 1 1) (fieldLe r (0x10 + 16 * k) 8) (fieldLe r (0x18 + 16 * k) 4)).getD []
    if bit 0 (fieldLe r 3 1) then (b.drop 8).take (fieldLe b 0 4) else b)

/-- R322: TEXT_INVALID_INPUT at the first invalid subsequence of a request. -/
def Device.reportInvalid (d : Device) (rid : Nat) (q : Request) (n : Nat) : Device :=
  if n == 0 || q.invalidSeen then d
  else (d.updReq rid (fun q => { q with invalidSeen := true })).raiseCtx 0x0903 q.ctx [(4, n)]

/-- R326, R346: a segment is tokenized and its list written. -/
def tokenizeSegment (j : SegJob) (d : Device) : Device :=
  match d.req? j.req with
  | none => d
  | some q =>
    match d.voc? q.vocab with
    | none => d
    | some v =>
      let r := q.segRef d.mem j.idx
      let (ps, carries) := segmentPieces (d.segBuffers q.ctx r)
      let inv := (ps.filter (fun p => !p.ok)).length
      let toks := tokenizePieces d v false ps
      let most := fieldLe r 4 4
      let kept := toks.take most
      let d := d.winWrite q.ctx (fieldLe r 2 1) (fieldLe r 8 8)
        (tokenList kept toks.length inv (boolBit (most < toks.length)) q.vocab)
      let d := (d.inc R.TEXT_SEGMENTS).incBy R.TEXT_TOKENS_OUT kept.length
      ((d.incBy R.TEXT_INVALID_SEQ inv).incBy R.TEXT_CARRIES carries).reportInvalid j.req q inv

/-- R327: of two segments, the one that starts first. -/
def segBefore (d : Device) (a b : SegJob) : Bool :=
  match d.req? a.req, d.req? b.req with
  | some x, some y => if a.req == b.req then a.idx < b.idx else d.workBefore x y
  | _, _ => false

/-- R327: the next segment starts on the lowest-numbered free lane. -/
def segmentStart (d : Device) : Device :=
  match d.text.lanes.leastFree 0 8, sortBy (segBefore d) d.text.queue with
  | some l, j :: _ => if d.domOn 22 then
      { d with text := { d.text with queue := d.text.queue.erase j, lanes := d.text.lanes.set l j } } else d
  | _, _ => d

/-- SEGMENT_START (R327). -/
def execSegmentStart (s : State) : Host.Outcome State Fault Refusal := .next (s.onDev (fun _ d => segmentStart d))

/-- R384: a segment of a request has ended; with the last one of its stage, the stage completes. -/
def segEnded (j : SegJob) (d : Device) : Device :=
  let same (k : SegJob) : Bool := k.req == j.req && k.stage == j.stage
  if d.text.queue.any same || d.text.lanes.any (fun p => same p.2) then d
  else match j.stage with
    | some k => d.endStage j.req k
    | none => (d.updReq j.req (fun q => { q with userSegs := true })).startStages j.req

def segmentDone (lane : Nat) (d : Device) : Device :=
  match d.text.lanes.get? lane with
  | none => d
  | some j =>
    let d := { d with text := { d.text with lanes := d.text.lanes.del lane } }
    segEnded j (tokenizeSegment j d)

/-- SEGMENT_DONE (R327): the segment on a lane. -/
def execSegmentDone (lane : Nat) (s : State) : Host.Outcome State Fault Refusal := .next (s.onDev (fun _ d => segmentDone lane d))

def textCounters : List Nat := [R.TEXT_SEGMENTS, R.TEXT_TOKENS_OUT, R.TEXT_INVALID_SEQ, R.TEXT_CARRIES, R.TEXT_DETOK_TOKENS, R.TEXT_STOPS]

/-- TEXT_CNT_CLR (R346). -/
def execTextCntClr (s : State) : Host.Outcome State Fault Refusal := .next (s.onReg (fun _ d => d.clear textCounters))

/-! ### Detokenizer (R328 to R333) -/

/-- R330: the stop strings of a request, as characters, with their indexes. -/
def Request.stopStrings (q : Request) (m : Memory) : List (List (List Byte) × Nat) :=
  (List.range (q.f 0x14 1)).map (fun i =>
    let e := q.block m (q.f 0x58 8 + 64 + 128 * i) 128
    (chars (sliceBytes e 64 (fieldLe e 0 1)), i))

/-- R330: the stop tokens of a request. -/
def Request.stopTokens (q : Request) (m : Memory) : List Nat :=
  (List.range (q.f 0x15 1)).map (fun i => fieldLe (q.block m (q.f 0x58 8 + 4 * i) 4) 0 4)

/-- R331: the length of H: the longest end of the characters that is a proper prefix of some stop string. -/
def holdLen (stops : List (List (List Byte) × Nat)) (l : List (List Byte)) : Nat :=
  ((List.range (l.length + 1)).filter (fun n => stops.any (fun s => n < s.1.length && s.1.take n == l.drop (l.length - n)))).foldl max 0

/-- R332: the stop string that completes at the last character: the one that starts earliest, then the lower index. -/
def stopAt (stops : List (List (List Byte) × Nat)) (l : List (List Byte)) : Option (List (List Byte) × Nat) :=
  let done := stops.filter (fun s => s.1.length ≤ l.length && s.1 == l.drop (l.length - s.1.length))
  done.foldl (fun (b : Option (List (List Byte) × Nat)) s => match b with
    | some x => if x.1.length < s.1.length then some s else b
    | none => some s) none

/-- What the detokenizer holds of a sequence while a token's characters pass: held characters, released bytes, and the
stop string that completed. -/
structure Detok where
  held : List (List Byte)
  out : List Byte
  stop : Option Nat
  deriving DecidableEq, Repr

/-- R331, R332: one character. After a stop string completes, the characters that follow are discarded. -/
def detokChar (stops : List (List (List Byte) × Nat)) (incl : Bool) (x : Detok) (c : List Byte) : Detok :=
  if x.stop.isSome then x else
  let l := x.held ++ [c]
  match stopAt stops l with
  | some (s, i) =>
    { held := [], out := x.out ++ (l.take (l.length - s.length)).flatten ++ (if incl then s.flatten else []), stop := some i }
  | none =>
    let k := l.length - holdLen stops l
    { x with held := l.drop k, out := x.out ++ (l.take k).flatten }

/-- R328: the bytes of a generated token. -/
def tokenBytes (d : Device) (v : VocSlot) (t : Nat) : List Byte :=
  let a := d.vocArrays v
  if v.byteBase.isNone && t == v.unk then replacement
  else if (a.node t).type == 1 then [] else a.spell t

/-- R329: what one token does to a sequence: pending bytes, the rest, and the invalid subsequences it gave. -/
def detokToken (stops : List (List (List Byte) × Nat)) (incl : Bool) (pend : List Byte) (x : Detok) (bytes : List Byte) :
    List Byte × Detok × Nat :=
  let (p, ps) := utf8Run pend bytes
  let x := ps.foldl (fun x p => detokChar stops incl x (if p.ok then p.bytes else replacement)) x
  (if x.stop.isSome then [] else p, x, (ps.filter (fun p => !p.ok)).length)


/-- R328: the lane of the sixteen that takes a token: the one that is free first, the lowest-numbered of those. -/
def Device.detokLane (d : Device) (now : Nat) : Nat × Nat :=
  (List.range 15).foldl (fun (b : Nat × Nat) i =>
    let f := max now (d.text.detok.getD (i + 1) 0)
    if f < b.2 then (i + 1, f) else b) (0, max now (d.text.detok.getD 0 0))

/-- R328: a lane walks a token of `n` bytes, one byte per clk. -/
def Device.detokWalk (tb : Timebase) (n : Nat) (d : Device) : Device :=
  let (l, f) := d.detokLane tb.clkNo
  if n == 0 then d else { d with text := { d.text with detok := d.text.detok.set l (f + n) } }

/-- R333: the end of a generation that no stop string made: pending bytes become U+FFFD, and all is released. -/
def SeqEnt.flushText (e : SeqEnt) : SeqEnt × Nat :=
  let ps := utf8End e.pendBytes
  ({ e with pendBytes := [], held := [], out := e.out ++ e.held.flatten ++ ps.flatMap (fun _ => replacement) }, ps.length)

/-- R333: the end of a sequence's text: a stop string leaves what it holds, every other end flushes it. -/
def SeqEnt.endText (e : SeqEnt) : SeqEnt × Nat := match e.ends with
  | some (4, 0x78) => (e, 0)
  | _ => e.flushText

/-! ### Registers -/

/-- R346: the TEXT registers that mirror the unit. -/
def textView (tb : Timebase) (d : Device) (k : Nat) : Option Nat :=
  let n := k / 2 ^ 32
  if k == R.TEXT_STATUS then
    let held := ((d.text.vocs.filter (fun p => p.2.st != .loading || p.2.passed)).map (fun p => p.2.size / 65536)).sum
    some ((192 - min 192 held) * 2 ^ 16 + (d.text.detok.filter (fun p => tb.clkNo < p.2)).length * 2 ^ 8
      + (d.text.lanes.map (fun p => 2 ^ p.1)).sum)
  else if k == inst R.TEXT_VOC_OBJ n then
    let st := match d.voc? n with | none => 0 | some v => (match v.st with | .empty => 0 | .loading => 1 | .ready => 2 | .leaving => 3)
    some (setBits 31 30 st (d.reg k))
  else if k == inst R.TEXT_VOC_TOKENS n then some (match d.voc? n with | some v => if v.st == .loading then 0 else v.tokens | none => 0)
  else none

end Sys2Proof.Machine
end

