-- ==== Sys2Proof/Machine/Espalier.lean ====
section
/-! DEFINITION. The Espalier unit (R334 to R338): grammar slots, the automaton, the compiled mask table. -/
namespace Sys2Proof.Machine

def Device.gram? (d : Device) (n : Nat) : Option Gram := d.esp.grams.get? n

def Device.setGram (d : Device) (n : Nat) (v : Option Gram) : Device :=
  { d with esp := { d.esp with grams := match v with | some x => d.esp.grams.set n x | none => d.esp.grams.del n } }

/-! ### The automaton (R335) -/

/-- An automaton image in memory. -/
structure Auto where
  mem : Memory
  base : Nat
  states : Nat
  trans : Nat
  deriving DecidableEq, Repr

def readAuto (m : Memory) (base : Nat) : Auto := ⟨m, base, m.readLe (base + 4) 4, m.readLe (base + 8) 4⟩

def Auto.state (a : Auto) (s : Nat) : Nat := a.mem.readLe (a.base + 64 + 8 * s) 8

def Auto.tran (a : Auto) (i : Nat) : Nat := a.mem.readLe (a.base + 64 + 8 * a.states + 8 * i) 8

/-- The transitions of a state, in entry order. -/
def Auto.outs (a : Auto) (s : Nat) : List Nat :=
  (List.range (bits 39 24 (a.state s))).map (fun i => a.tran (bits 23 0 (a.state s) + i))

def Auto.accepting (a : Auto) (s : Nat) (stack : List Nat) : Bool := bit 40 (a.state s) && stack.isEmpty

/-- The END tokens. -/
def Auto.ends (a : Auto) : List Nat :=
  ((List.range 4).map (fun i => a.mem.readLe (a.base + 16 + 4 * i) 4)).filter (fun t => t != 0xFFFFFFFF)

/-- R335: an image of a size meets the format. -/
def autoOk (m : Memory) (base size : Nat) : Bool :=
  let a := readAuto m base
  64 ≤ size && m.readLe base 2 == 1 && m.readLe (base + 2) 2 == 0 && m.readLe (base + 12) 4 == 0 && m.readLe (base + 32) 32 == 0
    && 1 ≤ a.states && a.states ≤ 65536 && 1 ≤ a.trans && a.trans ≤ 16777216 && 64 + 8 * (a.states + a.trans) ≤ size
    && (List.range a.states).all (fun s => let w := a.state s; bits 63 41 w == 0 && bits 23 0 w + bits 39 24 w ≤ a.trans)
    && (List.range a.trans).all (fun i => let w := a.tran i; bits 63 42 w == 0 && bits 41 26 w < a.states && bits 17 16 w != 3)

/-- What a byte does from a configuration. `below` is true where a POP that the byte may take meets an empty stack. -/
inductive AutoStep where
  | go (st : Nat) (stack : List Nat)
  | reject
  | below
  deriving DecidableEq, Repr

/-- R335: the first transition that applies; `rel` for a walk whose stack lies on an unknown one (R336). -/
def autoByte (rel : Bool) (b : Nat) (stack : List Nat) : List Nat → AutoStep
  | [] => .reject
  | w :: ws =>
    let sym := bits 25 18 w
    let op := bits 17 16 w
    if !(bits 7 0 w ≤ b && b ≤ bits 15 8 w) then autoByte rel b stack ws
    else if op == 2 then
      match stack with
      | [] => if rel then .below else autoByte rel b stack ws
      | x :: rest => if x == sym then .go (bits 41 26 w) rest else autoByte rel b stack ws
    else if op == 1 then (if 256 ≤ stack.length then .reject else .go (bits 41 26 w) (sym :: stack))
    else .go (bits 41 26 w) stack

def autoRun (a : Auto) (rel : Bool) : List Byte → Nat → List Nat → AutoStep
  | [], s, k => .go s k
  | b :: bs, s, k => match autoByte rel b.toNat k (a.outs s) with
    | .go s' k' => autoRun a rel bs s' k'
    | x => x

/-- The tokens that spell bytes: every token but CONTROL ones. -/
def spelled (v : VocArrays) (tokens : Nat) : List Nat := (List.range tokens).filter (fun t => (v.node t).type != 1)

/-- R336: the tokens of a state that depend on the stack. -/
def depTokens (a : Auto) (v : VocArrays) (tokens s : Nat) : List Nat :=
  (spelled v tokens).filter (fun t => autoRun a true (v.spell t) s [] == .below)

/-- R336: a stack-independent token that the walk accepts. -/
def indepOk (a : Auto) (v : VocArrays) (s t : Nat) : Bool := match autoRun a true (v.spell t) s [] with
  | .go _ _ => true
  | _ => false

/-- The bytes of a mask of V bits, given the tokens it allows. -/
def maskBytes (tokens n : Nat) (ok : Nat → Bool) : List Byte :=
  (List.range n).map (fun i => BitVec.ofNat 8 (((List.range 8).map (fun k =>
    if 8 * i + k < tokens && ok (8 * i + k) then 2 ^ k else 0)).sum))

/-- R336: the bytes of a row. -/
def rowBytes (tokens : Nat) : Nat := ((tokens + 7) / 8 + 63) / 64 * 64

/-- R336: the mask table, then the list of each state: 4-byte token IDs, ended by 0xFFFF_FFFF. -/
def compiledImage (a : Auto) (v : VocArrays) (tokens : Nat) : List Byte :=
  ((List.range a.states).flatMap (fun s => maskBytes tokens (rowBytes tokens) (fun t => (v.node t).type != 1 && indepOk a v s t)))
    ++ ((List.range a.states).flatMap (fun s => (depTokens a v tokens s).flatMap (leBytes 4) ++ leBytes 4 0xFFFFFFFF))

/-- R336, reason 5: the first state whose stack-dependent tokens total more than 53,248 bytes. -/
def tooDependent (a : Auto) (v : VocArrays) (tokens : Nat) : Option Nat :=
  (List.range a.states).find? (fun s => 53248 < ((depTokens a v tokens s).map (fun t => (v.spell t).length)).sum)

/-! ### Slots -/

def gramFail (n reason : Nat) (pay : List (Nat × Nat)) (d : Device) : Device :=
  (d.setFld (inst R.ESP_GRM_CMD n) 23 16 reason).raise 0x0905 ([(1, n), (1, reason)] ++ pay)

def espGrmLoad (d : Device) : Device :=
  let n := d.fld R.ESP_GRM_SEL 7 0
  let cfg := d.reg (inst R.ESP_GRM_CFG n)
  let obj := d.fld (inst R.ESP_GRM_OBJ n) 15 0
  let owner := ownerOf cfg
  let voc := bits 2 0 cfg
  if (d.gram? n).isSome then gramFail n 2 [] d
  else match dataSource d obj owner with
    | some r => gramFail n r [] d
    | none => match d.voc? voc with
      | none => gramFail n 2 [] d
      | some v =>
        if v.st != .ready then gramFail n 2 [] d
        else if v.owner.isSome && v.owner != owner then gramFail n 3 [] d
        else d.setGram n (some ⟨.loading, bit 30 cfg, owner, voc, obj, 0, false⟩)

/-- ESP_GRM_LOAD (R336). -/
def execEspGrmLoad (s : State) : Host.Outcome State Fault Refusal := .next (s.onReg (fun _ d => espGrmLoad d))

def espGrmRelease (d : Device) : Device :=
  let n := d.fld R.ESP_GRM_SEL 7 0
  match d.gram? n with
  | some g => if g.st == .ready then d.setGram n (some { g with st := .leaving }) else d
  | none => d

/-- ESP_GRM_RELEASE (R336). -/
def execEspGrmRelease (s : State) : Host.Outcome State Fault Refusal := .next (s.onReg (fun _ d => espGrmRelease d))

/-- R336: the lowest place in LPDDR5X, a multiple of 4 KiB, that no object holds. -/
def Device.lpSpace (d : Device) (size : Nat) : Option Nat :=
  let os := d.store.objects.filter (fun p => p.2.tier == 2)
  let span := align4k size
  let fits (b : Nat) : Bool := within b span lpBase (lpObjEnd - lpBase) && !os.any (fun p => overlaps b span p.2.base p.2.span)
  let starts := (lpBase :: os.map (fun p => p.2.base + p.2.span)).filter fits
  match starts with
  | [] => none
  | b :: t => some (t.foldl min b)

/-- R336: the compiled object, sealed: its ID. -/
def createCompiled (tb : Timebase) (owner : Option Nat) (img : List Byte) (d : Device) : Option (Nat × Device) :=
  match d.store.objects.leastFree 1 65535, d.lpSpace img.length with
  | some id, some base =>
    let d := { d with mem := d.mem.writeBytes base img }
    some (id, d.setObj id (newObj tb 2 0 owner .sealing base img.length 0 0))
  | _, _ => none

def grammarCompileDone (n : Nat) (tb : Timebase) (d : Device) : Device :=
  match d.gram? n with
  | none => d
  | some g =>
    if g.st != .loading || g.passed then d else
    match d.obj? g.obj, d.voc? g.vocab with
    | some o, some v =>
      if g.allow then
        if o.size < (v.tokens + 7) / 8 then gramFail n 1 [] (d.setGram n none)
        else (d.setGram n (some { g with passed := true })).setFld (inst R.ESP_GRM_CMD n) 23 16 0
      else if !autoOk d.mem o.base o.size then gramFail n 1 [] (d.setGram n none)
      else
        let a := readAuto d.mem o.base
        let va := d.vocArrays v
        match tooDependent a va v.tokens with
        | some s => gramFail n 5 [(2, s)] (d.setGram n none)
        | none => match createCompiled tb g.owner (compiledImage a va v.tokens) d with
          | none => gramFail n 4 [] (d.setGram n none)
          | some (id, d) => (d.setGram n (some { g with passed := true, compiled := id })).setFld (inst R.ESP_GRM_CMD n) 23 16 0
    | _, _ => gramFail n 2 [] (d.setGram n none)

/-- GRAMMAR_COMPILE_DONE (R336). -/
def execGrammarCompileDone (slot : Nat) (s : State) : Host.Outcome State Fault Refusal :=
  .next (s.onDev (grammarCompileDone slot))

/-- Some admitted request is bound to a grammar slot. -/
def Device.gramBound (d : Device) (n : Nat) : Bool :=
  d.qm.reqs.any (fun p => p.2.grammar == some n || p.2.allow == some n)

/-- R336: a released slot is EMPTY, and its compiled object is released. -/
def Device.dropGram (d : Device) (n : Nat) (g : Gram) : Device :=
  let d := d.setGram n none
  if g.compiled == 0 then d else d.updObj g.compiled (fun o => { o with st := .retiring })

/-- R336, R319: what a boundary does to the grammar slots. A compiled object that is SEALING becomes SEALED, and its slot
READY at the boundary after that. -/
def gramBoundary (tb : Timebase) (d : Device) : Device :=
  d.esp.grams.foldl (fun d p =>
    if p.2.st == .loading && p.2.passed then
      if p.2.compiled != 0 && objSt d p.2.compiled == some .sealing then
        d.updObj p.2.compiled (fun o => { o with st := .sealed, lastUse := tb.number })
      else (d.setGram p.1 (some { p.2 with st := .ready })).raise 0x0904 []
    else if p.2.st == .leaving && !d.gramBound p.1 then d.dropGram p.1 p.2
    else d) d

def espCounters : List Nat := [R.ESP_MASKS, R.ESP_DEP_TOKENS, R.ESP_DEAD, R.ESP_VIOLATIONS, R.ESP_MASK_MAX]

/-- ESP_CNT_CLR (R346). -/
def execEspCntClr (s : State) : Host.Outcome State Fault Refusal := .next (s.onReg (fun _ d => d.clear espCounters))

/-! ### Masks (R337) -/

/-- The automaton of a slot. -/
def Device.autoOf (d : Device) (g : Gram) : Auto := readAuto d.mem (match d.obj? g.obj with | some o => o.base | none => 0)

/-- R337, step 1: the configuration after a token; none where a byte is rejected, or for a CONTROL token that is no
END token of an accepting configuration. -/
def autoAdvance (a : Auto) (v : VocArrays) (t st : Nat) (stack : List Nat) : Option (Nat × List Nat) :=
  if (v.node t).type == 1 then (if a.ends.contains t && a.accepting st stack then some (st, stack) else none)
  else match autoRun a false (v.spell t) st stack with
    | .go s k => some (s, k)
    | _ => none

/-- R337, steps 2 to 4: the tokens an automaton slot allows in a configuration, and the tests that took. -/
def autoMask (d : Device) (g : Gram) (v : VocSlot) (st : Nat) (stack : List Nat) : (Nat → Bool) × Nat :=
  let a := d.autoOf g
  let va := d.vocArrays v
  let row := d.objBytes g.compiled (st * rowBytes v.tokens) (rowBytes v.tokens)
  let deps := depTokens a va v.tokens st
  let ends := if a.accepting st stack then a.ends else []
  ((fun t => ends.contains t || bit (t % 8) (fieldLe row (t / 8) 1)
      || (deps.contains t && (autoAdvance a va t st stack).isSome)), deps.length)

/-- R337, step 5: the ALLOW mask. -/
def allowMask (d : Device) (g : Gram) (t : Nat) : Bool := bit (t % 8) (fieldLe (d.objBytes g.obj (t / 8) 1) 0 1)

/-- R337: the mask of a sequence's request in a configuration, and the tests that took. -/
def Device.seqMask (d : Device) (q : Request) (v : VocSlot) (st : Nat) (stack : List Nat) : (Nat → Bool) × Nat :=
  let (ga, n) := match q.grammar.bind d.gram? with
    | some g => autoMask d g v st stack
    | none => ((fun _ => true), 0)
  match q.allow.bind d.gram? with
  | some g => ((fun t => ga t && allowMask d g t), n)
  | none => (ga, n)

/-- R337: a handover takes the lowest-numbered free mask engine, or waits for one. -/
def Device.handover (tb : Timebase) (d : Device) (ast : Nat) : Device :=
  let j : MaskJob := ⟨ast, tb.clkNo⟩
  match d.esp.engines.leastFree 0 16 with
  | some m => { d with esp := { d.esp with engines := d.esp.engines.set m j } }
  | none => { d with esp := { d.esp with queue := d.esp.queue ++ [j] } }

/-- A mask engine is free again. -/
def Device.freeEngine (d : Device) (m : Nat) : Device :=
  match d.esp.queue with
  | j :: rest => { d with esp := { d.esp with engines := d.esp.engines.set m j, queue := rest } }
  | [] => { d with esp := { d.esp with engines := d.esp.engines.del m } }

/-- R346: the ESP registers that mirror the unit. -/
def espView (d : Device) (k : Nat) : Option Nat :=
  let n := k / 2 ^ 32
  if k == R.ESP_STATUS then
    some (boolBit (d.esp.grams.any (fun p => p.2.st == .loading && !p.2.passed && !p.2.allow)) * 2 ^ 16 + (d.esp.engines.map (fun p => 2 ^ p.1)).sum)
  else if k == inst R.ESP_GRM_OBJ n then
    some (setBits 31 16 (match d.gram? n with | some g => g.compiled | none => 0) (d.reg k))
  else if k == inst R.ESP_GRM_CMD n then
    let st := match d.gram? n with | none => 0 | some g => (match g.st with | .empty => 0 | .loading => 1 | .ready => 2 | .leaving => 3)
    some (setBits 31 30 st (d.reg k))
  else none

end Sys2Proof.Machine
end

