-- ==== Sys2Proof/Machine/Seq.lean ====
section
/-! DEFINITION. The sequence engine (13_serving_generation): model slots and grafts, the Active Sequence Table, KV
blocks, the generation area, stages and their outcomes. -/
namespace Sys2Proof.Machine

/-! ### Text to the completion ring (R380, R397) -/

/-- The longest run of whole characters from the start that takes at most 48 bytes. -/
def textChunk (l : List Byte) : List Byte :=
  ((chars l).foldl (fun (a : List Byte × Bool) c =>
    if a.2 || 48 < a.1.length + c.length then (a.1, true) else (a.1 ++ c, false)) ([], false)).1

/-- R380: free completion slots beyond those held by admitted requests. -/
def Device.textSlots (d : Device) (qp : Nat) : Nat :=
  let x := d.qp qp
  2 ^ d.cqLog qp - idxDiff x.cqTail x.cqHead - (d.qm.reqs.filter (fun p => p.2.qp == qp)).length

/-- R397: TEXT entries while there is text and a slot for it; `fuel` bounds them by the ring. -/
def writeText (rid : Nat) : Nat → Device → Device
  | 0, d => d
  | fuel + 1, d =>
    match d.req? rid with
    | none => d
    | some q =>
      let c := textChunk q.textOut
      if c == [] || d.textSlots q.qp == 0 then d
      else
        let e := sliceBytes (sliceBytes q.bytes 4 4 ++ leBytes 1 1 ++ leBytes 1 0 ++ leBytes 2 (d.qp q.qp).sqHead
          ++ leBytes 4 c.length ++ leBytes 4 q.textNo ++ c) 0 64
        let d := d.setReq rid { q with textOut := q.textOut.drop c.length, textNo := q.textNo + 1 }
        writeText rid fuel (d.writeEntry q.qp e)

/-- A generation that ended completes once its text is written. -/
def settleGen (tb : Timebase) (rid : Nat) (d : Device) : Device :=
  let d := writeText rid 4097 d
  match d.req? rid with
  | none => d
  | some q => if q.genEnded && q.textOut == [] then completeReq tb rid d else d

/-! ### Model slots (R347 to R349) -/

def mdlReg (a m : Nat) : Nat := inst a m

def Device.mdl? (d : Device) (m : Nat) : Option Model := d.seq.models.get? m

def Device.setMdl (d : Device) (m : Nat) (x : Option Model) : Device :=
  { d with seq := { d.seq with models := match x with | some v => d.seq.models.set m v | none => d.seq.models.del m } }

def Device.mdlOwner (d : Device) (m : Nat) : Nat := d.fld (mdlReg R.SEQ_MDL_CFG m) 9 0
def Device.mdlVocab (d : Device) (m : Nat) : Nat := d.fld (mdlReg R.SEQ_MDL_CFG m) 29 27
def Device.mdlParts (d : Device) (m : Nat) : Nat := d.fld (mdlReg R.SEQ_MDL_CFG m) 26 25 + 1
def Device.mdlBatch (d : Device) (m : Nat) : Nat := d.fld (mdlReg R.SEQ_MDL_CFG m) 24 19 + 1
def Device.mdlTpp (d : Device) (m : Nat) : Nat := d.fld (mdlReg R.SEQ_MDL_GEOM m) 31 21 + 1
def Device.mdlPpb (d : Device) (m : Nat) : Nat := d.fld (mdlReg R.SEQ_MDL_GEOM m) 20 13 + 1
def Device.mdlSeqs (d : Device) (m : Nat) : Nat := d.fld (mdlReg R.SEQ_MDL_GEOM m) 12 0 + 1
def Device.mdlMaxpos (d : Device) (m : Nat) : Nat := d.fld (mdlReg R.SEQ_MDL_MAXPOS m) 19 0 + 1
def Device.mdlArea (d : Device) (m : Nat) : Nat := d.fld (mdlReg R.SEQ_MDL_AREA m) 15 0
def Device.mdlAreaWin (d : Device) (m : Nat) : Nat := d.fld (mdlReg R.SEQ_MDL_AREA m) 19 16
def Device.mdlWeights (d : Device) (m : Nat) : Nat := d.fld (mdlReg R.SEQ_MDL_WEIGHTS m) 15 0
def Device.mdlUnits (d : Device) (m : Nat) : Nat := d.fld (mdlReg R.SEQ_MDL_STREAM m) 16 0

/-- The pool object of partition q. -/
def Device.mdlPool (d : Device) (m q : Nat) : Nat :=
  d.fld (mdlReg (if q < 2 then R.SEQ_MDL_POOL_LO else R.SEQ_MDL_POOL_HI) m) (16 * (q % 2) + 15) (16 * (q % 2))

/-- V of the model's vocabulary slot. -/
def Device.mdlV (d : Device) (m : Nat) : Nat := match d.voc? (d.mdlVocab m) with | some v => v.tokens | none => 0

def up64 (n : Nat) : Nat := (n + 63) / 64 * 64

/-- R356: MB, REC and DESC. -/
def Device.maskLen (d : Device) (m : Nat) : Nat := (d.mdlV m + 7) / 8

def Device.recLen (d : Device) (m : Nat) : Nat :=
  up64 (64 + 4 * d.mdlPpb m * ((d.mdlMaxpos m + d.mdlTpp m - 1) / d.mdlTpp m + 1) + d.maskLen m)

def Device.descLen (d : Device) (m : Nat) : Nat := up64 (64 + 32 * d.mdlBatch m)

/-- R352: bytes of a KV block, and the blocks of a pool of a size. -/
def Device.blockLen (d : Device) (m : Nat) : Nat := d.mdlPpb m * 65536

def Device.poolBlocks (d : Device) (m q : Nat) : Nat := match d.obj? (d.mdlPool m q) with
  | some o => o.size / d.blockLen m
  | none => 0

/-- R348: `n` entries of a chain object from entry `i` on. -/
def chainEntries (d : Device) (obj i n : Nat) : List Nat :=
  let l := d.objBytes obj (4 * i) (4 * n)
  (List.range n).map (fun k => fieldLe l (4 * k) 4)

def chainList (l : List Nat) : List (Nat × Bool) := l.map (fun w => (bits 15 0 w, bit 16 w))

/-- R349: a plot of a context by its handle. -/
def Device.plotOf (d : Device) (c h : Nat) : Option Plot := d.plots.dir.get? (65536 * c + h)

/-- R349: the checks of a LOAD in order: the reason of the first that fails, or the slot. -/
def mdlCheck (d : Device) (m : Nat) : Except Nat Model :=
  let own := d.mdlOwner m
  let chain := d.fld (mdlReg R.SEQ_MDL_CHAIN m) 15 0
  let pre := d.fld (mdlReg R.SEQ_MDL_CHAIN m) 31 24
  let res := d.fld (mdlReg R.SEQ_MDL_CHAIN m) 23 16
  let str := d.fld (mdlReg R.SEQ_MDL_STREAM m) 31 24
  let pools := (List.range (d.mdlParts m)).map (d.mdlPool m)
  let w := d.mdlWeights m
  let stOk (i : Nat) (f : Obj → Bool) : Bool := match d.obj? i with | some o => f o | none => false
  let plain (o : Obj) : Bool := o.st == .sealed || o.st == .shareObject
  let state := (d.mdl? m).isNone && stOk chain plain && stOk (d.mdlArea m) plain
    && pools.all (fun p => stOk p (fun o => o.st == .shareObject && o.kind == 2))
    && (w == 0 || stOk w (fun o => o.st == .sealed && o.tier == 2 && o.kind == 1))
  let es := chainEntries d chain 0 (pre + res + str)
  let owner := stOk chain (fun o => o.owner.isNone || o.owner == some own) && stOk (d.mdlArea m) (fun o => o.owner == some own)
    && pools.all (fun p => stOk p (fun o => o.owner == some own))
    && (w == 0 || stOk w (fun o => o.owner.isNone || o.owner == some own))
    && es.all (fun e => d.loaded own (bits 15 0 e))
  let kindOk (dec : Bool) (e : Nat) : Bool := match d.plotOf own (bits 15 0 e) with | some p => p.decode == dec | none => false
  let headOk (i n : Nat) : Bool := n == 0 || !bit 16 (es.getD i 0)
  let chainOk := 1 ≤ pre && 1 ≤ res + str && (str == 0 || w != 0) && stOk chain (fun o => 4 * (pre + res + str) ≤ o.size)
    && (es.take pre).all (kindOk false) && (es.drop pre).all (kindOk true) && es.all (fun e => bits 31 17 e == 0)
    && headOk 0 pre && headOk pre res && headOk (pre + res) str
  let space := pools.all (fun p => stOk p (fun o => o.base % 65536 == 0 && o.size % d.blockLen m == 0))
    && stOk (d.mdlArea m) (fun o => d.mdlSeqs m * (d.recLen m + d.descLen m) ≤ o.size)
  let win := (d.ctx own).win (d.mdlAreaWin m)
  let winOk := win.tier == 1 && win.perm && stOk (d.mdlArea m) (fun o => within o.base o.size win.base win.size)
  if !state then .error 2
  else if !owner then .error 3
  else if !chainOk then .error 1
  else if !space then .error 4
  else if !winOk then .error 5
  else
    let l := chainList es
    .ok ⟨.loading, l.take pre, (l.drop pre).take res, l.drop (pre + res), 0⟩

def seqMdlLoad (d : Device) : Device :=
  let m := d.fld R.SEQ_MDL_SEL 7 0
  match mdlCheck d m with
  | .error r => (d.setFld (mdlReg R.SEQ_MDL_CMD m) 23 16 r).raise 0x0A04 [(1, m), (1, r)]
  | .ok x => (d.setMdl m (some x)).setFld (mdlReg R.SEQ_MDL_CMD m) 23 16 0

/-- SEQ_MDL_LOAD (R349). -/
def execSeqMdlLoad (s : State) : Host.Outcome State Fault Refusal := .next (s.onReg (fun _ d => seqMdlLoad d))

def seqMdlRelease (d : Device) : Device :=
  let m := d.fld R.SEQ_MDL_SEL 7 0
  match d.mdl? m with
  | some x => if x.st == .ready then d.setMdl m (some { x with st := .leaving }) else d
  | none => d

/-- SEQ_MDL_RELEASE (R349). -/
def execSeqMdlRelease (s : State) : Host.Outcome State Fault Refusal := .next (s.onReg (fun _ d => seqMdlRelease d))

/-! ### Residency (R364) -/

/-- A furrow that has passed is refused with CFG_BUSY. -/
def seqStageRes (tb : Timebase) (d : Device) : Device :=
  let m := d.fld R.SEQ_MDL_SEL 7 0
  let at_ := d.furReg (mdlReg R.SEQ_MDL_APPLY_LO m) (mdlReg R.SEQ_MDL_APPLY_HI m)
  if (d.mdl? m).isNone then d
  else if tb.stageable at_ then
    { d with seq := { d.seq with pendRes := d.seq.pendRes.set m at_ } }.setFld (mdlReg R.SEQ_MDL_CMD m) 12 12 1
  else (d.setFld (mdlReg R.SEQ_MDL_CMD m) 15 14 3).raise 0x0A05 [(1, m), (1, 3)]

/-- SEQ_STAGE_RES (R364). -/
def execSeqStageRes (s : State) : Host.Outcome State Fault Refusal := .next (s.onReg seqStageRes)

def dropPendRes (m : Nat) (d : Device) : Device :=
  { d with seq := { d.seq with pendRes := d.seq.pendRes.del m } }.setFld (mdlReg R.SEQ_MDL_CMD m) 12 12 0

/-- SEQ_CANCEL_RES (R372). -/
def execSeqCancelRes (s : State) : Host.Outcome State Fault Refusal :=
  .next (s.onReg (fun _ d => dropPendRes (d.fld R.SEQ_MDL_SEL 7 0) d))

/-- R364: a staged value is fit. -/
def resOk (d : Device) (m v : Nat) : Bool :=
  v == 0 || (match d.obj? v with
    | some o => o.st == .sealed && o.tier == 1 && o.kind == 1 && (o.owner.isNone || o.owner == some (d.mdlOwner m))
        && (match d.obj? (d.mdlWeights m) with | some w => w.size == o.size | none => false)
    | none => false)

def resSwitch (m : Nat) (d : Device) : Device :=
  match d.mdl? m with
  | none => d
  | some x =>
    let v := d.fld (mdlReg R.SEQ_MDL_RES_NEXT m) 15 0
    let ok := resOk d m v
    let d := if ok then ((d.setMdl m (some { x with res := v })).setFld (mdlReg R.SEQ_MDL_WEIGHTS m) 31 16 v).setFld
      (mdlReg R.SEQ_MDL_CMD m) 13 13 (boolBit (v != 0)) else d
    let out := if ok then 1 else 2
    (d.setFld (mdlReg R.SEQ_MDL_CMD m) 15 14 out).raise 0x0A05 [(1, m), (1, out)]

/-- R364, R44: the staged switches at a boundary. -/
def resBoundary (due : Bool → W48 → Due) (d : Device) : Device :=
  d.seq.pendRes.foldl (fun d p => match due false p.2 with
    | .wait => d
    | .apply => resSwitch p.1 (dropPendRes p.1 d)
    | .drop => dropPendRes p.1 d) d

/-! ### Grafts (R354) -/

def grfReg (a g : Nat) : Nat := inst a g

def Device.setGrf (d : Device) (g : Nat) (x : Option SlotSt) : Device :=
  { d with seq := { d.seq with grafts := match x with | some v => d.seq.grafts.set g v | none => d.seq.grafts.del g } }

def Device.grfOwner (d : Device) (g : Nat) : Option Nat :=
  if d.fld (grfReg R.SEQ_GRF_CFG g) 29 29 == 1 then none else some (d.fld (grfReg R.SEQ_GRF_CFG g) 25 16)
def Device.grfObj (d : Device) (g : Nat) : Nat := d.fld (grfReg R.SEQ_GRF_CFG g) 15 0
def Device.grfTokens (d : Device) (g : Nat) : Nat := d.fld (grfReg R.SEQ_GRF_TOKENS g) 19 0

def seqGrfLoad (d : Device) : Device :=
  let g := d.fld R.SEQ_GRF_SEL 11 0
  let r := if (d.seq.grafts.get? g).isSome then 2
    else match d.obj? (d.grfObj g) with
      | none => 2
      | some o => if !(o.st == .sealed && o.tier == 1 && o.kind == 6) then 2 else if o.owner != d.grfOwner g then 3 else 0
  let d := d.setFld (grfReg R.SEQ_GRF_CMD g) 23 16 r
  if r == 0 then d.setGrf g (some .loading) else d.raise 0x0A04 [(2, g), (1, r)]

/-- SEQ_GRF_LOAD (R354). -/
def execSeqGrfLoad (s : State) : Host.Outcome State Fault Refusal := .next (s.onReg (fun _ d => seqGrfLoad d))

def seqGrfRelease (d : Device) : Device :=
  let g := d.fld R.SEQ_GRF_SEL 11 0
  if d.seq.grafts.get? g == some .ready then d.setGrf g (some .leaving) else d

/-- SEQ_GRF_RELEASE (R354). -/
def execSeqGrfRelease (s : State) : Host.Outcome State Fault Refusal := .next (s.onReg (fun _ d => seqGrfRelease d))

/-- R349, R354: what a boundary does to model slots and graft entries. -/
def modelBoundary (d : Device) : Device :=
  let d := d.seq.models.foldl (fun d p =>
    if p.2.st == .loading then d.setMdl p.1 (some { p.2 with st := .ready })
    else if p.2.st == .leaving && !d.seq.ast.any (fun e => e.2.model == p.1) then
      ((dropPendRes p.1 (d.setMdl p.1 none)).setFld (mdlReg R.SEQ_MDL_WEIGHTS p.1) 31 16 0).setFld (mdlReg R.SEQ_MDL_CMD p.1) 13 13 0
    else d) d
  d.seq.grafts.foldl (fun d p =>
    if p.2 == .loading then d.setGrf p.1 (some .ready)
    else if p.2 == .leaving && !d.seq.ast.any (fun e => e.2.graft == some p.1) then d.setGrf p.1 none
    else d) d

/-! ### The Active Sequence Table (R350) -/

def Device.ent? (d : Device) (e : Nat) : Option SeqEnt := d.seq.ast.get? e

def Device.setEnt (d : Device) (e : Nat) (x : SeqEnt) : Device := { d with seq := { d.seq with ast := d.seq.ast.set e x } }

def Device.updEnt (d : Device) (e : Nat) (f : SeqEnt → SeqEnt) : Device :=
  { d with seq := { d.seq with ast := d.seq.ast.upd e f } }

/-- R366: CANCEL is set. -/
def Device.cancelled (d : Device) (e : SeqEnt) : Bool := match d.req? e.req with
  | some q => q.cancel.isSome
  | none => true

/-- R350: the 64 bytes of an entry. -/
def Device.astBytes (d : Device) (i : Nat) : List Byte :=
  match d.ent? i with
  | none => List.replicate 64 0
  | some e =>
    let (cls, ctx, qp, tag) := match d.req? e.req with | some q => (q.cls, q.ctx, q.qp, q.f 4 4) | none => (0, 0, 0, 0)
    let flags := boolBit (d.cancelled e) + 2 * boolBit e.masked + 4 * boolBit e.kvWait + 8 * boolBit e.streamed
    leBytes 1 e.st ++ leBytes 1 cls ++ leBytes 2 ctx ++ leBytes 2 qp ++ leBytes 1 e.model ++ leBytes 1 flags ++ leBytes 4 tag
      ++ leBytes 2 (e.graft.getD 0xFFFF) ++ leBytes 2 e.part ++ leBytes 4 e.prompt ++ leBytes 4 e.emitted ++ leBytes 4 e.maxNew
      ++ leBytes 4 e.position ++ leBytes 8 e.entryFurrow.toNat ++ leBytes 4 e.blocks.length ++ leBytes 4 e.deferred
      ++ leBytes 4 e.lastToken ++ leBytes 2 e.record ++ leBytes 2 (min e.wait 0xFFFF) ++ List.replicate 8 0

/-- R372: the entry that SEQ_AST_SEL names is captured, and word 0 is read. -/
def astData0Read (d : Device) : Device :=
  let l := d.astBytes (d.fld R.SEQ_AST_SEL 12 0)
  { d with
    seq := { d.seq with astCap := l },
    port := { d.port with rdata := BitVec.ofNat 32 (fieldLe l 0 4) } }

/-- AST_DATA0_READ (R372); in the ROM phase it reads 0 (R454). -/
def execAstData0Read (s : State) : Host.Outcome State Fault Refusal :=
  .next (if s.dev.power.phase == .rom then
      s.live (fun s => { s with dev := { s.dev with port := { s.dev.port with pendLo := none, rdata := 0 } } })
    else s.onAon (fun _ d => astData0Read d))

def seqCounters : List Nat := [R.SEQ_ENTRIES, R.SEQ_STAGES, R.SEQ_TOKENS, R.SEQ_DEFERRALS, R.SEQ_CANCELS, R.SEQ_KV_WAITS, R.SEQ_BAD_TOKENS]

/-- SEQ_CNT_CLR (R372). -/
def execSeqCntClr (s : State) : Host.Outcome State Fault Refusal := .next (s.onReg (fun _ d => d.clear seqCounters))

/-! ### KV blocks (R352, R353) -/

/-- The blocks of a partition that are not free. -/
def Device.usedBlocks (d : Device) (m q : Nat) : List Nat :=
  (d.seq.ast.filter (fun p => p.2.model == m && p.2.part == q)).flatMap (fun p => p.2.blocks)
    ++ (d.seq.freeing.filter (fun f => f.1 == m && f.2.1 == q)).map (fun f => f.2.2.1)

/-- The lowest-numbered free blocks, `n` of them; none where there are fewer. -/
def Device.takeBlocks (d : Device) (m q n : Nat) : Option (List Nat) :=
  let used := d.usedBlocks m q
  let l := ((List.range (d.poolBlocks m q)).filter (fun k => !used.contains k)).take n
  if l.length == n then some l else none

/-- R352: the partition with the most free blocks, the lower number on ties. -/
def Device.bestPart (d : Device) (m : Nat) : Nat :=
  ((List.range (d.mdlParts m)).foldl (fun (b : Nat × Nat) q =>
    let free := d.poolBlocks m q - (d.usedBlocks m q).length
    if b.2 < free + 1 then (q, free + 1) else b) (0, 0)).1

/-- R355, R357: the page numbers of a sequence: the graft's, READ_ONLY, then its own. -/
def Device.pageTable (d : Device) (e : SeqEnt) : List Nat :=
  let ppb := d.mdlPpb e.model
  let pages (base k : Nat) : List Nat := (List.range ppb).map (fun i => ((base - csBase) / 65536 + k * ppb + i) % 2 ^ 18)
  let gb := (e.g + d.mdlTpp e.model - 1) / d.mdlTpp e.model
  let gbase := match e.graft with | some g => (match d.obj? (d.grfObj g) with | some o => o.base | none => csBase) | none => csBase
  let base := match d.obj? (d.mdlPool e.model e.part) with | some o => o.base | none => csBase
  ((List.range gb).flatMap (pages gbase)).map (· + 2 ^ 31) ++ e.blocks.flatMap (pages base)

/-! ### The generation area (R356 to R358) -/

/-- Write into the area at an offset, through the background port. -/
def Device.areaWrite (d : Device) (m off : Nat) (data : List Byte) : Device := match d.obj? (d.mdlArea m) with
  | some o => if off + data.length ≤ o.size then d.bgWrite none (o.base + off) data else d
  | none => d

def Device.areaBase (d : Device) (m : Nat) : Nat := match d.obj? (d.mdlArea m) with | some o => o.base | none => 0

def Device.descOff (d : Device) (m s : Nat) : Nat := d.mdlSeqs m * d.recLen m + s * d.descLen m

/-- R357: the record of a sequence but for its mask. -/
def Device.writeRecord (d : Device) (e : SeqEnt) : Device :=
  let pt := d.pageTable e
  let (w, off) := match d.req? e.req with | some q => (q.f 0x2C 1, q.f 0x30 8) | none => (0, 0)
  d.areaWrite e.model (e.record * d.recLen e.model)
    (leBytes 4 e.position ++ leBytes 4 e.g ++ leBytes 4 pt.length ++ leBytes 4 e.prompt ++ leBytes 8 w ++ leBytes 8 off
      ++ List.replicate 32 0 ++ pt.flatMap (leBytes 4))

/-- R358: the descriptor of a stage. -/
def Device.writeDesc (d : Device) (t : GenStage) : Device :=
  let row (i : Nat) : List Byte := match d.ent? i with
    | none => List.replicate 32 0
    | some e =>
      let seed := match d.req? e.req with | some q => q.f 8 8 | none => 0
      leBytes 2 i ++ leBytes 2 (boolBit e.masked) ++ leBytes 4 e.position ++ leBytes 4 (if t.chain == 0 then 0 else e.input)
        ++ leBytes 4 (e.record * d.recLen e.model) ++ leBytes 8 (seedMix seed e.position) ++ List.replicate 8 0
  d.areaWrite t.model (d.descOff t.model t.desc)
    (leBytes 4 t.rows.length ++ leBytes 1 (if t.chain == 0 then 0 else 1) ++ leBytes 1 t.part ++ leBytes 2 t.chain
      ++ leBytes 8 t.furrow.toNat ++ List.replicate 48 0 ++ t.rows.flatMap row)

/-- R359: the arguments of the plots of a stage. -/
def Device.genArgs (d : Device) (t : GenStage) : List W64 :=
  let base := ((d.ctx (d.mdlOwner t.model)).win (d.mdlAreaWin t.model)).base
  let a1 := d.areaBase t.model - base
  [a1 + d.descOff t.model t.desc, a1, t.rows.length, t.furrow.toNat, 0, 0, 0, 0].map (BitVec.ofNat 64)

/-! ### Entry (R351) -/

/-- R384, R351: the prompt of a request: its tokens. -/
def Device.promptOf (d : Device) (q : Request) : List Nat := d.readTokens q.ctx (q.f 0x2C 1) (q.f 0x30 8) (q.f 0x38 4)

def Request.graft (q : Request) : Option Nat := if q.f 0x1A 2 == 0xFFFF then none else some (q.f 0x1A 2)

/-- R351: the detail that refuses a request at entry. -/
def entryRefusal (d : Device) (q : Request) (p : Nat) : Option Nat :=
  let m := q.f 0x17 1
  let ready := match d.mdl? m with | some x => x.st == .ready | none => false
  let g := match q.graft with | some g => d.grfTokens g | none => 0
  let graftOk := match q.graft with
    | none => true
    | some e => d.seq.grafts.get? e == some .ready && usableBy (d.grfOwner e) q.ctx
        && d.reg (grfReg R.SEQ_GRF_ID e) == d.reg (mdlReg R.SEQ_MDL_ID m)
        && (match d.obj? (d.grfObj e) with
          | some o => (g + d.mdlTpp m - 1) / d.mdlTpp m * d.blockLen m ≤ o.size
          | none => false)
  if !(ready && d.mdlOwner m == q.ctx && d.mdlVocab m == q.vocab) then some 0x84
  else if !graftOk then some 0x85
  else if d.mdlMaxpos m < g + p || p == 0 then some 0x81
  else none

/-- R351: a request enters the table, or waits, or is refused. -/
def enterOne (tb : Timebase) (d : Device) (rid : Nat) : Device :=
  match d.req? rid with
  | none => { d with seq := { d.seq with waiting := d.seq.waiting.erase rid } }
  | some q =>
    let m := q.f 0x17 1
    let toks := d.promptOf q
    let p := toks.length
    let gone (d : Device) : Device := { d with seq := { d.seq with waiting := d.seq.waiting.erase rid, fullSeen := d.seq.fullSeen.erase rid } }
    if q.cancel.isSome then completeReq tb rid (gone d)
    else match entryRefusal d q p with
    | some det => completeReq tb rid (gone (d.cond rid 0x0E det))
    | none =>
      let part := d.bestPart m
      let recs := (d.seq.ast.filter (fun e => e.2.model == m)).map (fun e => e.2.record)
      let freeRec := (List.range (d.mdlSeqs m)).find? (fun r => !recs.contains r)
      match d.seq.ast.leastFree 0 8192, freeRec, d.takeBlocks m part ((p + d.mdlTpp m - 1) / d.mdlTpp m) with
      | some i, some r, some bs =>
        let g := match q.graft with | some g => d.grfTokens g | none => 0
        let masked := q.grammar.isSome || q.allow.isSome
        let e : SeqEnt := {
          st := if p == 1 then 2 else 1, req := rid, model := m, part := part, graft := q.graft, g := g, prompt := p,
          emitted := 0, maxNew := if q.f 0x24 4 == 0 then d.mdlMaxpos m - g - p else q.f 0x24 4, position := g + p - 1,
          entryFurrow := tb.number, blocks := bs, deferred := 0, lastToken := 0, record := r, wait := 0, kvWait := false,
          streamed := false, masked := masked, input := toks.getLastD 0, stage := none, stepAt := none, tok := none,
          ends := none, autoSt := 0, autoStack := [], maskDue := p == 1 && masked, pendBytes := [], held := [], out := [] }
        let d := ((gone d).setEnt i e).inc R.SEQ_ENTRIES
        let d := d.updReq rid (fun q => { q with promptTokens := p })
        if p == 1 && masked then d.handover tb i else d
      | _, _, _ =>
        if d.seq.fullSeen.contains rid then d
        else { d with seq := { d.seq with fullSeen := rid :: d.seq.fullSeen } }.raise 0x0A06 []

/-- R351: the requests that are ready for entry, in the order of R327. -/
def entryBoundary (tb : Timebase) (d : Device) : Device :=
  let before (a b : Nat) : Bool := match d.req? a, d.req? b with
    | some x, some y => d.workBefore x y
    | _, _ => false
  (sortBy before d.seq.waiting).foldl (enterOne tb) d

/-! ### Ends (R361, R367 to R369) -/

/-- R372: a request that a plot's abort ended with WINDOW_FAULT (R361) does not end CANCELLED. -/
def Device.windowFault (d : Device) (rid : Nat) : Bool := match d.req? rid with
  | some q => q.conds.any (fun c => c.1 == 8)
  | none => false

/-- A sequence ends at its boundary: its entry, record and blocks are freed, and its request completes. -/
def finishSeq (tb : Timebase) (i : Nat) (d : Device) : Device :=
  match d.ent? i with
  | none => d
  | some e0 =>
    let (e, bad) := e0.endText
    let d := d.incBy R.TEXT_INVALID_SEQ bad
    let busy := e.stage.filter (fun g => d.seq.stages.has g)
    let d := { d with seq := { d.seq with
      ast := d.seq.ast.del i,
      freeing := match busy with
        | some g => d.seq.freeing ++ e.blocks.map (fun b => (e.model, e.part, b, g))
        | none => d.seq.freeing } }
    let cancelled := d.cancelled e
    let stop := match e.ends with | some (4, _) => true | _ => false
    let d := d.updReq e.req (fun q => { q with
      emitted := e.emitted, deferred := e.deferred, textOut := q.textOut ++ e.out, genEnded := true,
      conds := (match e.ends with
        | some (3, x) => if cancelled then q.conds else q.conds ++ [(3, x)]
        | some x => q.conds ++ [x]
        | none => q.conds),
      stopIndex := if stop then (if e.ends == some (4, 0x7B) then e.emitted else e.emitted - 1) else q.stopIndex })
    let d := if !d.windowFault e.req && (cancelled || (match e.ends with | some (3, _) => true | _ => false)) then d.inc R.SEQ_CANCELS else d
    settleGen tb e.req d

/-- R353: a KV wait that has passed SEQ_CTRL.KV_WAIT ends the sequence. -/
def kvWaitExpiry (i : Nat) (tb : Timebase) (d : Device) : Device :=
  match d.ent? i with
  | none => d
  | some e =>
    if e.kvWait && max 1 (d.fld R.SEQ_CTRL 15 8) < e.wait then
      finishSeq tb i ((d.setEnt i { e with ends := some (5, 0x83) }).raise 0x0A02 [(1, e.model), (1, e.part)])
    else d

/-- KV_WAIT_EXPIRY (R353): the sequence in entry `ast`. -/
def execKvWaitExpiry (ast : Nat) (s : State) : Host.Outcome State Fault Refusal := .next (s.onDev (kvWaitExpiry ast))

/-! ### The end of a stage (R360, R361) -/

/-- R360: the first boundary at least 2,304 clk after now. -/
def stepBoundary (tb : Timebase) : W48 := if tb.offset + 2304 ≤ tb.len then tb.number + 1 else tb.number + 2

/-- R337, R338: the advance of a masked sequence by a token; none where it is rejected. -/
def Device.seqAdvance (d : Device) (q : Request) (v : VocSlot) (e : SeqEnt) (t : Nat) : Option (Nat × List Nat) :=
  match q.grammar.bind d.gram? with
  | none => some (e.autoSt, e.autoStack)
  | some g => autoAdvance (d.autoOf g) (d.vocArrays v) t e.autoSt e.autoStack

/-- ESP_END (R338). -/
def Device.espEnd (d : Device) (ctx i detail : Nat) : Device := d.raiseCtx 0x0906 ctx [(2, i), (1, detail)]

/-- R361, orders 4 to 7: a token that is emitted. -/
def emitToken (tb : Timebase) (q : Request) (v : VocSlot) (i t : Nat) (e : SeqEnt) (d : Device) : Device :=
  let d := (d.inc R.TEXT_DETOK_TOKENS).detokWalk tb (tokenBytes d v t).length
  if (q.stopTokens d.mem).contains t then
    (d.setEnt i { e with tok := some t, ends := some (4, 0x79), st := 3 }).inc R.TEXT_STOPS
  else
    let (p, x, bad) := detokToken (q.stopStrings d.mem) q.include_ e.pendBytes ⟨e.held, e.out, none⟩ (tokenBytes d v t)
    let e := { e with tok := some t, pendBytes := p, held := x.held, out := x.out }
    let d := d.incBy R.TEXT_INVALID_SEQ bad
    match x.stop with
    | some n =>
      let d := (d.updReq e.req (fun q => { q with stopString := n })).inc R.TEXT_STOPS
      d.setEnt i { e with ends := some (4, 0x78), st := 3 }
    | none =>
      if e.emitted + 1 == e.maxNew then d.setEnt i { e with ends := some (5, 0x80), st := 3 }
      else if e.position + 1 == d.mdlMaxpos e.model then d.setEnt i { e with ends := some (5, 0x81), st := 3 }
      else if e.masked then (d.setEnt i { e with maskDue := true }).handover tb i
      else d.setEnt i e

/-- R361: the outcome of a row: its token and whether it is VALID. -/
def rowOutcome (tb : Timebase) (handle i tok : Nat) (valid : Bool) (d : Device) : Device :=
  match d.ent? i with
  | none => d
  | some e0 =>
    let e := { e0 with stepAt := some (stepBoundary tb), stage := none }
    match d.req? e.req, d.voc? (d.mdlVocab e.model) with
    | some q, some v =>
      if q.cancel.isSome then d.setEnt i { e with ends := some (3, q.cancel.getD 0), st := 3 }
      else if !valid || v.tokens ≤ tok then
        ((d.setEnt i { e with ends := some (3, 0x82), st := 3 }).inc R.SEQ_BAD_TOKENS).raiseCtx 0x0A03 q.ctx [(2, handle)]
      else if e.masked then
        match d.seqAdvance q v e tok with
        | none => ((d.setEnt i { e with ends := some (4, 0x7B), st := 3 }).inc R.ESP_VIOLATIONS).espEnd q.ctx i 0x7B
        | some (s, k) => emitToken tb q v i tok { e with autoSt := s, autoStack := k } d
      else emitToken tb q v i tok e d
    | _, _ => d.setEnt i { e with ends := some (3, 0x82), st := 3 }

/-- R396: a step of a streamed stage is under no promise; one of a resident stage that ends later than 8 furrows after
its work list misses it. -/
def noteStep (tb : Timebase) (t : GenStage) (q : Request) : Request :=
  if t.chain == 0 then q
  else if t.chain == 2 then { q with boundOk := false }
  else { q with boundMiss := q.boundMiss || 8 < (stepBoundary tb - t.furrow).toNat }

/-- R360: a stage ends: its rows are read, and its descriptor is free. -/
def endGenStage (tb : Timebase) (g : Nat) (t : GenStage) (d : Device) : Device :=
  let d := { d with seq := { d.seq with
    stages := d.seq.stages.del g, freeing := d.seq.freeing.filter (fun f => f.2.2.2 != g) } }
  let handle := (t.plots.getLastD (0, 0)).2
  let d := t.rows.foldl (fun d i => match d.ent? i with | some e => d.updReq e.req (noteStep tb t) | none => d) d
  t.rows.zipIdx.foldl (fun d r =>
    if t.chain == 0 then
      match d.ent? r.1 with
      | none => d
      | some e =>
        let ended := d.cancelled e
        let d := d.setEnt r.1 { e with
          stepAt := some (stepBoundary tb), stage := none, maskDue := e.masked && !ended, st := if ended then 3 else e.st }
        if e.masked && !ended then d.handover tb r.1 else d
    else
      let a := d.areaBase t.model + d.descOff t.model t.desc + 64 + 32 * r.2
      rowOutcome tb handle r.1 (d.mem.readLe (a + 0x18) 4) (bit 0 (d.mem.readLe (a + 0x1C) 4)) d) d

/-- R360, R366: a plot of a stage has ended. The stage ends with its last plot, or with the last one placed where every
row is cancelled. -/
def genPlotEnd (tb : Timebase) (g k : Nat) (d : Device) : Device :=
  match d.seq.stages.get? g with
  | none => d
  | some t =>
    let t := { t with ended := t.ended ++ [k] }
    let dead := t.rows.all (fun i => match d.ent? i with | some e => d.cancelled e | none => true)
    let d := { d with seq := { d.seq with stages := d.seq.stages.set g t } }
    if t.ended.length == t.plots.length || (dead && t.ended.length == t.placed.length) then endGenStage tb g t d else d

/-! ### Masks (R337) -/

/-- R337, R338, R346: a mask engine completes the mask of the sequence in an entry. -/
def espMaskDone (i : Nat) (tb : Timebase) (d : Device) : Device :=
  match d.esp.engines.find? (fun p => p.2.ast == i) with
  | none => d
  | some (m, j) =>
    let d := d.freeEngine m
    match d.ent? i with
    | none => d
    | some e =>
      let d := d.setEnt i { e with maskDue := false }
      match d.req? e.req, d.voc? (d.mdlVocab e.model) with
      | some q, some v =>
        let (ok, n) := d.seqMask q v e.autoSt e.autoStack
        let len := d.maskLen e.model
        let d := d.areaWrite e.model (e.record * d.recLen e.model + d.recLen e.model - len) (maskBytes v.tokens len ok)
        let d := (d.inc R.ESP_MASKS).incBy R.ESP_DEP_TOKENS n
        let d := d.setFld R.ESP_MASK_MAX 11 0 (max (d.fld R.ESP_MASK_MAX 11 0) (min (tb.clkNo - j.clk) 2048))
        if (List.range v.tokens).any ok || e.ends.isSome then d
        else ((d.updEnt i (fun e => { e with ends := some (4, 0x7A), st := 3 })).inc R.ESP_DEAD).espEnd q.ctx i 0x7A
      | _, _ => d

/-- ESP_MASK_DONE (R337): the mask of the sequence in entry `ast`. -/
def execEspMaskDone (ast : Nat) (s : State) : Host.Outcome State Fault Refusal := .next (s.onDev (espMaskDone ast))

/-! ### Step boundaries (R360, R361, R367) -/

/-- R397: released text goes to the queue manager. -/
def Device.passText (d : Device) (i : Nat) : Device :=
  match d.ent? i with
  | none => d
  | some e =>
    let d := d.setEnt i { e with out := [] }
    writeText e.req 4097 (d.updReq e.req (fun q => { q with textOut := q.textOut ++ e.out }))

/-- R367: no plot of the stage of a sequence is placed, or it has no stage. -/
def Device.unplaced (d : Device) (e : SeqEnt) : Bool := match e.stage.bind d.seq.stages.get? with
  | some t => t.placed.isEmpty
  | none => true

/-- R366, R367: a sequence that ends leaves its stage: its row names no entry any more (8,192). -/
def Device.leaveStage (d : Device) (i : Nat) (e : SeqEnt) : Device := match e.stage with
  | some g => { d with seq := { d.seq with stages := d.seq.stages.upd g (fun t => { t with
      rows := t.rows.map (fun r => if r == i then 8192 else r) }) } }
  | none => d

/-- One sequence at a boundary. -/
def stepOne (tb : Timebase) (d : Device) (i : Nat) : Device :=
  match d.ent? i with
  | none => d
  | some e =>
    match e.stepAt with
    | none =>
      -- R367: cancelled, and no plot of its stage is placed
      if d.cancelled e && d.unplaced e then finishSeq tb i (d.leaveStage i e) else d
    | some f =>
      if !furLe f tb.number || e.maskDue then d
      else
        let e := { e with stepAt := none }
        let (e, d) := match e.tok with
          | some t => ({ e with emitted := e.emitted + 1, position := e.position + 1, lastToken := t, input := t, tok := none },
              d.inc R.SEQ_TOKENS)
          | none => ({ e with st := if e.st == 1 then 2 else e.st }, d)
        let d := (d.setEnt i e).passText i
        if e.ends.isSome || d.cancelled e then finishSeq tb i d else d

def stepBoundaries (tb : Timebase) (d : Device) : Device := (d.seq.ast.map (·.1)).foldl (stepOne tb) d

/-! ### The work list (R362, R365) -/

/-- R362: positions of a chain: entries with WITH_PREV share the position before them. -/
def chainPositions : List (Nat × Bool) → Nat → List (Nat × Nat)
  | [], _ => []
  | (h, prev) :: t, n =>
    let p := if prev then n - 1 else n
    (p, h) :: chainPositions t (p + 1)

/-- The clks of the longest path through a chain: the longest plot of each position. -/
def Device.chainClk (d : Device) (c : Nat) (plots : List (Nat × Nat)) : Nat :=
  ((List.range (plots.length + 1)).map (fun n =>
    ((plots.filter (fun p => p.1 == n)).map (fun p => match d.plotOf c p.2 with | some x => x.length | none => 0)).foldl max 0)).sum

/-- R362: build a stage for rows of one model slot, class and partition. -/
def buildStage (tb : Timebase) (m chain part cls : Nat) (inRes : Bool) (list : List (Nat × Bool)) (rows : List Nat) (d : Device) : Device :=
  let used := (d.seq.stages.filter (fun s => s.2.model == m)).map (fun s => s.2.desc)
  match (List.range (d.mdlSeqs m)).find? (fun s => !used.contains s) with
  | none => d
  | some desc =>
    let g := d.seq.nextStage
    let t : GenStage := ⟨m, chain, part, desc, cls, inRes, tb.number, rows, chainPositions list 0, [], [], false⟩
    let d := { d with seq := { d.seq with stages := d.seq.stages.set g t, nextStage := g + 1 } }
    let d := rows.foldl (fun d i => match d.ent? i with
      | some e =>
        let e := { e with stage := some g, streamed := chain == 2, kvWait := false, wait := 0 }
        (d.setEnt i e).writeRecord e
      | none => d) d
    (d.writeDesc t).inc R.SEQ_STAGES

/-- R353: a sequence has the block that its next position needs, or waits for it. -/
def needBlock (d : Device) (i : Nat) : Device × Bool :=
  match d.ent? i with
  | none => (d, false)
  | some e =>
    if e.position - e.g != d.mdlTpp e.model * e.blocks.length then (d, true)
    else match d.takeBlocks e.model e.part 1 with
      | some bs => (d.setEnt i { e with blocks := e.blocks ++ bs, kvWait := false, wait := 0 }, true)
      | none =>
        let d := (d.setEnt i { e with kvWait := true, wait := e.wait + 1 }).inc R.SEQ_KV_WAITS
        if d.seq.kvSeen.contains (e.model, e.part) then (d, false)
        else ({ d with seq := { d.seq with kvSeen := (e.model, e.part) :: d.seq.kvSeen } }.raise 0x0A01 [(1, e.model), (1, e.part)], false)

/-- R365, R362: one batch of a decode step. A streamed stage must get its units. -/
def decodeBatch (tb : Timebase) (m part cls : Nat) (rows : List Nat) (d : Device) : Device :=
  match d.mdl? m with
  | none => d
  | some x =>
    let inRes := rows.any (fun i => match (d.ent? i).bind (fun e => d.req? e.req) with | some q => q.inRes | none => false)
    if x.res != 0 then (if x.resid == [] then d else buildStage tb m 1 part cls inRes x.resid rows d)
    else if x.streamed == [] then d
    else
      let n := (d.chainClk (d.mdlOwner m) (chainPositions x.streamed 0) + 156249) / 156250
      match d.claim inRes (tb.number + 1) n ⟨d.mdlUnits m, [], []⟩ with
      | some d => buildStage tb m 2 part cls inRes x.streamed rows d
      | none => rows.foldl (fun d i => d.updEnt i (fun e => { e with deferred := e.deferred + 1 })) d

/-- Lists of at most `n`, in order; `fuel` bounds their number. -/
def batchLists {α : Type} (n : Nat) : Nat → List α → List (List α)
  | 0, _ => []
  | _, [] => []
  | fuel + 1, l => l.take n :: batchLists n fuel (l.drop n)

/-- R380: a sequence whose text waits takes no stage. -/
def Device.outputHeld (d : Device) (e : SeqEnt) : Bool := match d.req? e.req with
  | some q => 4096 ≤ q.textOut.length
  | none => true

/-- R362: the work list of a boundary. -/
def workList (tb : Timebase) (d : Device) : Device :=
  let free := d.seq.ast.filter (fun p => p.2.stage.isNone && p.2.stepAt.isNone && p.2.ends.isNone && !d.cancelled p.2)
  let cls (e : SeqEnt) : Nat := match d.req? e.req with | some q => q.cls | none => 0
  let d := (free.filter (fun p => p.2.st == 1)).foldl (fun d p => match d.mdl? p.2.model with
    | some x => buildStage tb p.2.model 0 p.2.part (cls p.2) (match d.req? p.2.req with | some q => q.inRes | none => false) x.pre [p.1] d
    | none => d) d
  let (d, ready) := (free.filter (fun p => p.2.st == 2)).foldl (fun (a : Device × List (Nat × SeqEnt)) p =>
    if a.1.outputHeld p.2 then a
    else let (d, ok) := needBlock a.1 p.1; (d, if ok then a.2 ++ [p] else a.2)) (d, [])
  let keys := (ready.map (fun p => (p.2.model, cls p.2, p.2.part))).eraseDups
  keys.foldl (fun d k =>
    let rows := (ready.filter (fun p => (p.2.model, cls p.2, p.2.part) == k)).map (·.1)
    (batchLists (d.mdlBatch k.1) rows.length rows).foldl (fun d b => decodeBatch tb k.1 k.2.2 k.2.1 b d) d) d

/-- R396, condition 6: R380 holds a queue pair. -/
def Device.holdQp (d : Device) (qp : Nat) : Device :=
  { d with qm := { d.qm with reqs := d.qm.reqs.mapVals (fun _ q => if q.qp == qp then { q with boundOk := false } else q) } }

/-- R380: QM_OUTPUT_WAIT, once a furrow for each queue pair with a sequence that holds 4,096 B. -/
def outputWaits (d : Device) : Device :=
  let qs := ((d.seq.ast.filter (fun p => d.outputHeld p.2)).filterMap (fun p => (d.req? p.2.req).map (·.qp))).eraseDups
  qs.foldl (fun d q => (d.raiseCtx 0x0B08 (d.qpCtx q) []).holdQp q) d

/-- R366, R367: stages of which no plot runs or is placed and every row is cancelled are dropped. -/
def dropDeadStages (tb : Timebase) (d : Device) : Device :=
  d.seq.stages.foldl (fun d p =>
    let dead := p.2.rows.all (fun i => match d.ent? i with | some e => d.cancelled e | none => true)
    if !dead || p.2.placed.length != p.2.ended.length then d
    else if p.2.placed.isEmpty then
      p.2.rows.foldl (fun d i => d.updEnt i (fun e => { e with stage := none }))
        { d with seq := { d.seq with
          stages := d.seq.stages.del p.1, freeing := d.seq.freeing.filter (fun f => f.2.2.2 != p.1) } }
    else endGenStage tb p.1 p.2 d) d

/-- R42, step 4, R361, R362: the sequence engine at a boundary. -/
def seqBoundary (tb : Timebase) (d : Device) : Device :=
  let d := { d with seq := { d.seq with kvSeen := [], stages := d.seq.stages.mapVals (fun _ t => { t with deferNow := false }) } }
  let d := stepBoundaries tb (dropDeadStages tb d)
  let d := entryBoundary tb d
  outputWaits (workList tb d)

/-! ### Registers -/

/-- R372: the SEQ registers that mirror the engine. -/
def seqView (d : Device) (k : Nat) : Option Nat :=
  let n := k / 2 ^ 32
  let code (s : SlotSt) : Nat := match s with | .empty => 0 | .loading => 1 | .ready => 2 | .leaving => 3
  if k == R.SEQ_STATUS then some (d.seq.ast.length <<< 16 + min 16383 d.seq.waiting.length)
  else if k == inst R.SEQ_MDL_CFG n then some (setBits 31 30 (match d.mdl? n with | some x => code x.st | none => 0) (d.reg k))
  else if k == inst R.SEQ_GRF_CFG n then some (setBits 31 30 (match d.seq.grafts.get? n with | some x => code x | none => 0) (d.reg k))
  else if R.SEQ_AST_DATA0 < k && k ≤ R.SEQ_AST_DATA0 + 60 then some (fieldLe d.seq.astCap (k - R.SEQ_AST_DATA0) 4)
  else none

end Sys2Proof.Machine
end

