-- ==== Sys2Proof/Machine/Settle.lean ====
section
/-! DEFINITION. How admitted requests come to their end (R384, R398, R400): what of a request still runs, the
completion of cancelled and faulting requests, and prompt-ready. -/
namespace Sys2Proof.Machine

/-- A placed plot is of a request. -/
def Device.placedFor (d : Device) (rid : Nat) (p : Placed) : Bool := (d.reqsOf p.req p.gen).contains rid

/-- R398: something of a request runs: a plot placed or running, an open handoff, a segment or an assembly at work, or
its sequence. -/
def Device.reqBusy (d : Device) (rid : Nat) : Bool :=
  d.plots.runs.any (fun p => p.2.aborted != some 0 && (d.reqsOf p.2.req p.2.gen).contains rid)
    || d.plots.sown.any (d.placedFor rid) || (d.plots.frozen.getD []).any (d.placedFor rid)
    || d.plots.handoffs.any (fun p => (d.reqsOf p.2.req p.2.gen).contains rid)
    || d.text.lanes.any (fun p => p.2.req == rid) || (match d.pasm.cur with | some c => c.1 == rid | none => false)
    || d.seq.ast.any (fun p => p.2.req == rid)

/-- What waits for a request and has not begun is dropped. -/
def Device.dropWaiting (d : Device) (rid : Nat) : Device :=
  { d with
    text := { d.text with queue := d.text.queue.filter (fun j => j.req != rid) },
    pasm := { d.pasm with queue := d.pasm.queue.filter (fun j => j.1 != rid) },
    seq := { d.seq with waiting := d.seq.waiting.erase rid, fullSeen := d.seq.fullSeen.erase rid } }

/-- R398, R400: a cancelled or faulting request completes once nothing of it runs and its text is written. Nothing of a
PLOT_UNLOAD runs; its unload stays accepted (R63). -/
def settleReq (tb : Timebase) (d : Device) (rid : Nat) : Device :=
  match d.req? rid with
  | none => d
  | some q =>
    if q.cancel.isNone then d else
    let d := d.dropWaiting rid
    if (d.ctx q.ctx).st == .resetting || d.reqBusy rid then d
    else
      let d := if q.genEnded then writeText rid 4097 d else d
      match d.req? rid with
      | none => d
      | some q => if q.genEnded && q.textOut != [] then d else completeReq tb rid d

def settleAll (tb : Timebase) (d : Device) : Device := (d.qm.reqs.map (·.1)).foldl (settleReq tb) d

/-- Text that waited for completion slots of a queue pair. -/
def settleTexts (tb : Timebase) (qp : Nat) (d : Device) : Device :=
  ((d.qm.reqs.filter (fun p => p.2.qp == qp && p.2.textOut != [])).map (·.1)).foldl (fun d r => settleGen tb r d) d

/-- R384: a request is prompt-ready. R396: by 240 furrows after its admission. -/
def promptReady (tb : Timebase) (d : Device) (rid : Nat) : Device :=
  let d := d.updReq rid (fun q => { q with
    ready := some tb.number,
    promptTokens := if q.promptGiven then (d.promptOf q).length else q.promptTokens,
    boundMiss := q.boundMiss || decide (240 < (tb.number - q.admitted).toNat) })
  match d.req? rid with
  | none => d
  | some q =>
    -- R342: a prompt over its budget starts no generation
    if q.generate && !q.conds.contains (5, 0x7C) then { d with seq := { d.seq with waiting := d.seq.waiting ++ [rid] } } else completeReq tb rid d

/-- The request waits for a boundary to be prompt-ready. -/
def Request.duePrompt (q : Request) (tb : Timebase) : Bool :=
  q.isPipeline && q.begun && q.ready.isNone && q.cancel.isNone && q.stagesDone && furLt q.admitted tb.number

/-- R384: the first boundary after the last stage of a request. -/
def promptBoundary (tb : Timebase) (d : Device) : Device :=
  ((d.qm.reqs.filter (fun p => p.2.duePrompt tb)).map (·.1)).foldl (promptReady tb) d

/-- R396, conditions 2: the furrow that begins is LOCKED and the module is not fenced. -/
def boundBoundary (tb : Timebase) (d : Device) : Device :=
  if tb.st == .locked && !d.brx.fenced then d
  else { d with qm := { d.qm with reqs := d.qm.reqs.mapVals (fun _ q => { q with boundOk := false }) } }

end Sys2Proof.Machine
end

