-- ==== Sys2Proof/Machine/QueuePairs.lean ====
section
/-! DEFINITION. Queue pairs (R376 to R381, R398, R399, R502): doorbells, the fetch of descriptors, errors, enabling and
disabling. -/
namespace Sys2Proof.Machine

/-! ### Requests that were not admitted -/

/-- The blank record of a descriptor: what its FINAL entry is written from where it is refused or cancelled. -/
def blankRequest (d : Device) (qp : Nat) (bytes : List Byte) (at_ : W48) : Request :=
  { qp := qp, ctx := d.qpCtx qp, cls := d.qpClass qp, bytes := bytes, blockBase := 0, admitted := at_, order := 0,
    begun := false, inRes := false, stages := [], res := [], conds := [], cancel := none, bindings := [], userSegs := true,
    invalidSeen := false, ready := none, boundOk := false, boundMiss := false, ties := 0, promptTokens := 0, passages := 0,
    cut := false, emitted := 0, stopIndex := 0xFFFFFFFF, stopString := 0xFF, deferred := 0, textNo := 0, textOut := [],
    genEnded := false, result := 0 }

/-- A descriptor that was not admitted completes with a status and a detail; no rule states its admission furrow, which
is a free value. -/
def endDesc (tb : Timebase) (qp code detail : Nat) (bytes : List Byte) (d : Device) : Device :=
  let (v, d) := d.free
  let r := blankRequest d qp bytes (v.setWidth 48)
  complete tb d { r with conds := if code == 0 then [] else [(code, detail)] }

/-! ### Errors and fetch (R378, R381) -/

/-- What the host still reads for a queue pair is ignored when it comes. -/
def Device.deadReads (d : Device) (q : Nat) : Device :=
  { d with host := { d.host with
    drds := d.host.drds.mapVals (fun _ p => if p.1 == q then (65535, p.2) else p),
    waiting := d.host.waiting.filter (fun w => !(w.1 == q && (match w.2 with | .drd .. => true | _ => false))) } }

/-- R381: a queue pair enters ERROR. -/
def qpError (q err : Nat) (d : Device) : Device :=
  let x := d.qp q
  ((d.setQp q { x with st := .error, lastErr := err, bells := [], requested := x.sqHead }).deadReads q).raiseCtx 0x0B01
    (d.qpCtx q) [(2, q), (1, err)]

/-- R378: the next descriptor of a queue pair is asked for, 256 B at a time, one at a time. -/
def fetchNext (q : Nat) (d : Device) : Device :=
  let x := d.qp q
  if x.st != .active || x.bells.isEmpty || x.sqHead == x.sqTail || x.requested != x.sqHead then d
  else match d.host.drds.leastFree 0 512 with
    | none => d
    | some tag =>
      let d := d.setQp q { x with requested := (x.sqHead + 1) % 65536 }
      let d := { d with host := { d.host with drds := d.host.drds.set tag (q, x.sqHead) } }
      d.access q (.drd tag (d.reg64 (qpReg R.QM_QP_SQ_BASE_LO q) + 256 * (x.sqHead % 2 ^ d.sqLog q)) 256)

/-- R440: an answer makes room among the 512 reads that the module holds at most; `before` is how many were outstanding. Where
there was none, the queue pairs that wait for one ask in turn. -/
def fetchFreed (before : Nat) (d : Device) : Device :=
  if before < 512 then d else (d.qm.qps.map (·.1)).foldl (fun d q => fetchNext q d) d

/-- The doorbells from the first that covers an index. -/
def bellsFrom (size i : Nat) (l : List (Nat × W48 × W48)) : List (Nat × W48 × W48) :=
  l.dropWhile (fun b => idxDiff b.1 i == 0 || size < idxDiff b.1 i)

/-! ### Cancellation (R398) -/

/-- The admitted request of a queue pair with a TAG, the earliest in ring order. -/
def Device.tagged (d : Device) (q tag : Nat) : Option Nat :=
  let l := d.qm.reqs.filter (fun p => p.2.qp == q && p.2.f 4 4 == tag)
  (l.foldl (fun (b : Option (Nat × Request)) p => match b with
    | some x => if p.2.order < x.2.order then some p else b
    | none => some p) none).map (·.1)

/-- R366: the sequence of a request is entered, so that a CANCEL sets its flag when it is accepted. -/
def Device.entered (d : Device) (rid : Nat) : Bool := d.seq.ast.any (fun e => e.2.req == rid)

/-- R385, R398: a CANCEL is fetched and takes its target: the admitted request with its TAG, else the descriptor with that TAG
that waits. A sequence is cancelled at once (R366); a descriptor no longer holds back its queue pair; all else is done at the
boundary. -/
def cancelIn (q : Nat) (bytes : List Byte) (d : Device) : Device :=
  let tag := fieldLe bytes 0x40 4
  let put (t : CancelTarget) (d : Device) : Device :=
    { d with qm := { d.qm with cancels := d.qm.cancels ++ [⟨q, bytes, t⟩] } }
  match d.tagged q tag with
  | some rid => put (.admitted rid) (if d.entered rid then d.cancelReq rid 0 else d)
  | none =>
    let x := d.qp q
    match x.fetched.find? (fun f => fieldLe f.bytes 4 4 == tag) with
    | some f => put (.fetched f.bytes) (d.setQp q { x with fetched := x.fetched.erase f })
    | none => put .none d

/-- R378: a descriptor is copied in, in ring order, and SQ_HEAD advances. R385: a CANCEL does not wait. -/
def copyIn (q : Nat) (bytes : List Byte) (d : Device) : Device :=
  let x := d.qp q
  match bellsFrom (2 ^ d.sqLog q) x.sqHead x.bells with
  | [] => d
  | b :: rest =>
    let head := (x.sqHead + 1) % 65536
    let y := { x with sqHead := head, requested := head, bells := if b.1 == head then rest else b :: rest }
    if fieldLe bytes 0 1 == 3 then cancelIn q bytes (d.setQp q y)
    else d.setQp q { y with fetched := y.fetched ++ [⟨bytes, b.2.1, b.2.2⟩] }

/-! ### Doorbells (R377) -/

def doorbellDiscard (q : Nat) (d : Device) : Device :=
  (d.inc R.QM_DOORBELL_DISCARDS).raiseCtx 0x0B02 (d.qpCtx q) []

/-- R378, R526: the furrow from which the descriptors of a doorbell are eligible. -/
def Timebase.eligibleFrom (tb : Timebase) : W48 := if tb.offset ≤ tb.point 140000 then tb.number + 1 else tb.number + 2

/-- A submission-tail doorbell. -/
def sqDoorbell (q v : Nat) (tb : Timebase) (d : Device) : Device :=
  let x := d.qp q
  let size := 2 ^ d.sqLog q
  if 65536 ≤ v || x.st != .active || (d.ctx (d.qpCtx q)).st == .resetting then doorbellDiscard q d
  else if size < idxDiff v x.sqTail || size < idxDiff v x.sqHead then qpError q 1 d
  else if v == x.sqTail then d
  else fetchNext q (d.setQp q { x with sqTail := v, bells := x.bells ++ [(v, tb.number, tb.eligibleFrom)] })

/-- DOORBELL_SQ_TAIL (R377, R378, R381). -/
def execDoorbellSqTail (qp value : Nat) (s : State) : Host.Outcome State Fault Refusal := .next (s.onDev (sqDoorbell qp value))

/-- R502: a vector is armed; unconsumed entries send its MSG at once. -/
def armQp (q : Nat) (d : Device) : Device :=
  let x := d.qp q
  let d := d.setQp q { x with armed := true }
  if x.cqTail == x.cqHead then d else d.announce q

/-- A completion-head doorbell. -/
def cqDoorbell (q v : Nat) (tb : Timebase) (d : Device) : Device :=
  let x := d.qp q
  if 65536 ≤ v || x.st == .disabled || (d.ctx (d.qpCtx q)).st == .resetting then doorbellDiscard q d
  else if idxDiff x.cqTail x.cqHead < idxDiff v x.cqHead then (if x.st == .error then d else qpError q 1 d)
  else
    let d := settleTexts tb q (d.setQp q { x with cqHead := v })
    if d.qpIrq q then armQp q d else d

/-- DOORBELL_CQ_HEAD (R377, R380, R381, R502). -/
def execDoorbellCqHead (qp value : Nat) (s : State) : Host.Outcome State Fault Refusal := .next (s.onDev (cqDoorbell qp value))

/-! ### Control (R376, R399, R404) -/

/-- R376: a DISABLED queue pair becomes ACTIVE. -/
def qpEnable (q : Nat) (d : Device) : Device :=
  if (d.qp q).st != .disabled then d
  else (d.setFld (qpReg R.QM_QP_CTRL q) 31 31 1).setQp q { offQp with st := .active, armed := d.qpIrq q }

/-- QP_ENABLE (R376). -/
def execQpEnable (qp : Nat) (s : State) : Host.Outcome State Fault Refusal := .next (s.onReg (fun _ d => qpEnable qp d))

/-- R399: a queue pair is disabled, `abort` for MODE 1. -/
def qpDisable (q : Nat) (abort : Bool) (tb : Timebase) (d : Device) : Device :=
  let x := d.qp q
  let d := (d.setFld (qpReg R.QM_QP_CTRL q) 31 31 0).setFld (qpReg R.QM_QP_CTRL q) 30 30 (boolBit abort)
  if x.st == .active || x.st == .error then
    let d := (d.setQp q { x with st := .draining, abort := abort, bells := [], fetched := [], requested := x.sqHead }).deadReads q
    x.fetched.foldl (fun d f => endDesc tb q 3 0x8B f.bytes d) d
  else if x.st == .draining && abort then d.setQp q { x with abort := true }
  else d

/-- QP_DISABLE (R399). -/
def execQpDisable (qp mode : Nat) (s : State) : Host.Outcome State Fault Refusal := .next (s.onReg (qpDisable qp (mode % 2 == 1)))

/-- R502: QM_QP_CTRL.IRQ as written. -/
def qpIrqWrite (q irq : Nat) (d : Device) : Device :=
  let d := d.setFld (qpReg R.QM_QP_CTRL q) 27 27 irq
  if irq % 2 == 0 then d.setQp q { d.qp q with armed := false }
  else if (d.qp q).st == .active then armQp q d else d

/-- QP_IRQ_ARM (R502). -/
def execQpIrqArm (qp irq : Nat) (s : State) : Host.Outcome State Fault Refusal := .next (s.onReg (fun _ d => qpIrqWrite qp irq d))

/-- R398: one CANCEL ends at a boundary, with what it targets. -/
def actCancel (tb : Timebase) (d : Device) (c : CancelJob) : Device := match c.target with
  | .none => endDesc tb c.qp 0x0E 0x8A c.bytes d
  | .admitted rid => endDesc tb c.qp 0 0 c.bytes (d.cancelReq rid 0)
  | .fetched b => endDesc tb c.qp 0 0 c.bytes (endDesc tb c.qp 3 0 b d)

/-- The CANCELs of a boundary; those of a context that is RESETTING are ended by its reset. -/
def cancelBoundary (tb : Timebase) (d : Device) : Device :=
  let keep (c : CancelJob) : Bool := (d.ctx (d.qpCtx c.qp)).st == .resetting
  let now := d.qm.cancels.filter (fun c => !keep c)
  now.foldl (actCancel tb) { d with qm := { d.qm with cancels := d.qm.cancels.filter keep } }

/-- CANCEL (R385, R398): a CANCEL of a queue pair is fetched. -/
def cancelFetched (q tag target : Nat) (d : Device) : Device :=
  if (d.qp q).st != .active then d
  else cancelIn q (sliceBytes (leBytes 4 3 ++ leBytes 4 tag ++ List.replicate 0x38 0 ++ leBytes 4 target) 0 256) d

def execCancel (qp tag target : Nat) (s : State) : Host.Outcome State Fault Refusal :=
  .next (s.onDev (fun _ d => cancelFetched qp tag target d))

/-- R399: the admitted requests of a queue pair that drains in abort mode are cancelled. -/
def abortQp (d : Device) (q : Nat) : Device :=
  (d.qm.reqs.filter (fun r => r.2.qp == q)).foldl (fun d r => d.cancelReq r.1 0x8B) d

/-- R399: what drains in abort mode at a boundary is cancelled: a drain that was turned into an abort, too. -/
def abortBoundary (d : Device) : Device :=
  (d.qm.qps.filter (fun p => p.2.st == .draining && p.2.abort)).foldl (fun d p => abortQp d p.1) d

/-- R399: a queue pair with no admitted request ends its drain. -/
def drainEnd (d : Device) (p : Nat × QueuePair) : Device :=
  if p.2.st == .draining && !d.qm.reqs.any (fun r => r.2.qp == p.1) && !d.qm.cancels.any (fun c => c.qp == p.1) then
    d.setQp p.1 { p.2 with st := .disabled, abort := false, armed := false }
  else d

def drainQps (d : Device) : Device := d.qm.qps.foldl drainEnd d

end Sys2Proof.Machine
end

