-- ==== Sys2Proof/Machine/Windows.lean ====
section
/-! DEFINITION. Window definitions (R90 to R94, R374): the commit, its seven checks, and what takes effect at a
boundary. -/
namespace Sys2Proof.Machine

def Device.ctxSel (d : Device) : Nat := d.fld R.QM_CTX_SEL 9 0
def Device.winSel (d : Device) : Nat := d.fld R.QM_WIN_SEL 3 0

/-- The key of a window register of a context's slot. -/
def winReg (a c slot : Nat) : Nat := inst a (16 * c + slot)

/-- The staged definition of a slot. -/
def Device.stagedWin (d : Device) (c slot : Nat) : Window :=
  ⟨d.fld (winReg R.QM_WIN_ATTR c slot) 31 30, d.fld (winReg R.QM_WIN_ATTR c slot) 29 29 == 1,
    (d.reg (winReg R.QM_WIN_BASE_LO c slot) + 2 ^ 32 * d.reg (winReg R.QM_WIN_BASE_HI c slot)) % 2 ^ 44,
    (d.reg (winReg R.QM_WIN_SIZE_LO c slot) + 2 ^ 32 * d.reg (winReg R.QM_WIN_SIZE_HI c slot)) % 2 ^ 44⟩

/-- R374: the staged definition of the selected slot is committed; its check is to come. -/
def winCommit (d : Device) : Device :=
  { d with qm := { d.qm with checks := d.qm.checks ++ [(d.ctxSel, d.winSel, d.stagedWin d.ctxSel d.winSel)] } }

/-- WIN_COMMIT (R374). -/
def execWinCommit (s : State) : Host.Outcome State Fault Refusal := .next (s.onReg (fun _ d => winCommit d))

/-- R404: the definition in force is copied into the staged registers. -/
def winFetch (d : Device) : Device :=
  let c := d.ctxSel
  let n := d.winSel
  let w := (d.ctx c).win n
  let d := (d.setFld (winReg R.QM_WIN_ATTR c n) 31 30 w.tier).setFld (winReg R.QM_WIN_ATTR c n) 29 29 (boolBit w.perm)
  let d := (d.setReg (winReg R.QM_WIN_BASE_LO c n) w.base).setReg (winReg R.QM_WIN_BASE_HI c n) (w.base / 2 ^ 32)
  (d.setReg (winReg R.QM_WIN_SIZE_LO c n) w.size).setReg (winReg R.QM_WIN_SIZE_HI c n) (w.size / 2 ^ 32)

/-- WIN_FETCH (R404). -/
def execWinFetch (s : State) : Host.Outcome State Fault Refusal := .next (s.onReg (fun _ d => winFetch d))

/-! ### The checks (R374) -/

/-- What other contexts hold of a range: definitions in force, pending, kept by running plots or until they end (R94),
and the ranges of open handoffs (R122): writable or not, base, size. -/
def Device.claims (d : Device) (c : Nat) : List (Bool × Nat × Nat) :=
  let ofWin (w : Window) : Bool × Nat × Nat := (w.perm, w.base, w.size)
  (d.qm.ctxs.filter (fun p => p.1 != c)).flatMap (fun p =>
      ((p.2.wins.map (·.2) ++ p.2.pendWins.map (·.2)).filter (fun w => w.tier != 0)).map ofWin
        ++ p.2.held.map (fun h => (true, h.1, h.2.1)))
    ++ (d.plots.runs.filter (fun p => p.2.ctx != c)).flatMap (fun p => (p.2.wins.filter (fun w => w.tier != 0)).map ofWin)
    ++ (d.plots.handoffs.filter (fun p => p.2.ctx != c)).flatMap (fun p =>
        (true, p.2.addr, p.2.len) :: p.2.srcRanges.map (fun r => (false, r.1, r.2)))

/-- R91 -/
def Device.winClash (d : Device) (c : Nat) (w : Window) : Bool :=
  (d.claims c).any (fun x => (w.perm || x.1) && overlaps w.base w.size x.2.1 x.2.2)

/-- R145: within the context's SHARE pages, or for a READ window within pool objects it may read. A READ window of both kinds of
page passes (DESIGN CHOICE, log entry 165). -/
def Device.shareOk (d : Device) (c : Nat) (w : Window) : Bool :=
  (pagesOf w.base w.size).all (fun p => match d.page p with
    | .share x => x == c
    | .pool id => !w.perm && (match d.obj? id with
      | some o => o.readableBy c
          && max w.base (pageBase p) ≥ o.base && min (w.base + w.size) (pageBase p + 0x200000) ≤ o.base + o.span
      | none => false)
    | .free => false)

/-- The bytes of a range from `a` to `e` lie in SEALED objects that the context may use; `fuel` bounds the objects. -/
def Device.sealedCover (d : Device) (c e : Nat) : Nat → Nat → Bool
  | 0, _ => false
  | fuel + 1, a =>
    if e ≤ a then true
    else match d.objAt a with
      | some (_, o) => o.st == .sealed && o.readableBy c && d.sealedCover c e fuel (o.base + o.span)
      | none => false

/-- R374: the reason of the first check that fails, or 0. -/
def winCheck (d : Device) (c : Nat) (w : Window) : Nat :=
  if w.tier == 0 then 0
  else if !(w.base % 4096 == 0 && w.size % 4096 == 0 && 4096 ≤ w.size) then 1
  else if !((w.tier == 1 && within w.base w.size csBase csSize) || (w.tier == 2 && within w.base w.size lpBase (lpObjEnd - lpBase))) then 2
  else if w.tier == 2 && w.perm then 3
  else if d.winClash c w then 4
  else if w.tier == 1 && !d.shareOk c w then 5
  else if w.tier == 2 && !d.sealedCover c (w.base + w.size) (d.store.objects.length + 1) w.base then 6
  else if (d.ctx c).st != .active && (d.ctx c).st != .off then 7
  else 0

/-- R374: the check of the earliest commit ends. -/
def winCheckDone (d : Device) : Device :=
  match d.qm.checks with
  | [] => d
  | (c, n, w) :: rest =>
    let r := winCheck d c w
    let d := { d with qm := { d.qm with checks := rest, winLast := d.qm.winLast.set (16 * c + n) r } }
    if r != 0 then d.raiseCtx 0x0B03 c [(1, n), (1, r)]
    else d.setCtx c { d.ctx c with pendWins := (d.ctx c).pendWins.set n w }

/-- WIN_CHECK_DONE (R374). -/
def execWinCheckDone (s : State) : Host.Outcome State Fault Refusal := .next (s.onDev (fun _ d => winCheckDone d))

/-! ### The boundary (R94) -/

/-- The pending definitions of a context take effect. The bytes of a READ_WRITE window that changes stay assigned until
the plots started before have ended. -/
def applyWins (d : Device) (c : Nat) (x : Context) : Context :=
  let runs := (d.plots.runs.filter (fun p => p.2.ctx == c)).map (·.1)
  let gone := (x.pendWins.filterMap (fun p => x.wins.get? p.1)).filter (fun w => w.perm && w.tier != 0)
  { x with
    wins := x.pendWins.foldl (fun t p => if p.2.tier == 0 then t.del p.1 else t.set p.1 p.2) x.wins,
    pendWins := [],
    held := x.held ++ (if runs.isEmpty then [] else gone.map (fun w => (w.base, w.size, runs))) }

def windowBoundary (d : Device) : Device :=
  { d with qm := { d.qm with ctxs := d.qm.ctxs.mapVals (fun c x => if x.pendWins.isEmpty then x else applyWins d c x) } }.releaseHeld

end Sys2Proof.Machine
end

