-- ==== Sys2Proof/Machine/Reserve.lean ====
section
/-! DEFINITION. The reservations that the supervisor sets (R392 to R395) and the module counters of QM. -/
namespace Sys2Proof.Machine

/-- Compute dies whose array domain of a kind (0 prefill, 1 decode) is ON. -/
def Device.diesOn (d : Device) (kind : Nat) : Nat := ((List.range 4).filter (fun n => d.domOn (4 * n + kind))).length

/-- QM_CTX_RES and CLASSES as last accepted, applied or not. -/
def Device.resAccepted (d : Device) (c : Nat) : Nat := d.qm.stagedRes.getD c (d.reg (inst R.QM_CTX_RES c))
def Device.classesAccepted (d : Device) (c : Nat) : Nat := d.qm.stagedClasses.getD c (d.classes c)

/-- R395: the sum of DEC_RES over the contexts granted class 0, one context with other values. -/
def Device.decodeSum (d : Device) (c dec classes : Nat) : Nat :=
  ((List.range 1024).map (fun x =>
    if x == c then (if bit 0 classes then dec else 0)
    else if bit 0 (d.classesAccepted x) then bits 11 0 (d.resAccepted x) else 0)).sum

/-- R395: a write is refused. -/
def cfgRefused (c : Option Nat) (reason : Nat) (d : Device) : Device :=
  (d.setFld R.QM_CFG_STATUS 23 16 reason).raiseReq ⟨0x0B04, 4, c, []⟩

/-- The reason a QM_C0 value is refused for, or 0. -/
def c0Reason (d : Device) (a v : Nat) : Nat :=
  if a == R.QM_C0_PREFILL then (if 4000 < v then 1 else if 1000 * d.diesOn 0 < v then 2 else 0)
  else if a == R.QM_C0_DEPTH then (if v == 0 || 240 < v then 1 else 0)
  else if a == R.QM_C0_SIEVE then (if 21 < bits 13 8 v || 32 < bits 5 0 v then 1 else 0)
  else if 81920 < v then 1 else 0

/-- The bits of a QM_C0 register that are not reserved. -/
def c0Bits (a v : Nat) : Nat :=
  if a == R.QM_C0_PREFILL then v % 2 ^ 12 else if a == R.QM_C0_DEPTH then v % 2 ^ 8
  else if a == R.QM_C0_SIEVE then 256 * bits 13 8 v + bits 5 0 v else v % 2 ^ 17

/-- R395: a write of a QM_C0 register is checked. -/
def c0Write (a v : Nat) (d : Device) : Device :=
  let v := c0Bits a v
  let r := c0Reason d a v
  if r != 0 then cfgRefused none r d
  else { d with qm := { d.qm with stagedC0 := d.qm.stagedC0.set a v } }.setFld R.QM_CFG_STATUS 23 16 0

/-- R395: the reason a QM_CTX_RES value is refused for, or 0. -/
def resReason (d : Device) (c v : Nat) : Nat :=
  if 8000 < bits 28 16 v || 4000 < bits 11 0 v then 1
  else if 1000 * d.diesOn 1 < d.decodeSum c (bits 11 0 v) (d.classesAccepted c) then 3
  else if bits 28 16 v < bits 11 0 v then 4 else 0

def ctxResWrite (c v : Nat) (d : Device) : Device :=
  let v := bits 28 16 v * 65536 + bits 11 0 v
  let r := resReason d c v
  if r != 0 then cfgRefused (some c) r d
  else { d with qm := { d.qm with stagedRes := d.qm.stagedRes.set c v } }.setFld R.QM_CFG_STATUS 23 16 0

/-- R395: CLASSES may be written. -/
def classesOk (d : Device) (c classes : Nat) : Bool :=
  !bit 0 classes || d.decodeSum c (bits 11 0 (d.resAccepted c)) classes ≤ 1000 * d.diesOn 1

def classesWrite (c v : Nat) (d : Device) : Device :=
  if !classesOk d c v then cfgRefused (some c) 3 d
  else { d with qm := { d.qm with stagedClasses := d.qm.stagedClasses.set c v } }.setFld R.QM_CFG_STATUS 23 16 0

/-- R395: a checked write: of a QM_C0 register, of QM_CTX_RES, or of the CLASSES of QM_CTX_CTRL of the selected context. -/
def resWrite (a v : Nat) (d : Device) : Device :=
  if a == R.QM_CTX_RES then ctxResWrite d.ctxSel v d
  else if a == R.QM_CTX_CTRL then classesWrite d.ctxSel (bits 27 25 v) d
  else if R.QM_C0_PREFILL ≤ a && a ≤ R.QM_C0_UNITS && a % 4 == 0 then c0Write a v d
  else d

/-- QM_RES_WRITE (R395). -/
def execQmResWrite (addr value : Nat) (s : State) : Host.Outcome State Fault Refusal :=
  .next (s.onReg (fun _ d => resWrite addr (value % 2 ^ 32) d))

/-- R393: B. -/
def Device.bucketMost (d : Device) : Nat := d.fld R.QM_C0_PREFILL 11 0 * d.fld R.QM_C0_DEPTH 7 0

/-- R42, step 2: the reservations that passed their check are applied; the bucket is capped (R393). -/
def reserveBoundary (d : Device) : Device :=
  let d := d.qm.stagedC0.foldl (fun d p => d.setReg p.1 p.2) d
  let d := d.qm.stagedRes.foldl (fun d p => d.setReg (inst R.QM_CTX_RES p.1) p.2) d
  let d := d.qm.stagedClasses.foldl (fun d p => d.setFld (inst R.QM_CTX_CTRL p.1) 27 25 p.2) d
  { d with qm := { d.qm with stagedC0 := [], stagedRes := [], stagedClasses := [], bucket := min d.qm.bucket d.bucketMost } }

/-- R404: the module counters of QM. -/
def qmCounters : List Nat :=
  [R.QM_ADMITTED, R.QM_REJECTED, R.QM_C0_IN_RES, R.QM_C0_BEYOND, R.QM_BOUND_MISSES, R.QM_DOORBELL_DISCARDS, R.QM_CANCELS]

/-- QM_CNT_CLR (R404). -/
def execQmCntClr (s : State) : Host.Outcome State Fault Refusal := .next (s.onReg (fun _ d => d.clear qmCounters))

end Sys2Proof.Machine
end

