-- ==== Sys2Proof/Machine/Contexts.lean ====
section
/-! DEFINITION. The states of contexts (R373, R399 to R401): enabling, disabling, faults resumed, and the context reset. -/
namespace Sys2Proof.Machine

def Device.updCtx (d : Device) (c : Nat) (f : Context → Context) : Device := d.setCtx c (f (d.ctx c))

/-- R404: QM_CTX_CTRL.ENABLE written 1. -/
def ctxEnable (d : Device) : Device :=
  let c := d.ctxSel
  let st := (d.ctx c).st
  if st == .draining then d
  else
    let d := d.setFld (inst R.QM_CTX_CTRL c) 31 31 1
    if st == .off then d.updCtx c (fun x => { x with enabling := true }) else d

/-- CTX_ENABLE (R404). -/
def execCtxEnable (s : State) : Host.Outcome State Fault Refusal := .next (s.onReg (fun _ d => ctxEnable d))

/-- The queue pairs of a context that are not DISABLED. -/
def Device.liveQps (d : Device) (c : Nat) : List Nat :=
  (d.qm.qps.filter (fun p => p.2.st != .disabled && d.qpCtx p.1 == c)).map (·.1)

/-- R399: QM_CTX_CTRL.ENABLE written 0. -/
def ctxDisable (abort : Bool) (tb : Timebase) (d : Device) : Device :=
  let c := d.ctxSel
  let st := (d.ctx c).st
  let d := (d.setFld (inst R.QM_CTX_CTRL c) 31 31 0).setFld (inst R.QM_CTX_CTRL c) 30 30 (boolBit abort)
  let d := d.updCtx c (fun x => { x with enabling := false })
  if st == .active || st == .faulted || st == .draining then
    (d.liveQps c).foldl (fun d q => qpDisable q abort tb d) (d.updCtx c (fun x => { x with st := .draining, resume := false }))
  else d

/-- CTX_DISABLE (R399). -/
def execCtxDisable (mode : Nat) (s : State) : Host.Outcome State Fault Refusal := .next (s.onReg (ctxDisable (mode % 2 == 1)))

/-- R401, step 1: the admitted requests of a context are cancelled with CONTEXT_RESET, whatever cancelled them before. -/
def Request.resetCancel (q : Request) : Request :=
  { q with cancel := some 0x89, conds := q.conds.filter (fun x => x.1 != 3) ++ [(3, 0x89)] }

/-- The open handoffs of a context close at a boundary as if their deadline had come. -/
def closeContext (c : Nat) (at_ : W48) (d : Device) : Device :=
  { d with plots := { d.plots with handoffs := d.plots.handoffs.mapVals (fun _ h =>
    if h.ctx == c && furLt at_ h.deadline then { h with deadline := at_ } else h) } }

/-- R401, step 1. -/
def ctxReset (tb : Timebase) (d : Device) : Device :=
  let c := d.ctxSel
  if (d.ctx c).st == .resetting then d
  else
    let d := d.updCtx c (fun x => { x with st := .resetting, enabling := false, resume := false })
    let d := { d with qm := { d.qm with reqs := d.qm.reqs.mapVals (fun _ q => if q.ctx == c then q.resetCancel else q) } }
    closeContext c (tb.number + 1) d

/-- CTX_RESET (R401). -/
def execCtxReset (s : State) : Host.Outcome State Fault Refusal := .next (s.onReg ctxReset)

/-- R400: QM_CTX_CTRL.RESUME written 1. -/
def ctxResume (d : Device) : Device :=
  let c := d.ctxSel
  if (d.ctx c).st == .faulted then d.updCtx c (fun x => { x with resume := true }) else d

/-- CTX_RESUME (R400). -/
def execCtxResume (s : State) : Host.Outcome State Fault Refusal := .next (s.onReg (fun _ d => ctxResume d))

/-! ### The end of a context reset (R401, steps 2 to 4) -/

/-- A plot of the context runs or is placed. -/
def Device.ctxRuns (d : Device) (c : Nat) : Bool :=
  d.plots.runs.any (fun p => p.2.ctx == c) || d.plots.sown.any (fun p => p.ctx == c)
    || (d.plots.frozen.getD []).any (fun p => p.ctx == c)

/-- The completions of step 2. -/
def resetCompletions (tb : Timebase) (c : Nat) (d : Device) : Device :=
  let rs := (d.qm.reqs.filter (fun p => p.2.ctx == c)).map (·.1)
  let d := rs.foldl (fun d r => endReq tb r (writeText r 4097 (d.dropWaiting r))) d
  let d := { d with
    text := { d.text with lanes := d.text.lanes.filter (fun p => !rs.contains p.2.req) },
    pasm := { d.pasm with cur := d.pasm.cur.filter (fun p => !rs.contains p.1) } }
  let own (p : Nat × QueuePair) : Bool := d.qpCtx p.1 == c
  let d := (d.qm.qps.filter own).foldl (fun d p => p.2.fetched.foldl (fun d f => endDesc tb p.1 3 0x89 f.bytes d) d) d
  let mine := d.qm.cancels.filter (fun x => d.qpCtx x.qp == c)
  let d := mine.foldl (fun d x => (match x.target with
    | .fetched b => endDesc tb x.qp 3 0x89 x.bytes (endDesc tb x.qp 3 0x89 b d)
    | .none | .admitted _ => endDesc tb x.qp 3 0x89 x.bytes d)) d
  { d with qm := { d.qm with cancels := d.qm.cancels.filter (fun x => d.qpCtx x.qp != c) } }

/-- R333, R372, R401: a sequence of a context that is reset ends CANCELLED, with the text that is left of it. -/
def resetSeq (d : Device) (p : Nat × SeqEnt) : Device :=
  let (e, bad) := p.2.endText
  let n := boolBit e.tok.isSome -- R361: the token of a step whose boundary has not come
  let d := if d.windowFault e.req then d else d.inc R.SEQ_CANCELS
  ((d.incBy R.SEQ_TOKENS n).incBy R.TEXT_INVALID_SEQ bad).updReq e.req (fun q => { q with
    emitted := e.emitted + n, deferred := e.deferred, textOut := q.textOut ++ e.out })

/-- R368: AST entries, stages and records of the requests of a context. -/
def resetSequences (c : Nat) (d : Device) : Device :=
  let es := d.seq.ast.filter (fun p => (match d.req? p.2.req with | some q => q.ctx == c | none => false))
  let ents := es.map (·.1)
  let mine (m : Nat) : Bool := d.mdlOwner m == c
  let d := es.foldl resetSeq d
  { d with
    seq := { d.seq with
      ast := d.seq.ast.filter (fun p => !ents.contains p.1),
      stages := d.seq.stages.filter (fun p => !mine p.2.model),
      freeing := d.seq.freeing.filter (fun b => !mine b.1) },
    esp := { d.esp with
      engines := d.esp.engines.filter (fun p => !ents.contains p.2.ast),
      queue := d.esp.queue.filter (fun j => !ents.contains j.ast) } }

/-- Model slots and graft entries owned by the context are released at once. -/
def resetModels (c : Nat) (d : Device) : Device :=
  let d := (d.seq.models.filter (fun p => d.mdlOwner p.1 == c)).foldl (fun d p =>
    ((dropPendRes p.1 (d.setMdl p.1 none)).setFld (mdlReg R.SEQ_MDL_WEIGHTS p.1) 31 16 0).setFld (mdlReg R.SEQ_MDL_CMD p.1) 13 13 0) d
  (d.seq.grafts.filter (fun p => d.grfOwner p.1 == some c)).foldl (fun d p => d.setGrf p.1 none) d

/-- Share objects and share pages of a context, with the operations that name its share objects (R150, R159). -/
def resetShare (c : Nat) (d : Device) : Device :=
  let objs := (d.store.objects.filter (fun p => p.2.tier == 1 && !p.2.inPool && p.2.owner == some c)).map (·.1)
  let rel (t : TierOp) : Bool := t.op == 5 && objs.contains t.obj
  let cp (t : TierOp) : Bool := t.op == 3 && (objs.contains t.obj || objs.contains t.src)
  let d := d.store.ops.foldl (fun d t => if rel t then tierDone t.obj 0 d else if cp t then tierDone t.obj 3 d else d) d
  let d := { d with store := { d.store with ops := d.store.ops.filter (fun t => !rel t && !cp t) } }
  let d := objs.foldl (fun d i => d.dropObj i) d
  let pages := (d.store.pages.filter (fun p => p.2 == .share c)).map (·.1)
  pages.foldl (fun d p => d.setPage p .free) d

/-- A register of the context's reset domain (R12, R13). -/
def Device.ctxReg (d : Device) (c k : Nat) : Bool :=
  let a := k % 2 ^ 32
  let n := k / 2 ^ 32
  (R.QM_QP_CTRL ≤ a && a < R.QM_CTX_SEL && d.qpCtx ((a - R.QM_QP_CTRL) / 64) == c)
    || (R.QM_CTX_CTRL ≤ a && a < R.QM_WIN_SEL && n == c)
    || (R.QM_WIN_ATTR ≤ a && a ≤ R.QM_WIN_STATUS && n / 16 == c)

/-- The queue pairs and the registers of a context return to reset. -/
def resetRegisters (c : Nat) (d : Device) : Device :=
  let qps := (d.qm.qps.filter (fun p => d.qpCtx p.1 == c)).map (·.1)
  let d := qps.foldl (fun d q => d.deadReads q) d
  { d with
    regs := d.regs.filter (fun p => !d.ctxReg c p.1),
    qm := { d.qm with
      qps := d.qm.qps.filter (fun p => !qps.contains p.1),
      checks := d.qm.checks.filter (fun x => x.1 != c),
      winLast := d.qm.winLast.filter (fun p => p.1 / 16 != c),
      stagedRes := d.qm.stagedRes.del c, stagedClasses := d.qm.stagedClasses.del c,
      ctxs := d.qm.ctxs.del c } }

/-- R391: shard work of the service context ends with it. -/
def resetShards (c : Nat) (d : Device) : Device :=
  if d.fld R.BRX_SVC 9 0 != c then d
  else { d with
    brx := { d.brx with jobs := [] },
    sieve := { d.sieve with
      searches := d.sieve.searches.filter (fun p => p.2.shard.isNone), waiting := d.sieve.waiting.filter (fun x => x.shard.isNone) } }

/-- R401, steps 2 to 4. -/
def finishReset (tb : Timebase) (c : Nat) (d : Device) : Device :=
  let d := resetSequences c d
  let d := resetCompletions tb c d
  let d := resetShare c (resetModels c (resetShards c d))
  let d := { d with plots := { d.plots with dir := d.plots.dir.filter (fun p => p.1 / 65536 != c) } }
  (resetRegisters c d).raiseCtx 0x0B06 c []

def resetBoundary (tb : Timebase) (d : Device) : Device :=
  (d.qm.ctxs.filter (fun p => p.2.st == .resetting)).foldl (fun d p => if d.ctxRuns p.1 then d else finishReset tb p.1 d) d

/-- R401, step 1: what a context that is RESETTING issued since closes at the boundary too. -/
def resetCloses (tb : Timebase) (d : Device) : Device :=
  (d.qm.ctxs.filter (fun p => p.2.st == .resetting)).foldl (fun d p => closeContext p.1 tb.number d) d

/-! ### The boundary (R399, R400, R404) -/

/-- One context: OFF becomes ACTIVE, a drain ends, a fault is resumed. -/
def ctxAdvance (d : Device) (p : Nat × Context) : Device :=
  let c := p.1
  let x := p.2
  if x.st == .off && x.enabling then d.setCtx c { x with st := .active, enabling := false }
  else if x.st == .draining && !d.qm.qps.any (fun q => q.2.st == .draining && d.qpCtx q.1 == c) then d.setCtx c { x with st := .off }
  else if x.st == .faulted && x.resume && !d.qm.reqs.any (fun r => r.2.ctx == c) then d.setCtx c { x with st := .active, resume := false }
  else d

/-- R42, step 4, before admission: cancellations, ends of requests, drains, resets and states. -/
def contextBoundary (tb : Timebase) (d : Device) : Device :=
  let d := cancelBoundary tb (abortBoundary d)
  let d := settleAll tb d
  let d := drainQps (resetBoundary tb d)
  d.qm.ctxs.foldl ctxAdvance d

end Sys2Proof.Machine
end

