-- ==== Sys2Proof/Machine/Pasm.lean ====
section
/-! DEFINITION. The prompt assembler (R339 to R343): template slots, directives, packing. -/
namespace Sys2Proof.Machine

def Device.tpl? (d : Device) (n : Nat) : Option Template := d.pasm.tpls.get? n

def Device.setTpl (d : Device) (n : Nat) (v : Option Template) : Device :=
  { d with pasm := { d.pasm with tpls := match v with | some x => d.pasm.tpls.set n x | none => d.pasm.tpls.del n } }

/-! ### Loading (R339, R340) -/

/-- R340: the head of a directive, with its payload. -/
structure RawDir where
  op : Nat
  flags : Nat
  len : Nat
  arg : Nat
  payload : List Byte
  deriving DecidableEq, Repr

/-- The directives of an image from an offset up to END, and the offset after END; none where no END comes. -/
def readDirs (img : List Byte) : Nat → Nat → Option (List RawDir × Nat)
  | 0, _ => none
  | fuel + 1, off =>
    if img.length < off + 8 then none
    else
      let x : RawDir := ⟨fieldLe img off 1, fieldLe img (off + 1) 1, fieldLe img (off + 2) 2, fieldLe img (off + 4) 4,
        sliceBytes img (off + 8) (fieldLe img (off + 2) 2)⟩
      let next := off + 8 + (x.len + 7) / 8 * 8
      if img.length < next then none
      else if x.op == 0 then some ([], next)
      else (readDirs img fuel next).map (fun r => (x :: r.1, r.2))

/-- R340: where a directive stands: before the block, in it, after it. -/
def placesOk : Nat → List RawDir → Bool
  | blk, [] => blk != 1
  | blk, x :: t =>
    if x.op == 4 then blk == 0 && placesOk 1 t
    else if x.op == 5 || x.op == 6 then blk == 1 && placesOk blk t
    else if x.op == 7 then blk == 1 && placesOk 2 t
    else if x.op == 3 then blk != 1 && placesOk blk t
    else placesOk blk t

def dirOk (a : VocArrays) (tokens : Nat) (x : RawDir) : Bool :=
  if x.op == 1 then x.len ≤ 4096
  else if x.op == 2 then x.arg < tokens && (a.node x.arg).type == 1
  else if x.op == 3 then x.arg ≤ 7
  else if x.op == 4 then 1 ≤ bits 7 0 x.arg && bits 7 0 x.arg ≤ 64 && bits 1 0 x.flags ≤ 2 && x.len == 4
  else x.op ≤ 7

/-- R339: the tokens of trusted text. -/
def trustedTokens (d : Device) (v : VocSlot) (l : List Byte) : List Nat := tokenizePieces d v true (segmentPieces [l]).1

/-- R340: a directive as the template holds it. -/
def buildDir (d : Device) (v : VocSlot) (x : RawDir) : Directive :=
  if x.op == 1 then .lit (trustedTokens d v x.payload)
  else if x.op == 2 then .ctrl x.arg
  else if x.op == 3 then .seg x.arg (bit 0 x.flags) (bit 1 x.flags) (bit 2 x.flags)
  else if x.op == 4 then .pbegin (bits 7 0 x.arg) (bits 1 0 x.flags) (fieldLe x.payload 0 4)
  else if x.op == 5 then .ptext
  else if x.op == 6 then .prank
  else .pend

/-- The decimal text of a number. -/
def decimal (n : Nat) : List Byte :=
  if n < 10 then [BitVec.ofNat 8 (48 + n)] else [BitVec.ofNat 8 (48 + n / 10), BitVec.ofNat 8 (48 + n % 10)]

/-- R339: a load of a template fails, for a reason. -/
def tplEnd (n reason : Nat) (d : Device) : Device :=
  (d.setFld (inst R.PASM_TPL_CMD n) 23 16 reason).raise 0x0907 [(1, n), (1, reason)]

def pasmTplLoad (d : Device) : Device :=
  let n := d.fld R.PASM_TPL_SEL 7 0
  let cfg := d.reg (inst R.PASM_TPL_CFG n)
  let obj := d.fld (inst R.PASM_TPL_OBJ n) 15 0
  if (d.tpl? n).isSome then tplEnd n 2 d
  else match dataSource d obj (ownerOf cfg) with
    | some r => tplEnd n r d
    | none => d.setTpl n (some ⟨.loading, ownerOf cfg, obj, 8, 0, 0, [], [], false⟩)

/-- PASM_TPL_LOAD (R339). -/
def execPasmTplLoad (s : State) : Host.Outcome State Fault Refusal := .next (s.onReg (fun _ d => pasmTplLoad d))

def pasmTplRelease (d : Device) : Device :=
  let n := d.fld R.PASM_TPL_SEL 7 0
  match d.tpl? n with
  | some t => if t.st == .ready then d.setTpl n (some { t with st := .leaving }) else d
  | none => d

/-- PASM_TPL_RELEASE (R339). -/
def execPasmTplRelease (s : State) : Host.Outcome State Fault Refusal := .next (s.onReg (fun _ d => pasmTplRelease d))

/-- R346: bytes of template memory that loaded templates hold. -/
def Device.tplHeld (d : Device) : Nat := (d.pasm.tpls.map (fun p => p.2.bytes)).sum

/-- R339, R340: the checks of a template: the reason, or the template. -/
def tplCheck (d : Device) (t : Template) : Except Nat Template :=
  match d.obj? t.obj with
  | none => .error 2
  | some o =>
    let img := d.mem.readBytes o.base (min o.size 65536)
    let voc := fieldLe img 2 1
    let budget := fieldLe img 4 4
    if !(16 ≤ o.size && fieldLe img 0 2 == 1 && voc ≤ 7 && 1 ≤ budget && budget ≤ 131072) then .error 1
    else match d.voc? voc with
      | none => .error 2
      | some v =>
        if v.st != .ready then .error 2
        else if v.owner.isSome && v.owner != t.owner then .error 3
        else match readDirs img 8192 16 with
          | none => .error 1
          | some (dirs, len) =>
            if !(placesOk 0 dirs && dirs.all (dirOk (d.vocArrays v) v.tokens)) then .error 1
            else if 4194304 < d.tplHeld + len then .error 4
            else .ok { t with
              vocab := voc, budget := budget, bytes := len, dirs := dirs.map (buildDir d v),
              ranks := (List.range 64).map (fun i => trustedTokens d v (decimal (i + 1))), passed := true }

def templateLoadDone (n : Nat) (d : Device) : Device :=
  match d.tpl? n with
  | none => d
  | some t =>
    if t.st != .loading || t.passed then d else
    match tplCheck d t with
    | .error r => tplEnd n r (d.setTpl n none)
    | .ok t' => (d.setTpl n (some t')).setFld (inst R.PASM_TPL_CMD n) 23 16 0

/-- TEMPLATE_LOAD_DONE (R339). -/
def execTemplateLoadDone (slot : Nat) (s : State) : Host.Outcome State Fault Refusal :=
  .next (s.onDev (fun _ d => templateLoadDone slot d))

/-- Some admitted request that assembles a prompt is bound to a template slot. -/
def Device.tplBound (d : Device) (n : Nat) : Bool :=
  d.qm.reqs.any (fun p => p.2.usesTemplate && p.2.template == n)

/-- R339, R319: what a boundary does to the template slots: a load that passed its checks ends. -/
def tplBoundary (d : Device) : Device :=
  d.pasm.tpls.foldl (fun d p =>
    if p.2.st == .loading && p.2.passed then
      (d.setTpl p.1 (some { p.2 with st := .ready })).raise 0x0907 [(1, p.1), (1, 0)]
    else if p.2.st == .leaving && !d.tplBound p.1 then d.setTpl p.1 none
    else d) d

def Device.tplReady (d : Device) (n c : Nat) : Option Template := match d.tpl? n with
  | some t => if t.st == .ready && usableBy t.owner c then some t else none
  | none => none

/-! ### Packing (R341, R342) -/

/-- A part of a prompt outside the block, its tokens and whether and where it may be cut; or the block. -/
inductive Part where
  | toks (l : List Nat)
  | cuttable (l : List Nat) (fromStart : Bool)
  | block
  deriving DecidableEq, Repr

/-- The directives inside the block. -/
def insideBlock : List Directive → Bool → List Directive
  | [], _ => []
  | .pbegin _ _ _ :: t, _ => insideBlock t true
  | .pend :: t, _ => insideBlock t false
  | x :: t, b => if b then x :: insideBlock t b else insideBlock t b

/-- The parts of a template for a request, in order; `seg` gives the tokens of a user segment that is present. -/
def partsOf (seg : Nat → Option (List Nat)) : List Directive → Bool → List Part
  | [], _ => []
  | .pbegin _ _ _ :: t, _ => .block :: partsOf seg t true
  | .pend :: t, _ => partsOf seg t false
  | _ :: t, true => partsOf seg t true
  | .lit l :: t, false => .toks l :: partsOf seg t false
  | .ctrl c :: t, false => .toks [c] :: partsOf seg t false
  | .seg n _ cut fs :: t, false => match seg n with
    | some l => (if cut then .cuttable l fs else .toks l) :: partsOf seg t false
    | none => partsOf seg t false
  | .ptext :: t, false => partsOf seg t false
  | .prank :: t, false => partsOf seg t false

def Part.len : Part → Nat
  | .toks l => l.length
  | .cuttable l _ => l.length
  | .block => 0

/-- R341: cut the CUTTABLE segments, in template order, while tokens are over. -/
def cutParts : List Part → Nat → List Part × Nat
  | [], ovf => ([], ovf)
  | .cuttable l fs :: t, ovf =>
    let c := min ovf l.length
    let l' := if fs then l.drop c else l.take (l.length - c)
    let (t', o) := cutParts t (ovf - c)
    (.cuttable l' fs :: t', o)
  | p :: t, ovf => let (t', o) := cutParts t ovf; (p :: t', o)

/-- R341: the tokens of the block for a passage at a place, its own tokens at PTEXT. -/
def blockTokens (ranks : List (List Nat)) (place : Nat) (p : List Nat) (dirs : List Directive) : List Nat :=
  dirs.flatMap (fun x => match x with
    | .lit l => l
    | .ctrl c => [c]
    | .prank => ranks.getD (place - 1) []
    | .ptext => p
    | .seg _ _ _ _ | .pbegin _ _ _ | .pend => [])

/-- R341: the passages as they are placed: the block's tokens for each, how many were placed, and how many were cut. -/
def placePassages (t : Template) (dirs : List Directive) (maxp policy minTok : Nat) :
    List (List Nat) → Nat → Nat → List Nat × Nat × Nat
  | [], placed, _ => ([], placed, 0)
  | p :: ps, placed, room =>
    if maxp ≤ placed then ([], placed, 0)
    else
      let w := (blockTokens t.ranks (placed + 1) [] dirs).length
      if w + p.length ≤ room then
        let (l, n, c) := placePassages t dirs maxp policy minTok ps (placed + 1) (room - w - p.length)
        (blockTokens t.ranks (placed + 1) p dirs ++ l, n, c)
      else if policy == 1 then placePassages t dirs maxp policy minTok ps placed room
      else if policy == 0 && w + minTok ≤ room then
        (blockTokens t.ranks (placed + 1) (p.take (room - w)) dirs, placed + 1, 1)
      else ([], placed, 0)

/-- What an assembly gives. -/
structure Assembled where
  toks : List Nat
  placed : Nat
  cut : Nat
  ovf : Bool
  deriving DecidableEq, Repr

def joinParts (block : List Nat) (ps : List Part) : List Nat :=
  ps.flatMap (fun p => match p with | .toks l => l | .cuttable l _ => l | .block => block)

/-- R341, R342 -/
def assemble (t : Template) (budget : Nat) (seg : Nat → Option (List Nat)) (passages : List (List Nat)) : Assembled :=
  let ps := partsOf seg t.dirs false
  let fixed := (ps.map Part.len).sum
  let (ps, ovf) := cutParts ps (fixed - budget)
  if 0 < ovf then ⟨(joinParts [] ps).take budget, 0, 0, true⟩
  else
    let room := budget - (ps.map Part.len).sum
    match t.dirs.find? (fun x => match x with | .pbegin _ _ _ => true | _ => false) with
    | some (.pbegin maxp policy minTok) =>
      let (l, n, c) := placePassages t (insideBlock t.dirs false) maxp policy minTok passages 0 room
      ⟨joinParts l ps, n, c, false⟩
    | _ => ⟨joinParts [] ps, 0, 0, false⟩

/-- R384: the passages of an ASSEMBLE stage in rank order. -/
def rankedPassages (d : Device) (q : Request) (t : Stage) : List (List Nat) :=
  let a (i : Nat) : Nat := (t.args.getD i 0).toNat
  let l := (d.winBytes q.ctx (a 0) (a 1) (4 * a 2)).getD []
  (List.range (l.length / 4)).filterMap (fun i =>
    let n := fieldLe l (4 * i) 4
    if n < q.f 0x2E 2 then some (d.segTokens q (q.userSegCount + n)) else none)

/-- R343: the next job starts, in the order of R327. -/
def assemblyStart (d : Device) : Device :=
  if d.pasm.cur.isSome || !d.domOn 22 then d
  else
    let before (a b : Nat × Nat) : Bool := match d.req? a.1, d.req? b.1 with
      | some x, some y => if a.1 == b.1 then a.2 < b.2 else d.workBefore x y
      | _, _ => false
    match sortBy before d.pasm.queue with
    | [] => d
    | j :: _ => { d with pasm := { d.pasm with queue := d.pasm.queue.erase j, cur := some j } }

/-- ASSEMBLY_START (R343). -/
def execAssemblyStart (s : State) : Host.Outcome State Fault Refusal := .next (s.onDev (fun _ d => assemblyStart d))

/-- R339: the budget of a request. -/
def Request.budget (q : Request) (t : Template) : Nat :=
  let b := q.f 0x28 4
  if b != 0 && b < t.budget then b else t.budget

/-- R341, R342, R346: the prompt of a stage is packed and its list written. -/
def runAssembly (rid k : Nat) (q : Request) (st : Stage) (t : Template) (d : Device) : Device :=
  let seg (i : Nat) : Option (List Nat) := if i < q.userSegCount then some (d.segTokens q i) else none
  let r := assemble t (q.budget t) seg (rankedPassages d q st)
  let kept := r.toks.take (q.f 0x38 4)
  let d := d.winWrite q.ctx (q.f 0x2C 1) (q.f 0x30 8)
    (tokenList kept r.toks.length 0 (boolBit (q.f 0x38 4 < r.toks.length)) t.vocab)
  let d := d.updReq rid (fun q => { q with
    promptTokens := r.toks.length, passages := r.placed, cut := q.cut || 0 < r.cut,
    conds := if r.ovf then q.conds ++ [(5, 0x7C)] else q.conds })
  let d := ((d.inc R.PASM_PROMPTS).incBy R.PASM_PLACED r.placed).incBy R.PASM_CUT r.cut
  let d := if r.ovf then (d.inc R.PASM_OVER).raiseCtx 0x0908 q.ctx [] else d
  d.endStage rid k

def assemblyDone (d : Device) : Device :=
  match d.pasm.cur with
  | none => d
  | some (rid, k) =>
    let d := { d with pasm := { d.pasm with cur := none } }
    match d.req? rid with
    | none => d
    | some q => match q.stages[k]?, d.tpl? q.template with
      | some st, some t => runAssembly rid k q st t d
      | _, _ => d

/-- ASSEMBLY_DONE (R341). -/
def execAssemblyDone (s : State) : Host.Outcome State Fault Refusal := .next (s.onDev (fun _ d => assemblyDone d))

def pasmCounters : List Nat := [R.PASM_PROMPTS, R.PASM_PLACED, R.PASM_CUT, R.PASM_OVER]

/-- PASM_CNT_CLR (R346). -/
def execPasmCntClr (s : State) : Host.Outcome State Fault Refusal := .next (s.onReg (fun _ d => d.clear pasmCounters))

/-- R346: the PASM registers that mirror the unit. -/
def pasmView (d : Device) (k : Nat) : Option Nat :=
  let n := k / 2 ^ 32
  if k == R.PASM_STATUS then some (4194304 - min 4194304 d.tplHeld)
  else if k == inst R.PASM_TPL_CFG n then some (setBits 2 0 (match d.tpl? n with | some t => t.vocab % 8 | none => 0) (d.reg k))
  else if k == inst R.PASM_TPL_CMD n then
    let st := match d.tpl? n with | none => 0 | some g => (match g.st with | .empty => 0 | .loading => 1 | .ready => 2 | .leaving => 3)
    some (setBits 31 30 st (d.reg k))
  else none

end Sys2Proof.Machine
end

