-- ==== Sys2Proof/Machine/Sowing.lean ====
section
/-! DEFINITION. The composition of a sowing (R69 to R76): candidates and their order, what is held in each band, the
binding of units, groups, deferrals and the freeze. -/
namespace Sys2Proof.Machine

/-! ### Candidates (R69 to R71) -/

/-- A plot run that may be placed: `entry` is its stage and `k` its run, or its plot of the generation stage `gen`. -/
structure Cand where
  req : Nat
  gen : Option Nat
  entry : Nat
  k : Nat
  ctx : Nat
  handle : Nat
  plot : Plot
  cls : Nat
  inRes : Bool
  furrow : W48           -- R71: admission furrow, queue pair and ring order
  qp : Nat
  order : Nat
  pos : Nat              -- position in its chain
  deriving DecidableEq, Repr

/-- R71 -/
def Device.candBefore (d : Device) (a b : Cand) : Bool :=
  if a.furrow != b.furrow then furLt a.furrow b.furrow
  else if a.qp != b.qp then d.rrPlace a.qp < d.rrPlace b.qp
  else if a.order != b.order then a.order < b.order
  else a.pos < b.pos

/-- The runs of a request that are not placed, in chain order: of each stage the next ones, up to the runs that one
sowing can take. -/
def requestCands (d : Device) (rid : Nat) (q : Request) : List Cand :=
  if !q.isPipeline || !q.begun || q.cancel.isSome || (d.ctx q.ctx).st == .faulted || (d.ctx q.ctx).st == .resetting then []
  else q.stages.zipIdx.flatMap (fun p =>
    match p.1.type, d.plots.dir.get? (65536 * q.ctx + p.1.handle) with
    | 0, some plot => (List.range (min 125 (p.1.reps - p.1.placed))).map (fun i =>
        let k := p.1.placed + i
        ⟨rid, none, p.2, k, q.ctx, p.1.handle, plot, q.cls, q.inRes, q.admitted, q.qp, q.order, p.1.pos + k⟩)
    | _, _ => [])

/-- The earliest admitted row of a generation stage. -/
def stageHead (d : Device) (t : GenStage) : Option (SeqEnt × Request) :=
  (t.rows.filterMap (fun i => (d.ent? i).bind (fun e => (d.req? e.req).map (fun q => (e, q))))).foldl
    (fun (b : Option (SeqEnt × Request)) x => match b with
      | some y => if furLt x.1.entryFurrow y.1.entryFurrow then some x else b
      | none => some x) none

/-- The plots of a generation stage that are not placed. -/
def stageCands (d : Device) (g : Nat) (t : GenStage) : List Cand :=
  let c := d.mdlOwner t.model
  let dead := t.rows.all (fun i => match d.ent? i with | some e => d.cancelled e | none => true)
  match stageHead d t with
  | none => []
  | some (e, q) =>
    if dead || (d.ctx c).st == .faulted || (d.ctx c).st == .resetting then []
    else t.plots.zipIdx.filterMap (fun p =>
      if t.placed.contains p.2 then none
      else (d.plots.dir.get? (65536 * c + p.1.2)).map (fun plot =>
        ⟨0, some g, p.2, 0, c, p.1.2, plot, t.cls, t.inRes, e.entryFurrow, q.qp, q.order, p.1.1⟩))

/-- Every plot run of admitted requests and generation stages, in the order of R71. -/
def allCands (d : Device) : List Cand :=
  sortBy d.candBefore (d.qm.reqs.flatMap (fun p => requestCands d p.1 p.2) ++ d.seq.stages.flatMap (fun p => stageCands d p.1 p.2))

/-- Runs of a stage placed in the sowing that is composed. -/
def Device.placedNow (d : Device) (rid entry : Nat) : Nat :=
  (d.plots.composing.filter (fun p => p.gen.isNone && p.req == rid && p.entry == entry)).length

/-- R69: every earlier plot of the chain has ended or is placed in this sowing. -/
def chainReady (d : Device) (c : Cand) : Bool := match c.gen with
  | none => match d.req? c.req with
    | none => false
    | some q => q.stages.zipIdx.all (fun p =>
        let need := min (c.pos - p.1.pos) p.1.reps
        need ≤ p.1.ended ||
          (p.1.type == 0 && need ≤ p.1.placed && p.1.placed - d.placedNow c.req p.2 ≤ p.1.ended))
  | some g => match d.seq.stages.get? g with
    | none => false
    | some t => t.plots.zipIdx.all (fun p => c.pos ≤ p.1.1 || t.ended.contains p.2
        || d.plots.composing.any (fun x => x.gen == some g && x.entry == p.2))

/-- R69, R83: the handoffs that the run consumes close by the furrow that is sown. -/
def handoffsReady (n1 : W48) (d : Device) (c : Cand) : Bool :=
  d.plots.handoffs.all (fun p =>
    let h := p.2
    !(h.gen == c.gen && (c.gen.isSome || h.req == c.req) && h.bind == some (c.entry, c.k)) || furLe h.closes n1)

/-- R69: some earlier plot of the chain has not ended, and this is the run that a handoff it issues would be for. -/
def mayStillIssue (d : Device) (c : Cand) : Bool := match c.gen with
  | none => match d.req? c.req with
    | none => false
    | some q =>
      q.stages.any (fun t => t.ended < min (c.pos - t.pos) t.reps) && ((q.stages[c.entry]?).map (·.placed)) == some c.k
  | some g => match d.seq.stages.get? g with
    | none => false
    | some t => t.plots.zipIdx.any (fun p => p.1.1 < c.pos && !t.ended.contains p.2)

/-- R69: a handoff that the run's plot declares, and that an earlier plot of the chain may still issue, is not satisfied (DEDUCED,
log entry 122). -/
def handoffsToCome (d : Device) (c : Cand) : Bool :=
  mayStillIssue d c
    && c.plot.decls.zipIdx.any (fun x => !d.plots.issued.contains (runKey c.req c.gen c.entry c.k, x.2))

/-- The declaration that a key names is of a run that may yet be placed. -/
def Device.awaits (d : Device) (x : (Nat × Nat) × Nat) : Bool :=
  let (a, b) := x.1
  if a < 2 ^ 32 then (match d.req? a with
    | some q => (match q.stages[b / 65536]? with | some t => t.placed ≤ b % 65536 | none => false)
    | none => false)
  else match d.seq.stages.get? (a - 2 ^ 32) with
    | some t => !t.placed.contains b
    | none => false

/-! ### What is held (R72, R73) -/

/-- A plot that holds units in the furrow that is sown: its start, in clk from the boundary. -/
structure Holder where
  die : Nat
  start : Int
  plot : Plot
  phys : List (List Nat)
  promptPlaced : Bool    -- a PROMPT plot placed in this sowing
  deriving DecidableEq, Repr

/-- R73: the plots that run past the boundary, and those of this furrow's sowing that have yet to start. -/
def carried (tb : Timebase) (d : Device) : List Holder :=
  let len : Int := tb.len
  let l := d.plots.runs.map (fun p => (⟨p.2.plot.die, p.2.startOff - len, p.2.plot, p.2.phys, false⟩ : Holder))
    ++ d.plots.sown.filterMap (fun p => (d.plots.dir.get? (65536 * p.ctx + p.handle)).map (fun x =>
        (⟨p.die, (1250 * p.band : Int) - len, x, p.phys, false⟩ : Holder)))
  l.filter (fun h => decide (0 < h.start + h.plot.length))

/-- The own bands of a holder that overlap a band of the furrow. -/
def Holder.own (h : Holder) (band : Nat) : List Nat :=
  (List.range (bandsOf h.plot.length)).filter (fun j =>
    let a := h.start + 1250 * (j : Int)
    decide (a < 1250 * (band : Int) + 1250) && decide (1250 * (band : Int) < a + 1250))

/-- What a set of own bands of a plot names: masks by unit kind, the bitonic network, bank groups. -/
def namedMask (e : FpEntry) (kind : Nat) : Nat :=
  if kind == 0 then e.arrP else if kind == 1 then e.arrD else if kind == 2 then e.trowel else if kind == 3 then e.rake else e.ports

def unitTotal (kind : Nat) : Nat := if kind ≤ 1 then 8 else if kind == 2 then 16 else if kind == 3 then 32 else 16

def groupsAt (p : Plot) (e : FpEntry) : List Nat :=
  ((List.range 16).filter (fun w => bit w e.windows)).flatMap (fun w => p.groups.getD w [])

/-- A holder has the physical unit in a band. -/
def Holder.hasUnit (h : Holder) (kind unit band : Nat) : Bool :=
  (h.own band).any (fun j =>
    let m := namedMask (fpAt h.plot.fps j) kind
    (List.range (unitTotal kind)).any (fun u => bit u m && (h.phys.getD kind []).getD u 256 == unit))

/-! ### Binding and collisions -/

/-- Logical units of a plot, by kind: the resource parameters of its header (R56). -/
def unitCount (m : Memory) (p : Plot) (kind : Nat) : Nat := (m.read (p.base + 0x1C + kind)).toNat

/-- The bands of the furrow in which a plot that starts at band b names logical unit u. -/
def bandsNaming (p : Plot) (b kind u : Nat) : List Nat :=
  ((List.range (bandsOf p.length)).filter (fun j => bit u (namedMask (fpAt p.fps j) kind))).map (b + ·)

/-- The lowest physical unit of a kind that is free in a list of bands and not given. -/
def freeUnit (occ : List Holder) (die kind : Nat) (given bands : List Nat) : Option Nat :=
  (List.range (unitTotal kind)).find? (fun u => !given.contains u
    && !occ.any (fun h => h.die == die && bands.any (fun q => h.hasUnit kind u q)))

/-- The units of one kind, in ascending logical order; `fails` holds the logical unit that found none. -/
def bindKind (occ : List Holder) (p : Plot) (b kind : Nat) : Nat → List Nat → Except Nat (List Nat)
  | 0, given => .ok given
  | n + 1, given =>
    match freeUnit occ p.die kind given (bandsNaming p b kind given.length) with
    | none => .error given.length
    | some u => bindKind occ p b kind n (given ++ [u])

/-- R75: bind_units. Where a kind has no unit left: the kind and the logical unit. -/
def bindUnits (m : Memory) (occ : List Holder) (p : Plot) (b : Nat) : Except (Nat × Nat) (List (List Nat)) :=
  (List.range 5).foldl (fun r kind => match r with
    | .error e => .error e
    | .ok l => match bindKind occ p b kind (unitCount m p kind) [] with
      | .error u => .error (kind, u)
      | .ok us => .ok (l ++ [us])) (.ok [])

/-- R72: the holders a plot collides with at a start band, units apart. -/
def collisions (occ : List Holder) (p : Plot) (b : Nat) : List Holder :=
  (List.range (bandsOf p.length)).flatMap (fun j =>
    let q := b + j
    let e := fpAt p.fps j
    let here := occ.filter (fun h => !(h.own q).isEmpty)
    let gs := groupsAt p e
    let share := here.filter (fun h => (h.own q).any (fun i =>
      let x := fpAt h.plot.fps i
      (h.die == p.die && e.bitonic && x.bitonic) || (groupsAt h.plot x).any gs.contains))
    let onDie := here.filter (fun h => h.die == p.die)
    share ++ (if 16 ≤ onDie.length then onDie else []))

/-- The outcome of a plot at the bands it may start at: where it is placed, with its units, or whether it met a PROMPT
plot placed in this sowing (R75). Where no map of units fits at a band, the rule does not say with whom the plot collides: it
counts every PROMPT plot of this sowing that holds a unit of the kind that ran short (DESIGN CHOICE, log entry 118). -/
def tryBands (m : Memory) (occ : List Holder) (p : Plot) (limit room : Bool) : List Nat → Bool → Option (Nat × List (List Nat)) × Bool
  | [], met => (none, met)
  | b :: t, met =>
    if limit && 125 < b + bandsOf p.length then (none, met)
    else match bindUnits m occ p b with
      | .error (kind, u) =>
        let hit := occ.any (fun h => h.promptPlaced && h.die == p.die
          && (bandsNaming p b kind u).any (fun q => (List.range (unitTotal kind)).any (fun x => h.hasUnit kind x q)))
        tryBands m occ p limit room t (met || hit)
      | .ok map =>
        let cs := collisions occ p b
        if cs.isEmpty && room then (some (b, map), met)
        else tryBands m occ p limit room t (met || cs.any (·.promptPlaced))

/-! ### Domains (R74) -/

/-- The domains whose units a plot needs (R457). -/
def Plot.domains (p : Plot) : List Nat :=
  [4 * p.die + 3, 4 * p.die + 2] ++ (if p.fps.any (fun e => e.arrP != 0) then [4 * p.die] else [])
    ++ (if p.fps.any (fun e => e.arrD != 0) then [4 * p.die + 1] else [])

/-- R456: an off step for a domain waits for a boundary, or comes at the next one. -/
def Device.dueOff (tb : Timebase) (d : Device) (dom : Nat) : Bool := match d.power.staging with
  | none => false
  | some st => (st.step != 0 || furLe st.at_ (tb.number + 1))
      && st.entries.any (fun e => bits 31 30 e.w0 == 0 && bits 29 24 e.w0 == st.step && bits 23 0 e.w0 == R.PWR_DOM_TARGET
        && !bit dom e.w1)

def domainOff (tb : Timebase) (d : Device) (p : Plot) : Bool := p.domains.any (fun k => !d.domOn k || d.dueOff tb k)

/-! ### Placing -/

/-- R70: array-bands of what is placed, by a test. -/
def placedBands (d : Device) (f : Placed → Plot → Bool) : Nat :=
  (d.plots.composing.map (fun p => match d.plots.dir.get? (65536 * p.ctx + p.handle) with
    | some x => if f p x then x.arrayBands else 0
    | none => 0)).sum

/-- R394: DEC_RES and R375: CEIL. -/
def Device.decRes (d : Device) (c : Nat) : Nat := d.fld (inst R.QM_CTX_RES c) 11 0
def Device.ceil (d : Device) (c : Nat) : Nat := d.fld (inst R.QM_CTX_RES c) 28 16

/-- The class of what was placed. -/
def Device.placedClass (d : Device) (p : Placed) : Nat := match p.gen with
  | some g => match d.seq.stages.get? g with | some t => t.cls | none => 3
  | none => match d.req? p.req with | some q => q.cls | none => 3

/-- R70: the candidate belongs to a group now. -/
def inGroup (d : Device) (g : Nat) (c : Cand) : Bool :=
  let res := c.cls == 0 && c.inRes
  let ab := c.plot.arrayBands
  if g == 1 then
    res && c.plot.decode && decide (placedBands d (fun p x => x.decode && p.ctx == c.ctx && d.placedClass p == 0) + ab ≤ d.decRes c.ctx)
  else if g == 2 then
    res && !c.plot.decode && decide (placedBands d (fun p x => !x.decode && d.placedClass p == 0) + ab ≤ d.fld R.QM_C0_PREFILL 11 0)
  else if g == 3 then !c.plot.decode
  else c.plot.decode

/-- The key of a candidate: what was examined, deferred or placed. -/
def Cand.key (c : Cand) : Nat × Nat := runKey c.req c.gen c.entry c.k

/-- What the composer keeps while it works. -/
structure Composer where
  dev : Device
  occ : List Holder
  seen : List (Nat × Nat)   -- examined
  done : List (Nat × Nat)   -- placed, deferred or held: not examined again
  ovf : Bool               -- a candidate was left unexamined

/-- R75: earliest_band. -/
def earliestBand (d : Device) (c : Cand) : Nat :=
  (d.plots.composing.map (fun p =>
    let before := p.gen == c.gen && (match c.gen with
      | none => p.req == c.req && (match d.req? c.req with
        | some q => (match q.stages[p.entry]? with | some t => t.pos + (p.args.getD 7 0).toNat < c.pos | none => false)
        | none => false)
      | some g => (match d.seq.stages.get? g with
        | some t => (match t.plots[p.entry]? with | some x => x.1 < c.pos | none => false)
        | none => false))
    if before then (match d.plots.dir.get? (65536 * p.ctx + p.handle) with | some x => p.band + bandsOf x.length | none => 0) else 0)).foldl max 0

/-- R57: the seed that the requests of a generation stage's rows supply: that of its one request, or the one they agree on; 0,
which stands for the plot's own, where they differ. -/
def genSeed (d : Device) (g : Nat) : Nat :=
  match ((d.reqsOf 0 (some g)).filterMap (fun i => (d.req? i).map (fun q => q.f 8 8))).eraseDups with
  | [v] => v
  | _ => 0

/-- R396, condition 5: a decode step of which a plot is placed in another group than G1 is under no promise. -/
def outOfG1 (grp g : Nat) (d : Device) : Device := match d.seq.stages.get? g with
  | some t =>
    if grp == 1 || t.chain == 0 then d
    else t.rows.foldl (fun d i => match d.ent? i with
      | some e => d.updReq e.req (fun q => { q with boundOk := false })
      | none => d) d
  | none => d

/-- R57, R102, R384, R359: what a placed run starts with. -/
def candArgs (d : Device) (c : Cand) : Nat × List W64 := match c.gen with
  | none => match d.req? c.req with
    | some q => match q.stages[c.entry]? with
      | some t => (q.f 8 8, t.args.take 7 ++ [BitVec.ofNat 64 c.k])
      | none => (0, [])
    | none => (0, [])
  | some g => match d.seq.stages.get? g with
    | some t => (genSeed d g, d.genArgs t)
    | none => (0, [])

def placeCand (grp band : Nat) (phys : List (List Nat)) (c : Cand) (x : Composer) : Composer :=
  let d := x.dev
  let (seed, args) := candArgs d c
  let p : Placed := ⟨c.ctx, c.handle, c.req, c.entry, c.gen, grp, c.plot.die, band, phys, seed, args, false⟩
  let d := { d with plots := { d.plots with composing := d.plots.composing ++ [p] } }
  let d := match c.gen with
    | none => d.updReq c.req (fun q => q.setStage c.entry (fun t => { t with placed := t.placed + 1 }))
    | some g => outOfG1 grp g { d with seq := { d.seq with stages := d.seq.stages.upd g (fun t => { t with placed := t.placed ++ [c.entry] }) } }
  { x with
    dev := d, done := c.key :: x.done,
    occ := x.occ ++ [⟨c.plot.die, 1250 * band, c.plot, phys, !c.plot.decode⟩] }

/-- R363: a plot of a generation stage was deferred in this furrow, or held for its context's ceiling. -/
def noteDeferred (c : Cand) (d : Device) : Device := match c.gen with
  | none => d
  | some g => match d.seq.stages.get? g with
    | none => d
    | some t =>
      if t.deferNow then d
      else
        let d := { d with seq := { d.seq with stages := d.seq.stages.set g { t with deferNow := true } } }
        t.rows.foldl (fun d i => match d.ent? i with
          | some e => (d.setEnt i { e with deferred := e.deferred + 1 }).updReq e.req (fun q => { q with boundOk := false })
          | none => d) (d.inc R.SEQ_DEFERRALS)

/-- R375, R396: a candidate is held for its context's ceiling. -/
def holdCand (c : Cand) (x : Composer) : Composer :=
  let d := noteDeferred c x.dev
  let d := match c.gen with | none => d.updReq c.req (fun q => { q with boundOk := false }) | some _ => d
  { x with dev := d, done := c.key :: x.done }

/-- R74: SOW_DOMAIN_OFF, once per candidate. -/
def domainHold (c : Cand) (x : Composer) : Composer :=
  let d := x.dev
  let d := if d.plots.domainOffSeen.contains c.key then d
    else { d with plots := { d.plots with domainOffSeen := c.key :: d.plots.domainOffSeen } }.raiseDie 0x0205 c.plot.die c.ctx [(2, c.handle)]
  { x with dev := d, done := c.key :: x.done }

/-- R75: a candidate finds no place. -/
def deferCand (c : Cand) (met : Bool) (x : Composer) : Composer :=
  let d := noteDeferred c (x.dev.inc R.ARR_SOW_DEFERRED)
  let d := if c.plot.decode && met then (d.inc R.ARR_SOW_PREEMPT).inc (inst R.QM_CTX_PREEMPT c.ctx) else d
  { x with dev := d, done := c.key :: x.done }

/-- R75: one candidate of a group. -/
def examine (tb : Timebase) (grp cls : Nat) (x : Composer) (c : Cand) : Composer :=
  let d := x.dev
  if x.done.contains c.key || (3 ≤ grp && c.cls != cls) || !chainReady d c || !handoffsReady (tb.number + 1) d c
      || handoffsToCome d c then x
  else if !x.seen.contains c.key && 8192 ≤ x.seen.length then { x with ovf := true }
  else
    let x := if x.seen.contains c.key then x else { x with seen := c.key :: x.seen }
    if !inGroup d grp c then x
    else if domainOff tb d c.plot then domainHold c x
    else if d.ceil c.ctx < placedBands d (fun p _ => p.ctx == c.ctx) + c.plot.arrayBands then holdCand c x
    else
      let b0 := earliestBand d c
      let room := (d.plots.composing.filter (fun p => p.die == c.plot.die)).length < 512
      match tryBands d.mem x.occ c.plot (3 ≤ grp) room ((List.range (125 - b0)).map (b0 + ·)) false with
      | (some (b, map), _) => placeCand grp b map c x
      | (none, met) => deferCand c met x

/-- R75: the groups in order; G3 and G4 take class 0, then class 1, then class 2. -/
def composeSowing (tb : Timebase) (d : Device) : Composer :=
  let cs := allCands d
  let x : Composer := ⟨{ d with plots := { d.plots with composing := [] } }, carried tb d, [], [], false⟩
  [(1, 0), (2, 0), (3, 0), (3, 1), (3, 2), (4, 0), (4, 1), (4, 2)].foldl (fun x g => cs.foldl (examine tb g.1 g.2) x) x

/-- The sowing that is frozen; a realignment furrow is sown empty (R73). -/
def freezeSowing (tb : Timebase) (d : Device) : Device :=
  if d.plots.frozen.isSome then d
  else
    let d := earlyCloses tb d
    if tb.decision.realign.isSome || d.power.phase != .service then
      ({ d with plots := { d.plots with frozen := some [] } }.setFld R.ARR_SOW_STATUS 29 16 0).setFld R.ARR_SOW_STATUS 11 0 0
    else
      let x := composeSowing tb d
      let l := x.dev.plots.composing
      let d := { x.dev with plots := { x.dev.plots with
        frozen := some l, composing := [], issued := x.dev.plots.issued.filter x.dev.awaits } }
      let d := (d.setFld R.ARR_SOW_STATUS 29 16 x.seen.length).setFld R.ARR_SOW_STATUS 11 0 l.length
      if x.ovf then d.raise 0x0204 [] else d

/-- SOWING_FREEZE (R76): at offset 150,000, or at that distance from the end of a realignment furrow (R526). -/
def execSowingFreeze (s : State) : Host.Outcome State Fault Refusal := .next (s.atPoint (s.tb.point 150000) freezeSowing)

/-- R45: the requests of the plots placed in an UNLOCKED furrow carry UNLOCKED. -/
def unlockedConds (tb : Timebase) (d : Device) : Device :=
  if tb.st != .unlocked then d
  else (d.plots.frozen.getD []).foldl (fun d p => (d.reqsOf p.req p.gen).foldl (fun d r => d.cond r 0xC 0) d) d

/-- R42, step 5, R71: the frozen sowing starts, and the round-robin pointer advances. -/
def sowingStart (tb : Timebase) (d : Device) : Device :=
  let d := unlockedConds tb d
  { d with plots := { d.plots with sown := d.plots.frozen.getD [], frozen := none } }.setFld R.ARR_SOW_RR 11 0
    (d.fld R.ARR_SOW_RR 11 0 + 1)

/-- R73: the starts of the runs, counted from the furrow that begins. -/
def carryRuns (old : Timebase) (d : Device) : Device :=
  let d := (d.catchUp old.len none).carryStopped old.len
  { d with plots := { d.plots with runs := d.plots.runs.mapVals (fun _ r => { r with startOff := r.startOff - old.len }) } }

/-- R88 -/
def sowCounters : List Nat :=
  [R.ARR_SOW_DEFERRED, R.ARR_SOW_PREEMPT, R.ARR_SOW_LATE_ITEMS, R.ARR_SOW_HO_SHORT, R.ARR_SOW_HO_NONE]
    ++ (List.range 4).flatMap (fun die => [dieReg R.ARR_PSQ_STARTS die, dieReg R.ARR_PSQ_ABORTS die])

/-- ARR_SOW_CNT_CLR (R88). -/
def execArrSowCntClr (s : State) : Host.Outcome State Fault Refusal := .next (s.onReg (fun _ d => d.clear sowCounters))

/-- R88: the registers that mirror the sequencers. -/
def sowView (tb : Timebase) (d : Device) (k : Nat) : Option Nat :=
  if k == R.ARR_SOW_LOADED then some d.plots.dir.length
  else match (List.range 4).find? (fun die => k == dieReg R.ARR_PSQ_STATUS die) with
    -- a placement that did not start (R68) runs nothing; a sowing takes plots in SERVICE alone, and none of a function that drains
    | some die => some ((d.plots.runs.filter (fun p => p.2.plot.die == die && p.2.aborted != some 0)).length <<< 16
        + (tb.offset / 1250) <<< 8 + boolBit (d.power.phase == .service && d.funcOn (4 * die + 2)))
    | none => none

end Sys2Proof.Machine
end

