-- ==== Sys2Proof/Machine/Admission.lean ====
section
/-! DEFINITION. Admission (R382 to R393): the order, the checks, the waits, what an admitted request holds, and how its
stages begin. -/
namespace Sys2Proof.Machine

/-! ### The descriptor and its block (R382, R383) -/

/-- Offsets of a descriptor that R382 lists no byte at. -/
def descReserved (i : Nat) : Bool := i == 0x13 || i == 0x2D || (0x3C ≤ i && i < 0x40) || 0x60 ≤ i

def zeroAt (l : List Byte) (n : Nat) (p : Nat → Bool) : Bool := (List.range n).all (fun i => !p i || byteAt l i == 0)

/-- Bytes of the stop block; none where the request has no stop. -/
def stopLen (q : Request) : Nat := if q.f 0x14 1 == 0 && q.f 0x15 1 == 0 then 0 else 64 + 128 * q.f 0x14 1

/-- The parts of a request block: offset and length. -/
def blockParts (q : Request) : List (Nat × Nat) :=
  [(q.f 0x40 8, 128 * q.f 0x10 1), (q.f 0x48 8, 32 * q.f 0x11 1), (q.f 0x50 8, 64 * q.segCount), (q.f 0x58 8, stopLen q)]

def stageBytes (q : Request) (m : Memory) (i : Nat) : List Byte := q.block m (q.f 0x40 8 + 128 * i) 128
def resBytes (q : Request) (m : Memory) (i : Nat) : List Byte := q.block m (q.f 0x48 8 + 32 * i) 32

/-- R383: one stage entry; the first has no stage before it to share its place with. -/
def stageOk (l : List Byte) (first : Bool) : Bool :=
  fieldLe l 0 1 ≤ 2 && fieldLe l 1 1 ≤ 1 && !(first && fieldLe l 1 1 == 1) && (fieldLe l 0 1 != 0 || fieldLe l 4 2 != 0)
    && zeroAt l 64 (6 ≤ ·)

/-- R387, check 1. -/
def fieldsOk (d : Device) (q : Request) : Bool :=
  let w := (d.ctx q.ctx).win (q.f 2 1)
  q.f 0 1 ≤ 2 && q.f 1 1 ≤ 7 && q.f 0x10 1 ≤ 32 && q.f 0x11 1 ≤ 64 && q.f 0x12 1 ≤ 8 && q.f 0x14 1 ≤ 8 && q.f 0x15 1 ≤ 16
    && q.f 0x2E 2 ≤ 1024 && q.f 3 1 ≤ 7 && q.f 0x2C 1 ≤ 15 && q.f 2 1 ≤ 15 && zeroAt q.bytes 256 descReserved
    && (q.f 0x1A 2 ≤ 4095 || q.f 0x1A 2 == 0xFFFF) && w.tier == 1
    && (!q.isPipeline ||
      ((blockParts q).all (fun p => p.2 == 0 || w.holds p.1 p.2)
        && (List.range (q.f 0x10 1)).all (fun i => stageOk (stageBytes q d.mem i) (i == 0))))

/-- R320: one segment reference. -/
def segRefOk (x : Context) (r : List Byte) : Bool :=
  let f := fieldLe r
  let w := if f 1 1 ≤ 15 then x.win (f 1 1) else noWindow
  let o := if f 2 1 ≤ 15 then x.win (f 2 1) else noWindow
  let ks := List.range (f 0 1)
  1 ≤ f 0 1 && f 0 1 ≤ 3 && f 3 1 ≤ 1 && 1 ≤ f 4 4 && f 4 4 ≤ 4194304 && f 8 8 % 64 == 0
    && o.perm && o.holds (f 8 8) (64 + 4 * f 4 4)
    && ks.all (fun k => w.holds (f (0x10 + 16 * k) 8) (f (0x18 + 16 * k) 4))
    && (ks.map (fun k => f (0x18 + 16 * k) 4)).sum ≤ 16777216
    && (List.range 3).all (fun k => f (0x1C + 16 * k) 4 == 0)

/-- R383: one reservation record. -/
def resRecOk (l : List Byte) : Bool :=
  let f := fieldLe l
  f 0 1 ≤ 4 && f 1 1 ≤ 7 && 1 ≤ f 4 2 && f 4 2 ≤ 1024 && f 4 2 < f 6 2 && f 6 2 ≤ 2048 && f 0xC 1 ≤ 21 && f 0xD 1 ≤ 15
    && f 0xE 1 ≤ 64 && f 0xF 1 == 0 && f 0x18 8 == 0

def readRes (l : List Byte) : Reservation :=
  let f := fieldLe l
  ⟨f 0 1, f 1 1, f 2 2, f 4 2, f 6 2, f 8 4, f 0xC 1, f 0xD 1, f 0xE 1, f 0x10 8, false⟩

/-- R384: the stages, each with its place in the chain. -/
def readStages (q : Request) (m : Memory) : List Stage :=
  ((List.range (q.f 0x10 1)).foldl (fun (a : List Stage × Nat × Nat) i =>
    let l := stageBytes q m i
    let reps := if fieldLe l 0 1 == 0 then fieldLe l 4 2 else 1
    let pos := if fieldLe l 1 1 == 1 then a.2.1 else a.2.2
    (a.1 ++ [⟨fieldLe l 0 1, fieldLe l 2 2, reps, (List.range 8).map (fun j => BitVec.ofNat 64 (fieldLe l (0x40 + 8 * j) 8)), pos, 0, 0⟩],
      pos, max a.2.2 (pos + reps))) ([], 0, 0)).1

/-- The record of a descriptor as admission examines it: its block read from the window as it stands. -/
def considered (d : Device) (qp : Nat) (bytes : List Byte) (at_ : W48) : Request :=
  let q := blankRequest d qp bytes at_
  let q := { q with blockBase := ((d.ctx q.ctx).win (q.f 2 1)).base }
  if q.isPipeline && fieldsOk d q then
    { q with stages := readStages q d.mem, res := (List.range (q.f 0x11 1)).map (fun i => readRes (resBytes q d.mem i)) }
  else q

/-! ### The checks (R387) -/

/-- R330: a stop string. -/
def stopOk (e : List Byte) : Bool :=
  1 ≤ fieldLe e 0 1 && fieldLe e 0 1 ≤ 64 && wellFormed (sliceBytes e 64 (fieldLe e 0 1))

/-- Check 5. -/
def handlesOk (d : Device) (q : Request) : Bool :=
  if q.f 0 1 == 2 then d.loaded q.ctx (q.f 0x40 2)
  else (q.stages.filter (fun t => t.type == 0)).all (fun t => d.loaded q.ctx t.handle) && q.res.all (fun r => d.loaded q.ctx r.handle)

/-- A grammar slot of a type (true for ALLOW) is READY and usable. -/
def Device.gramOk (d : Device) (allow : Bool) (c n : Nat) : Bool := match d.gram? n with
  | some g => g.st == .ready && g.allow == allow && usableBy g.owner c
  | none => false

/-- Check 6. -/
def slotsOk (d : Device) (q : Request) : Bool :=
  (!q.usesVocab || (d.vocReady q.vocab q.ctx).isSome) && (!q.usesTemplate || (d.tplReady q.template q.ctx).isSome)
    && (match q.grammar with | some g => d.gramOk false q.ctx g | none => true)
    && (match q.allow with | some g => d.gramOk true q.ctx g | none => true)

/-- R340: a SEG that is not OPTIONAL is present in the request. -/
def segsPresent (d : Device) (q : Request) : Bool :=
  !q.usesTemplate || (match d.tplReady q.template q.ctx with
    | some t => t.dirs.all (fun x => match x with | .seg n opt _ _ => opt || n < q.userSegCount | _ => true)
    | none => true)

/-- R393: C. -/
def charge (d : Device) (q : Request) : Nat :=
  (q.stages.map (fun t => match d.plots.dir.get? (65536 * q.ctx + t.handle) with
    | some p => if t.type == 0 && !p.decode then t.reps * p.arrayBands else 0
    | none => 0)).sum

/-- R393: the static test. -/
def staticTest (d : Device) (q : Request) : Bool :=
  let r := d.fld R.QM_C0_PREFILL 11 0
  let b := d.bucketMost
  let c := charge d q
  r != 0 && c ≤ b && q.f 0x1C 2 + (b - c + r - 1) / r ≤ 240

def Device.c0Beyond (d : Device) (c : Nat) : Bool := d.fld (inst R.QM_CTX_CTRL c) 24 24 == 1

/-- R387: the detail of the first check that fails. -/
def admitCheck (d : Device) (q : Request) : Option Nat :=
  if !fieldsOk d q then some 0x8C
  else if !d.granted q.ctx q.cls then some 0x8D
  else if q.isPipeline && !((List.range q.segCount).all (fun i => segRefOk (d.ctx q.ctx) (q.segRef d.mem i))
      && (List.range (q.f 0x11 1)).all (fun i => resRecOk (resBytes q d.mem i))) then some 0x8C
  else if q.isPipeline && !(List.range (q.f 0x14 1)).all (fun i => stopOk (q.block d.mem (q.f 0x58 8 + 64 + 128 * i) 128)) then some 0x8E
  else if !handlesOk d q then some 0x4B
  else if !slotsOk d q then some 0x7D
  else if !segsPresent d q then some 0x8C
  else if q.cls == 0 && !staticTest d q && !d.c0Beyond q.ctx then some 0x8F
  else none

/-! ### The waits (R388) -/

/-- R380: the queue pair's free completion slots number no more than its admitted requests. -/
def Device.held (d : Device) (qp : Nat) : Bool :=
  let x := d.qp qp
  2 ^ d.cqLog qp - idxDiff x.cqTail x.cqHead ≤ (d.qm.reqs.filter (fun p => p.2.qp == qp)).length

/-- R393: the request is admitted in reservation. -/
def inReservation (d : Device) (q : Request) : Bool := q.cls == 0 && staticTest d q && charge d q ≤ d.qm.bucket

/-- R389: every record is claimed, from A + FIRST_REL to A + LAST_REL − 1, or none: contexts that no powered engine of the mask
can give do not fit. -/
def claimRecords (a : W48) (inside : Bool) : List Reservation → Device → Option Device
  | [], d => some d
  | r :: t, d =>
    if r.sieveCtx != 0 && (d.engines r.engMask).isEmpty then none
    else match d.claim inside (furAdd a r.firstRel) (r.lastRel - r.firstRel) (d.resClaim r) with
      | some d => claimRecords a inside t d
      | none => none

/-- R388: n lane-bytes are claimed in a furrow. -/
def claimLanes (f : W48) (n : Nat) (d : Device) : Option Device :=
  let cur := d.qm.calLanes.getD f.toNat 0
  if n == 0 then some d
  else if 1250000 < cur + n then none
  else some { d with qm := { d.qm with calLanes := d.qm.calLanes.set f.toNat (cur + n) } }

/-- Bytes of the user segments. -/
def userBytes (d : Device) (q : Request) : Nat :=
  ((List.range q.userSegCount).map (fun i =>
    let r := q.segRef d.mem i
    ((List.range (fieldLe r 0 1)).map (fun k => fieldLe r (0x18 + 16 * k) 4)).sum)).sum

/-- R388, R389: what a request must find room for: the device with it claimed, or none. -/
def claimAll (d : Device) (q : Request) (inRes : Bool) : Option Device :=
  if !q.isPipeline then some d
  else (claimRecords q.admitted inRes q.res d).bind (fun d =>
    (claimLanes q.admitted (userBytes d q) d).bind (fun d => claimLanes (furAdd q.admitted (q.f 0x1E 2)) (q.f 0x20 4) d))

/-! ### Functions (R457, R458) -/

/-- The domains a request needs. -/
def Device.needs (d : Device) (q : Request) : List Nat :=
  if !q.isPipeline then []
  else
    let plots := (q.stages.filter (fun t => t.type == 0)).map (·.handle)
      ++ (if q.generate then (match d.mdl? (q.f 0x17 1) with
        | some x => (x.pre ++ x.resid ++ x.streamed).map (·.1)
        | none => []) else [])
    plots.flatMap (fun h => match d.plots.dir.get? (65536 * q.ctx + h) with | some p => p.domains | none => [])
      ++ q.res.flatMap (fun r =>
        if r.kind == 0 then (if r.engMask % 2 ^ 32 != 0 then [20] else []) ++ (if r.engMask / 2 ^ 32 != 0 then [21] else [])
        else if r.kind == 2 || r.kind == 4 then [18] else [])
      ++ (if q.userSegCount != 0 || q.generate || q.stages.any (fun t => t.type != 0) then [22] else [])

/-! ### Begin (R384) -/

/-- R384: an admitted PIPELINE begins: its user segments are queued, and the stages that may start do. -/
def pipelineBegin (rid : Nat) (d : Device) : Device :=
  match d.req? rid with
  | none => d
  | some q =>
    if !q.isPipeline || q.begun || q.cancel.isSome then d
    else
      let d := d.setReq rid { q with begun := true, userSegs := q.userSegCount == 0 }
      let d := { d with text := { d.text with queue := d.text.queue ++ (List.range q.userSegCount).map (fun i => SegJob.mk rid i none) } }
      d.startStages rid

/-- PIPELINE (R384): admitted request `req` begins. -/
def execPipeline (req : Nat) (s : State) : Host.Outcome State Fault Refusal := .next (s.onDev (fun _ d => pipelineBegin req d))

/-! ### Admission of one descriptor -/

inductive Considered where
  | wait
  | refused (d : Device)
  | admitted (d : Device)

/-- A refusal: its completion is written in the furrow. -/
def refuse (tb : Timebase) (q : Request) (detail : Nat) (d : Device) : Device :=
  complete tb ((d.inc R.QM_REJECTED).inc (inst R.QM_CTX_REJECTED q.ctx)) { q with conds := [(0x0E, detail)] }

/-- R404: the bin of a wait. -/
def histBin (wait : Nat) : Nat := min 15 (if wait ≤ 1 then 0 else (wait - 1).log2 + 1)

/-- What a request holds once admitted. -/
def install (tb : Timebase) (x : Desc) (q : Request) (inRes : Bool) (d : Device) : Device :=
  let rid := d.qm.nextReq
  let q := { q with
    order := d.qm.nextOrder, inRes := inRes, bindings := if q.isPipeline then d.bindIndexes q.ctx ++ d.bindTables q.ctx else [],
    boundOk := tb.st == .locked && !d.brx.fenced }
  let d := { d with qm := { d.qm with
    nextReq := rid + 1, nextOrder := d.qm.nextOrder + 1, reqs := d.qm.reqs.set rid q,
    bucket := if inRes then d.qm.bucket - charge d q else d.qm.bucket } }
  let d := (d.inc R.QM_ADMITTED).inc (inst R.QM_CTX_ADMITTED q.ctx)
  let d := if q.cls == 0 then d.inc (if inRes then R.QM_C0_IN_RES else R.QM_C0_BEYOND) else d
  let d := d.inc (inst (R.QM_CTX_HIST0 + 4 * histBin (tb.number - x.doorbell).toNat) q.ctx)
  if (d.needs q).any (fun n => d.power.funcs.getD n 0 != 0) then completeReq tb rid (d.cancelReq rid 0x99)
  else if q.f 0 1 == 2 then
    { d with plots := { d.plots with dir := d.plots.dir.upd (65536 * q.ctx + q.f 0x40 2) (fun p => { p with unloading := true }) } }
  else if q.isPipeline && q.promptGiven then promptReady tb d rid
  else d

/-- One descriptor at the head of its queue pair. -/
def consider (tb : Timebase) (qp : Nat) (x : Desc) (d : Device) : Considered :=
  let c := d.qpCtx qp
  let st := (d.ctx c).st
  if st == .faulted || st == .resetting || d.held qp then .wait
  else
    let q := considered d qp x.bytes tb.number
    match admitCheck d q with
    | some det => .refused (refuse tb q det d)
    | none =>
      let inRes := inReservation d q
      if st != .active || !classOpen tb q.cls || d.ctxFull c
          || (q.cls == 0 && !inRes && !d.c0Beyond c) then .wait
      else match claimAll d q inRes with
        | none => .wait
        | some d => .admitted (install tb x q inRes d)

/-! ### The boundary (R386) -/

/-- R386: of two queue pairs with an eligible descriptor, the one considered first. -/
def headBefore (tb : Timebase) (d : Device) (a b : Nat × Desc) : Bool :=
  let ca := d.qpClass a.1
  let cb := d.qpClass b.1
  if ca != cb then ca < cb
  else if a.2.doorbell != b.2.doorbell then (tb.number - b.2.doorbell).toNat < (tb.number - a.2.doorbell).toNat
  else d.rrPlace a.1 < d.rrPlace b.1

/-- The queue pair that is considered next, those of `skip` waiting. -/
def nextHead (tb : Timebase) (d : Device) (skip : List Nat) : Option (Nat × Desc) :=
  let heads := d.qm.qps.filterMap (fun p => match p.2.fetched with
    | x :: _ => if p.2.st == .active && furLe x.eligible tb.number && !skip.contains p.1 then some (p.1, x) else none
    | [] => none)
  heads.foldl (fun (b : Option (Nat × Desc)) p => match b with
    | some y => if headBefore tb d p y then some p else b
    | none => some p) none

def dropHead (qp : Nat) (d : Device) : Device := d.setQp qp { d.qp qp with fetched := (d.qp qp).fetched.drop 1 }

/-- R63, R385, R387: the loads and unloads admitted so far have run before the next descriptor is considered, since
check 5 and the next load see the handles they take and free. -/
def runLoads (tb : Timebase) (d : Device) : Device :=
  settleUnloads tb
    (((d.qm.reqs.filter (fun p => fieldLe p.2.bytes 0 1 == 1)).map (·.1)).foldl (fun d r => plotLoad tb r d) d)

/-- Descriptors are considered until none is left, or 1,024 are admitted; `n` counts the admissions. -/
def admitLoop (tb : Timebase) : Nat → List Nat → Nat → Device → Nat × Device
  | 0, _, n, d => (n, d)
  | fuel + 1, skip, n, d =>
    if 1024 ≤ n then (n, d)
    else match nextHead tb d skip with
      | none => (n, d)
      | some (qp, x) => match consider tb qp x (runLoads tb d) with
        | .wait => admitLoop tb fuel (qp :: skip) n (runLoads tb d)
        | .refused d => admitLoop tb fuel skip n (dropHead qp d)
        | .admitted d => admitLoop tb fuel skip (n + 1) (dropHead qp d)

/-- R396, condition 6: the queue pairs that R380 holds. -/
def holdBoundary (d : Device) : Device :=
  ((d.qm.reqs.map (fun p => p.2.qp)).eraseDups.filter d.held).foldl (fun d q => d.holdQp q) d

/-- R42, step 4, R386, R393: admission. -/
def admissionBoundary (tb : Timebase) (d : Device) : Device :=
  let d := holdBoundary d
  let d := { d with qm := { d.qm with bucket := min (d.qm.bucket + d.fld R.QM_C0_PREFILL 11 0) d.bucketMost } }
  let (n, d) := if d.power.phase == .service
    then admitLoop tb ((d.qm.qps.map (fun p => p.2.fetched.length + 1)).sum) [] 0 d else (0, d)
  d.setFld R.QM_STATUS 10 0 n

/-! ### Registers (R404) -/

def qpStCode : QpSt → Nat
  | .disabled => 0
  | .active => 1
  | .draining => 2
  | .error => 3

def ctxStCode : CtxSt → Nat
  | .off => 0
  | .active => 1
  | .draining => 2
  | .faulted => 3
  | .resetting => 4

/-- The registers of a queue pair that mirror it. -/
def qpView (d : Device) (q off : Nat) : Option Nat :=
  let x := d.qp q
  if off == 0x04 then some (qpStCode x.st <<< 30 + x.lastErr <<< 16)
  else if off == 0x18 then some x.sqTail
  else if off == 0x1C then some x.sqHead
  else if off == 0x20 then some x.cqTail
  else if off == 0x24 then some x.cqHead
  else if off == 0x28 then some (min 65535 x.fetched.length <<< 16 + min 65535 (d.qm.reqs.filter (fun p => p.2.qp == q)).length)
  else none

/-- The QM registers that mirror the queue manager. -/
def qmView (tb : Timebase) (d : Device) (k : Nat) : Option Nat :=
  let a := k % 2 ^ 32
  let n := k / 2 ^ 32
  if R.QM_QP_CTRL ≤ a && a < R.QM_CTX_SEL then qpView d ((a - R.QM_QP_CTRL) / 64) ((a - R.QM_QP_CTRL) % 64)
  else if a == R.QM_CTX_STATUS then some (ctxStCode (d.ctx n).st <<< 29 + min 65535 (d.ctxRequests n))
  else if a == R.QM_WIN_STATUS then
    -- R94, R404: a committed definition is pending while it is checked, and until it takes effect
    let pending := (d.ctx (n / 16)).pendWins.has (n % 16) || d.qm.checks.any (fun x => x.1 == n / 16 && x.2.1 == n % 16)
    some (boolBit pending <<< 31 + (d.qm.winLast.getD n 0) <<< 16)
  else if a == R.QM_STATUS then some (boolBit (classOpen tb 0) <<< 31 + d.fld k 10 0)
  else if a == R.QM_C0_BUCKET then some d.qm.bucket
  else none

end Sys2Proof.Machine
end

