-- ==== Sys2Proof/Machine/Arrays.lean ====
section
/-! DEFINITION. The array slot and the accumulation slot (R103 to R112, R115), the flow of rows, replay and
saturation (R198 to R204), and drains. -/
namespace Sys2Proof.Machine

def arrKey (kind arr : Nat) : Nat := 8 * kind + arr

/-- The band's footprint names the array. -/
def Run.namesArray (r : Run) (kind arr : Nat) : Bool := bit arr (if kind == 0 then r.fp.arrP else r.fp.arrD)

/-- Checks that every array instruction makes. -/
def arrExc (r : Run) (kind arr : Nat) : List Nat :=
  whenB (1 < kind || 7 < arr) 0x5B ++ whenB (!r.namesArray kind arr) 0x41

/-- R108 -/
def rampupExc (kind arr : Nat) (_ : Device) (r : Run) : List Nat :=
  arrExc r kind arr ++ whenB ((r.arr (arrKey kind arr)).st != .down) 0x5C

/-- R104: UP from issue + 48. -/
def rampupAct (kind arr : Nat) (d : Device) (r : Run) : Device × Run :=
  let x := r.arr (arrKey kind arr)
  (d.inc (dieReg R.ARR_RAMPS r.plot.die),
   r.setArr (arrKey kind arr) { x with st := .rampUp, rampDue := r.now + 48, upAt := r.elapsed })

/-- R108: an array's paths are all free. -/
def ArrayState.idle (x : ArrayState) (t : Nat) : Bool := x.wFree ≤ t && x.sFree ≤ t && x.dFree ≤ t

def rampdnExc (kind arr : Nat) (_ : Device) (r : Run) : List Nat :=
  let x := r.arr (arrKey kind arr)
  arrExc r kind arr ++ whenB (x.st != .up || !x.idle r.now) 0x5C

/-- R104: DOWN from issue + 48. -/
def rampdnAct (kind arr : Nat) (d : Device) (r : Run) : Device × Run :=
  let x := r.arr (arrKey kind arr)
  (d, r.setArr (arrKey kind arr) { x with st := .rampDown, rampDue := r.now + 48 })

/-- R108: a ramp completes. Nothing does so in a replay pause (R200). -/
def rampDone (i kind arr : Nat) (d : Device) : Device :=
  match d.run? i with
  | none => d
  | some r0 =>
    if r0.replay.isSome then d else
    let due := (r0.arr (arrKey kind arr)).rampDue
    let d := d.runUpTo i due 0
    match d.run? i with
    | none => d
    | some r =>
      let x := r.arr (arrKey kind arr)
      if x.rampDue != due then d -- an abort before it began another ramp
      else match x.st with
      | .rampUp => d.setRun i (r.setArr (arrKey kind arr) { x with st := .up })
      | .rampDown =>
        let (d, r) := settleArray (arrKey kind arr) r.elapsed r.now d r
        d.setRun i (r.setArr (arrKey kind arr) { r.arr (arrKey kind arr) with st := .down })
      | _ => d

/-- RAMP_DONE (R108). -/
def execRampDone (run kind arr : Nat) (s : State) : Host.Outcome State Fault Refusal :=
  .next (s.onDev (fun _ d => rampDone run kind arr d))

/-! ### Weights -/

def ldwExc (kind arr fmt sw sa soff : Nat) (d : Device) (r : Run) : List Nat :=
  let x := r.arr (arrKey kind arr)
  whenB (4 < fmt) 0x5B ++ arrExc r kind arr
    ++ memExc d r sw (r.areg sa + 64 * soff) (tileBytes kind fmt) false
    ++ whenB ((x.st != .rampUp && x.st != .up) || r.now < x.wFree) 0x5C

/-- R178: the tile is read in ascending order at the weight path's rate; the shadow weights are complete at
issue + L + T. -/
def ldwAct (kind arr fmt sw sa soff : Nat) (d : Device) (r : Run) : Device × Run :=
  let key := arrKey kind arr
  let x := r.arr key
  let t := tileClks kind fmt
  let rate := weightRate kind
  let a := r.addr sw (r.areg sa + 64 * soff)
  let l := r.lat sw
  let r' := r.setArr key { x with ldws := x.ldws ++ [⟨r.now, r.now + l + t, fmt, []⟩], ldwLast := r.now, wFree := r.now + t }
  let r' := (List.range t).foldl (fun r' k => r'.at (r.now + k) 32 (.ldwRead key r.now (a + k * rate) rate)) r'
  (d, r'.occupy (readOcc d l ((List.range t).flatMap (fun k => (unitsOf (a + k * rate) rate).map (fun u => (r.now + k, u))))))

/-- The LDW of an array that is complete first; of two that are complete in one clk, the earlier one. -/
def ArrayState.nextLdw (x : ArrayState) : Option LdwOp :=
  x.ldws.foldl (fun best l => match best with
    | some b => if l.due < b.due then some l else some b
    | none => some l) none

/-- R178: the shadow weights take the tile of the LDW that is complete first, whole. Nothing does so in a replay pause. -/
def ldwDone (i kind arr : Nat) (d : Device) : Device :=
  match d.run? i with
  | none => d
  | some r0 =>
    match r0.replay, (r0.arr (arrKey kind arr)).nextLdw with
    | none, some l0 =>
      let d := d.runUpTo i l0.due 0
      match d.run? i with
      | none => d
      | some r =>
        let x := r.arr (arrKey kind arr)
        match x.nextLdw with
        | none => d
        | some l =>
          (d.inc (dieReg R.ARR_WLOADS r.plot.die)).setRun i
            (r.setArr (arrKey kind arr) { x with shadow := ⟨some l.fmt, l.buf⟩, ldws := x.ldws.erase l })
    | _, _ => d

/-- LDW_DONE (R178). -/
def execLdwDone (run kind arr : Nat) (s : State) : Host.Outcome State Fault Refusal :=
  .next (s.onDev (fun _ d => ldwDone run kind arr d))

def swapwExc (kind arr : Nat) (_ : Device) (r : Run) : List Nat :=
  let x := r.arr (arrKey kind arr)
  arrExc r kind arr ++ whenB (x.st != .up || r.now < x.wFree || r.now < x.sFree || x.ldws.any (fun l => l.issue == x.ldwLast)) 0x5C

/-- R109: the shadow weights become active for every MM issued after this clk. -/
def swapwAct (kind arr : Nat) (d : Device) (r : Run) : Device × Run :=
  let x := r.arr (arrKey kind arr)
  (d, r.setArr (arrKey kind arr) { x with active := x.shadow })

/-! ### MM -/

/-- The streams of an MM: address of row 0, stride and bytes of each (R105, R112). -/
def mmStreams (r : Run) (s : ArrSlot) : List (Nat × Nat × Nat) :=
  let off := r.areg s.sa + 64 * s.soff
  if s.pack == 0 then [(off, rowStride s.kind s.fmt, rowStride s.kind s.fmt)]
  else
    let p := r.packs.getD s.pack []
    (List.range (packCount p)).map (fun i =>
      let st := packedStride s.fmt (packK p i)
      (off + packDelta p i, st, st))

def mmExc (s : ArrSlot) (d : Device) (r : Run) : List Nat :=
  let x := r.arr (arrKey s.kind s.arr)
  let packBad := s.pack != 0 && (match r.packs.get? s.pack with
    | none => true
    | some p => !packValid s.kind s.fmt p)
  whenB (4 < s.fmt || s.rows == 0 || accRows s.kind < s.drow + s.rows) 0x5B
    ++ arrExc r s.kind s.arr
    ++ (if packBad then whenB (!bit s.sw r.fp.windows) 0x41 else (mmStreams r s).flatMap (fun t => memExc d r s.sw t.1 (s.rows * t.2.1) false))
    ++ whenB (x.st != .up || r.now < x.sFree || !fmtMeets x.active.fmt s.fmt) 0x5C
    ++ whenB packBad 0x5E

/-- R176, R188, R189: the rows are streamed; an OVERWRITE takes the pending exponent. -/
def mmAct (s : ArrSlot) (d : Device) (r : Run) : Device × Run :=
  let key := arrKey s.kind s.arr
  let (d, r) := settleArray key r.elapsed r.now d r
  let x := r.arr key
  let l := r.lat s.sw
  let step := rowClks s.fmt
  let m : MmOp := {
    issue := r.now, issuedAt := r.elapsed, final0 := r.now + l + step + 2 * arrD s.kind, step := step, fmt := s.fmt,
    add := s.accf == 1, e0 := x.pendExp.getD (defaultE0 s.fmt), drow := s.drow, rows := s.rows, next := 0, tile := x.active,
    pack := if s.pack == 0 then none else some (r.packs.getD s.pack []), acts := [], nonfin := false }
  let streams := (mmStreams r s).map (fun t => (r.addr s.sw t.1, t.2.1, t.2.2))
  let r' := r.setArr key { x with
    sFree := r.now + s.rows * step, busyFrom := some r.elapsed, ops := x.ops ++ [m],
    streamed := x.streamed ++ [⟨r.now, m.arrival s.kind 0, step, s.rows⟩], pendExp := if s.accf == 1 then x.pendExp else none }
  let r' := (List.range s.rows).foldl (fun r' t =>
    r'.at (r.now + t * step) 32 (.mmRead key r.now t (streams.map (fun q => (q.1 + t * q.2.1, q.2.2))))) r'
  let us := (List.range s.rows).flatMap (fun t => ((streams.flatMap (fun q => unitsOf (q.1 + t * q.2.1) q.2.2)).eraseDups).map (fun u => (r.now + t * step, u)))
  (d, r'.occupy (readOcc d l us))

/-- R177: no MM of the array issued before has a row to write where this one writes next. -/
def ArrayState.mayWrite (x : ArrayState) (m : MmOp) : Bool :=
  let row := m.drow + m.next
  x.ops.all (fun y => !(y.issue < m.issue && y.drow + y.next ≤ row && row < y.drow + y.rows))

/-- R176, R201: of the rows that are not final, the one that reaches its final clk first; prefill before decode, then the
lower logical array, then the earlier MM. R177: a row of a later MM, which can overtake an earlier one whose window is REMOTE,
waits for the earlier MM's writes of it (DESIGN CHOICE, log entry 161). -/
def nextFinal (r : Run) : Option (Nat × MmOp × Nat) :=
  (r.arrays.flatMap (fun p => (p.2.ops.filter p.2.mayWrite).map (fun m => (p.1, m)))).foldl (fun best x =>
    let f := x.2.final0 + x.2.next * x.2.step
    match best with
    | some (_, _, g) => if f < g then some (x.1, x.2, f) else best
    | none => some (x.1, x.2, f)) none

/-- An MM of an array, by its issue clk, is changed. -/
def ArrayState.updOp (x : ArrayState) (m : MmOp) : ArrayState :=
  { x with ops := x.ops.map (fun o => if o.issue == m.issue then m else o) }

/-- R177: the next row of an MM is final with its entries. -/
def finishRow (r : Run) (key : Nat) (m : MmOp) (es : List AccEntry) : Run :=
  let x := (r.arr key).updOp { m with next := m.next + 1, acts := m.acts.del m.next }
  r.setArr key { x with
    rows := x.rows.set (m.drow + m.next) es, ops := x.ops.filter (fun o => o.issue != m.issue || o.next < o.rows) }

/-- R204: a row is saturated; the cause is a spent reserve (0) or the exponent limit (1). -/
def saturateRow (i key cause : Nat) (m : MmOp) (cols : List ColWork) (d : Device) (r : Run) : Device :=
  let die := r.plot.die
  let row := m.drow + m.next
  let d := d.inc (dieReg (if cause == 0 then R.ARR_ACC_SAT else R.ARR_ACC_EXP_LIMIT) die)
  let d := d.setReg (dieReg R.ARR_ACC_LAST die)
    (2 ^ 31 + cause <<< 30 + r.ctx <<< 20 + row <<< 10 + (key / 8) <<< 4 + key % 8)
  let d := d.setReg (dieReg R.ARR_ACC_LAST_PLOT die) r.handle
  let d := if r.satSeen then d else
    (d.reqsOf r.req r.gen).foldl (fun d q => d.cond q 7 (if cause == 0 then 0x68 else 0x69))
      (d.raiseDie 0x0402 die r.ctx
        [(2, r.handle), (1, key / 8), (1, key % 8), (2, row), (1, cause), (4, r.elapsed)])
  d.setRun i (finishRow { r with satSeen := true } key m (cols.map saturateCol))

/-- R198, R202: a row at its final clk, or at the end of a pause: it is written, or a replay begins, or it is
saturated. Where both causes hold, the exponent limit is the one recorded (DESIGN CHOICE, log entry 166). -/
def settleRow (i key : Nat) (m : MmOp) (cols : List ColWork) (d : Device) (r : Run) : Device :=
  if cols.all (fun c => !c.ovf) then d.setRun i (finishRow r key m (cols.map (fun c => ⟨c.v, c.e⟩)))
  else
    let high := cols.any (fun c => c.ovf && decide (123 < c.e))
    if high then saturateRow i key 1 m cols d r
    else if r.replaysLeft == 0 then saturateRow i key 0 m cols d r
    else
      let (d, r) := settleArrays r.elapsed r.now d r
      (d.inc (dieReg R.ARR_ACC_REPLAYS r.plot.die)).setRun i
        { r with replaysLeft := r.replaysLeft - 1, replay := some ⟨key, m.issue, r.pauses, cols⟩ }

/-- R198: the next row of a plot reaches its final clk. A read of that clk finds the row (R177), and where a pause begins
nothing else of the clk has come (R200). -/
def mmRowFinal (i : Nat) (d : Device) : Device :=
  match d.run? i with
  | none => d
  | some r0 =>
    if r0.aborted.isSome || r0.replay.isSome then d else
    match nextFinal r0 with
    | none => d
    | some (_, _, f) =>
      let d := d.runUpTo i f 0
      match d.run? i with
      | none => d
      | some r =>
        match (if r.aborted.isSome then none else nextFinal r) with
        | none => d
        | some (key, m, _) =>
          let kind := key / 8
          let x := r.arr key
          let acts := m.acts.getD m.next []
          let arr := m.arrival kind m.next
          let n := x.rowsBefore m.issue arr
          let cols := rowPass kind key r.seed (x.rowDraw n arr) m acts (fun _ => true)
            (startCols kind m (x.rows.get? (m.drow + m.next)))
          let nf := !m.nonfin && rowNonfin kind m acts (fun _ _ => true)
          let (d, r) := if nf then nonfinite key m d r else (d, r)
          let m := { m with nonfin := m.nonfin || nf }
          settleRow i key m cols d (r.setArr key (x.updOp m))

/-- MM_ROW_FINAL (R198). -/
def execMmRowFinal (run : Nat) (s : State) : Host.Outcome State Fault Refusal := .next (s.onDev (fun _ d => mmRowFinal run d))

/-- R199: the length of a replay pause. -/
def pauseLen (kind fmt : Nat) : Nat := 2 * arrD kind + rowClks fmt + 3

/-- R199: the exponents rise by 4 in the columns that overflowed; for an ADD their stored values are rescaled by the
foot's draw. -/
def raiseCols (seed key : Nat) (add : Bool) (foot : Tbl Nat) (cols : List ColWork) : List ColWork :=
  cols.mapIdx (fun j c =>
    if c.ovf then
      { c with e := c.e + 4, base := if add then rescale c.base (draw seed (unitId key 256 j) (foot.getD j 0)) else c.base }
    else c)

/-- R199, R200: the pause ends, and the row is formed again from the replay buffer. -/
def replayPauseEnd (i : Nat) (d : Device) : Device :=
  match d.run? i with
  | none => d
  | some r =>
    match r.replay with
    | none => d
    | some rp =>
      let x := r.arr rp.key
      match x.ops.find? (fun m => m.issue == rp.issue) with
      | none => d
      | some m =>
        let kind := rp.key / 8
        let cols := raiseCols r.seed rp.key m.add x.footDraws rp.cols
        let foot := if m.add then (rp.cols.zip (List.range rp.cols.length)).foldl (fun (t : Tbl Nat) c =>
            if c.1.ovf then t.set c.2 (t.getD c.2 0 + 1) else t) x.footDraws else x.footDraws
        let cols := rowPass kind rp.key r.seed (x.passDraw r.now) m (m.acts.getD m.next []) (fun c => c.ovf) cols
        let len := pauseLen kind m.fmt
        let r := { r.setArr rp.key { x with passes := x.passes ++ [r.now], footDraws := foot } with
          replay := none, pauses := rp.base + len
          -- a program whose start the pause moved (R200)
          trowels := r.trowels.mapVals (fun _ x => if x.running && r.now + rp.base ≤ x.started then { x with started := x.started + len } else x) }
        settleRow i rp.key m cols d r

/-- REPLAY_PAUSE_END (R199). -/
def execReplayPauseEnd (run : Nat) (s : State) : Host.Outcome State Fault Refusal :=
  .next (s.onDev (fun _ d => replayPauseEnd run d))

/-! ### The accumulation slot -/

/-- R175: the bytes of a drained row. -/
def drainRowBytes (kind ofmt : Nat) : Nat := arrD kind * ofmtBytes ofmt

def drainExc (kind arr ofmt dw da rbase rcnt : Nat) (d : Device) (r : Run) : List Nat :=
  let x := r.arr (arrKey kind arr)
  whenB (5 < ofmt || rcnt == 0 || accRows kind < 32 * rbase + 32 * rcnt) 0x5B ++ arrExc r kind arr
    ++ memExc d r dw (r.areg da) (32 * rcnt * drainRowBytes kind ofmt) true
    ++ whenB (x.st != .up || r.now < x.dFree) 0x5C

/-- R115: row j is read at issue + j and visible at issue + j + L. -/
def drainAct (kind arr ofmt dw da rbase rcnt : Nat) (d : Device) (r : Run) : Device × Run :=
  let key := arrKey kind arr
  let x := r.arr key
  let n := 32 * rcnt
  let rb := drainRowBytes kind ofmt
  let a := r.addr dw (r.areg da)
  let l := r.lat dw
  let r' := r.setArr key { x with dFree := r.now + n }
  let r' := (List.range n).foldl (fun r' j =>
    r'.at (r.now + j) 32 (.drainRow key ofmt (32 * rbase + j) (a + j * rb) (r.now + j + l))) r'
  (d, r'.occupy (writeOcc d ((List.range n).flatMap (fun j => (unitsOf (a + j * rb) rb).map (fun u => (r.now + j + l, u))))))

def sexpExc (kind arr : Nat) (_ : Device) (r : Run) : List Nat := arrExc r kind arr

/-- R188: the pending exponent of the OVERWRITE MMs issued from the next clk on. -/
def sexpAct (kind arr exp : Nat) (d : Device) (r : Run) : Device × Run :=
  (d, r.at (r.now + 1) 33 (.sexp (arrKey kind arr) (toSigned 8 exp)))

/-! ### Counters -/

/-- R185 -/
def arrCounters (die : Nat) : List Nat :=
  [R.ARR_P_BUSY_LO, R.ARR_P_BUSY_HI, R.ARR_D_BUSY_LO, R.ARR_D_BUSY_HI, R.ARR_P_UP_LO, R.ARR_P_UP_HI, R.ARR_D_UP_LO,
    R.ARR_D_UP_HI, R.ARR_WLOADS, R.ARR_NONFINITE, R.ARR_RAMPS].map (fun a => dieReg a die)

/-- R185: the clks of the runs of a die are counted up to a clk of the furrow. -/
def Device.settleCounts (die o : Nat) (d : Device) : Device :=
  let d := d.settleStopped (fun x => x.die == die && x.kind != 2) o
  (d.plots.runs.filter (fun p => p.2.plot.die == die)).foldl (fun d p =>
    match d.run? p.1 with
    | none => d
    | some r =>
      let e := max ((o : Int) - r.startOff).toNat r.elapsed
      let (d, r) := settleArrays e (if r.replay.isSome then r.now else e - r.pauses) d r
      d.setRun p.1 r) d

/-- ARR_CNT_CLR (R185). -/
def execArrCntClr (die : Nat) (s : State) : Host.Outcome State Fault Refusal :=
  .next (s.onReg (fun tb d => (d.settleCounts die tb.offset).clear (arrCounters die)))

/-- R209: ARR_ACC_CTRL.CNT_CLR also sets ARR_ACC_LAST.VALID to 0. -/
def accCntClr (die : Nat) (d : Device) : Device :=
  (d.clear ([R.ARR_ACC_REPLAYS, R.ARR_ACC_SAT, R.ARR_ACC_EXP_LIMIT, R.ARR_ACC_DRAIN_SAT].map (fun a => dieReg a die))).setFld
    (dieReg R.ARR_ACC_LAST die) 31 31 0

/-- ARR_ACC_CNT_CLR (R209). -/
def execArrAccCntClr (die : Nat) (s : State) : Host.Outcome State Fault Refusal :=
  .next (s.onReg (fun _ d => accCntClr die d))

end Sys2Proof.Machine
end

