-- ==== Sys2Proof/Machine/Events.lean ====
section
/-! DEFINITION. Event records, the event ring and vector 0 (R493 to R502), and the telemetry that raises events (R503
to R505, R516). -/
namespace Sys2Proof.Machine

/-! ### Records (R494, R495) -/

/-- R495: the payload: each field at the next multiple of its own size. -/
def payloadBytes (pay : List (Nat × Nat)) : List Byte :=
  sliceBytes (pay.foldl (fun l f =>
    let pad := (f.1 - l.length % f.1) % f.1
    l ++ List.replicate pad 0 ++ leBytes f.1 f.2) []) 0 40

/-- R494: the 64 bytes of a record. -/
def EventRec.encode (r : EventRec) (phase : Nat) : List Byte :=
  leBytes 2 r.req.code
    ++ leBytes 1 (boolBit r.req.ctx.isSome + 2 * boolBit r.lost + 4 * boolBit r.throttled + 128 * phase)
    ++ leBytes 1 r.req.source ++ leBytes 2 (r.req.ctx.getD 0xFFFF) ++ leBytes 2 0 ++ leBytes 8 r.furrow.toNat
    ++ leBytes 4 r.clk ++ leBytes 4 r.seq.toNat ++ payloadBytes r.req.pay

/-! ### The ring (R496, R497, R502) -/

def Device.evtEnabled (d : Device) : Bool := d.fld R.EVT_CTRL 31 31 == 1
def Device.ringSize (d : Device) : Nat := 2 ^ d.fld R.EVT_CTRL 20 16

/-- Records of the ring that are not consumed. -/
def Device.ringHeld (d : Device) : Nat := (d.reg R.EVT_RING_TAIL + 2 ^ 32 - d.reg R.EVT_RING_HEAD) % 2 ^ 32

/-- R502: the IRQ_FAMILY bit of a family is 1. -/
def Device.famIrq (d : Device) (f : Nat) : Bool := bit (f - 1) (d.fld R.EVT_CTRL 14 0)

/-- R502: a MSG on vector 0, which disarms it. -/
def Device.msg0 (d : Device) : Device :=
  if d.ev.armed0 && d.linkUp then { d with ev := { d.ev with armed0 := false } }.send (.msg 0) else d

/-- R497: the oldest record leaves the buffer for the ring. -/
def eventRecordWrite (d : Device) : Device :=
  match d.ev.buffer with
  | [] => d
  | r :: rest =>
    if !d.evtEnabled || !d.linkUp || d.ringSize ≤ d.ringHeld then d
    else
      let tail := d.reg R.EVT_RING_TAIL
      let n := d.ringSize
      let phase := if (tail / n) % 2 == 0 then 1 else 0
      let fam := r.req.code / 256
      let d := d.access 4096 (.dwr (d.reg64 R.EVT_RING_BASE_LO + 64 * (tail % n)) (r.encode phase))
      let d := { d with ev := { d.ev with buffer := rest, ringFams := d.ev.ringFams ++ [fam] } }.setReg R.EVT_RING_TAIL (tail + 1)
      if d.famIrq fam then d.msg0 else d

/-- EVENT_RECORD_WRITE (R497). -/
def execEventRecordWrite (s : State) : Host.Outcome State Fault Refusal := .next (s.onDev (fun _ d => eventRecordWrite d))

/-- R502: vector 0 is armed; a qualifying record in the ring sends the MSG at once. -/
def arm0 (d : Device) : Device :=
  let d := { d with ev := { d.ev with armed0 := true } }
  if d.ev.ringFams.any d.famIrq then d.msg0 else d

/-- R496, R506: a head that moves backward or past the tail is discarded. -/
def evtHeadWrite (v : Nat) (d : Device) : Device :=
  let n := (v + 2 ^ 32 - d.reg R.EVT_RING_HEAD) % 2 ^ 32
  if d.ringHeld < n then d
  else
    let d := { d with ev := { d.ev with ringFams := d.ev.ringFams.drop n } }.setReg R.EVT_RING_HEAD v
    if d.fld R.EVT_CTRL 30 30 == 1 then arm0 d else d

/-- EVT_RING_HEAD_WRITE (R496). -/
def execEvtRingHeadWrite (value : Nat) (s : State) : Host.Outcome State Fault Refusal :=
  .next (s.onAon (fun _ d => evtHeadWrite value d))

/-- R500: EVT_CTRL.ENABLE as written. -/
def evtEnableWrite (v : Nat) (d : Device) : Device := d.setFld R.EVT_CTRL 31 31 v

/-- EVT_ENABLE_WRITE (R500). -/
def execEvtEnableWrite (enable : Nat) (s : State) : Host.Outcome State Fault Refusal :=
  .next (s.onAon (fun _ d => evtEnableWrite enable d))

/-- R502: EVT_CTRL.IRQ as written: 1 arms vector 0, 0 disarms it. -/
def evtIrqWrite (v : Nat) (d : Device) : Device :=
  let d := d.setFld R.EVT_CTRL 30 30 v
  if v % 2 == 1 then arm0 d else { d with ev := { d.ev with armed0 := false } }

/-- EVT_IRQ_WRITE (R502). -/
def execEvtIrqWrite (irq : Nat) (s : State) : Host.Outcome State Fault Refusal := .next (s.onAon (fun _ d => evtIrqWrite irq d))

/-- R506: the counters, and every PEAK. -/
def evtCntClr (d : Device) : Device :=
  (List.range 13).foldl (fun d i => d.setFld (inst R.EVT_TEL_POWER i) 31 16 0) (d.clear [R.EVT_LOST, R.EVT_THROTTLED, R.EVT_RAISED])

/-- EVT_CNT_CLR (R506). -/
def execEvtCntClr (s : State) : Host.Outcome State Fault Refusal := .next (s.onAon (fun _ d => evtCntClr d))

/-- R502: when the link returns, one MSG on every armed vector whose ring holds unconsumed records or entries. -/
def linkReturnMsgs (d : Device) : Device :=
  let d := if d.ev.ringFams.isEmpty then d else d.msg0
  (d.qm.qps.map (·.1)).foldl (fun d q =>
    let x := d.qp q
    if idxDiff x.cqTail x.cqHead == 0 then d else d.announce q) d

/-! ### Telemetry (R503 to R505) -/

/-- One reading of a source: its temperature (two's complement) and its power. -/
def readSource (src temp power : Nat) (d : Device) : Device :=
  let k := inst R.EVT_TEL_TEMP src
  let max_ := d.fld k 15 8
  let hot := temp % 256 != 0x80 && (max_ == 0x80 || decide (toSigned 8 max_ < toSigned 8 temp))
  let d := d.setFld k 7 0 temp
  let d := if hot then d.setFld k 15 8 temp else d
  let p := inst R.EVT_TEL_POWER src
  (d.setFld p 15 0 (min power 0xFFFF)).setFld p 31 16 (max (d.fld p 31 16) (min power 0xFFFF))

/-- The hottest of a list of temperatures. -/
def hottest (l : List Nat) : Nat := l.foldl (fun b t => if toSigned 8 b < toSigned 8 t then t % 256 else b) 0x80

/-- R504, R505: the warnings and trips of sources 0 to 4. -/
def thermChecks (temps : List Nat) (d : Device) : Device :=
  let warn := toSigned 8 (d.fld R.EVT_THERM_CFG 7 0)
  let at_ (i : Nat) : Int := toSigned 8 (temps.getD i 0x80)
  let d := (List.range 5).foldl (fun d i =>
    if decide (warn ≤ at_ i) && !d.ev.warned.contains i
    then ({ d with ev := { d.ev with warned := i :: d.ev.warned } }).raise 0x0E20 [(1, i), (1, temps.getD i 0x80 % 256)] else d) d
  let d := if !d.ev.warned.isEmpty && d.ev.warned.all (fun i => decide (at_ i + 5 ≤ warn))
    then ({ d with ev := { d.ev with warned := [] } }).raise 0x0E21 [] else d
  (List.range 5).foldl (fun d i =>
    if decide (115 ≤ at_ i) && !d.ev.tripSeen.contains i
    then ({ d with ev := { d.ev with tripSeen := i :: d.ev.tripSeen, tripped := i :: d.ev.tripped.erase i } }).raise 0x0E22 [(1, i)]
    else d) d

/-- R504: TEL_POWER_OVER, in the first furrow of a run. -/
def powerCheck (d : Device) : Device :=
  let p := d.fld (inst R.EVT_TEL_POWER 12) 15 0
  let lim := d.fld R.EVT_PWR_LIMIT 15 0
  let ovf := lim != 0 && lim < p
  let d' := { d with ev := { d.ev with alertRun := ovf } }
  if ovf && !d.ev.alertRun then d'.raise 0x0E23 [(2, p)] else d'

/-- R516: a reading that raises TEL_THERM_WARN or TEL_POWER_OVER drives ALERT_N low; the first at which every warning has been
cleared and source 12 is at or below its limit releases it. -/
def alertPin (old d : Device) : Device :=
  let new := d.ev.raised.take (d.ev.raised.length - old.ev.raised.length)
  let low := new.any (fun r => r.code == 0x0E20 || r.code == 0x0E23) || (d.ev.alert && (!d.ev.warned.isEmpty || d.ev.alertRun))
  { d with ev := { d.ev with alert := low } }

/-- R503: the temperature of a slot's source. -/
def slotReading (d : Device) (s : Nat) : Nat := if (d.slot s).st == .ready then (d.slot s).temp else 0x80

/-- R503: the readings at a boundary: the temperatures of sources 0 to 4 and the powers of sources 0 to 11. -/
def telemetry (temps powers : List Nat) (d : Device) : Device :=
  let t (i : Nat) : Nat := if i ≤ 4 then temps.getD i 0x80 else if 7 ≤ i && i ≤ 10 then slotReading d (i - 7) else 0x80
  let d := (List.range 12).foldl (fun d i => readSource i (t i) (powers.getD i 0) d) d
  let d := readSource 12 (hottest ((List.range 5).map t)) ((List.range 7).map (fun i => powers.getD i 0)).sum d
  alertPin d (powerCheck (thermChecks (temps.take 5) d))

/-- What the memories and the lanes report of themselves between two boundaries: errors that a slice corrected (items 4 to 7,
R141), codewords that a port's FEC corrected (items 8 to 15, R292), errors that a channel's link ECC corrected (items 16 to
143), and the MR4 refresh-rate value of a channel's device (items 144 to 271; R167). Items 0 to 3 are the rails of R449. -/
def observe (d : Device) (p : Nat × Nat) : Device :=
  let n := p.2
  if p.1 < 4 then d
  else if p.1 < 8 then d.incBy (R.STORE_ECC_CORR + 8 * (p.1 - 4)) n
  else if p.1 < 16 then d.incBy (inst R.BRX_PORT_FEC_CORR (p.1 - 8)) n
  else if p.1 < 144 then
    let k := inst R.MEMC_CH_INFO (p.1 - 16)
    (d.incBy R.MEMC_ECC_CORR n).setFld k 15 0 (min (d.fld k 15 0 + n) 0xFFFF)
  else (List.range 16).foldl (fun d j => d.setFld (inst R.MEMC_CH_INFO (16 * lpDevice (p.1 - 144) + j)) 18 16 n) d

/-- R516: ALERT_N and THERMTRIP_N are driven low. -/
def Device.alertLow (d : Device) : Bool := d.ev.alert
def Device.thermTripLow (d : Device) : Bool := !d.ev.tripped.isEmpty

/-- R506: the source that EVT_TEL_SEL names; 13 to 15 read as 0. -/
def Device.telSel (d : Device) : Nat := if 12 < d.fld R.EVT_TEL_SEL 3 0 then 0 else d.fld R.EVT_TEL_SEL 3 0

/-- R506 -/
def evtView (d : Device) (k : Nat) : Option Nat :=
  if k == R.EVT_STATUS then some (setBits 8 0 d.ev.buffer.length (d.reg k))
  else if k == R.EVT_TEL_SEL then some d.telSel
  else none

end Sys2Proof.Machine
end

