-- ==== Sys2Proof/Machine/HostLink.lean ====
section
/-! DEFINITION. The link of the host port (R435 to R440, R449): its modules, training and retraining, what the module asks
of host memory, and the rails of the host bay. -/
namespace Sys2Proof.Machine

def freshModule : HostModule := ⟨.training, [], 0⟩

def Device.module (d : Device) (m : Nat) : HostModule := d.host.mods.getD m freshModule

def Device.setModule (d : Device) (m : Nat) (x : HostModule) : Device :=
  { d with host := { d.host with mods := d.host.mods.set m x } }

def modReg (a m : Nat) : Nat := inst a m

/-! ### Transactions as the link carries them (R440) -/

/-- R440: the header of a transaction. -/
def htlHeader (type status tag len addr : Nat) : List Byte :=
  leBytes 1 type ++ leBytes 1 status ++ leBytes 2 (tag % 1024) ++ leBytes 4 len ++ leBytes 8 addr

/-- R440: a transaction of the module: header and data. -/
def HostTxn.encode : HostTxn → List Byte
  | .dwr addr data => htlHeader 0x11 0 0 data.length addr ++ data
  | .drd tag addr len => htlHeader 0x12 0 tag len addr
  | .hcpl tag status data => htlHeader 0x03 status tag data.length 0 ++ data
  | .msg vector => htlHeader 0x20 0 0 0 (vector % 65536)

/-- R440: the transactions of the host, which the commands of these names stand for. -/
def hostFrame : Instr → Option (List Byte)
  | .hwr addr data => some (htlHeader 0x01 0 0 data.length (addr % 2 ^ 44) ++ data)
  | .hrd tag addr len _ => some (htlHeader 0x02 0 tag len (addr % 2 ^ 44))
  | .dcpl tag status data => some (htlHeader 0x13 status tag data.length 0 ++ data)
  | _ => none

/-! ### The link goes UP or DOWN (R436, R439) -/

/-- R439: the reads that the host has not answered wait for the link; those of queue pairs in ERROR or disabled are lost, and so
are the host's own accesses in flight. -/
def linkLost (d : Device) : Device :=
  let live := d.host.drds.filter (fun p => p.2.1 < 4096)
  let again := live.map (fun p => (p.2.1, HostTxn.drd p.1
    (d.reg64 (qpReg R.QM_QP_SQ_BASE_LO p.2.1) + 256 * (p.2.2 % 2 ^ d.sqLog p.2.1)) 256))
  let asked : List Nat := d.host.waiting.filterMap (fun w => match w.2 with
    | .drd tag _ _ => some tag
    | _ => none)
  let again := again.filter (fun w => match w.2 with
    | .drd tag _ _ => !asked.contains tag
    | _ => false)
  { d with host := { d.host with drds := live, waiting := d.host.waiting ++ again, lpWait := [] } }.raise 0x0D02 []

/-- R436, R439, R502: EPOCH is incremented, what waited is sent, and armed vectors send their MSG. -/
def linkBack (d : Device) : Device :=
  let epoch := (d.fld R.HOST_STATUS 15 0 + 1) % 65536
  let d := (d.setFld R.HOST_STATUS 15 0 epoch).raise 0x0D01 [(2, epoch)]
  let sent := d.host.waiting.map (·.2)
  linkReturnMsgs { d with host := { d.host with waiting := [] }, out := d.out ++ sent }

/-- What a change of the modules' states does to the link. -/
def linkChange (was : Bool) (d : Device) : Device :=
  if was && !d.linkUp then linkLost d
  else if !was && d.linkUp then linkBack d
  else d

/-! ### Training (R436, R437) -/

/-- R452: a module that MOD_DISABLE keeps out of training: as its bit stood when this training began. -/
def Device.modDisabled (d : Device) (m : Nat) : Bool := bit m d.host.held

/-- R452: a training of a module begins: HOST_CTRL.MOD_DISABLE takes effect for it. -/
def beginTraining (m : Nat) (d : Device) : Device :=
  { d with host := { d.host with held := setBits m m (d.fld R.HOST_CTRL m m) d.host.held } }

/-- R436, R452: the modules train once PD_X_HOST has power; MOD_DISABLE takes effect as it stood when that furrow began. -/
def hostBoundary (d : Device) : Device :=
  if d.domOn 17 then d else { d with host := { d.host with held := d.fld R.HOST_CTRL 3 0 } }

/-- A module trained: UP, with the lanes it repaired. -/
def moduleUp (m spares : Nat) (lanes : List Nat) (d : Device) : Device :=
  lanes.foldl (fun d l => d.raise 0x0D05 [(1, m), (1, l)]) (d.setModule m ⟨.up, lanes, spares⟩)

/-- A module did not train: EXCLUDED. -/
def moduleExcluded (m : Nat) (d : Device) : Device := (d.setModule m ⟨.excluded, [], 0⟩).raise 0x0D03 [(1, m)]

/-- The training of every module that MOD_DISABLE does not hold ends. -/
def linkTrained (trained : Nat) (repairs : List (Nat × Nat)) (spares : List Nat) (d : Device) : Device :=
  let was := d.linkUp
  if !d.domOn 17 then d
  else
    let ms := (List.range 4).filter (fun m => (d.module m).st == .training && !d.modDisabled m)
    linkChange was (ms.foldl (fun d m =>
      if bit m trained then
        moduleUp m (spares.getD m 0) ((repairs.filter (fun r => r.1 == m)).map (·.2)) d
      else moduleExcluded m d) d)

/-- LINK_TRAINING_DONE (R436, R437): the modules that trained as a mask, the lanes repaired by module, and the repairs that
each module still allows. -/
def execLinkTrainingDone (trained : Nat) (repairs : List (Nat × Nat)) (spares : List Nat) (s : State) :
    Host.Outcome State Fault Refusal :=
  .next (s.onDev (fun _ d => linkTrained trained repairs spares d))

/-! ### Retraining (R438) -/

/-- An UP module leaves UP. -/
def retrain (m cause : Nat) (d : Device) : Device :=
  let x := d.module m
  if x.st != .up then d
  else
    let was := d.linkUp
    let d := (beginTraining m (d.setModule m { x with st := .retraining })).inc (modReg R.HOST_MOD_RETRAINS m)
    linkChange was (d.raise 0x0D04 [(1, m), (1, Config.retrainCause cause)])

/-- The Adapter's retries of one furrow and its CRC errors. -/
def adapterRetries (m retries crc : Nat) (d : Device) : Device :=
  if (d.module m).st != .up then d
  else
    let d := (d.incBy (modReg R.HOST_MOD_RETRIES m) retries).incBy (modReg R.HOST_MOD_CRC_ERR m) crc
    if 16 < retries then retrain m 0 d else d

/-- ADAPTER_RETRY_LIMIT (R438). -/
def execAdapterRetryLimit (module retries crc : Nat) (s : State) : Host.Outcome State Fault Refusal :=
  .next (s.onDev (fun _ d => adapterRetries module retries crc d))

/-- LANE_CHECK_FAIL (R438). -/
def execLaneCheckFail (module : Nat) (s : State) : Host.Outcome State Fault Refusal :=
  .next (s.onDev (fun _ d => retrain module 1 d))

/-- A bit of HOST_CTRL.RETRAIN written 1: an UP module retrains; an EXCLUDED one, or one that MOD_DISABLE kept out of its
training, trains again. -/
def retrainWrite (m : Nat) (d : Device) : Device :=
  let x := d.module m
  if x.st == .excluded || (x.st == .training && d.modDisabled m) then beginTraining m (d.setModule m ⟨.training, [], 0⟩)
  else retrain m 2 d

/-- HOST_RETRAIN (R438). -/
def execHostRetrain (module : Nat) (s : State) : Host.Outcome State Fault Refusal :=
  .next (s.onAon (fun _ d => retrainWrite (module % 4) d))

/-- A module is training again. -/
def HostModule.retraining (x : HostModule) : Bool := x.st == .retraining || x.st == .training

def retrainDone (m spares : Nat) (lanes : List Nat) (d : Device) : Device :=
  if !(d.module m).retraining || d.modDisabled m || 3 < m || !d.domOn 17 then d
  else linkChange d.linkUp (moduleUp m spares lanes d)

/-- RETRAIN_DONE (R437). -/
def execRetrainDone (module : Nat) (lanes : List Nat) (spares : Nat) (s : State) : Host.Outcome State Fault Refusal :=
  .next (s.onDev (fun _ d => retrainDone module spares lanes d))

def retrainTimeout (m : Nat) (d : Device) : Device :=
  if !(d.module m).retraining || 3 < m || !d.domOn 17 then d else moduleExcluded m d

/-- RETRAIN_TIMEOUT (R438). -/
def execRetrainTimeout (module : Nat) (s : State) : Host.Outcome State Fault Refusal :=
  .next (s.onDev (fun _ d => retrainTimeout module d))

/-! ### What the module asks of host memory (R381, R439, R440) -/

/-- An access for a queue pair (4,096: the event ring) failed: LAST_ERR 2 for a read, 3 for a write. -/
def devFail (q err : Nat) (d : Device) : Device :=
  let d := (d.inc R.HOST_DEV_FAIL).raise 0x0D08 [(2, q)]
  let st := (d.qp q).st
  if q < 4096 && (st == .active || st == .draining) then qpError q err d else d

/-- DCPL with a tag, a STATUS and data. -/
def dcpl (tag status : Nat) (data : List Byte) (d : Device) : Device :=
  match d.host.drds.get? tag with
  | none => d
  | some (q, _) =>
    if !d.linkUp then d
    else
      let n := d.host.drds.length
      let d := { d with host := { d.host with drds := d.host.drds.del tag } }
      fetchFreed n (if 4096 ≤ q then d
      else if status != 0 then devFail q 2 d
      else fetchNext q (copyIn q (sliceBytes data 0 256) d))

/-- DCPL (R440, R378). -/
def execDcpl (tag status : Nat) (data : List Byte) (s : State) : Host.Outcome State Fault Refusal :=
  .next (s.onDev (fun _ d => dcpl tag status data d))

/-- The access that has waited 64 F for the link fails: the number `i` of those that wait. -/
def devTimeout (i : Nat) (d : Device) : Device :=
  match d.host.waiting[i]? with
  | none => d
  | some (q, t) =>
    let d := { d with host := { d.host with waiting := d.host.waiting.eraseIdx i } }
    match t with
    | .drd tag _ _ =>
      fetchFreed (if q < 4096 then d.host.drds.length else 0) (devFail q 2 { d with host := { d.host with drds := d.host.drds.del tag } })
    | _ => devFail q 3 d

/-- DEV_ACCESS_TIMEOUT (R439). -/
def execDevAccessTimeout (access : Nat) (s : State) : Host.Outcome State Fault Refusal :=
  .next (s.onDev (fun _ d => devTimeout access d))

/-! ### Counters and rails -/

def hostCounters : List Nat :=
  [R.HOST_REFUSED, R.HOST_UNMAPPED, R.HOST_DATA_ERR, R.HOST_DEV_FAIL]
    ++ (List.range 4).flatMap (fun m =>
      [modReg R.HOST_MOD_CRC_ERR m, modReg R.HOST_MOD_RETRIES m, modReg R.HOST_MOD_RETRAINS m])

/-- HOST_CNT_CLR (R452). -/
def execHostCntClr (s : State) : Host.Outcome State Fault Refusal := .next (s.onAon (fun _ d => d.clear hostCounters))

/-- R449: the window of a rail, in mV. -/
def railOk (r mv : Nat) : Bool :=
  if r < 2 then 600 ≤ mv && mv ≤ 950 else if r == 2 then 700 ≤ mv && mv ≤ 800 else 1710 ≤ mv && mv ≤ 1890

/-- R449: every rail is measured every furrow. -/
def railCheck (mv : List Nat) (d : Device) : Device :=
  (List.range 4).foldl (fun d r =>
    let v := mv.getD r 0 % 65536
    let d := (d.setReg (R.HOST_RAIL_MV0 + 4 * r) v).setFld R.HOST_BAY_STATUS r r (boolBit (railOk r v))
    if railOk r v then d else d.raise 0x0D09 [(1, r), (2, v)]) d

end Sys2Proof.Machine
end

