-- ==== Sys2Proof/Machine/Operands.lean ====
section
/-! DEFINITION. The operand forms of the trowel profile (R123, R124, R126): scalar and vector registers, lanes and
immediates. The plot profile's operand forms stand in Bundle.lean. -/
namespace Sys2Proof.Machine

/-- s0 reads 0 (R123). -/
def Trowel.sreg (t : Trowel) (i : Nat) : Nat := if i == 0 then 0 else (t.s.getD i 0).toNat

/-- s0 ignores writes (R123). -/
def Trowel.setS (t : Trowel) (i v : Nat) : Trowel := if i == 0 then t else { t with s := t.s.set i (BitVec.ofNat 64 v) }

def Trowel.vreg (t : Trowel) (i : Nat) : Nat := (t.v.getD i 0).toNat

def Trowel.setV (t : Trowel) (i v : Nat) : Trowel := { t with v := t.v.set i (BitVec.ofNat 512 v) }

/-- The key of a vector register, and of FLAGS, among those whose readiness a core tracks (R125). -/
def vKey (i : Nat) : Nat := 32 + i
def flagsKey : Nat := 64

/-- R124: TYPE 0 .w FP32, 1 .h FP16, 2 .b BF16, 3 .i INT32. -/
def laneWidth (ty : Nat) : Nat := if ty == 1 || ty == 2 then 16 else 32

def laneCount (ty : Nat) : Nat := 512 / laneWidth ty

def lane (ty v i : Nat) : Nat := (v >>> (laneWidth ty * i)) % 2 ^ laneWidth ty

def lanes (ty v : Nat) : List Nat := (List.range (laneCount ty)).map (lane ty v)

/-- The vector of lanes of a width, the first lowest. -/
def packLanes (w : Nat) : List Nat → Nat
  | [] => 0
  | x :: t => x % 2 ^ w + packLanes w t * 2 ^ w

/-- IMM15, signed (R124). -/
def imm15 (v : Nat) : Int := toSigned 15 v

/-- IMM10, signed, scaled by the access size (R124, R126). -/
def imm10 (v size : Nat) : Int := toSigned 10 v * size

/-- IMM32 of the T64 forms: a byte offset, signed as the TM forms' (log entry 20). -/
def imm32 (v : Nat) : Int := toSigned 32 v

/-- The offset of a trowel access: s[A] plus the immediate, modulo 2^64 (R126). -/
def memOff (base : Nat) (imm : Int) : Nat := ofSigned 64 ((base : Int) + imm)

end Sys2Proof.Machine
end

