-- ==== Sys2Proof/Machine/Flags.lean ====
section
/-! DEFINITION. The lane operations of the trowel profile with the FLAGS they leave (R123, R127, R128). -/
namespace Sys2Proof.Machine

/-- The format of TYPE 0 to 2. -/
def laneFmt (ty : Nat) : FpFmt := if ty == 0 then fp32 else if ty == 1 then fp16 else bf16

/-- FLAGS is sticky: the union of the conditions of the lanes. -/
def orFlags (l : List Nat) : Nat := l.foldl Nat.lor 0

/-- Results and flags of lanes put together. -/
def gather (w : Nat) (l : List (Nat × Nat)) : Nat × Nat := (packLanes w (l.map (·.1)), orFlags (l.map (·.2)))

/-- vadd vsub vmul vmin vmax (FN 0 to 4) of one lane; .i works modulo 2^32 and compares signed (log entry 21). -/
def arithLane (ty fn a b : Nat) : Nat × Nat :=
  if ty == 3 then
    let x := toSigned 32 a
    let y := toSigned 32 b
    (if fn == 0 then (a + b) % 2 ^ 32 else if fn == 1 then (a + 2 ^ 32 - b) % 2 ^ 32 else if fn == 2 then (a * b) % 2 ^ 32
      else if fn == 3 then (if x ≤ y then a else b) else (if x ≤ y then b else a), 0)
  else
    let f := laneFmt ty
    if fn == 0 then f.add a b else if fn == 1 then f.sub a b else if fn == 2 then f.mul a b
    else f.minMax (fn == 4) a b

def vecArith (ty fn a b : Nat) : Nat × Nat :=
  gather (laneWidth ty) ((lanes ty a).zipWith (arithLane ty fn) (lanes ty b))

def vecFma (ty c a b : Nat) : Nat × Nat :=
  let f := laneFmt ty
  gather (laneWidth ty) ((List.range (laneCount ty)).map (fun i => f.fma (lane ty c i) (lane ty a i) (lane ty b i)))

/-- vexp vrcp vrsqrt (FN 0 to 2) of one lane. -/
def funcLane (ty fn a : Nat) : Nat × Nat :=
  let f := laneFmt ty
  if fn == 0 then f.exp a
  else if fn == 1 then f.rcp a else f.rsqrt a

def vecFunc (ty fn a : Nat) : Nat × Nat := gather (laneWidth ty) ((lanes ty a).map (funcLane ty fn))

/-- vredmax or vredmin over floating-point lanes, left open where a NaN or zeros of both signs take part. -/
def redExt (ty : Nat) (mx : Bool) (l : List Nat) : Nat × Nat :=
  let f := laneFmt ty
  let vals := l.map f.decode
  let which := boolBit mx
  if vals.any (fun v => v == .nan) then (Config.redOpen f.width which l % 2 ^ f.width, (Config.redSumFlags f.width l % 32) ||| f.nanFlags l)
  else
    let best := l.foldl (fun (b : Option Nat) x => match b with
      | none => some x
      | some y => if (if mx then (f.decode y).le (f.decode x) else (f.decode x).le (f.decode y)) == some true then some x else some y) none
    match best with
    | none => (0, 0)
    | some b =>
      let eq (x : Nat) : Bool := (f.decode x).le (f.decode b) == some true && (f.decode b).le (f.decode x) == some true
      if l.any (fun x => eq x && x != b) then (Config.redOpen f.width which l % 2 ^ f.width, 0) else (b, 0)

/-- vredsum over floating-point lanes. The order of the additions is not stated: the sum is given where every order gives it
(each partial sum exact; two lanes at most that are not 0; a NaN, or infinities that no finite lanes can outweigh), and is left
open elsewhere. -/
def redSumFp (ty : Nat) (l : List Nat) : Nat × Nat :=
  let f := laneFmt ty
  let fins := l.filterMap (fun x => match f.decode x with
    | .fin s m e => some (s, m, e)
    | _ => none)
  let nz := fins.filter (fun x => x.2.1 != 0)
  let g : Int := (nz.map (fun x => x.2.2)).foldl min (f.bias : Int)
  let mag : Nat := (nz.map (fun x => x.2.1 * 2 ^ (x.2.2 - g).toNat)).sum
  -- every partial sum is a multiple of `unit` and no greater than `mag`, both in units of 2^g
  let unit : Nat := (nz.map (fun x => x.2.1 * 2 ^ (x.2.2 - g).toNat)).foldl Nat.gcd (2 ^ 512)
  let whole : Bool := mag < 2 ^ (f.mbits + 1) * unit && !bit 2 (f.roundDyadic false false mag g).2
  let nan := l.any (fun x => f.decode x == .nan)
  let pos := l.any (fun x => f.decode x == .inf false)
  let neg := l.any (fun x => f.decode x == .inf true)
  let open_ : Nat := Config.redSumFlags f.width l % 32
  let bad := l.any f.snan || (!nan && pos && neg)
  let fl := if bad then (if whole then flInvalid else Nat.lor open_ flInvalid)
    else if whole && !(pos && neg) then 0 else open_
  if nan || (pos && neg) then (f.nanBits (Config.redSum f.width l) 0 0, fl)
  else if pos || neg then
    -- no order of the finite lanes of the other sign comes to an infinity
    let calm := nz.all (fun x => x.1 == neg) || !bit 2 (f.roundDyadic false false (2 * mag) g).2
    if whole || calm then (f.infBits neg, if whole then 0 else open_) else (Config.redSum f.width l % 2 ^ f.width, open_)
  else if whole || nz.length ≤ 2 then
    if nz.isEmpty && fins.all (fun x => x.1) then (Config.redSum f.width l % 2 ^ f.width, 0)
    else f.roundDyadic false false ((nz.map (fun x => signOf x.1 (x.2.1 * 2 ^ (x.2.2 - g).toNat))).sum) g
  else (Config.redSum f.width l % 2 ^ f.width, open_)

/-- vredsum vredmax vredmin (FN 0 to 2). -/
def vecReduce (ty fn a : Nat) : Nat × Nat :=
  let l := lanes ty a
  if ty == 3 then
    if fn == 0 then (l.sum % 2 ^ 32, 0)
    else (l.foldl (fun b x => if (if fn == 1 then decide (toSigned 32 b < toSigned 32 x) else decide (toSigned 32 x < toSigned 32 b)) then x else b)
      (l.headD 0), 0)
  else if fn == 0 then redSumFp ty l
  else redExt ty (fn == 1) l

/-- Destination types of vcvt: 0 FP32, 1 FP16, 2 BF16, 3 INT32, 4 E4M3, 5 E5M2, 6 INT8; their widths. -/
def cvtWidth (fn : Nat) : Nat := if fn == 0 || fn == 3 then 32 else if fn == 1 || fn == 2 then 16 else 8

def cvtFmt (fn : Nat) : FpFmt :=
  if fn == 0 then fp32 else if fn == 1 then fp16 else if fn == 2 then bf16 else if fn == 4 then e4m3 else e5m2

/-- vcvt of one lane (R128). An INT32 lane out of range of INT8, which saturates, sets invalid, as one converted from a floating
format does (DESIGN CHOICE, log entry 164). -/
def cvtLane (ty fn a : Nat) : Nat × Nat :=
  let toInt := fn == 3 || fn == 6
  if ty == 3 then
    let v := toSigned 32 a
    if toInt then
      let n := cvtWidth fn
      let top : Int := 2 ^ (n - 1) - 1
      let bot : Int := -(2 ^ (n - 1))
      if v < bot then (ofSigned n bot, flInvalid) else if top < v then (ofSigned n top, flInvalid) else (ofSigned n v, 0)
    else (cvtFmt fn).roundDyadic (fn == 4 || fn == 5) false v 0
  else if toInt then convertInt (laneFmt ty) (cvtWidth fn) a
  else convertFp (laneFmt ty) (cvtFmt fn) a

/-- vcvt: a narrower result fills the low bits and zeroes the rest; what a wider one holds is left open. -/
def vecCvt (ty fn a : Nat) : Nat × Nat :=
  if laneWidth ty < cvtWidth fn then (Config.vcvtWide ty fn a % 2 ^ 512, orFlags ((lanes ty a).map (fun x => (cvtLane ty fn x).2)))
  else gather (cvtWidth fn) ((lanes ty a).map (cvtLane ty fn))

/-- The scalar operations of OPC 0x01 (F 0 to 13). A shift by 64 or more is left open. -/
def aluOp (f a b : Nat) : Nat :=
  let m := 2 ^ 64
  let x := toSigned 64 a
  let y := toSigned 64 b
  if f == 0 then (a + b) % m
  else if f == 1 then (a + m - b) % m
  else if f == 2 then Nat.land a b
  else if f == 3 then Nat.lor a b
  else if f == 4 then Nat.xor a b
  else if f == 5 then (if b < 64 then (a <<< b) % m else Config.shiftOver 5 a b % m)
  else if f == 6 then (if b < 64 then a >>> b else Config.shiftOver 6 a b % m)
  else if f == 7 then (if b < 64 then ofSigned 64 (x / 2 ^ b) else Config.shiftOver 7 a b % m)
  else if f == 8 then boolBit (decide (x < y))
  else if f == 9 then boolBit (a < b)
  else if f == 10 then (if x ≤ y then a else b)
  else if f == 11 then (if x ≤ y then b else a)
  else if f == 12 then (if a ≤ b then a else b)
  else (if a ≤ b then b else a)

/-- mul mulh mulhu (F 0 to 2). -/
def mulOp (f a b : Nat) : Nat :=
  if f == 0 then (a * b) % 2 ^ 64
  else if f == 1 then ofSigned 64 (toSigned 64 a * toSigned 64 b / 2 ^ 64)
  else a * b / 2 ^ 64

/-- div divu rem remu (F 0 to 3): a divisor of 0 gives a quotient of all ones and a remainder of s[A]; a signed
quotient truncates toward zero (log entry 22). -/
def divOp (f a b : Nat) : Nat :=
  let x := toSigned 64 a
  let y := toSigned 64 b
  if b == 0 then (if f == 0 || f == 1 then 2 ^ 64 - 1 else a)
  else if f == 0 then (if x == -(2 ^ 63) && y == -1 then Config.divOver % 2 ^ 64 else ofSigned 64 (x.tdiv y))
  else if f == 1 then a / b
  else if f == 2 then ofSigned 64 (x.tmod y)
  else a % b

end Sys2Proof.Machine
end

