-- ==== Sys2Proof/Machine/TrowelCore.lean ====
section
/-! DEFINITION. The trowel cores as the plot sequencer sees them: the encodings of the trowel profile (R124), when a core
issues (R125), the accesses it makes (R114, R126), and the dispatch slot (R118, R119). -/
namespace Sys2Proof.Machine

/-! ### Encodings (R124) -/

def fOpc (w : Nat) : Nat := bits 6 1 w
def fD (w : Nat) : Nat := bits 11 7 w
def fA (w : Nat) : Nat := bits 16 12 w
def fB (w : Nat) : Nat := bits 21 17 w
def fF (w : Nat) : Nat := bits 31 22 w
def fW (w : Nat) : Nat := bits 21 18 w
def fTy (w : Nat) : Nat := bits 23 22 w
def fFn (w : Nat) : Nat := bits 27 24 w

/-- IMM15 of TI. -/
def fImmI (w : Nat) : Int := imm15 (bits 31 17 w)

/-- IMM15 of TB: its low five bits where D stands, in words. -/
def fImmB (w : Nat) : Int := imm15 (bits 11 7 w + 32 * bits 31 22 w)

/-- IMM32 of T64. -/
def fImm32 (w : Nat) : Int := imm32 (bits 63 32 w)

def Trowel.word (x : Trowel) (p : Nat) : Nat := ofLe ((List.range 4).map (fun k => x.ibuf.getD (4 * p + k) 0))

/-- The instruction at the pc: 64 bits of it where bit 0 is 1. -/
def Trowel.fetch (x : Trowel) : Nat :=
  let w := x.word x.pc
  if bit 0 w then w + 2 ^ 32 * x.word (x.pc + 1) else w

/-- The opcodes of form T64. -/
def isT64 (o : Nat) : Bool := o == 0x0C || o == 0x0D || (0x38 ≤ o && o ≤ 0x3B)

/-- R127: the opcode and its function are listed. -/
def opListed (w : Nat) : Bool :=
  let o := fOpc w
  let vec := bits 31 28 w == 0
  if o == 0x01 then fF w ≤ 13
  else if o == 0x02 then fF w ≤ 2
  else if o == 0x03 then fF w ≤ 3
  else if 0x04 ≤ o && o ≤ 0x07 then true
  else if o == 0x08 then bits 24 23 w ≤ 2
  else if o == 0x09 || o == 0x0C || o == 0x0D then true
  else if 0x10 ≤ o && o ≤ 0x17 then true
  else if 0x18 ≤ o && o ≤ 0x22 then bit 17 w == false
  else if o == 0x24 then vec && fFn w ≤ 4
  else if o == 0x25 then vec && fTy w ≤ 2
  else if o == 0x26 then vec && fTy w ≤ 2 && fFn w ≤ 2
  else if o == 0x27 then vec && fFn w ≤ 2
  else if o == 0x28 then vec && fFn w ≤ 6
  else if o == 0x29 || o == 0x2A || o == 0x2B then vec
  else if o == 0x2C || o == 0x2D || o == 0x3F then true
  else (0x38 ≤ o && o ≤ 0x3B) && bit 17 w == false

/-- R127: the instruction raises no TROWEL_ILLEGAL (log entry 31: fields that no form of the opcode uses are not
reserved). -/
def trowLegal (pc w : Nat) : Bool :=
  pc ≤ 4095 && bit 0 w == isT64 (fOpc w) && !(bit 0 w && pc == 4095) && opListed w

/-! ### Issue -/

/-- R125: the clk of the next issue: no register it reads is still to be written. -/
def Trowel.issueAt (x : Trowel) (reads : List Nat) : Nat := reads.foldl (fun m k => max m (x.ready.getD k 0)) x.clk

/-- R119: the machine clk by which tend must have issued. -/
def Run.trowelLimit (r : Run) (x : Trowel) : Nat := min x.budgetDue (r.plot.length - r.pauses)

/-! ### Memory accesses (R126) -/

/-- The offset of an access of n bytes; form T64 takes IMM32 in bytes. -/
def accOff (x : Trowel) (w n : Nat) : Nat :=
  memOff (x.sreg (fA w)) (if isT64 (fOpc w) then fImm32 w else imm10 (bits 31 22 w) n)

/-- The device address of an access. -/
def accAddr (r : Run) (x : Trowel) (w n : Nat) : Nat := r.addr (fW w) (accOff x w n)

/-- R114, R126: the core, its port and the window in the footprint; the window's checks; the port free; alignment. -/
def accExc (t n : Nat) (wr : Bool) (d : Device) (r : Run) (x : Trowel) (w : Nat) : List Nat :=
  whenB (!bit t r.fp.trowel || !bit t r.fp.ports) 0x41
    ++ memExc d r (fW w) (accOff x w n) n wr
    ++ whenB (r.now < r.ports.getD t 0) 0x5D
    ++ whenB (accAddr r x w n % n != 0) 0x62

/-- R127: the bytes of an access of an opcode, whether it is a store, and whether its data is a vector; none where the
opcode makes no access. -/
def accOf (o : Nat) : Option (Nat × Bool × Bool) :=
  if o == 0x18 || o == 0x38 then some (8, false, false)
  else if o == 0x19 then some (4, false, false)
  else if o == 0x1A then some (2, false, false)
  else if o == 0x1B then some (1, false, false)
  else if o == 0x1C || o == 0x3A then some (8, true, false)
  else if o == 0x1D then some (4, true, false)
  else if o == 0x1E then some (2, true, false)
  else if o == 0x1F then some (1, true, false)
  else if o == 0x20 || o == 0x39 then some (64, false, true)
  else if o == 0x21 || o == 0x3B then some (64, true, true)
  else if o == 0x22 then some (32, true, true)
  else none

/-- The registers that an access reads: its index, and the data of a store. -/
def accReads (store vec : Bool) (w : Nat) : List Nat :=
  fA w :: (if store then [if vec then vKey (fD w) else fD w] else [])

/-- R119, R126, R127: the exceptions that core t meets in the machine clk at which the run stands: its budget has come, or
the instruction it issues is illegal, or its access fails. In a replay pause it stands still, and only LENGTH stops it. -/
def coreExc (d : Device) (r : Run) (t : Nat) : List Nat :=
  let x := r.core t
  let w := x.fetch
  if !x.running then []
  else if r.replay.isSome then whenB (r.plot.length ≤ r.elapsed) 0x60
  else if r.trowelLimit x ≤ r.now then [0x60]
  else if !trowLegal x.pc w then whenB (x.clk == r.now) 0x61
  else match accOf (fOpc w) with
    | some (n, store, vec) => if x.issueAt (accReads store vec w) == r.now then accExc t n store d r x w else []
    | none => []

/-! ### The dispatch slot (R118) -/

/-- Run a device operation as a command. -/
def devCmd (f : Device → Device) (s : State) : Host.Outcome State Fault Refusal := .next (s.onDev (fun _ d => f d))


def trowNamed (r : Run) (tc : Nat) : List Nat := whenB (!bit tc r.fp.trowel) 0x41

def tloadExc (tc w a size : Nat) (d : Device) (r : Run) : List Nat :=
  whenB (15 < tc || 15 < w || 15 < a || size == 0 || 256 < size) 0x5B ++ trowNamed r tc
    ++ memExc d r w (r.areg a) (64 * size) false ++ whenB ((r.core tc).running || r.now < (r.core tc).idleAt) 0x5D

/-- Unit k is read at issue + k; the copy is complete at issue + L + SIZE. -/
def tloadAct (tc w a size : Nat) (d : Device) (r : Run) : Device × Run :=
  let x := r.addr w (r.areg a)
  let l := r.lat w
  let c := r.core tc
  let r' := r.setCore tc { c with loadDue := r.now + l + size }
  let r' := (List.range size).foldl (fun r' k => r'.at (r.now + k) 32 (.tload tc (64 * k) (x + 64 * k))) r'
  (d, r'.occupy (readOcc d l ((List.range size).flatMap (fun k => (unitsOf (x + 64 * k) 64).map (fun u => (r.now + k, u))))))

def tgoExc (tc entry budget : Nat) (_ : Device) (r : Run) : List Nat :=
  let c := r.core tc
  whenB (15 < tc || 15 < entry || budget == 0 || 4095 < budget) 0x5B ++ trowNamed r tc
    ++ whenB (c.running || r.now < c.idleAt || r.now < c.loadDue) 0x5D

/-- R119: the registers at the start of a program. -/
def tgoAct (tc entry budget : Nat) (d : Device) (r : Run) : Device × Run :=
  let c := r.core tc
  (d.inc (dieReg R.TRW_PROGRAMS r.plot.die),
   r.setCore tc { c with
     s := (List.range 16).foldl (fun t i => t.set (16 + i) (BitVec.ofNat 64 (r.areg i))) [],
     v := [], flags := 0, pc := 256 * entry, running := true, clk := r.now + 2, ready := [],
     budgetDue := r.now + 64 * budget, started := r.elapsed + 2 })

/-- R231 -/
def trowelCounters (die : Nat) : List Nat :=
  [R.TRW_BUSY_LO, R.TRW_BUSY_HI, R.TRW_PROGRAMS, R.TRW_STOPS, R.TRW_FAULTS].map (fun a => dieReg a die)

/-- TRW_CNT_CLR (R231). -/
def execTrwCntClr (die : Nat) (s : State) : Host.Outcome State Fault Refusal :=
  .next (s.onReg (fun tb d => (d.settleStopped (fun x => x.die == die && x.kind == 2) tb.offset).clear (trowelCounters die)))

end Sys2Proof.Machine
end

