-- ==== Sys2Proof/Machine/Slots.lean ====
section
/-! DEFINITION. The slots of a bundle as instructions (R97), when a bundle issues (R98), and the exceptions of one clk: of
those that a run's bundle, its trowel cores, its end and its banks meet in it, one is reported (R130, R137). -/
namespace Sys2Proof.Machine

/-! ### The slots of a bundle -/

def slotsOfArr (s : ArrSlot) : List SlotOp :=
  if s.op == 1 then [⟨0, rampupExc s.kind s.arr, fun _ => rampupAct s.kind s.arr⟩]
  else if s.op == 2 then [⟨0, rampdnExc s.kind s.arr, fun _ => rampdnAct s.kind s.arr⟩]
  else if s.op == 3 then
    [⟨0, ldwExc s.kind s.arr s.fmt s.sw s.sa s.soff, fun _ => ldwAct s.kind s.arr s.fmt s.sw s.sa s.soff⟩]
  else if s.op == 4 then [⟨0, swapwExc s.kind s.arr, fun _ => swapwAct s.kind s.arr⟩]
  else if s.op == 5 then [⟨0, mmExc s, fun _ => mmAct s⟩]
  else []

def slotsOfStore : StoreSlot → List SlotOp
  | .nop | .illegal => []
  | .seta a imm => [setaOp a imm]
  | .adda a b simm => [addaOp a b simm]
  | .lda a port sw sa soff => [ldaOp a port sw sa soff]
  | .copy port sw sa dw da soff doff len => [copyOp port sw sa dw da soff doff len]
  | .fill port dw da pr doff len => [fillOp port dw da pr doff len]
  | .rkset sw sa dw da soff doff => [rksetOp sw sa dw da soff doff]
  | .pdld port sw sa soff p => [pdldOp port sw sa soff p]

def slotsOfAcc : AccSlot → List SlotOp
  | .nop | .illegal => []
  | .drain kind arr ofmt dw da rbase rcnt =>
    [⟨2, drainExc kind arr ofmt dw da rbase rcnt, fun _ => drainAct kind arr ofmt dw da rbase rcnt⟩]
  | .sexp kind arr exp => [⟨2, sexpExc kind arr, fun _ => sexpAct kind arr exp⟩]

def slotsOfRake (s : RakeSlot) : List SlotOp := if s.op == 0 then [] else [⟨3, rakeExc s, fun _ => rakeAct s⟩]

def slotsOfTrow : TrowSlot → List SlotOp
  | .nop | .illegal => []
  | .tload tc w a size => [⟨4, tloadExc tc w a size, fun _ => tloadAct tc w a size⟩]
  | .tgo tc entry budget => [⟨4, tgoExc tc entry budget, fun _ => tgoAct tc entry budget⟩]

def slotsOfSync : SyncSlot → List SlotOp
  | .nop | .illegal => []
  | .waitclk clk => [waitclkOp clk]
  | .hoff decl w a hr => [⟨5, hoffExc decl w a hr, fun tb => hoffAct tb decl w a hr⟩]
  | .rdfur a => [rdfurOp a]
  | .rdclk a => [rdclkOp a]

/-- The instructions of a bundle in the order of R97. -/
def Bundle.slots (b : Bundle) : List SlotOp :=
  slotsOfArr (decodeArr b.arr) ++ slotsOfStore (decodeStore b.store) ++ slotsOfAcc (decodeAcc b.acc)
    ++ slotsOfRake (decodeRake b.rake) ++ slotsOfTrow (decodeTrow b.trow) ++ slotsOfSync (decodeSync b.sync)

/-- The first slot whose encoding is illegal; a WAITCLK with a SKIP counts against its slot. -/
def Bundle.illegalSlot (b : Bundle) : Nat :=
  if !arrLegal b.arr then 0
  else if decodeStore b.store == .illegal then 1
  else if decodeAcc b.acc == .illegal then 2
  else if !rakeLegal b.rake then 3
  else if decodeTrow b.trow == .illegal then 4
  else 5

/-! ### The exceptions of a clk -/

/-- R98, R121: the machine clk at which the next bundle issues. -/
def Run.issueClk (r : Run) : Nat :=
  max r.now (match r.waitClk with
    | none => r.nextIssue
    | some c => max r.nextIssue (c - r.pauses))

/-- R99: the checks of every slot; the detail that is reported, and its slot. -/
def bundleExc (d : Device) (r : Run) (ss : List SlotOp) : Option (Nat × Nat) :=
  match firstExc (ss.flatMap (fun o => o.chk d r)) with
  | none => none
  | some det => (ss.find? (fun o => (o.chk d r).contains det)).map (fun o => (det, o.slot))

/-- R130: what the bundle that issues at the clk of a run raises, each detail with its slot. -/
def dueBundleExc (d : Device) (r : Run) : List (Nat × Nat) :=
  if r.plot.bundles ≤ r.pc || r.plot.length ≤ r.elapsed || r.issueClk != r.now then []
  else
    let b := decodeBundle (r.plot.bundle d.mem r.pc)
    if !b.legal then [(0x5B, b.illegalSlot)] else b.slots.flatMap (fun o => (o.chk d r).map (fun c => (c, o.slot)))

/-- R108: an array may be what it is at LENGTH − 48. -/
def ArrayState.settled (x : ArrayState) : Bool := x.st == .down || x.st == .rampDown

/-- R108: the check at LENGTH − 48 falls in the clk of a run and fails. -/
def Run.overrun (r : Run) : Bool := r.elapsed + 48 == r.plot.length && !r.arrays.all (fun p => p.2.settled)

/-- R137: the bank conflicts of the clk at which a run stands. -/
def Run.clashesNow (r : Run) : List Nat := if r.replay.isSome || r.plot.length ≤ r.elapsed then [] else r.clashes r.now

/-- A write of an operation in flight. -/
def Pend.writes : Pend → Bool
  | .store _ _ | .copyUnit _ _ _ | .drainRow _ _ _ _ _ | .rakeResult _ _ => true
  | _ => false

/-- R130: what LENGTH finds: a write that is not yet visible, a core that still runs (R119). -/
def endExc (r : Run) : List (Nat × Option Nat) :=
  (whenB (r.pend.any (fun p => p.2.2.writes) || r.rake.any (fun o => r.now < o.due)) 0x5F).map (fun c => (c, none))
    ++ (r.trowels.filter (fun p => p.2.running)).map (fun p => (0x60, some p.1))

/-- The exceptions of the clk at which a run stands, each with the slot or core that it concerns. A replay pause holds the
bundles (R200). -/
def clkExcs (d : Device) (r : Run) : List (Nat × Option Nat) :=
  (if r.replay.isSome then [] else (dueBundleExc d r).map (fun p => (p.1, some p.2)))
    ++ (List.range 16).flatMap (fun t => (coreExc d r t).map (fun c => (c, some t)))
    ++ (if r.plot.length ≤ r.elapsed then endExc r else []) ++ (if r.overrun then [(0x5F, none)] else []) ++ r.clashesNow.map (fun _ => (detBankConflict, none))

/-- R231: the programs that a clk stops by their budget, and those it ends by TROWEL_ALIGN or TROWEL_ILLEGAL. -/
def countCores (r : Run) (d : Device) : Device :=
  (List.range 16).foldl (fun d t => match firstExc (coreExc d r t) with
    | some det =>
      if det == 0x60 then d.inc (dieReg R.TRW_STOPS r.plot.die)
      else if det == 0x61 || det == 0x62 then d.inc (dieReg R.TRW_FAULTS r.plot.die) else d
    | none => d) d

/-- R130, R137: a run is aborted at the clk at which it stands by the exception of that clk, `own` among them, that comes
first in R130's order. PLOT_ABORTED names the lowest of the cores that raise it; of several slots, or a slot and a core, R129
names none: the first slot in the order of R97 is taken (DESIGN CHOICE, log entry 106). -/
def abortClk (i : Nat) (own : List (Nat × Option Nat)) (d : Device) : Device :=
  match d.run? i with
  | none => d
  | some r =>
    let l := clkExcs d r ++ own
    match if r.aborted.isSome then none else firstExc (l.map (·.1)) with
    | none => d
    | some det =>
      let d := countConflicts r r.clashesNow (countCores r d)
      match (l.find? (fun p => p.1 == det)).bind (·.2) with
      | some slot => abortRun i det slot d
      | none => abortWhole i det d

end Sys2Proof.Machine
end

