-- ==== Sys2Proof/Machine/Trowel.lean ====
section
/-! DEFINITION. The trowel profile (R123 to R128). A trowel row
is the issue, by core `t` of a plot run, of the instruction at its pc, where that is the row's instruction (log
entry 30); its fields are read from the instruction buffer. -/
namespace Sys2Proof.Machine

/-! ### Issue -/

/-- The issue of an instruction of opcode `op`: at its clk, its checks and then its effect. -/
def coreOp (i t op : Nat) (reads : Nat → List Nat) (exc : Device → Run → Trowel → Nat → List Nat)
    (act : Device → Run → Trowel → Nat → Nat → Device × Run × Trowel) (d : Device) : Device :=
  match d.run? i with
  | none => d
  | some r0 =>
    let x0 := r0.core t
    let w := x0.fetch
    let c := x0.issueAt (reads w)
    if r0.aborted.isSome || r0.replay.isSome || !x0.running || !trowLegal x0.pc w || fOpc w != op
        || r0.trowelLimit x0 ≤ c then d
    else
      let d := d.runTo i c
      match d.run? i with
      | none => d
      | some r =>
        if r.aborted.isSome then d else
        let x := r.core t
        match firstExc (exc d r x w) with
        | some det => abortClk i [(det, some t)] d
        | none =>
          let (d, r, x) := act d r x w c
          d.setRun i (r.setCore t x)

def noExc (_ : Device) (_ : Run) (_ : Trowel) (_ : Nat) : List Nat := []

/-- The word index after an instruction. -/
def nextPc (x : Trowel) (w : Nat) : Nat := x.pc + (if bit 0 w then 2 else 1)

/-- The core goes on to the next instruction. -/
def Trowel.next (x : Trowel) (w c : Nat) : Trowel := { x with pc := nextPc x w, clk := c + 1 }

/-- s[D] takes a value that can be read from a clk on. R125 makes no exception for s0: a reader of it waits, although the
write is ignored (DEDUCED, log entry 105). Of two writes of one register in flight the later instruction's counts, at once
(DESIGN CHOICE, log entry 163). -/
def Trowel.putS (x : Trowel) (i v clk : Nat) : Trowel := { x.setS i v with ready := x.ready.set i clk }

/-- The same of v[D] (log entry 163). -/
def Trowel.putV (x : Trowel) (i v clk : Nat) : Trowel := { x.setV i v with ready := x.ready.set (vKey i) clk }

/-- FLAGS is sticky. -/
def Trowel.addFlags (x : Trowel) (f clk : Nat) : Trowel :=
  { x with flags := x.flags ||| f, ready := x.ready.set flagsKey (max clk (x.ready.getD flagsKey 0)) }

/-- An instruction whose result goes to s[D]. -/
def scalarOp (i t op lat : Nat) (reads : Nat → List Nat) (f : Run → Trowel → Nat → Nat → Nat) (d : Device) : Device :=
  coreOp i t op reads noExc (fun d r x w c => (d, r, (x.next w c).putS (fD w) (f r x w c) (c + lat))) d

/-- A lane-wise instruction whose result goes to v[D]; its latency may depend on its word. -/
def vectorOp (i t op : Nat) (lat : Nat → Nat) (reads : Nat → List Nat) (f : Trowel → Nat → Nat × Nat) (d : Device) : Device :=
  coreOp i t op reads noExc (fun d r x w c =>
    let (v, fl) := f x w
    (d, r, ((x.next w c).putV (fD w) v (c + lat w)).addFlags fl (c + lat w))) d

def readsAB (w : Nat) : List Nat := [fA w, fB w]
def readsA (w : Nat) : List Nat := [fA w]
def readsV (w : Nat) : List Nat := [vKey (fA w)]
def readsVV (w : Nat) : List Nat := [vKey (fA w), vKey (fB w)]

/-! ### Scalar instructions -/

def trowAlu (i t : Nat) (d : Device) : Device :=
  scalarOp i t 0x01 1 readsAB (fun _ x w _ => aluOp (fF w) (x.sreg (fA w)) (x.sreg (fB w))) d

/-- ADD_SUB_LOGIC (R127). -/
def execAddSubLogic (run core : Nat) (s : State) : Host.Outcome State Fault Refusal := devCmd (trowAlu run core) s

def trowMul (i t : Nat) (d : Device) : Device :=
  scalarOp i t 0x02 3 readsAB (fun _ x w _ => mulOp (fF w) (x.sreg (fA w)) (x.sreg (fB w))) d

/-- MUL (R127). -/
def execMul (run core : Nat) (s : State) : Host.Outcome State Fault Refusal := devCmd (trowMul run core) s

def trowDiv (i t : Nat) (d : Device) : Device :=
  scalarOp i t 0x03 34 readsAB (fun _ x w _ => divOp (fF w) (x.sreg (fA w)) (x.sreg (fB w))) d

/-- DIV (R127). -/
def execDiv (run core : Nat) (s : State) : Host.Outcome State Fault Refusal := devCmd (trowDiv run core) s

/-- IMM15 as a 64-bit pattern. -/
def immPat (w : Nat) : Nat := ofSigned 64 (fImmI w)

/-- addi andi ori xori: s[A] op IMM15, with `f` of OPC 0x01. -/
def trowImm (i t op f : Nat) (d : Device) : Device :=
  scalarOp i t op 1 readsA (fun _ x w _ => aluOp f (x.sreg (fA w)) (immPat w)) d

/-- ADDI (R127). -/
def execAddi (run core : Nat) (s : State) : Host.Outcome State Fault Refusal := devCmd (trowImm run core 0x04 0) s

/-- ANDI (R127). -/
def execAndi (run core : Nat) (s : State) : Host.Outcome State Fault Refusal := devCmd (trowImm run core 0x05 2) s

/-- ORI (R127). -/
def execOri (run core : Nat) (s : State) : Host.Outcome State Fault Refusal := devCmd (trowImm run core 0x06 3) s

/-- XORI (R127). -/
def execXori (run core : Nat) (s : State) : Host.Outcome State Fault Refusal := devCmd (trowImm run core 0x07 4) s

/-- IMM bits 7:6 select sll, srl or sra; bits 5:0 are the amount. -/
def shiftImm (w a : Nat) : Nat := aluOp (5 + bits 24 23 w) a (bits 22 17 w)

def trowShift (i t : Nat) (d : Device) : Device :=
  scalarOp i t 0x08 1 readsA (fun _ x w _ => shiftImm w (x.sreg (fA w))) d

/-- SHIFT_IMMEDIATE (R127). -/
def execShiftImmediate (run core : Nat) (s : State) : Host.Outcome State Fault Refusal := devCmd (trowShift run core) s

/-- SLTI (R127). -/
def execSlti (run core : Nat) (s : State) : Host.Outcome State Fault Refusal := devCmd (trowImm run core 0x09 8) s

def trowLi (i t : Nat) (d : Device) : Device :=
  scalarOp i t 0x0C 1 (fun _ => []) (fun _ _ w _ => ofSigned 64 (fImm32 w)) d

/-- LI (R127). -/
def execLi (run core : Nat) (s : State) : Host.Outcome State Fault Refusal := devCmd (trowLi run core) s

def trowLih (i t : Nat) (d : Device) : Device :=
  scalarOp i t 0x0D 1 (fun w => [fD w]) (fun _ x w _ => x.sreg (fD w) % 2 ^ 32 + 2 ^ 32 * bits 63 32 w) d

/-- LIH (R127). -/
def execLih (run core : Nat) (s : State) : Host.Outcome State Fault Refusal := devCmd (trowLih run core) s

/-! ### Branches and jumps -/

/-- R127: the comparison of OPC 0x10 to 0x15. -/
def branchTaken (op a b : Nat) : Bool :=
  if op == 0x10 then a == b
  else if op == 0x11 then a != b
  else if op == 0x12 then decide (toSigned 64 a < toSigned 64 b)
  else if op == 0x13 then decide (toSigned 64 b ≤ toSigned 64 a)
  else if op == 0x14 then decide (a < b)
  else decide (b ≤ a)

/-- The pc after a relative transfer; outside 0 to 4,095 it raises TROWEL_ILLEGAL when the core comes to issue. -/
def relPc (pc : Nat) (imm : Int) : Nat := ofSigned 64 ((pc : Int) + imm)

def trowBranch (i t op : Nat) (d : Device) : Device :=
  coreOp i t op readsAB noExc (fun d r x w c =>
    if branchTaken op (x.sreg (fA w)) (x.sreg (fB w)) then (d, r, { x with pc := relPc x.pc (fImmB w), clk := c + 3 })
    else (d, r, x.next w c)) d

/-- BEQ (R127). -/
def execBeq (run core : Nat) (s : State) : Host.Outcome State Fault Refusal := devCmd (trowBranch run core 0x10) s

/-- BNE (R127). -/
def execBne (run core : Nat) (s : State) : Host.Outcome State Fault Refusal := devCmd (trowBranch run core 0x11) s

/-- BLT (R127). -/
def execBlt (run core : Nat) (s : State) : Host.Outcome State Fault Refusal := devCmd (trowBranch run core 0x12) s

/-- BGE (R127). -/
def execBge (run core : Nat) (s : State) : Host.Outcome State Fault Refusal := devCmd (trowBranch run core 0x13) s

/-- BLTU (R127). -/
def execBltu (run core : Nat) (s : State) : Host.Outcome State Fault Refusal := devCmd (trowBranch run core 0x14) s

/-- BGEU (R127). -/
def execBgeu (run core : Nat) (s : State) : Host.Outcome State Fault Refusal := devCmd (trowBranch run core 0x15) s

def trowJal (i t : Nat) (d : Device) : Device :=
  coreOp i t 0x16 (fun _ => []) noExc (fun d r x w c =>
    (d, r, { x.putS (fD w) (nextPc x w) (c + 3) with pc := relPc x.pc (fImmI w), clk := c + 3 })) d

/-- JAL (R127). -/
def execJal (run core : Nat) (s : State) : Host.Outcome State Fault Refusal := devCmd (trowJal run core) s

def trowJalr (i t : Nat) (d : Device) : Device :=
  coreOp i t 0x17 readsA noExc (fun d r x w c =>
    (d, r, { x.putS (fD w) (nextPc x w) (c + 3) with pc := relPc (x.sreg (fA w)) (fImmI w), clk := c + 3 })) d

/-- JALR (R127). -/
def execJalr (run core : Nat) (s : State) : Host.Outcome State Fault Refusal := devCmd (trowJalr run core) s

/-! ### Memory (R126) -/

/-- A load of n bytes: the data as it stands at issue, readable from issue + 2 + L. -/
def trowLoad (i t op n : Nat) (put : Trowel → Nat → Nat → Nat → Trowel) (d : Device) : Device :=
  coreOp i t op readsA (accExc t n false) (fun d r x w c =>
    let a := accAddr r x w n
    let l := r.lat (fW w)
    let r := (r.holdPort t 1).occupy (readOcc d l ((unitsOf a n).map (fun u => (c, u))))
    (d, r, put (x.next w c) (fD w) (ofLe (plotRead d r c a n)) (c + 2 + l))) d

/-- A store of n bytes, visible from issue + L. -/
def trowStore (i t op n : Nat) (src : Nat → Nat) (val : Trowel → Nat → Nat) (d : Device) : Device :=
  coreOp i t op (fun w => [fA w, src w]) (accExc t n true) (fun d r x w c =>
    let a := accAddr r x w n
    let l := r.lat (fW w)
    let r := ((r.holdPort t 1).at (c + l) t (.store a (leBytes n (val x (fD w))))).occupy
      (writeOcc d ((unitsOf a n).map (fun u => (c + l, u))))
    (d, r, x.next w c)) d

def srcS (w : Nat) : Nat := fD w
def srcV (w : Nat) : Nat := vKey (fD w)

/-- LD_D (R127). -/
def execLdD (run core : Nat) (s : State) : Host.Outcome State Fault Refusal := devCmd (trowLoad run core 0x18 8 Trowel.putS) s

/-- LD_W (R127). -/
def execLdW (run core : Nat) (s : State) : Host.Outcome State Fault Refusal := devCmd (trowLoad run core 0x19 4 Trowel.putS) s

/-- LD_H (R127). -/
def execLdH (run core : Nat) (s : State) : Host.Outcome State Fault Refusal := devCmd (trowLoad run core 0x1A 2 Trowel.putS) s

/-- LD_B (R127). -/
def execLdB (run core : Nat) (s : State) : Host.Outcome State Fault Refusal := devCmd (trowLoad run core 0x1B 1 Trowel.putS) s

/-- ST_D (R127). -/
def execStD (run core : Nat) (s : State) : Host.Outcome State Fault Refusal :=
  devCmd (trowStore run core 0x1C 8 srcS Trowel.sreg) s

/-- ST_W (R127). -/
def execStW (run core : Nat) (s : State) : Host.Outcome State Fault Refusal :=
  devCmd (trowStore run core 0x1D 4 srcS Trowel.sreg) s

/-- ST_H (R127). -/
def execStH (run core : Nat) (s : State) : Host.Outcome State Fault Refusal :=
  devCmd (trowStore run core 0x1E 2 srcS Trowel.sreg) s

/-- ST_B (R127). -/
def execStB (run core : Nat) (s : State) : Host.Outcome State Fault Refusal :=
  devCmd (trowStore run core 0x1F 1 srcS Trowel.sreg) s

/-- VLD (R127). -/
def execVld (run core : Nat) (s : State) : Host.Outcome State Fault Refusal := devCmd (trowLoad run core 0x20 64 Trowel.putV) s

/-- VST (R127). -/
def execVst (run core : Nat) (s : State) : Host.Outcome State Fault Refusal :=
  devCmd (trowStore run core 0x21 64 srcV Trowel.vreg) s

/-- VST_32 (R127): bits 255:0. -/
def execVst32 (run core : Nat) (s : State) : Host.Outcome State Fault Refusal :=
  devCmd (trowStore run core 0x22 32 srcV Trowel.vreg) s

/-- LD_D_WIDE (R127). -/
def execLdDWide (run core : Nat) (s : State) : Host.Outcome State Fault Refusal :=
  devCmd (trowLoad run core 0x38 8 Trowel.putS) s

/-- VLD_WIDE (R127). -/
def execVldWide (run core : Nat) (s : State) : Host.Outcome State Fault Refusal :=
  devCmd (trowLoad run core 0x39 64 Trowel.putV) s

/-- ST_D_WIDE (R127). -/
def execStDWide (run core : Nat) (s : State) : Host.Outcome State Fault Refusal :=
  devCmd (trowStore run core 0x3A 8 srcS Trowel.sreg) s

/-- VST_WIDE (R127). -/
def execVstWide (run core : Nat) (s : State) : Host.Outcome State Fault Refusal :=
  devCmd (trowStore run core 0x3B 64 srcV Trowel.vreg) s

/-! ### Vector instructions -/

def trowVecArith (i t : Nat) (d : Device) : Device :=
  vectorOp i t 0x24 (fun w => if fTy w == 3 then 2 else 4) readsVV
    (fun x w => vecArith (fTy w) (fFn w) (x.vreg (fA w)) (x.vreg (fB w))) d

/-- VECTOR_ARITH (R127). -/
def execVectorArith (run core : Nat) (s : State) : Host.Outcome State Fault Refusal := devCmd (trowVecArith run core) s

def trowVfma (i t : Nat) (d : Device) : Device :=
  vectorOp i t 0x25 (fun _ => 5) (fun w => vKey (fD w) :: readsVV w)
    (fun x w => vecFma (fTy w) (x.vreg (fD w)) (x.vreg (fA w)) (x.vreg (fB w))) d

/-- VFMA (R127). -/
def execVfma (run core : Nat) (s : State) : Host.Outcome State Fault Refusal := devCmd (trowVfma run core) s

def trowVecFunc (i t : Nat) (d : Device) : Device :=
  vectorOp i t 0x26 (fun _ => 10) readsV (fun x w => vecFunc (fTy w) (fFn w) (x.vreg (fA w))) d

/-- VEXP_VRCP_VRSQRT (R127). -/
def execVexpVrcpVrsqrt (run core : Nat) (s : State) : Host.Outcome State Fault Refusal := devCmd (trowVecFunc run core) s

def trowReduce (i t : Nat) (d : Device) : Device :=
  coreOp i t 0x27 readsV noExc (fun d r x w c =>
    let (v, fl) := vecReduce (fTy w) (fFn w) (x.vreg (fA w))
    (d, r, ((x.next w c).putS (fD w) v (c + 7)).addFlags fl (c + 7))) d

/-- VREDUCE (R127). -/
def execVreduce (run core : Nat) (s : State) : Host.Outcome State Fault Refusal := devCmd (trowReduce run core) s

def trowVcvt (i t : Nat) (d : Device) : Device :=
  vectorOp i t 0x28 (fun _ => 3) readsV (fun x w => vecCvt (fTy w) (fFn w) (x.vreg (fA w))) d

/-- VCVT (R127). -/
def execVcvt (run core : Nat) (s : State) : Host.Outcome State Fault Refusal := devCmd (trowVcvt run core) s

/-- Every lane holds the low bits of a scalar. -/
def broadcast (ty v : Nat) : Nat := packLanes (laneWidth ty) (List.replicate (laneCount ty) v)

def trowBcast (i t : Nat) (d : Device) : Device :=
  vectorOp i t 0x29 (fun _ => 2) readsA (fun x w => (broadcast (fTy w) (x.sreg (fA w)), 0)) d

/-- VBCAST (R127). -/
def execVbcast (run core : Nat) (s : State) : Host.Outcome State Fault Refusal := devCmd (trowBcast run core) s

/-- Lane i is the lane of `a` that lane i of `b` names, modulo the lane count. -/
def permute (ty a b : Nat) : Nat := packLanes (laneWidth ty) ((lanes ty b).map (fun j => lane ty a (j % laneCount ty)))

def trowPerm (i t : Nat) (d : Device) : Device :=
  vectorOp i t 0x2A (fun _ => 3) readsVV (fun x w => (permute (fTy w) (x.vreg (fA w)) (x.vreg (fB w)), 0)) d

/-- VPERM (R127). -/
def execVperm (run core : Nat) (s : State) : Host.Outcome State Fault Refusal := devCmd (trowPerm run core) s

/-- One lane; a lane number past the last is left open. -/
def extract (ty a n : Nat) : Nat :=
  if n < laneCount ty then lane ty a n else Config.vextOver (laneWidth ty) a n % 2 ^ 64

def trowExt (i t : Nat) (d : Device) : Device :=
  scalarOp i t 0x2B 2 (fun w => [vKey (fA w), fB w]) (fun _ x w _ => extract (fTy w) (x.vreg (fA w)) (x.sreg (fB w))) d

/-- VEXT (R127). -/
def execVext (run core : Nat) (s : State) : Host.Outcome State Fault Refusal := devCmd (trowExt run core) s

/-! ### FLAGS, clk and the end -/

def trowRdflg (i t : Nat) (d : Device) : Device :=
  coreOp i t 0x2C (fun _ => [flagsKey]) noExc (fun d r x w c =>
    (d, r, { (x.next w c).putS (fD w) x.flags (c + 1) with flags := 0 })) d

/-- RDFLG (R127). -/
def execRdflg (run core : Nat) (s : State) : Host.Outcome State Fault Refusal := devCmd (trowRdflg run core) s

/-- rdclk: the elapsed clk of issue, pauses counted (R213). -/
def trowRdclk (i t : Nat) (d : Device) : Device := scalarOp i t 0x2D 1 (fun _ => []) (fun r _ _ c => c + r.pauses) d

/-- TROWEL_RDCLK (R127). -/
def execTrowelRdclk (run core : Nat) (s : State) : Host.Outcome State Fault Refusal := devCmd (trowRdclk run core) s

def trowEnd (i t : Nat) (d : Device) : Device :=
  coreOp i t 0x3F (fun _ => []) noExc (fun d r x w c =>
    (d.inc64 (dieReg R.TRW_BUSY_LO r.plot.die) (c + r.pauses - x.started), r, { x.next w c with running := false, idleAt := c + 1 })) d

/-- TEND (R127). -/
def execTend (run core : Nat) (s : State) : Host.Outcome State Fault Refusal := devCmd (trowEnd run core) s

/-- A running core comes to issue an instruction that is illegal. -/
def trowIllegal (i t : Nat) (d : Device) : Device :=
  match d.run? i with
  | none => d
  | some r =>
    let x := r.core t
    if r.aborted.isSome || r.replay.isSome || !x.running || trowLegal x.pc x.fetch || r.trowelLimit x ≤ x.clk then d
    else abortClk i [(0x61, some t)] (d.runTo i x.clk)

/-- TROWEL_ILLEGAL (R127). -/
def execTrowelIllegal (run core : Nat) (s : State) : Host.Outcome State Fault Refusal := devCmd (trowIllegal run core) s

/-- R119: the budget, or LENGTH, has come and tend has not issued. -/
def trowBudget (i t : Nat) (d : Device) : Device :=
  match d.run? i with
  | none => d
  | some r =>
    let x := r.core t
    if r.aborted.isSome || r.replay.isSome || !x.running then d
    else abortClk i [(0x60, some t)] (d.runTo i (r.trowelLimit x))

/-- TROWEL_BUDGET (R119). -/
def execTrowelBudget (run core : Nat) (s : State) : Host.Outcome State Fault Refusal := devCmd (trowBudget run core) s

end Sys2Proof.Machine
end

