-- ==== Sys2Proof/Machine/Power.lean ====
section
/-! DEFINITION. Power domains and functions (R453 to R458), the staging list's registers (R459, R460), start-up
(R465 to R467), Dormant (R471 to R473) and the management interface (R474, R515). -/
namespace Sys2Proof.Machine

/-! ### Domains (R453, R455) -/

/-- The domains that a domain requires. -/
def domReqs (n : Nat) : List Nat :=
  if n < 16 then (match n % 4 with | 0 | 1 => [n / 4 * 4 + 2] | 2 => [n + 1] | _ => [])
  else match n with
    | 18 | 20 | 21 | 22 | 26 | 27 | 28 | 29 => [23]
    | 19 => ((List.range 8).map lpSupply).eraseDups
    | 23 => [19]
    | _ => []

/-- The domains switched in service. -/
def switchable (n : Nat) : Bool := n < 16 || n == 18 || n == 20 || n == 21 || n == 22

def switchables : List Nat := (List.range 30).filter switchable

/-- The state of a domain (R477); PD_CARTs follows its slot (R411). -/
def Device.domState (d : Device) (n : Nat) : Nat :=
  if 26 ≤ n && n ≤ 29 then (d.slot (n - 26)).st.power else d.power.doms.getD n 0

def Device.setDom (d : Device) (n v : Nat) : Device := { d with power := { d.power with doms := d.power.doms.set n v } }

/-- Every domain that a domain requires is ON, or is being switched on. -/
def Device.reqsOn (d : Device) (n : Nat) : Bool := (domReqs n).all (fun r => d.domState r == 1 || d.domState r == 2)

/-- R455: a domain that is OFF is switched on: POWERING. -/
def domSwitchOn (d : Device) (n : Nat) : Device :=
  if d.domState n != 0 || !d.reqsOn n then d
  else
    let d := d.setDom n 1
    { d with power := { d.power with poweredAt := d.power.poweredAt.set n d.power.furs } }

/-- A domain becomes OFF (or enters retention). Ports that are enabled must train again once PD_X_FAB is back. -/
def domSwitchOff (target : Nat) (d : Device) (n : Nat) : Device :=
  if d.domState n == 0 || d.domState n == target then d
  else
    let d := if n == 18 then
        (List.range 8).foldl (fun d p => if (d.port' p).st == .disabled then d else d.setPort p ⟨.training, none, none⟩) d
      -- R487: the plaintext flash keys stand in PD_X_CORE
      else if n == 23 then { d with flash := { d.flash with slots := d.flash.slots.mapVals (fun _ x => { x with keys := [] }) } }
      else d
    let d := d.setDom n target
    if target == 0 then d.raise 0x0E04 [(1, n)] else d

/-- R455: the POWERING domains whose two furrows have passed become ON. -/
def domainPowered (d : Device) : Device :=
  (List.range 26).foldl (fun d n =>
    if d.domState n == 1 && d.power.poweredAt.getD n 0 + 2 ≤ d.power.furs then (d.setDom n 2).raise 0x0E04 [(1, n)] else d) d

/-- DOMAIN_POWERED (R455). -/
def execDomainPowered (s : State) : Host.Outcome State Fault Refusal := .next (s.onDev (fun _ d => domainPowered d))

/-! ### Functions (R457, R458) -/

/-- The engines of a sieve domain. -/
def engineIn (n e : Nat) : Bool := (n == 20 && e < 32) || (n == 21 && 32 ≤ e)

/-- A search works on an engine of a domain. -/
def Search.onDomain (x : Search) (n : Nat) : Bool := x.ctxs.any (fun c => engineIn n c.eng && c.st != .stopped)

/-- R457: admitted shard work needs the domains of its search: those of its ENGINE_MASK. -/
def Search.shardNeeds (x : Search) (n : Nat) : Bool :=
  x.shard.isSome && (List.range 64).any (fun e => engineIn n e && bit e (x.dsc 0x28 8))

/-- A plot of the directory that is placed or runs uses a unit of a domain. -/
def Device.plotUses (d : Device) (n : Nat) : Bool :=
  let used (c h : Nat) : Bool := match d.plots.dir.get? (65536 * c + h) with | some p => p.domains.contains n | none => false
  d.plots.runs.any (fun r => r.2.plot.domains.contains n) || d.plots.sown.any (fun p => used p.ctx p.handle)
    || (d.plots.frozen.getD []).any (fun p => used p.ctx p.handle)

/-- R458: an admitted request needs the function, or a plot, sieve context, open handoff, text job or shard job uses its
units. -/
def Device.funcUsed (d : Device) (n : Nat) : Bool :=
  d.qm.reqs.any (fun p => (d.needs p.2).contains n) || d.plotUses n || d.sieve.searches.any (fun p => p.2.onDomain n || p.2.shardNeeds n)
    || d.sieve.waiting.any (·.shardNeeds n)
    || (n == 18 && (d.plots.handoffs.any (fun p => p.2.kind == 2 || p.2.kind == 4) || !d.brx.jobs.isEmpty))
    || (n == 22 && (!d.text.queue.isEmpty || !d.text.lanes.isEmpty || !d.pasm.queue.isEmpty || d.pasm.cur.isSome
        || !d.esp.queue.isEmpty || !d.esp.engines.isEmpty || !d.seq.ast.isEmpty))

/-- PWR_FUNC_CMD names a function for the next boundary. -/
def funcCmd (n : Nat) (enable abort : Bool) (d : Device) : Device :=
  if switchable n then { d with power := { d.power with funcPend := d.power.funcPend.set n (enable, abort) } } else d

/-- FUNC_ENABLE (R458). -/
def execFuncEnable (domain : Nat) (s : State) : Host.Outcome State Fault Refusal :=
  .next (s.onAon (fun _ d => funcCmd domain true false d))

/-- FUNC_DISABLE (R458): mode 0 drain, 1 abort. -/
def execFuncDisable (domain mode : Nat) (s : State) : Host.Outcome State Fault Refusal :=
  .next (s.onAon (fun _ d => funcCmd domain false (mode % 2 == 1) d))

/-- A search stops: it lands nothing and counts as ABANDONED. -/
def abandon (s : Search) (d : Device) : Device :=
  let d := d.inc R.SIEVE_ABANDONED
  let d := match s.handoff with | some h => tallySearch h 2 s d | none => d
  match s.shard with | some j => d.dropJob j | none => d

/-- R458, abort: the searches in progress on engines of the domain stop, and shard work that has not begun and needs them. -/
def abandonSearches (n : Nat) (d : Device) : Device :=
  let run := d.sieve.searches.filter (fun p => p.2.onDomain n)
  let (gone, wait) := d.sieve.waiting.partition (·.shardNeeds n)
  let d := run.foldl (fun d p => (abandon p.2 d).dropSearch p.1) d
  gone.foldl (fun d s => abandon s d) { d with sieve := { d.sieve with waiting := wait } }

/-- R458: one command takes effect. -/
def funcApply (d : Device) (p : Nat × Bool × Bool) : Device :=
  let n := p.1
  if p.2.1 then
    { d with power := { d.power with funcs := d.power.funcs.del n, funcAbort := d.power.funcAbort.erase n } }
  else
    let d := if d.power.funcs.getD n 0 == 2 then d
      else { d with power := { d.power with funcs := d.power.funcs.set n 1 } }
    if !p.2.2 then d
    else
      let d := { d with power := { d.power with funcAbort := n :: d.power.funcAbort.erase n } }
      let d := abandonSearches n d
      (d.qm.reqs.filter (fun r => (d.needs r.2).contains n)).foldl (fun d r => d.cancelReq r.1 0x99) d

/-- The boundary: commands take effect. -/
def funcBoundary (d : Device) : Device :=
  let l := d.power.funcPend
  l.foldl funcApply { d with power := { d.power with funcPend := [] } }

/-- The boundary, once requests have ended: DRAINING functions that nothing uses are DISABLED. -/
def funcDrained (d : Device) : Device :=
  switchables.foldl (fun d n =>
    if d.power.funcs.getD n 0 == 1 && !d.funcUsed n then
      { d with power := { d.power with funcs := d.power.funcs.set n 2 } }.raise 0x0E05 [(1, n)]
    else d) d

/-! ### Staging: the list (R459, R460) -/

def stgStatus (st step last reason waited : Nat) (d : Device) : Device :=
  d.setReg R.PWR_STG_STATUS (st <<< 30 + step <<< 24 + last <<< 16 + reason <<< 8 + waited)

def stgEntry (d : Device) (k : Nat) : StgEntry :=
  ⟨d.reg (inst R.PWR_STG_W0 k), d.reg (inst (R.PWR_STG_W0 + 4) k), d.reg (inst (R.PWR_STG_W0 + 8) k), none⟩

def StgEntry.type (e : StgEntry) : Nat := bits 31 30 e.w1
def StgEntry.ctx (e : StgEntry) : Nat := bits 25 16 e.w1
def StgEntry.first (e : StgEntry) : Nat := bits 12 0 e.w1
def StgEntry.count (e : StgEntry) : Nat := bits 13 0 e.w2

/-- R460: STEP starts at 0 and rises by at most 1. -/
def stepsOk : Nat → List StgEntry → Bool
  | _, [] => true
  | n, e :: t => (e.step == n || e.step == n + 1) && stepsOk e.step t

/-- R460: the register of a REGISTER entry holds an RW field and is no PWR register. -/
def targetOk (e : StgEntry) : Bool :=
  e.kind != 0 || (match regDesc e.offset with
    | some r => r.fields.any (fun f => f.acc == .rw) && !(0x20000 ≤ e.offset && e.offset < 0x30000)
    | none => false)

/-- R459: the reserved bits and ranges of an entry; word 3 is reserved. -/
def fieldOk (d : Device) (k : Nat) (e : StgEntry) : Bool :=
  d.reg (inst (R.PWR_STG_W0 + 12) k) == 0
    && (if e.kind == 0 then e.offset % 4 == 0 && e.w2 == 0
        else e.kind == 1 && e.offset == 0 && e.type < 2 && bits 29 26 e.w1 == 0 && bits 15 13 e.w1 == 0
          && bits 31 14 e.w2 == 0 && 1 ≤ e.count && e.count ≤ 8192 && e.first + e.count ≤ 8192)

/-- R463: an entry for STORE_SET_WIDE_LO is followed in its step by one for STORE_SET_WIDE_HI. -/
def wideOk : List StgEntry → Bool
  | [] => true
  | e :: t =>
    (e.kind != 0 || e.offset != R.STORE_SET_WIDE_LO || (match t with
      | f :: _ => f.kind == 0 && f.offset == R.STORE_SET_WIDE_HI && f.step == e.step
      | [] => false)) && wideOk t

/-- R460: why ARM refuses a list, or 0. -/
def armReason (tb : Timebase) (d : Device) (n : Nat) : Nat :=
  let es := (List.range n).map (stgEntry d)
  let at_ := BitVec.ofNat 48 (d.reg64 R.PWR_STG_AT_LO)
  if (match es with | e :: _ => e.step != 0 | [] => false) || !stepsOk 0 es then 1
  else if !es.all targetOk then 2
  else if n == 0 || !(List.range n).all (fun k => fieldOk d k (stgEntry d k)) || !wideOk es then 3
  else if d.power.staging.isSome then 4
  else if !tb.stageable at_ then 5 else 0

/-- A list is armed for a furrow. -/
def armList (es : List StgEntry) (at_ : W48) (d : Device) : Device :=
  stgStatus 1 0 0xFF 0 0 { d with power := { d.power with staging := some ⟨es, at_, 0, 0⟩ } }

/-- PWR_STG_CTRL.ARM written 1, with a value of COUNT; one out of range is not stored (R525). -/
def stgArm (count : Nat) (tb : Timebase) (d : Device) : Device :=
  let d := if 1 ≤ count && count ≤ 256 then d.setFld R.PWR_STG_CTRL 8 0 count else d
  let n := d.fld R.PWR_STG_CTRL 8 0
  let r := armReason tb d n
  if r != 0 then (d.setFld R.PWR_STG_STATUS 15 8 r).raise 0x0E08 []
  else armList ((List.range n).map (stgEntry d)) (BitVec.ofNat 48 (d.reg64 R.PWR_STG_AT_LO)) d

/-- STG_ARM (R460). -/
def execStgArm (count : Nat) (s : State) : Host.Outcome State Fault Refusal := .next (s.onAon (stgArm count))

/-- R477: CANCEL discards the steps not yet applied. -/
def stgCancel (d : Device) : Device :=
  if d.power.staging.isNone then d
  else { d with power := { d.power with staging := none } }.setFld R.PWR_STG_STATUS 31 30 0

/-- STG_CANCEL (R477). -/
def execStgCancel (s : State) : Host.Outcome State Fault Refusal := .next (s.onAon (fun _ d => stgCancel d))

/-! ### Staging: direct writes (R463) -/

/-- A one-entry list is formed for the next boundary, or refused while a list is armed. -/
def directList (es : List StgEntry) (tb : Timebase) (d : Device) : Device :=
  if d.power.staging.isSome then d.raise 0x0E08 [] else armList es (tb.number + 1) d

/-- The registers that a direct write stages. -/
def stagedReg (a : Nat) : Bool :=
  a == R.PWR_DOM_TARGET || a == R.STORE_SET_WIDE_HI || a == R.STORE_PAGE_OWNER || a == R.FLASH_SLOT_CFG

/-- R463: a direct write of a staged register; `lo` is the pending _LO write of the bank sets' modes. A page owner of TYPE
2 or 3 is discarded whole (R167). Out of service PWR_DOM_TARGET is stored at once. -/
def stagedWrite (a v : Nat) (lo : Option W32) (tb : Timebase) (d : Device) : Device :=
  if a == R.PWR_DOM_TARGET then
    if d.power.phase == .service then directList [⟨a, v, 0, none⟩] tb d
    else d.setReg a (bits 22 20 v <<< 20 + bits 18 18 v <<< 18 + bits 15 0 v)
  else if a == R.STORE_SET_WIDE_HI then
    match lo with
    | some w => directList [⟨R.STORE_SET_WIDE_LO, w.toNat, 0, none⟩, ⟨a, v, 0, none⟩] tb d
    | none => directList [⟨a, v, 0, none⟩] tb d
  else if a == R.STORE_PAGE_OWNER then
    if 2 ≤ bits 31 30 v then d else directList [⟨a, v, 0, some (d.fld R.STORE_PAGE_SEL 12 0)⟩] tb d
  else if a == R.FLASH_SLOT_CFG then directList [⟨a, v, 0, some d.slotSel⟩] tb d
  else d

/-! ### Staging: failure (R462, R464) -/

def Device.cfgLimit (d : Device) : Nat := max 1 (d.fld R.PWR_CFG_LIMIT 15 0)

/-- R464: domains that the failed step was to switch on: the requests whose plots were held for them are cancelled. -/
def stepCancels (es : List StgEntry) (d : Device) : Device :=
  let on := switchables.filter (fun n => d.domState n == 0 && es.any (fun e => e.kind == 0 && e.offset == R.PWR_DOM_TARGET && bit n e.w1))
  let waits (c h : Nat) : Bool := match d.plots.dir.get? (65536 * c + h) with
    | some p => p.domains.any on.contains
    | none => false
  let heldReqs (x : Nat × Nat) : List Nat :=
    if x.1 < 2 ^ 32 then
      match (d.req? x.1).bind (fun q => (q.stages[x.2 / 65536]?).map (fun t => (q, t))) with
      | some (q, t) => if waits q.ctx t.handle then [x.1] else []
      | none => []
    else match d.seq.stages.get? (x.1 - 2 ^ 32) with
      | some t => match t.plots[x.2]? with
        | some p => if waits (d.mdlOwner t.model) p.2 then d.reqsOf 0 (some (x.1 - 2 ^ 32)) else []
        | none => []
      | none => []
  let rs := (d.plots.domainOffSeen.flatMap heldReqs).eraseDups
  rs.foldl (fun d r => (d.cancelReq r 0x98).cond r 0xB 0x98) d

/-- R462: the step being attempted fails. -/
def stepFails (reason : Nat) (d : Device) : Device :=
  match d.power.staging with
  | none => d
  | some st =>
    let d := stepCancels (st.entries.filter (fun e => e.step == st.step)) d
    let d := { d with power := { d.power with staging := none } }
    let d := (d.setFld R.PWR_STG_STATUS 31 30 3).setFld R.PWR_STG_STATUS 15 8 reason
    (d.inc R.PWR_STG_FAILS).raise 0x0E07 [(1, st.step), (1, reason)]

def stepLimit (d : Device) : Device := match d.power.staging with
  | some st => if d.cfgLimit ≤ st.tried then stepFails 8 d else d
  | none => d

/-- STG_STEP_LIMIT (R462): the step has had its last attempt. -/
def execStgStepLimit (s : State) : Host.Outcome State Fault Refusal := .next (s.onDev (fun _ d => stepLimit d))

/-! ### Start-up (R465 to R467) -/

/-- R466: CLEAR empties the image memory; discarded during verification (R481). -/
def bootClear (d : Device) : Device :=
  if d.power.verify.isSome then d else { d with power := { d.power with image := [], imageLen := 0 } }

/-- BOOT_CLEAR (R466). -/
def execBootClear (s : State) : Host.Outcome State Fault Refusal := .next (s.onAon (fun _ d => bootClear d))

/-- R466: 4 B are appended; a write past 8,388,608 B is discarded. -/
def bootData (v : Nat) (d : Device) : Device :=
  let p := d.power
  if p.verify.isSome || 8388608 < p.imageLen + 4 then d
  else { d with power := { p with image := p.image.writeBytes p.imageLen (leBytes 4 v), imageLen := p.imageLen + 4 } }

/-- BOOT_DATA (R466). -/
def execBootData (word : Nat) (s : State) : Host.Outcome State Fault Refusal := .next (s.onAon (fun _ d => bootData word d))

/-- R480: header bytes that are not listed. -/
def imgReserved (i : Nat) : Bool := (0x18 ≤ i && i < 0x40) || (0x70 ≤ i && i < 0x100) || 0x160 ≤ i

/-- R481, check 1. -/
def imageFormatOk (p : PowerUnit) : Bool :=
  let h := p.image.readBytes 0 512
  let f := fieldLe h
  512 ≤ p.imageLen && f 0 4 == 0x47584657 && f 4 2 == 1 && f 0x14 4 == 0x00B00012 && f 6 1 < 4 && f 7 1 < 64
    && f 0x10 4 % 4 == 0 && 512 + f 0x10 4 == p.imageLen
    && (List.range 512).all (fun i => !imgReserved i || h.getD i 0 == 0)

/-- R480, R481: SIGNATURE is one of header bytes 0x000 to 0x0FF under root key KEY_INDEX. -/
def signatureOk (p : PowerUnit) : Bool :=
  let h := p.image.readBytes 0 512
  Config.ecdsaVerify (Config.rootKey (fieldLe h 6 1)) (sliceBytes h 0 0x100) (sliceBytes h 0x100 96)

/-- R481: checks 1, 2 and the signature of check 3: the RESULT on failure, or 1. The body's hash is taken by the engine after. -/
def imageCheck (d : Device) : Nat :=
  let h := d.power.image.readBytes 0 16
  if !imageFormatOk d.power then 2
  else if bit (fieldLe h 6 1) d.sec.revInForce || fieldLe h 7 1 < d.sec.minInForce then 4
  else if !signatureOk d.power then 3 else 1

/-- R481: VERIFY starts the authentication of the image; it is taken in the ROM phase. -/
def bootVerify (d : Device) : Device :=
  if d.power.phase != .rom then d
  else { d with power := { d.power with phase := .verifying, verify := some (imageCheck d), verFur := some d.power.furs } }

/-- BOOT_VERIFY (R481). -/
def execBootVerify (s : State) : Host.Outcome State Fault Refusal := .next (s.onAon (fun _ d => bootVerify d))

/-- R481: the image runs: its header's fields. -/
def runImage (d : Device) : Device :=
  let h := d.power.image.readBytes 0 512
  let f := fieldLe h
  { d with sec := { d.sec with
      runKey := f 6 1, runSvn := f 7 1, runBuild := f 8 8, runTarget := f 0x14 4, runHash := sliceBytes h 0x40 48 } }

/-- R480, R481: BODY_HASH is the SHA-384 of the body as loaded. -/
def bodyHashOk (p : PowerUnit) : Bool :=
  sliceBytes (p.image.readBytes 0 512) 0x40 48 == sha384 (p.image.readBytes 512 (p.imageLen - 512))

/-- R481, R467: the result takes effect; `sigOk` says that the engine completed the verification of a signature that is good;
false stands for one that it did not complete (DESIGN CHOICE, log entry 152). -/
def verifyDone (sigOk : Bool) (d : Device) : Device :=
  match d.power.verify with
  | none => d
  | some c =>
    let r := if c == 1 && !(sigOk && bodyHashOk d.power) then 3 else c
    let ok := r == 1
    let d := { d with power := { d.power with verify := none, result := r, phase := if ok then .bringup else .rom } }
    if ok then runImage d else d.raise 0x0E02 [(1, r)]

/-- VERIFY_DONE (R481): operand: whether the engine completed the verification. -/
def execVerifyDone (sigOk : Bool) (s : State) : Host.Outcome State Fault Refusal := .next (s.onDev (fun _ d => verifyDone sigOk d))

/-- R465: the domains of PWR_DOM_TARGET among a list. -/
def Device.targeted (d : Device) (l : List Nat) : List Nat := l.filter (fun n => bit n (d.reg R.PWR_DOM_TARGET))

def storeDoms : List Nat := [3, 7, 11, 15]
def midDoms : List Nat := [2, 6, 10, 14, 18, 20, 21, 22]
def arrayDoms : List Nat := [0, 1, 4, 5, 8, 9, 12, 13]

/-- R412: slots that hold a cartridge and are in a state enter DETECTED. -/
def detectSlots (st : SlotState) (d : Device) : Device :=
  (List.range 4).foldl (fun d s =>
    let x := d.slot s
    if x.st == st && x.cart.isSome then d.setSlot s { x with st := .detected } else d) d

/-- R465: the groups of start-up whose furrow has come are switched on; zeroed slices hold nothing. At M + 8 the module is
in service. -/
def bringupStep (d : Device) : Device :=
  let n := d.power.furs
  let since (f : Option Nat) (k : Nat) : Bool := match f with | some f => f + k ≤ n | none => false
  let d := if 1 ≤ n then domSwitchOn d 17 else d
  if d.power.phase != .bringup then d
  else
    let d := if since d.power.verFur 3 then [24, 25, 19].foldl domSwitchOn d else d
    let m := d.power.memFur
    let d := if since m 0 then domSwitchOn d 23 else d
    let d := if since m 2 then (d.targeted storeDoms).foldl domSwitchOn d else d
    let d := if since m 4 then (d.targeted midDoms).foldl domSwitchOn d else d
    let d := if since m 6 then (d.targeted arrayDoms).foldl domSwitchOn d else d
    if since m 8 then
      (detectSlots .empty { d with power := { d.power with phase := .service } }).raise 0x0E01 []
    else d

/-- BRINGUP_STEP (R465). -/
def execBringupStep (s : State) : Host.Outcome State Fault Refusal := .next (s.onDev (fun _ d => bringupStep d))

/-- R156, R465: LPDDR5X training ends. `failed` lists the channels that failed; the system region is empty. -/
def memcTrained (failed : List Nat) (tb : Timebase) (d : Device) : Device :=
  if d.power.phase != .bringup || d.power.memFur.isSome || d.domState 19 == 0 then d
  else if failed.isEmpty then
    { d with
      store := { d.store with chTrained := true },
      power := { d.power with memFur := some (if tb.offset == 0 then d.power.furs else d.power.furs + 1) } }
  else
    let d := failed.foldl (fun d c => (d.setFld (inst R.MEMC_CH_INFO c) 31 31 1).raise 0x0309 []) d
    { d with power := { d.power with phase := .halted } }.raise 0x0E03 []

/-- MEMC_TRAINING_DONE (R156). -/
def execMemcTrainingDone (failed : List Nat) (s : State) : Host.Outcome State Fault Refusal :=
  .next (s.onDev (memcTrained failed))

/-! ### Dormant (R471 to R473) -/

/-- R471: PWR_SLEEP_CTRL.ARM written 1. -/
def sleepArm (d : Device) : Device :=
  if d.power.phase != .service then d else { d with power := { d.power with sleepPend := true, sleepTried := 0 } }

/-- SLEEP_ARM (R471). -/
def execSleepArm (s : State) : Host.Outcome State Fault Refusal := .next (s.onAon (fun _ d => sleepArm d))

def sleepCancel (d : Device) : Device := { d with power := { d.power with sleepPend := false, sleepTried := 0 } }

/-- SLEEP_CANCEL (R477). -/
def execSleepCancel (s : State) : Host.Outcome State Fault Refusal := .next (s.onAon (fun _ d => sleepCancel d))

/-- R471: the conditions of entry. -/
def Device.maySleep (d : Device) : Bool :=
  d.qm.ctxs.all (fun p => p.2.st == .off) && d.fld R.BRX_CTRL 0 0 == 0 && d.store.ops.isEmpty && d.gath.batches.isEmpty
    && d.power.staging.isNone

/-- R471: the records raised so far are written while the link is UP. -/
def drainEvents (tb : Timebase) (d : Device) : Device :=
  let d := d.flush tb
  (List.range d.ev.buffer.length).foldl (fun d _ => eventRecordWrite d) d

/-- R436, R438, R439: PD_X_HOST is off: no module is UP; one that is EXCLUDED stays so. -/
def hostOff (d : Device) : Device :=
  linkChange d.linkUp { d with host := { d.host with mods := d.host.mods.filter (fun p => p.2.st == .excluded) } }

/-- R471: the module enters Dormant. -/
def enterDormant (tb : Timebase) (d : Device) : Device :=
  let d := drainEvents tb (d.raise 0x0E0A [])
  let on := (List.range 26).filter (fun n => d.domState n == 1 || d.domState n == 2)
  let back := on.filter (fun n => d.domState n == 2)
  let keep : List Nat := [16, 24, 25] ++ storeDoms
  let d := (on.filter (fun n => !keep.contains n)).foldl (domSwitchOff 0) d
  let d := (on.filter storeDoms.contains).foldl (domSwitchOff 3) d
  let d := hostOff (selfFence d)
  { d with power := { d.power with phase := .dormant, onAtEntry := back } }.setFld R.PWR_SLEEP_CTRL 17 16 1

/-- R471: one boundary while READY slots are drained, or Dormant once every slot is idle. -/
def sleepEntry (tb : Timebase) (d : Device) : Device :=
  if (List.range 4).all (fun s => (d.slot s).st == .empty || (d.slot s).st == .removable || (d.slot s).st == .failed) then
    enterDormant tb d
  else if d.inTransit then d
  else match (List.range 4).find? (fun s => (d.slot s).st == .ready) with
    | some s => d.updSlot s (fun x => x.drain false)
    | none => d

/-- R471 to R473: the boundary, for the sleep state. -/
def sleepBoundary (tb : Timebase) (d : Device) : Device :=
  match d.power.phase with
  | .service =>
    let at_ := BitVec.ofNat 48 (d.reg64 R.PWR_SLEEP_AT_LO)
    if !d.power.sleepPend || !furLe at_ tb.number || d.cfgLimit ≤ d.power.sleepTried then d
    else if d.maySleep then
      sleepEntry tb { d with power := { d.power with phase := .dormantEntry, sleepPend := false, sleepTried := 0 } }
    else { d with power := { d.power with sleepTried := d.power.sleepTried + 1 } }
  | .dormantEntry =>
    if d.power.wakeFur.isSome then { d with power := { d.power with phase := .service, wakeFur := none } }
    else sleepEntry tb d
  | .dormant | .waking => d.inc R.PWR_DORMANT_FURROWS
  | _ => d

def dormantEntryLimit (d : Device) : Device :=
  if d.power.sleepPend && d.cfgLimit ≤ d.power.sleepTried then
    ((sleepCancel d).setFld R.PWR_SLEEP_CTRL 17 16 3).raise 0x0E0B []
  else d

/-- DORMANT_ENTRY_LIMIT (R471). -/
def execDormantEntryLimit (s : State) : Host.Outcome State Fault Refusal := .next (s.onDev (fun _ d => dormantEntryLimit d))

/-- R471, R473: a wake request cancels an entry that is not complete, and wakes the module from Dormant. -/
def wakeRequest (d : Device) : Device :=
  match d.power.phase with
  | .dormant => { d with power := { d.power with phase := .waking, wakeFur := some d.power.furs } }
  | .dormantEntry =>
    (detectSlots .removable { d with power := { d.power with wakeFur := some d.power.furs } }).setFld R.PWR_SLEEP_CTRL 17 16 2
  | .service => if d.power.sleepPend then (sleepCancel d).setFld R.PWR_SLEEP_CTRL 17 16 2 else d
  | _ => d

/-- R473: the furrow in PWR_WAKE_AT arrives while WAKE_ARM is 1. -/
def wakeAtExpiry (tb : Timebase) (d : Device) : Device :=
  if d.fld R.PWR_SLEEP_CTRL 2 2 == 1 && furLe (BitVec.ofNat 48 (d.reg64 R.PWR_WAKE_AT_LO)) tb.number then wakeRequest d else d

/-- WAKE_AT_EXPIRY (R473). -/
def execWakeAtExpiry (s : State) : Host.Outcome State Fault Refusal := .next (s.onDev wakeAtExpiry)

/-- R473: the domains that were ON at entry come back as their furrows come. -/
def wakeStep (d : Device) : Device :=
  match d.power.phase, d.power.wakeFur with
  | .waking, some w =>
    let past (k : Nat) : Bool := w + k ≤ d.power.furs
    let back (l : List Nat) : List Nat := l.filter d.power.onAtEntry.contains
    let d := if past 1 then (back [19, 17]).foldl domSwitchOn d else d
    let d := if past 3 then (back [23]).foldl domSwitchOn d else d
    let d := if past 5 then
        let d := (back storeDoms).foldl (fun d n => if d.domState n == 3 then (d.setDom n 2).raise 0x0E04 [(1, n)] else d) d
        detectSlots .removable ((back midDoms).foldl domSwitchOn d)
      else d
    if past 7 then (back arrayDoms).foldl domSwitchOn d else d
  | _, _ => d

/-- WAKE_STEP (R473). -/
def execWakeStep (s : State) : Host.Outcome State Fault Refusal := .next (s.onDev (fun _ d => wakeStep d))

/-! ### The management interface (R474, R515) -/

/-- R515: the static address of the straps, or the dynamic address. -/
def Device.i3cAddr (d : Device) : Nat := d.power.dynAddr.getD (0x30 + d.power.straps % 4)

/-- R515: the low 32 bits of the module's serial number, which the provisional ID carries. -/
def i3cProvisional : Nat := serial.toNat % 2 ^ 32

/-- ENTDAA (R474): the controller takes a dynamic address. -/
def execEntdaa (addr : Nat) (s : State) : Host.Outcome State Fault Refusal :=
  .next (s.onDev (fun _ d => { d with power := { d.power with dynAddr := some (addr % 128) } }))

/-- I3C_WAKE (R474): a private write of 0x01. -/
def execI3cWake (s : State) : Host.Outcome State Fault Refusal := .next (s.onDev (fun _ d => wakeRequest d))

def phaseCode : Phase → Nat
  | .rom => 0
  | .verifying => 1
  | .bringup => 2
  | .service => 3
  | .dormantEntry => 4
  | .dormant => 5
  | .waking => 6
  | .halted => 7

/-- The bytes of a private read. -/
def i3cStatus (d : Device) : List Byte := leBytes 1 (phaseCode d.power.phase) ++ leBytes 1 (boolBit d.linkUp) ++ leBytes 2 0

/-- I3C_STATUS_READ (R474). -/
def execI3cStatusRead (s : State) : Host.Outcome State Fault Refusal :=
  .next (s.onDev (fun _ d => { d with power := { d.power with i3cOut := i3cStatus d } }))

/-- I3C_OTHER_WRITE (R474): ignored. -/
def execI3cOtherWrite (s : State) : Host.Outcome State Fault Refusal := .next (s.onDev (fun _ d => d))

/-! ### Counters and views (R477) -/

def pwrCounters : List Nat := [R.PWR_WAKES, R.PWR_WARM_RESETS, R.PWR_STG_FAILS, R.PWR_DORMANT_FURROWS]

/-- PWR_CNT_CLR (R477). -/
def execPwrCntClr (s : State) : Host.Outcome State Fault Refusal := .next (s.onAon (fun _ d => d.clear pwrCounters))

/-- R470: PWR_STATUS.WARM. -/
def Device.inWarmReset (d : Device) : Bool := match d.power.warm with
  | some w => w < d.power.furs && d.power.furs < w + 9
  | none => false

/-- Sixteen 2-bit states from a domain on. -/
def packStates (f : Nat → Nat) (lo n : Nat) : Nat := ((List.range n).map (fun i => (f (lo + i)) <<< (2 * i))).sum

/-- The PWR registers that mirror the controller. -/
def pwrView (d : Device) (k : Nat) : Option Nat :=
  if k == R.PWR_STATUS then some (boolBit d.inWarmReset <<< 4 + phaseCode d.power.phase)
  else if k == R.PWR_BOOT_STATUS then some (d.power.result <<< 28 + d.power.imageLen)
  else if k == R.PWR_DOM_STATE0 then some (packStates d.domState 0 16)
  else if k == R.PWR_DOM_STATE1 then some (packStates d.domState 16 14)
  else if k == R.PWR_FUNC_STATE0 then some (packStates (fun n => d.power.funcs.getD n 0) 0 16)
  else if k == R.PWR_FUNC_STATE0 + 4 then some (packStates (fun n => d.power.funcs.getD n 0) 16 14)
  else none

end Sys2Proof.Machine
end

