-- ==== Sys2Proof/Machine/Reset.lean ====
section
/-! DEFINITION. Resets of the module (R468 to R470, R514): cold, warm, and the pins and commands that request them. -/
namespace Sys2Proof.Machine

/-! ### Cold (R465, R469) -/

/-- R411: the cartridges in the slots stay there; their slots enter DETECTED once the module is in service. -/
def coldSlots (f : FlashUnit) : FlashUnit :=
  { FlashUnit.reset with
    slots := f.slots.filterMap (fun p => p.2.cart.map (fun c => (p.1, { emptySlot with cart := some c }))),
    pulled := f.pulled, nextFold := f.nextFold, nextKey := f.nextKey }

/-- A cold reset. Fuses (R492), cartridges, and what THERMTRIP_N holds (R516) outlive it; `vstby`: VSTBY failed, which
releases THERMTRIP_N. `high`: PORST_N is high, so the furrow is P of R465. -/
def coldReset (high vstby : Bool) (straps : Nat) (s : State) : State :=
  let d := s.dev
  { State.reset with
    dev := { Device.reset with
      out := d.out, freeCount := d.freeCount, flash := coldSlots d.flash,
      ev := { EventUnit.reset with tripped := if vstby then [] else d.ev.tripped },
      sec := { SecUnit.reset with
        svnMin := d.sec.svnMin, revoked := d.sec.revoked, minInForce := d.sec.svnMin, revInForce := d.sec.revoked,
        reseeds := d.sec.reseeds },
      power := { PowerUnit.reset with porst := high, straps := straps } },
    pending := s.pending }

/-- R514: PORST_N is low; the module stays in reset while it is. -/
def porstAssert (s : State) : State := coldReset false false s.dev.power.straps s

/-- PORST_ASSERT (R514). -/
def execPorstAssert (s : State) : Host.Outcome State Fault Refusal := .next (porstAssert s)

/-- SUPPLY_LOSS (R514): VIN, or VSTBY, falls out of range; it acts as PORST_N held low. -/
def execSupplyLoss (vstby : Bool) (s : State) : Host.Outcome State Fault Refusal :=
  .next (coldReset false vstby s.dev.power.straps s)

/-- PORST_RELEASE (R465, R515): PORST_N rises, and the straps I3C_ADDR1 and I3C_ADDR0 are sampled. -/
def execPorstRelease (straps : Nat) (s : State) : Host.Outcome State Fault Refusal :=
  .next (if s.dev.power.porst then s else coldReset true false (straps % 4) s)

/-- COLD_RESET (R468): P is the furrow of the write. -/
def execColdReset (s : State) : Host.Outcome State Fault Refusal :=
  .next (s.live (fun s => coldReset true false s.dev.power.straps s))

/-- I3C_COLD_RESET (R474): a private write of 0x02. -/
def execI3cColdReset (s : State) : Host.Outcome State Fault Refusal :=
  .next (s.live (fun s => coldReset true false s.dev.power.straps s))

/-! ### Warm (R469, R470) -/

/-- R469: the objects of LPDDR5X and of FLASH are kept; one in SEALING returns to BUILDING. -/
def warmObjects (l : Tbl Obj) : Tbl Obj :=
  Tbl.mapVals (l.filter (fun p => p.2.tier != 1)) (fun _ o => if o.st == .sealing then { o with st := .building } else o)

def warmStore (x : StoreUnit) : StoreUnit :=
  { StoreUnit.reset with objects := warmObjects x.objects, chTrained := x.chTrained }

/-- R470: every plot stops at once, at a clk of the furrow, and its arrays ramp down. -/
def warmPlots (o : Nat) (p : PlotUnit) : PlotUnit :=
  { PlotUnit.reset with
    nextRun := p.nextRun, nextHandoff := p.nextHandoff, closed := p.closed,
    stopped := p.stopped ++ p.runs.flatMap (fun r => r.2.stop o) }

/-- The reads of host memory that were asked for the queue pairs; their data is not used. -/
def warmHost (h : HostUnit) : HostUnit := { h with drds := h.drds.mapVals (fun _ _ => (65535, 0)), waiting := [] }

def warmSieve (x : SieveUnit) : SieveUnit := { SieveUnit.reset with cfgMem := x.cfgMem, pendIdx := x.pendIdx }

/-- Ports keep their states; BRX_STATUS, BRX_PEER_INFO and the references return to reset: self-fenced, no evaluation made, no
heartbeat known. -/
def warmBrx (b : BrxUnit) : BrxUnit :=
  { b with remotes := [], jobs := [], fenced := true, included := [], next := none, evaluated := false, majBefore := false,
           missed := [], evals := 0, beats := [], ref := [] }

def warmFlash (f : FlashUnit) : FlashUnit := { f with reads := [], failed := [], failDetail := [], used := [] }

/-- R469, R516: the records that wait survive; the ring stops, and ALERT_N is released. -/
def warmEvents (e : EventUnit) : EventUnit := { e with ringFams := [], armed0 := false, alert := false }

def warmPower (p : PowerUnit) : PowerUnit :=
  { p with staging := none, funcs := [], funcAbort := [], funcPend := [], sleepPend := false, sleepTried := 0,
           warm := some p.furs }

/-- R469, R470: what a warm reset does in the furrow of its request. The port's captures and pending _LO write, which R469 does
not name, stay (DESIGN CHOICE, log entry 154). -/
def warmReset (o : Nat) (d : Device) : Device :=
  let d := { d with
    mem := d.mem.zero csBase csSize,
    store := warmStore d.store, plots := warmPlots o d.plots,
    qm := { QueueUnit.reset with nextReq := d.qm.nextReq, nextOrder := d.qm.nextOrder },
    host := warmHost d.host, flash := warmFlash d.flash, power := warmPower d.power, sieve := warmSieve d.sieve,
    brx := warmBrx d.brx, gath := { d.gath with batches := [], moved := 0 }, text := TextUnit.reset, esp := EspUnit.reset,
    pasm := PasmUnit.reset, seq := SeqUnit.reset, ev := warmEvents d.ev, sec := { d.sec with attest := none } }
  let d := (d.setFld R.BRX_CTRL 1 0 0).setFld R.EVT_CTRL 31 31 0
  (List.range 4).foldl (fun d s => resetSlot s d) d

/-- R470: from W + 9 the module is in service. -/
def warmResetEnd (d : Device) : Device := match d.power.warm with
  | some w =>
    if w + 9 ≤ d.power.furs then
      ({ d with power := { d.power with warm := none } }.inc R.PWR_WARM_RESETS).raise 0x0E09 []
    else d
  | none => d

/-- R468, R477: PWR_CTRL.WARM_RESET written 1: a warm reset, in any phase, which it leaves as it is; none starts in the furrows
of another (DESIGN CHOICE, log entry 153). -/
def warmWrite (o : Nat) (d : Device) : Device :=
  let d := warmResetEnd d
  if d.power.warm.isNone then warmReset o d else d

/-- R514: a falling edge of WRST_N is ignored outside SERVICE. -/
def warmRequest (o : Nat) (d : Device) : Device := if d.power.phase == .service then warmWrite o d else d

/-- WARM_RESET (R470). -/
def execWarmReset (s : State) : Host.Outcome State Fault Refusal := .next (s.onAon (fun tb d => warmWrite tb.offset d))

/-- WRST_FALL (R514). -/
def execWrstFall (s : State) : Host.Outcome State Fault Refusal := .next (s.onDev (fun tb d => warmRequest tb.offset d))

/-- R12: warm and context registers return to their reset values. -/
def coldRegister (k : Nat) : Bool := match regDesc (k % 2 ^ 32) with
  | some r => r.dom == .cold
  | none => false

def warmRegisters (d : Device) : Device := { d with regs := d.regs.filter (fun p => coldRegister p.1) }

/-- R434: FAIL_REASON of every slot is at its reset value. -/
def warmSlots (d : Device) : Device := { d with flash := { d.flash with
  slots := d.flash.slots.mapVals (fun _ x => { x with failReason := 0 }) } }

/-- R470: the first boundary after the request: the registers are at reset. -/
def warmBoundary (d : Device) : Device := match d.power.warm with
  | some w => if d.power.furs == w + 1 then warmSlots (warmRegisters d) else d
  | none => d

/-- WARM_RESET_END (R470). -/
def execWarmResetEnd (s : State) : Host.Outcome State Fault Refusal := .next (s.onDev (fun _ d => warmResetEnd d))

end Sys2Proof.Machine
end

