-- ==== Sys2Proof/Machine/Security.lean ====
section
/-! DEFINITION. The security controller (18_security): fuses, attestation, the entropy source, and the reinitialisation
of cartridges. -/
namespace Sys2Proof.Machine

/-! ### Fuses (R482) -/

def fuseLast (v : Nat) (d : Device) : Device := d.setFld R.SEC_FUSE_CMD 23 16 v

/-- A refusal: LAST, and its event. -/
def fuseRefused (last : Nat) (d : Device) : Device := (fuseLast last d).cmdRefused R.SEC_FUSE_CMD last

/-- Why RAISE_SVN is refused, or 0. -/
def raiseReason (x : SecUnit) (v : Nat) : Nat := if v ≤ x.svnMin || x.runSvn < v then 2 else 0

/-- Why REVOKE is refused, or 0. -/
def revokeReason (x : SecUnit) (k : Nat) : Nat :=
  if 3 < k then 2 else if k == x.runKey || (List.range 4).all (fun i => i == k || bit i x.revoked) then 3 else 0

/-- SEC_FUSE_CMD written with GO: OP (1 RAISE_SVN, 2 REVOKE) and VALUE. OP still at its reset value, 0, is reserved: there is
no command to issue (R525). -/
def fuseGo (op v : Nat) (d : Device) : Device :=
  let d := (d.setFld R.SEC_FUSE_CMD 9 8 op).setFld R.SEC_FUSE_CMD 5 0 v
  if op != 1 && op != 2 then d
  else if d.sec.fuse.isSome then fuseRefused 4 d
  else
    let r := if op == 1 then raiseReason d.sec v else revokeReason d.sec v
    if r != 0 then fuseRefused r d else { fuseLast 0 d with sec := { d.sec with fuse := some (op, v) } }

/-- RAISE_SVN (R482). -/
def execRaiseSvn (value : Nat) (s : State) : Host.Outcome State Fault Refusal := .next (s.onAon (fun _ d => fuseGo 1 (value % 64) d))

/-- REVOKE (R482). -/
def execRevoke (key : Nat) (s : State) : Host.Outcome State Fault Refusal := .next (s.onAon (fun _ d => fuseGo 2 (key % 64) d))

/-- R482: the burn under way is done. -/
def fuseDone (d : Device) : Device := match d.sec.fuse with
  | none => d
  | some (op, v) =>
    let x := { d.sec with fuse := none }
    let x := if op == 1 then { x with svnMin := max x.svnMin v }
      else { x with revoked := if bit v x.revoked then x.revoked else x.revoked + 2 ^ v }
    (fuseLast 1 { d with sec := x }).raise 0x0F01 [(1, op), (1, v)]

/-- FUSE_BURN_DONE (R482). -/
def execFuseBurnDone (s : State) : Host.Outcome State Fault Refusal := .next (s.onDev (fun _ d => fuseDone d))

/-! ### Cartridges (R487) -/

/-- SEC_CART_CMD.REINIT for a slot: one that FAILED by its system key becomes a blank cartridge's. -/
def cartReinit (s : Nat) (d : Device) : Device :=
  let d := d.setFld R.SEC_CART_CMD 1 0 s
  let x := d.slot s
  if x.st == .failed && x.unwrapFail then
    let x := x.onCart (fun c => { c with sysKey := none, sysForeign := false })
    (d.setSlot s { x with st := .detected, unwrapFail := false }).raise 0x0F06 [(1, s)]
  else d.cmdRefusedOpen R.SEC_CART_CMD

/-- CART_REINIT (R487). -/
def execCartReinit (slot : Nat) (s : State) : Host.Outcome State Fault Refusal :=
  .next (s.onAon (fun _ d => cartReinit (slot % 4) d))

/-! ### The entropy source (R484) -/

def rngFail (d : Device) : Device := ((d.setFld R.SEC_STATUS 30 30 0).inc R.SEC_RNG_FAILS).raise 0x0F04 []

/-- RNG_TEST_FAIL (R484). -/
def execRngTestFail (s : State) : Host.Outcome State Fault Refusal := .next (s.onDev (fun _ d => rngFail d))

/-- RNG_OK returns to 1, the DRBG is reseeded, and the challenges that wait are sent (R409). -/
def rngRecover (d : Device) : Device :=
  if d.rngOk then d
  else (List.range 4).foldl (fun d s => sendChallenge s d)
    { d.setFld R.SEC_STATUS 30 30 1 with sec := { d.sec with reseeds := d.sec.reseeds + 1 } }

/-- RNG_RECOVER (R484). -/
def execRngRecover (s : State) : Host.Outcome State Fault Refusal := .next (s.onDev (fun _ d => rngRecover d))

/-! ### Attestation (R488) -/

def nonceBytes (d : Device) : List Byte := (List.range 12).flatMap (fun w => leBytes 4 (d.reg (R.SEC_ATTEST_NONCE0 + 4 * w)))

def attestGo (d : Device) : Device :=
  if d.sec.attest.isSome || !d.rngOk || !(d.power.phase == .bringup || d.power.phase == .service) then d
  else { d with sec := { d.sec with attest := some (nonceBytes d) } }

/-- ATTEST_GO (R488). -/
def execAttestGo (s : State) : Host.Outcome State Fault Refusal := .next (s.onAon (fun _ d => attestGo d))

/-- R488: bytes 0x00 to 0x9F of the record. -/
def attestBody (tb : Timebase) (d : Device) (nonce : List Byte) : List Byte :=
  let x := d.sec
  leBytes 8 serial.toNat ++ leBytes 4 x.runTarget ++ leBytes 1 x.runSvn ++ leBytes 1 x.minInForce ++ leBytes 1 x.runKey
    ++ leBytes 1 x.revInForce ++ leBytes 8 x.runBuild ++ leBytes 8 tb.number.toNat ++ leBytes 8 (d.reg64 R.BRX_DIGEST_LO)
    ++ sliceBytes x.runHash 0 48 ++ sliceBytes nonce 0 48 ++ List.replicate 24 0

/-- The record: 256 B. -/
def attestRecord (tb : Timebase) (d : Device) (nonce : List Byte) : List Byte :=
  let body := attestBody tb d nonce
  body ++ sliceBytes (Config.ecdsaSign d.freeCount body) 0 96

def attestDone (tb : Timebase) (d : Device) : Device := match d.sec.attest with
  | none => d
  | some nonce =>
    let rec_ := attestRecord tb d nonce
    let d := { d with sec := { d.sec with attest := none }, freeCount := d.freeCount + 1 }
    let d := (List.range 64).foldl (fun d w => d.setReg (R.SEC_ATTEST_OUT0 + 4 * w) (fieldLe rec_ (4 * w) 4)) d
    (d.inc R.SEC_ATTESTS).raise 0x0F05 []

/-- ATTEST_DONE (R488). -/
def execAttestDone (s : State) : Host.Outcome State Fault Refusal := .next (s.onDev attestDone)

/-! ### Counters and views (R492) -/

def secCounters : List Nat := [R.SEC_UNWRAP_FAILS, R.SEC_RNG_FAILS, R.SEC_ATTESTS]

/-- SEC_CNT_CLR (R492). -/
def execSecCntClr (s : State) : Host.Outcome State Fault Refusal := .next (s.onAon (fun _ d => d.clear secCounters))

/-- The SEC registers that mirror the controller and its fuses. -/
def secView (d : Device) (k : Nat) : Option Nat :=
  let x := d.sec
  if k == R.SEC_STATUS then
    some (1 <<< 31 + d.fld k 30 30 <<< 30 + boolBit x.fuse.isSome <<< 29 + x.runKey <<< 22 + x.runSvn <<< 16
      + x.revInForce <<< 12 + x.minInForce)
  else if k == R.SEC_RUN_BUILD_LO then some (x.runBuild % 2 ^ 32)
  else if k == R.SEC_RUN_BUILD_HI then some (x.runBuild / 2 ^ 32)
  else if k == R.SEC_ATTEST_CTRL then some (boolBit x.attest.isSome <<< 31)
  else if k == R.SEC_CERT_DATA then some (fieldLe (Config.certificate.take 1024) (4 * d.fld R.SEC_CERT_SEL 7 0) 4)
  else if k == R.SEC_CERT_LEN then some (max 1 (min 1024 Config.certificate.length))
  else none

end Sys2Proof.Machine
end

