-- ==== Sys2Proof/Machine/Views.lean ====
section
/-! DEFINITION. What the registers read that mirror the state of a unit (R9: RO fields), for the units whose own file
does not give it. A register that mirrors nothing reads what the register file holds. -/
namespace Sys2Proof.Machine

/-! ### STORE, TIER and MEMC (05_central_store_and_tiers) -/

def ObjState.code : ObjState → Nat
  | .building => 1
  | .sealing => 2
  | .sealed => 3
  | .retiring => 4
  | .shareObject => 5

/-- STORE_PAGE_OWNER of a page. -/
def pageWord : PageOwner → Nat
  | .free => 0
  | .share c => 1 <<< 30 + c <<< 16
  | .pool o => 2 <<< 30 + o

def isFree : PageOwner → Bool
  | .free => true
  | _ => false

def isShare : PageOwner → Bool
  | .share _ => true
  | _ => false

def Device.sharePages (d : Device) (c : Nat) : Nat := (d.store.pages.filter (fun p => p.2 == .share c)).length

def storeView (d : Device) (a : Nat) : Option Nat :=
  if a == R.STORE_STATUS then
    some ((d.store.pages.filter (fun p => isShare p.2)).length <<< 16
      + (8192 - (d.store.pages.filter (fun p => !isFree p.2)).length))
  else if a == R.STORE_PAGE_OWNER then some (pageWord (d.page (d.fld R.STORE_PAGE_SEL 12 0)))
  else if R.STORE_CTX_SHARE ≤ a && a < R.STORE_CTX_SHARE + 4096 then some (d.sharePages ((a - R.STORE_CTX_SHARE) / 4))
  else none

def objInfo (d : Device) (i : Nat) : Nat :=
  match d.obj? i with
  | none => 0
  | some o => o.st.code <<< 28 + o.tier <<< 26 + o.kind <<< 22 + boolBit o.owner.isNone <<< 21
      + boolBit (d.pinned i o) <<< 20 + o.owner.getD 0

def tierView (d : Device) (a : Nat) : Option Nat :=
  let i := d.fld R.TIER_OBJ_SEL 15 0
  let f (g : Obj → Nat) : Nat := match d.obj? i with
    | some o => g o
    | none => 0
  if a == R.TIER_CMD_STATUS then some (setBits 31 31 (boolBit d.store.cmdResult.isSome) (d.reg a))
  else if a == R.TIER_OBJ_INFO then some (objInfo d i)
  else if a == R.TIER_OBJ_SIZE_LO then some (f (fun o => o.size % 2 ^ 32))
  else if a == R.TIER_OBJ_SIZE_HI then some (f (fun o => o.size / 2 ^ 32))
  else if a == R.TIER_OBJ_BASE_LO then some (f (fun o => o.base % 2 ^ 32))
  else if a == R.TIER_OBJ_BASE_HI then some (f (fun o => o.base / 2 ^ 32))
  else if a == R.TIER_OBJ_LAST_LO then some (f (fun o => o.lastUse.toNat % 2 ^ 32))
  else if a == R.TIER_OBJ_LAST_HI then some (f (fun o => o.lastUse.toNat / 2 ^ 32))
  else if a == R.TIER_OPS then some (d.store.ops.length <<< 16 + 640)
  else none

/-- The devices are in self-refresh in Dormant mode (R471). -/
def Device.selfRefresh (d : Device) : Bool :=
  match d.power.phase, d.power.wakeFur with
  | .dormant, _ => true
  | .waking, some w => d.power.furs < w + 1
  | _, _ => false

def memcView (d : Device) (a : Nat) : Option Nat :=
  if a == R.MEMC_STATUS then
    let ready := match d.power.memFur with
      | some m => m ≤ d.power.furs
      | none => false
    let failed := ((List.range 128).filter (fun c => d.fld (inst R.MEMC_CH_INFO c) 31 31 == 1)).length
    some (boolBit ready <<< 31 + boolBit d.selfRefresh <<< 8 + failed)
  else none

/-! ### Arrays, trowel cores and the rake (06, 08) -/

def ArrSt.code : ArrSt → Nat
  | .down => 0
  | .rampUp => 1
  | .up => 2
  | .rampDown => 3

def Device.dieRuns (d : Device) (die : Nat) : List Run := (d.plots.runs.map (·.2)).filter (fun r => r.plot.die == die)

/-- The state of each physical array of a die and kind: an array that no run has named is DOWN, and one of a run that a warm reset
ended ramps down (R470). -/
def arrayStates (o : Nat) (d : Device) (die kind : Nat) : Nat :=
  ((d.plots.stopped.filter (fun x => x.die == die && x.kind == kind && o < x.due)).map (fun x => 3 <<< (2 * x.unit))).sum +
  ((d.dieRuns die).map (fun r =>
    ((r.arrays.filter (fun p => p.1 / 8 == kind)).map (fun p =>
      p.2.st.code <<< (2 * r.physOf kind (p.1 % 8)))).sum)).sum

def runningCores (d : Device) (die : Nat) : Nat :=
  ((d.dieRuns die).map (fun r =>
    ((r.trowels.filter (fun p => p.2.running)).map (fun p => 2 ^ r.physOf 2 p.1)).sum)).sum

/-- R117: the rake operations of a run that hold their lanes. -/
def Run.rakeBusy (r : Run) (o : Nat) : List RakeOp := r.rake.filter (fun x => r.clkAt o < x.occEnd)

def rakeNet (tb : Timebase) (d : Device) (die : Nat) : Bool :=
  (d.dieRuns die).any (fun r => (r.rakeBusy tb.offset).any (fun o => o.op == 2 || o.op == 3))

def rakeLanes (tb : Timebase) (d : Device) (die : Nat) : Nat :=
  ((d.dieRuns die).map (fun r =>
    let n := ((r.rakeBusy tb.offset).map (·.lanes)).foldl max 0
    (((r.phys.getD 3 []).take n).map (fun l => 2 ^ l)).sum)).sum

/-- R185, R231: the counters of clks and of elements, as they stand now. -/
def arrCounts (tb : Timebase) (d : Device) (a : Nat) : Option Nat :=
  (List.range 4).findSome? (fun die =>
    if dieReg R.ARR_P_BUSY_LO die ≤ a && a ≤ dieReg R.ARR_D_UP_HI die then some ((d.settleCounts die tb.offset).reg a)
    else if a == dieReg R.RAKE_ELEMS_LO die || a == dieReg R.RAKE_ELEMS_LO die + 4 then some ((d.settleElems die tb.offset).reg a)
    else if a == dieReg R.TRW_BUSY_LO die || a == dieReg R.TRW_BUSY_LO die + 4 then
      some ((d.settleStopped (fun x => x.die == die && x.kind == 2) tb.offset).reg a)
    else none)

def arrView (tb : Timebase) (d : Device) (a : Nat) : Option Nat :=
  match (List.range 4).find? (fun die => a == dieReg R.ARR_STATE die || a == dieReg R.TRW_STATUS die
      || a == dieReg R.RAKE_STATUS die || a == dieReg R.RAKE_LANES die) with
  | none => none
  | some die =>
    if a == dieReg R.ARR_STATE die then some (arrayStates tb.offset d die 1 <<< 16 + arrayStates tb.offset d die 0)
    else if a == dieReg R.TRW_STATUS die then some (runningCores d die)
    else if a == dieReg R.RAKE_STATUS die then some (boolBit (rakeNet tb d die))
    else some (rakeLanes tb d die)

/-! ### FLASH (15_index_cartridges) -/

def SlotState.code : SlotState → Nat
  | .empty => 0
  | .detected => 1
  | .powering => 2
  | .authenticating => 3
  | .mounting => 4
  | .ready => 5
  | .draining => 6
  | .removable => 7
  | .failed => 8

def slotStatus (d : Device) (s : Nat) : Nat :=
  let x := d.slot s
  let most := match x.authentic with
    | some c => ((List.range 16).map (fun ch => slcMax (c.freeCount ch (d.slcRegion s)))).foldl min 65535
    | none => 0
  x.st.code <<< 28 + boolBit x.readOnly <<< 27 + boolBit x.tempHold <<< 26
    + boolBit (x.chans.any (fun c => c.2.fold.isSome)) <<< 25 + x.failReason <<< 16 + most

def Device.nsAny (d : Device) (ns : Nat) : Option FlashNs := (List.range 4).findSome? (fun s => d.nsOn ns s)

def flashView (d : Device) (k : Nat) : Option Nat :=
  let a := k % 2 ^ 32
  let s := d.slotSel
  let x := d.slot s
  let serial := match x.authentic with
    | some c => c.serial.toNat
    | none => 0
  if a == R.FLASH_STATUS then
    let mask (f : FlashSlot → Bool) : Nat := ((List.range 4).map (fun s => boolBit (f (d.slot s)) <<< s)).sum
    some (mask (fun x => x.st == .ready) <<< 12 + mask (fun x => x.cart.isSome) <<< 8 + boolBit d.inTransit <<< 2
      + ((List.range 4).find? (fun s => (d.slot s).st.transit)).getD 0)
  else if a == R.FLASH_SLOT_STATUS then some (slotStatus d s)
  else if a == R.FLASH_SERIAL_LO then some (serial % 2 ^ 32)
  else if a == R.FLASH_SERIAL_HI then some (serial / 2 ^ 32)
  else if a == R.FLASH_LIFE then some (match x.authentic with
    | some c => min 65535 c.life <<< 16 + min 65535 (c.lifeUsed (d.slcRegion s))
    | none => 0)
  else if a == R.FLASH_TEMP then some (match x.authentic with
    | some c => (c.tWriteMax % 256) <<< 24 + (c.maxTemp % 256) <<< 16 + x.temp % 256
    | none => 0)
  else if a == R.FLASH_NS_CFG then
    let ns := d.nsSel
    let locked := boolBit ((List.range 4).any (fun s => (d.slot s).locked.contains ns)) <<< 29
    some (match d.nsAny ns with
      | some n => boolBit n.owner.isNone <<< 31 + 1 <<< 30 + locked + n.slots <<< 24 + n.owner.getD 0
      | none => setBits 30 29 0 (d.reg k) + locked)
  else if a == R.FLASH_NS_USED then some (d.nsUsed d.nsSel s)
  else none

/-! ### HOST (R452) and GLB (R511) -/

def ModSt.code : ModSt → Nat
  | .training => 0
  | .up => 1
  | .retraining => 2
  | .excluded => 3

def laneWord (l : List Nat) (lo : Nat) : Nat := ((l.filter (fun i => lo ≤ i && i < lo + 32)).map (fun i => 2 ^ (i - lo))).sum

def hostView (d : Device) (a : Nat) : Option Nat :=
  let x := d.module (d.fld R.HOST_MOD_SEL 1 0)
  if a == R.HOST_STATUS then
    some (boolBit d.linkUp <<< 31 + ((List.range 4).map (fun m => boolBit ((d.module m).st == .up) <<< m)).sum <<< 16
      + d.fld a 15 0)
  else if a == R.HOST_MOD_INFO then some (x.st.code <<< 30 + min 4 x.lanes.eraseDups.length <<< 4 + min 4 x.spares)
  else if a == R.HOST_MOD_LANES_LO then some (laneWord x.lanes 0)
  else if a == R.HOST_MOD_LANES_HI then some (laneWord x.lanes 32)
  else none

def glbView (a : Nat) : Option Nat :=
  if a == R.GLB_SERIAL_LO then some (serial.toNat % 2 ^ 32)
  else if a == R.GLB_SERIAL_HI then some (serial.toNat / 2 ^ 32)
  else none

/-! ### Every register -/

/-- What the register with a key reads where it mirrors a unit. -/
def viewOf (tb : Timebase) (d : Device) (k : Nat) : Option Nat :=
  let a := k % 2 ^ 32
  let blk := a / 2 ^ 16
  if blk == 0 then glbView a
  else if blk == 1 then furView tb a
  else if blk == 2 then pwrView d a
  else if blk == 3 then secView d a
  else if blk == 4 then evtView d a
  else if a < R.SEQ_STATUS then qmView tb d k
  else if a < R.TIER_CMD_W0 then seqView d k
  else if a < R.STORE_STATUS then tierView d a
  else if a < R.ARR_STATE then storeView d a
  else if a < R.SIEVE_STATUS then ((sowView tb d a).or (arrView tb d a)).or (arrCounts tb d a)
  else if a < R.FLASH_STATUS then sieveView d a
  else if a < R.MEMC_STATUS then flashView d k
  else if a < R.GATH_STATUS then memcView d a
  else if a < R.TEXT_STATUS then gathView d k
  else if a < R.ESP_STATUS then textView tb d k
  else if a < R.PASM_STATUS then espView d k
  else if a < R.BRX_ID then pasmView d k
  else if a < R.HOST_STATUS then brxView d a
  else if a < R.TRW_STATUS then hostView d a
  else (arrView tb d a).or (arrCounts tb d a)

end Sys2Proof.Machine
end

