-- ==== Sys2Proof/Machine/Regs.lean ====
section
/-! DEFINITION. Register space (R8 to R10, R508 to R510, R525): what a read returns, what a write stores, and which
register writes command a unit. -/
namespace Sys2Proof.Machine

/-! ### Addresses -/

/-- R510: the key of the register instance that an address stands for, by the selection registers. -/
def regKey (d : Device) (r : RegDesc) (a : Nat) : Nat :=
  match r.sel with
  | .none | .ast | .obj | .page | .eng | .nsslot | .peer => a
  | .ctx => inst a d.ctxSel
  | .win => winReg a d.ctxSel d.winSel
  | .mdl => inst a (d.fld R.SEQ_MDL_SEL 7 0)
  | .grf => inst a (d.fld R.SEQ_GRF_SEL 11 0)
  | .idx => inst a (d.fld R.SIEVE_IDX_SEL 7 0)
  | .slot => inst a d.slotSel
  | .ns => inst a d.nsSel
  | .ch => inst a (d.fld R.MEMC_CH_SEL 6 0)
  | .tbl => inst a (d.fld R.GATH_TBL_SEL 5 0)
  | .voc => inst a (d.fld R.TEXT_VOC_SEL 2 0)
  | .grm => inst a (d.fld R.ESP_GRM_SEL 7 0)
  | .tpl => inst a (d.fld R.PASM_TPL_SEL 7 0)
  | .port => inst a (d.fld R.BRX_PORT_SEL 2 0)
  | .mod => inst a (d.fld R.HOST_MOD_SEL 1 0)
  | .stg => inst a (d.fld R.PWR_STG_SEL 7 0)
  | .tel => inst a d.telSel

/-- R10: the _LO registers of the 64-bit quantities: address, instances, stride. -/
def loRegs : List (Nat × Nat × Nat) :=
  [(R.GLB_SERIAL_LO, 1, 4), (R.FUR_COUNT_LO, 1, 4), (R.FUR_SET_LO, 1, 4), (R.FUR_LOCK_AT_LO, 1, 4),
   (R.PWR_STG_AT_LO, 1, 4), (R.PWR_SLEEP_AT_LO, 1, 4), (R.PWR_WAKE_AT_LO, 1, 4), (R.SEC_RUN_BUILD_LO, 1, 4),
   (R.EVT_RING_BASE_LO, 1, 4), (R.QM_QP_SQ_BASE_LO, 4096, 64), (R.QM_QP_CQ_BASE_LO, 4096, 64),
   (R.QM_WIN_BASE_LO, 1, 4), (R.QM_WIN_SIZE_LO, 1, 4), (R.SEQ_MDL_POOL_LO, 1, 4), (R.SEQ_MDL_APPLY_LO, 1, 4),
   (R.TIER_OBJ_SIZE_LO, 1, 4), (R.TIER_OBJ_BASE_LO, 1, 4), (R.TIER_OBJ_LAST_LO, 1, 4), (R.STORE_SET_WIDE_LO, 1, 4),
   (R.ARR_P_BUSY_LO, 4, 0x10000), (R.ARR_D_BUSY_LO, 4, 0x10000), (R.ARR_P_UP_LO, 4, 0x10000),
   (R.ARR_D_UP_LO, 4, 0x10000), (R.RAKE_ELEMS_LO, 4, 0x10000), (R.SIEVE_CODES_LO, 1, 4), (R.SIEVE_IDX_APPLY_LO, 1, 4),
   (R.FLASH_SERIAL_LO, 1, 4), (R.GATH_TBL_ROWS_LO, 1, 4), (R.GATH_TBL_RPM_LO, 1, 4), (R.GATH_TBL_APPLY_LO, 1, 4),
   (R.BRX_DIGEST_LO, 1, 4), (R.BRX_REF_LO, 1, 4), (R.BRX_CFG_TAG_LO, 1, 4), (R.BRX_CFG_TAG_NEXT_LO, 1, 4),
   (R.BRX_APPLY_LO, 1, 4), (R.HOST_MOD_LANES_LO, 1, 4), (R.HOST_LAST_REFUSED_LO, 1, 4), (R.TRW_BUSY_LO, 4, 0x10000)]

/-- The address is a _LO register; its _HI is 4 above. -/
def isLo (a : Nat) : Bool :=
  loRegs.any (fun x => x.1 ≤ a && (a - x.1) % x.2.2 == 0 && (a - x.1) / x.2.2 < x.2.1)

def isHi (a : Nat) : Bool := 4 ≤ a && isLo (a - 4)

/-- R454: the blocks that respond in the ROM phase: GLB, FUR, PWR, SEC, EVT and HOST. -/
def romBlock (a : Nat) : Bool := a < R.QM_QP_CTRL || (R.HOST_STATUS ≤ a && a < R.TRW_STATUS)

/-- R454: the register at an address responds. -/
def Device.responds (d : Device) (a : Nat) : Bool := d.power.phase != .rom || romBlock a

def RegDesc.hasRw (r : RegDesc) : Bool := r.fields.any (fun f => f.acc == .rw)

/-! ### Reads (R8 to R10) -/

/-- The bits of a register that a read returns: those of fields that are not WO. -/
def readable (r : RegDesc) (w : Nat) : Nat :=
  r.fields.foldl (fun x f => if f.acc == .wo then x else setBits f.hi f.lo (bits f.hi f.lo w) x) 0

/-- The current value of a register. -/
def current (tb : Timebase) (d : Device) (r : RegDesc) (a : Nat) : Nat :=
  let k := regKey d r a
  readable r ((viewOf tb d k).getD (d.reg k))

def currentAt (tb : Timebase) (d : Device) (a : Nat) : Nat := match regDesc a with
  | some r => current tb d r a
  | none => 0

def Device.setRdata (d : Device) (v : Nat) : Device := { d with port := { d.port with rdata := BitVec.ofNat 32 v } }

def Device.setCapture (d : Device) (a v : Nat) : Device :=
  { d with port := { d.port with captures := d.port.captures.set a (BitVec.ofNat 32 v) } }

/-- R8: an access to an offset that belongs to no register. -/
def unmapped (a : Nat) (d : Device) : Device := (d.inc R.HOST_UNMAPPED).raise 0x0D07 [(4, a)]

/-- A read of a register. -/
def readReg (tb : Timebase) (r : RegDesc) (a : Nat) (d : Device) : Device :=
  if a == R.SEQ_AST_DATA0 then astData0Read d
  else if isLo a then (d.setCapture a (currentAt tb d (a + 4))).setRdata (current tb d r a)
  else match (if isHi a then d.port.captures.get? (a - 4) else none) with
    | some v => { d with port := { d.port with captures := d.port.captures.del (a - 4), rdata := v } }
    | none => d.setRdata (current tb d r a)

/-- A read of register space, within a command: the value stands in the port's read data. -/
def regReadPart (a : Nat) (s : State) : State :=
  let s := { s with dev := s.dev.dropPend }
  if !s.dev.responds a then { s with dev := s.dev.setRdata 0 }
  else match regDesc a with
    | none => s.onPart (fun _ d => (unmapped a d).setRdata 0)
    | some r =>
      let s := if a == R.FUR_COUNT_LO then { s with tb := { s.tb with offsetCap := s.tb.offset } } else s
      s.onPart (fun tb d => readReg tb r a d)

def regRead (a : Nat) (s : State) : State := s.live (fun s => (regReadPart a s).flushed)

/-! ### Writes: what is stored (R9, R525) -/

def storeField (v : Nat) (old : Nat) (f : Field) : Nat :=
  let x := bits f.hi f.lo v
  match f.acc with
  | .rw => if f.least ≤ x && x ≤ f.most then setBits f.hi f.lo x old else old
  | .w1c => setBits f.hi f.lo (bits f.hi f.lo old - (bits f.hi f.lo old &&& x)) old
  | .w1s => setBits f.hi f.lo (bits f.hi f.lo old ||| x) old
  | .ro | .wo => old

def storeFields (r : RegDesc) (old v : Nat) : Nat := r.fields.foldl (storeField v) old

/-- The fields of a register as a write leaves them. -/
def storeReg (r : RegDesc) (a v : Nat) (d : Device) : Device :=
  let k := regKey d r a
  d.setReg k (storeFields r (d.reg k) v)

/-- The queue pair that a register of its block belongs to. -/
def qpOf (a : Nat) : Nat := (a - R.QM_QP_CTRL) / 64

def isQpReg (a : Nat) : Bool := R.QM_QP_CTRL ≤ a && a < R.QM_CTX_SEL

/-- The registers that a write leaves alone while the state their meaning names does not hold. -/
def locked (d : Device) (a : Nat) : Bool :=
  if a == R.EVT_RING_BASE_LO || a == R.EVT_RING_BASE_HI then d.evtEnabled
  else if isQpReg a then (d.qp (qpOf a)).st != .disabled
  else if a == R.BRX_ID then d.fld R.BRX_CTRL 0 0 == 1 || d.reg R.BRX_PORT_CTRL % 256 != 0
  else if a == R.BRX_CFG then d.fld R.BRX_CTRL 0 0 == 1
  else if R.GATH_TBL_CFG ≤ a && a < R.GATH_TBL_CUR then d.tblCur (d.fld R.GATH_TBL_SEL 5 0) != 0
  else if a == R.TEXT_VOC_CFG then (d.voc? (d.fld R.TEXT_VOC_SEL 2 0)).isSome
  else if a == R.ESP_GRM_CFG then (d.gram? (d.fld R.ESP_GRM_SEL 7 0)).isSome
  else if a == R.PASM_TPL_CFG then (d.tpl? (d.fld R.PASM_TPL_SEL 7 0)).isSome
  else if a == R.SEQ_GRF_CFG || a == R.SEQ_GRF_TOKENS || a == R.SEQ_GRF_ID then
    (d.seq.grafts.get? (d.fld R.SEQ_GRF_SEL 11 0)).isSome
  else if R.SEQ_MDL_CFG ≤ a && a < R.SEQ_MDL_RES_NEXT then (d.mdl? (d.fld R.SEQ_MDL_SEL 7 0)).isSome
  else if a == R.FLASH_NS_CFG then (d.nsAny d.nsSel).isSome
  else false

/-- ROWS and RPM of a table slot: 0, or a value above 2^40, is not stored. -/
def rangeOk (d : Device) (r : RegDesc) (a v : Nat) (lo : Option W32) : Bool :=
  if a != R.GATH_TBL_ROWS_LO + 4 && a != R.GATH_TBL_RPM_LO + 4 then true
  else
    let low := match lo with
      | some w => w.toNat
      | none => d.reg (regKey d r (a - 4))
    let n := low + 2 ^ 32 * bits 8 0 v
    n != 0 && n ≤ 2 ^ 40

/-- A write of a _HI register: both halves where the _LO write is pending. -/
def storePair (r : RegDesc) (a v : Nat) (lo : Option W32) (d : Device) : Device :=
  if locked d a || !rangeOk d r a v lo then d
  else
    let d := match lo, regDesc (a - 4) with
      | some w, some q => storeReg q (a - 4) w.toNat d
      | _, _ => d
    storeReg r a v d

/-! ### Writes: the registers that command a unit -/

/-- An action that a bit of the written value asks for. -/
def act (n v : Nat) (f : Device → Device) (d : Device) : Device := if bit n v then f d else d

def qpCtrlWrite (q v : Nat) (tb : Timebase) (d : Device) : Device :=
  let k := qpReg R.QM_QP_CTRL q
  let put (hi lo most least : Nat) (d : Device) : Device :=
    let x := bits hi lo v
    if least ≤ x && x ≤ most then d.setFld k hi lo x else d
  let d := if (d.qp q).st == .disabled then
      put 9 0 1023 0 (put 19 16 12 4 (put 23 20 12 4 (put 29 28 2 0 d))) else d
  if bit 31 v then
    let d := d.setFld k 30 30 (bits 30 30 v)
    qpIrqWrite q (bits 27 27 v) (qpEnable q d)
  else qpIrqWrite q (bits 27 27 v) (qpDisable q (bit 30 v) tb d)

def ctxCtrlWrite (v : Nat) (tb : Timebase) (d : Device) : Device :=
  let c := d.ctxSel
  if !classesOk d c (bits 27 25 v) then cfgRefused (some c) 3 d
  else
    let d := classesWrite c (bits 27 25 v) d
    let d := (d.setFld (inst R.QM_CTX_CTRL c) 24 24 (bits 24 24 v))
    let d := if bit 31 v then (ctxEnable d).setFld (inst R.QM_CTX_CTRL c) 30 30 (bits 30 30 v) else ctxDisable (bit 30 v) tb d
    act 28 v ctxResume (act 29 v (ctxReset tb) d)

def evtCtrlWrite (v : Nat) (d : Device) : Device :=
  let d := if !d.evtEnabled && 6 ≤ bits 20 16 v && bits 20 16 v ≤ 16 then d.setFld R.EVT_CTRL 20 16 (bits 20 16 v) else d
  let d := d.setFld R.EVT_CTRL 14 0 v
  act 29 v evtCntClr (evtIrqWrite (bits 30 30 v) (evtEnableWrite (bits 31 31 v) d))

def tierGoWrite (tb : Timebase) (d : Device) : Device :=
  match cmdOp d with
  | 1 => tierGo (fun _ => true) tierCreate tb d
  | 2 => tierGo (fun _ => true) tierSeal tb d
  | 3 => tierGo (fun _ => true) tierCopy tb d
  | 4 => tierGo (fun _ => true) tierFill tb d
  | 5 => tierGo (fun _ => true) tierRelease tb d
  | _ => tierGo (fun _ => true) (fun _ d => (1, 0, d)) tb d

def portCtrlWrite (v : Nat) (d : Device) : Device :=
  (List.range 8).foldl (fun d p => if bit p v then portEnable p d else portDisable p d) d

def hostCtrlWrite (v : Nat) (d : Device) : Device :=
  if bits 3 0 v == 15 then d
  else
    let d := d.setFld R.HOST_CTRL 3 0 v
    let d := (List.range 4).foldl (fun d m => act (4 + m) v (retrainWrite m) d) d
    act 8 v (fun d => d.clear hostCounters) d

def funcCmdWrite (v : Nat) (d : Device) : Device :=
  if bit 9 v == bit 8 v then d else funcCmd (bits 4 0 v) (bit 9 v) (bit 5 v) d

def fuseCmdWrite (v : Nat) (d : Device) : Device :=
  let op := if bits 9 8 v == 1 || bits 9 8 v == 2 then bits 9 8 v else d.fld R.SEC_FUSE_CMD 9 8
  if bit 31 v then fuseGo op (bits 5 0 v) d else (d.setFld R.SEC_FUSE_CMD 9 8 op).setFld R.SEC_FUSE_CMD 5 0 v

def stgCtrlWrite (v : Nat) (tb : Timebase) (d : Device) : Device :=
  let d := act 30 v stgCancel d
  if bit 31 v then stgArm (bits 8 0 v) tb d
  else if 1 ≤ bits 8 0 v && bits 8 0 v ≤ 256 then d.setFld R.PWR_STG_CTRL 8 0 v else d

def sleepCtrlWrite (v : Nat) (d : Device) : Device :=
  act 0 v sleepArm (act 1 v sleepCancel (d.setFld R.PWR_SLEEP_CTRL 2 2 (bits 2 2 v)))

/-- FETCH and COMMIT in one write have no effect. -/
def winCmdWrite (v : Nat) (d : Device) : Device :=
  if bit 1 v && bit 0 v then d else act 0 v winCommit (act 1 v winFetch d)

/-- SIEVE_IDX_CFG: OWNER stays as it was while the slot holds a CUR version. -/
def idxCfgWrite (v : Nat) (d : Device) : Device :=
  let slot := d.fld R.SIEVE_IDX_SEL 7 0
  let k := idxReg R.SIEVE_IDX_CFG slot
  let d := d.setFld k 11 10 (bits 11 10 v)
  if d.idxCur slot != 0 then d else d.setFld k 9 0 v

/-- The die of a register that repeats for each compute die. -/
def dieAt (base a : Nat) : Option Nat := (List.range 4).find? (fun n => a == dieReg base n)

/-- The counters that a CNT_CLR bit 0 of a unit clears. -/
def clearsAt (tb : Timebase) (a : Nat) : Option (Device → Device) :=
  if a == R.SEC_CTRL then some (fun d => d.clear secCounters)
  else if a == R.QM_CTRL then some (fun d => d.clear qmCounters)
  else if a == R.SEQ_CTRL then some (fun d => d.clear seqCounters)
  else if a == R.ARR_SOW_CTRL then some (fun d => d.clear sowCounters)
  else if a == R.SIEVE_CTRL then some (fun d => d.clear sieveCounters)
  else if a == R.FLASH_CTRL then some (fun d => d.clear flashCounters)
  else if a == R.GATH_CTRL then some (fun d => d.clear gathCounters)
  else if a == R.TEXT_CTRL then some (fun d => d.clear textCounters)
  else if a == R.ESP_CTRL then some (fun d => d.clear espCounters)
  else if a == R.PASM_CTRL then some (fun d => d.clear pasmCounters)
  else match dieAt R.ARR_CTRL a, dieAt R.ARR_ACC_CTRL a, dieAt R.RAKE_CTRL a, dieAt R.TRW_CTRL a with
    | some n, _, _, _ => some (fun d => (d.settleCounts n tb.offset).clear (arrCounters n))
    | _, some n, _, _ => some (accCntClr n)
    | _, _, some n, _ => some (fun d => (d.settleElems n tb.offset).clear (rakeCounters n))
    | _, _, _, some n => some (fun d => (d.settleStopped (fun x => x.die == n && x.kind == 2) tb.offset).clear (trowelCounters n))
    | _, _, _, _ => none

/-- Command registers of power, security, events and queues. -/
def commandA (a v : Nat) : Option (Timebase → Device → Device) :=
  if a == R.PWR_BOOT_CTRL then some (fun _ d => act 0 v bootVerify (act 1 v bootClear d))
  else if a == R.PWR_BOOT_DATA then some (fun _ d => bootData v d)
  else if a == R.PWR_FUNC_CMD then some (fun _ d => funcCmdWrite v d)
  else if a == R.PWR_STG_CTRL then some (stgCtrlWrite v)
  else if a == R.PWR_SLEEP_CTRL then some (fun _ d => sleepCtrlWrite v d)
  else if a == R.PWR_CTRL then some (fun tb d => act 30 v (warmWrite tb.offset) (act 0 v (fun d => d.clear pwrCounters) d))
  else if a == R.SEC_FUSE_CMD then some (fun _ d => fuseCmdWrite v d)
  else if a == R.SEC_CART_CMD then
    some (fun _ d => if bit 31 v then cartReinit (bits 1 0 v) d else d.setFld a 1 0 (bits 1 0 v))
  else if a == R.SEC_ATTEST_CTRL then some (fun _ d => act 0 v attestGo d)
  else if a == R.EVT_CTRL then some (fun _ d => evtCtrlWrite v d)
  else if a == R.EVT_RING_HEAD then some (fun _ d => evtHeadWrite v d)
  else if isQpReg a && (a - R.QM_QP_CTRL) % 64 == 0 then some (qpCtrlWrite (qpOf a) v)
  else if a == R.QM_CTX_CTRL then some (ctxCtrlWrite v)
  else if a == R.QM_CTX_RES then some (fun _ d => ctxResWrite d.ctxSel v d)
  else if R.QM_C0_PREFILL ≤ a && a ≤ R.QM_C0_UNITS then some (fun _ d => c0Write a v d)
  else if a == R.QM_WIN_CMD then some (fun _ d => winCmdWrite v d)
  else none

/-- Command registers of the other units. -/
def commandB (a v : Nat) : Option (Timebase → Device → Device) :=
  if a == R.SEQ_MDL_CMD then
    some (fun tb d => act 0 v seqMdlLoad (act 1 v seqMdlRelease (act 2 v (seqStageRes tb)
      (act 3 v (fun d => dropPendRes (d.fld R.SEQ_MDL_SEL 7 0) d) d))))
  else if a == R.SEQ_GRF_CMD then some (fun _ d => act 0 v seqGrfLoad (act 1 v seqGrfRelease d))
  else if a == R.TIER_CMD_CTRL then some (fun tb d => act 0 v (tierGoWrite tb) d)
  else if a == R.SIEVE_IDX_CFG then some (fun _ d => idxCfgWrite v d)
  else if a == R.SIEVE_IDX_CTRL then some (fun tb d => act 0 v (idxStage tb) (act 1 v idxCancel d))
  else if a == R.FLASH_SLOT_CMD then
    some (fun _ d => act 3 v health (act 2 v (fun d => resetSlot d.slotSel d) (act 0 v (removeSlot (bit 1 v)) d)))
  else if a == R.FLASH_NS_CMD then some (fun _ d => act 0 v nsCreate (act 1 v nsDelete d))
  else if a == R.GATH_TBL_CTRL then some (fun tb d => act 0 v (tblStage tb) (act 1 v tblCancel d))
  else if a == R.GATH_BUILD_CTRL then some (fun _ d => act 0 v buildGo d)
  else if a == R.TEXT_VOC_CMD then some (fun _ d => act 0 v textVocLoad (act 1 v textVocUnload d))
  else if a == R.ESP_GRM_CMD then some (fun _ d => act 0 v espGrmLoad (act 1 v espGrmRelease d))
  else if a == R.PASM_TPL_CMD then some (fun _ d => act 0 v pasmTplLoad (act 1 v pasmTplRelease d))
  else if a == R.BRX_CTRL then
    some (fun _ d => act 2 v (fun d => d.clear brxCounters) (serveWrite (bits 0 0 v) (d.setFld a 1 1 (bits 1 1 v))))
  else if a == R.BRX_PORT_CTRL then some (fun _ d => portCtrlWrite v d)
  else if a == R.BRX_STAGE_CTRL then some (fun tb d => act 0 v (tagStage tb) (act 1 v tagCancel d))
  else if a == R.HOST_CTRL then some (fun _ d => hostCtrlWrite v d)
  else none

/-- A write of a register, `lo` the pending write of its _LO where it is that _LO's _HI. -/
def writeReg (r : RegDesc) (a v : Nat) (lo : Option W32) (tb : Timebase) (d : Device) : Device :=
  if stagedReg a then stagedWrite a v lo tb d
  else match (commandA a v).or (commandB a v) with
    | some f => f tb d
    | none =>
      let v := if a == R.EVT_STATUS && d.ev.lostAt == some (tb.number, tb.offset) then v % 2 ^ 31 else v
      let d := if isHi a then storePair r a v lo d else if locked d a then d else storeReg r a v d
      match clearsAt tb a with
      | some f => act 0 v f d
      | none => d

/-- R10: the write of an RW _LO register is held. -/
def holdLo (a v : Nat) (d : Device) : Device :=
  { d with port := { d.port with pendLo := some (a, BitVec.ofNat 32 v) } }

/-- A write of register space, within a command. -/
def regWritePart (a v : Nat) (s : State) : State :=
  let v := v % 2 ^ 32
  let pend := s.dev.port.pendLo
  let s := { s with dev := s.dev.dropPend }
  if !s.dev.responds a then s
  else match regDesc a with
    | none => s.onPart (fun _ d => unmapped a d)
    | some r =>
      if isLo a && r.hasRw then { s with dev := holdLo a v s.dev }
      else if a == R.PWR_CTRL && bit 31 v && s.dev.power.porst then coldReset true false s.dev.power.straps s
      else if a == R.FUR_CTRL then
        let s := s.onPart (fun _ d => act 7 v (fun d => d.clear furCounters) (furSourceWrite (bits 0 0 v) d))
        if bit 6 v then setApply s else s
      else
        let lo := match pend with
          | some (b, w) => if isHi a && b + 4 == a then some w else none
          | none => none
        s.onPart (writeReg r a v lo)

def regWrite (a v : Nat) (s : State) : State := s.live (fun s => (regWritePart a v s).flushed)

/-! ### The commands (R8 to R10, R463) -/

/-- REG_WRITE (R9, R525): a host write of a register. -/
def execRegWrite (addr value : Nat) (s : State) : Host.Outcome State Fault Refusal := .next (regWrite addr value s)

/-- REG_UNMAPPED_ACCESS (R8): an access, a write or a read, to an offset; one that belongs to a register is left to the
rows of registers. -/
def execRegUnmappedAccess (addr : Nat) (write : Bool) (s : State) : Host.Outcome State Fault Refusal :=
  .next (if (regDesc addr).isSome then s else if write then regWrite addr 0 s else regRead addr s)

/-- REG_LO_READ (R10). -/
def execRegLoRead (addr : Nat) (s : State) : Host.Outcome State Fault Refusal :=
  .next (if isLo addr then regRead addr s else s)

/-- REG_HI_READ (R10). -/
def execRegHiRead (addr : Nat) (s : State) : Host.Outcome State Fault Refusal :=
  .next (if isHi addr then regRead addr s else s)

/-- REG_LO_WRITE (R10). -/
def execRegLoWrite (addr value : Nat) (s : State) : Host.Outcome State Fault Refusal :=
  .next (if isLo addr then regWrite addr value s else s)

/-- REG_HI_WRITE (R10). -/
def execRegHiWrite (addr value : Nat) (s : State) : Host.Outcome State Fault Refusal :=
  .next (if isHi addr then regWrite addr value s else s)

/-- STAGED_DIRECT_WRITE (R463). -/
def execStagedDirectWrite (addr value : Nat) (s : State) : Host.Outcome State Fault Refusal :=
  .next (if stagedReg addr || addr == R.STORE_SET_WIDE_LO then regWrite addr value s else s)

end Sys2Proof.Machine
end

