-- ==== Sys2Proof/Machine/Aperture.lean ====
section
/-! DEFINITION. What a host access reaches (R140, R155, R312, R441 to R443): register space, doorbell pages and the two
memory apertures. -/
namespace Sys2Proof.Machine

/-- The rows of the table of R441. -/
inductive Reach where
  | register
  | doorbell
  | central
  | lpddr
  | refused
  deriving DecidableEq, Repr

/-- R441: the shape of an aperture access. -/
def burstOk (a n : Nat) : Bool := 64 ≤ n && n ≤ 4096 && n % 64 == 0 && a % 64 == 0 && a % 4096 + n ≤ 4096

/-- R441: what an access of `n` bytes at an address reaches. -/
def reach (a n : Nat) : Reach :=
  if a < 0x4000000 then (if n == 4 && a % 4 == 0 then .register else .refused)
  else if a < 0x5000000 then (if n == 4 && a % 4 == 0 then .doorbell else .refused)
  else if csBase ≤ a && a < csBase + csSize then (if burstOk a n then .central else .refused)
  else if lpBase ≤ a && a < lpEnd then (if burstOk a n then .lpddr else .refused)
  else .refused

/-- R441: a refusal; TYPE 1 is HWR, 2 HRD. -/
def accessRefused (type a : Nat) (d : Device) : Device :=
  ((d.inc R.HOST_REFUSED).setReg64 R.HOST_LAST_REFUSED_LO (a % 2 ^ 44)).raise 0x0D06 [(8, a % 2 ^ 44), (1, type)]

/-- R440: the completion of an HRD. -/
def complHost (tag status : Nat) (data : List Byte) (d : Device) : Device := d.send (.hcpl tag status data)

/-! ### Writes -/

/-- R377: a write to a doorbell page. -/
def doorbellWrite (a v : Nat) (tb : Timebase) (d : Device) : Device :=
  let q := (a - 0x4000000) / 4096
  if a % 4096 == 0 then sqDoorbell q v tb d
  else if a % 4096 == 4 then cqDoorbell q v tb d
  else d

/-- R140, R441: a write to the Central Store reaches SHARE pages only. -/
def centralWrite (a : Nat) (data : List Byte) (d : Device) : Device :=
  if isShare (d.page (pageOf a)) then d.bgWrite none a data else d.raise 0x0303 []

/-- R150, R155, R312: an LPDDR5X object that takes a write of the host: it is BUILDING, and no batch writes it. -/
def Device.takesWrite (d : Device) (a n : Nat) : Option (Nat × Obj) := match d.objAt a with
  | some (id, o) => if o.tier == 2 && o.st == .building && within a n o.base o.span && !d.batchTarget id then some (id, o) else none
  | none => none

/-- R442: an LPDDR5X access of `n` bytes, which lie in one stripe unit, finds its channel's capacity in what reservations leave of
this furrow, and no access before it that waits. -/
def Device.lpFree (tb : Timebase) (d : Device) (a n : Nat) : Bool :=
  d.host.lpWait.isEmpty && decide (n / 64 ≤ d.spareOn tb.number.toNat (lpChannel a))

/-- R162, R442: the channel of an access serves it. -/
def Device.lpServe (d : Device) (a n : Nat) : Device :=
  let c := lpChannel a
  { d with store := { d.store with bgUnits := d.store.bgUnits.set c (d.store.bgUnits.getD c 0 + n / 64) } }

/-- An access waits. -/
def Device.lpDefer (d : Device) (x : LpAccess) : Device := { d with host := { d.host with lpWait := d.host.lpWait ++ [x] } }

/-- R150, R441: a write to LPDDR5X that is served reaches objects in BUILDING only. -/
def lpddrPut (a : Nat) (data : List Byte) (d : Device) : Device :=
  match d.takesWrite a data.length with
  | some (id, o) =>
    let d := d.lpServe a data.length
    { d.updObj id (fun o' => o'.mark (a - o.base) data.length) with mem := d.mem.writeBytes a data }
  | none => d.raise 0x0304 []

/-- R442: a write to LPDDR5X; one that no object takes is refused at once. -/
def lpddrWrite (a : Nat) (data : List Byte) (tb : Timebase) (d : Device) : Device :=
  if (d.takesWrite a data.length).isSome && !d.lpFree tb a data.length then d.lpDefer (.write a data) else lpddrPut a data d

def hostWrite (a : Nat) (data : List Byte) (s : State) : State :=
  match reach a data.length with
  | .register => regWritePart a (ofLe data) s
  | .doorbell => s.onPart (doorbellWrite a (ofLe data))
  | .central => s.onPart (fun tb d => centralWrite a data (d.catchUp tb.offset none))
  | .lpddr => s.onPart (lpddrWrite a data)
  | .refused => s.onPart (fun _ d => accessRefused 1 a d)

/-- HWR (R441): a posted write of the host; one sent while the link is DOWN is lost (R439). -/
def execHwr (addr : Nat) (data : List Byte) (s : State) : Host.Outcome State Fault Refusal :=
  .next (s.live (fun s => if s.dev.linkUp then (hostWrite addr data s).flushed else s))

/-! ### Reads -/

/-- R443: a read of memory; `err` where it meets an uncorrectable error. -/
def memoryRead (tag a n : Nat) (err : Bool) (bad : Device → Device) (d : Device) : Device :=
  let d := if err then (bad d).inc R.HOST_DATA_ERR else d
  complHost tag (if err then 2 else 0) (d.mem.readBytes a n) d

/-- A read of LPDDR5X that is served. -/
def lpddrGet (tag a n : Nat) (err : Bool) (d : Device) : Device :=
  memoryRead tag a n err (fun d => d.lpEcc (lpChannel a)) (d.lpServe a n)

/-- R442: a read of LPDDR5X. -/
def lpddrRead (tag a n : Nat) (err : Bool) (tb : Timebase) (d : Device) : Device :=
  if d.lpFree tb a n then lpddrGet tag a n err d else d.lpDefer (.read tag a n err)

/-- R442: the accesses that wait are served in their order while the furrow's capacity lasts. -/
def lpDrain (tb : Timebase) : List LpAccess → Device → Device
  | [], d => d
  | x :: t, d =>
    let (a, n) := match x with
      | .write a data => (a, data.length)
      | .read _ a n _ => (a, n)
    if decide (n / 64 ≤ d.spareOn tb.number.toNat (lpChannel a)) then
      let d := { d with host := { d.host with lpWait := t } }
      lpDrain tb t (match x with
        | .write a data => lpddrPut a data d
        | .read tag a n err => lpddrGet tag a n err d)
    else d

def hostRead (tag a n : Nat) (err : Bool) (s : State) : State :=
  match reach a n with
  | .register => (regReadPart a s).onPart (fun _ d => complHost tag 0 (leBytes 4 d.port.rdata.toNat) d)
  | .doorbell => s.onPart (fun _ d => complHost tag 0 (leBytes 4 0) d)
  | .central => s.onPart (fun tb d => memoryRead tag a n err (fun d => d.storeEcc a) (d.catchUp tb.offset none))
  | .lpddr => s.onPart (lpddrRead tag a n err)
  | .refused => s.onPart (fun _ d => complHost tag 1 [] (accessRefused 2 a d))

/-- HRD (R441, R443): a read of the host; one sent while the link is DOWN is lost (R439). -/
def execHrd (tag addr len : Nat) (err : Bool) (s : State) : Host.Outcome State Fault Refusal :=
  .next (s.live (fun s => if s.dev.linkUp then (hostRead tag addr len err s).flushed else s))

end Sys2Proof.Machine
end

