-- ==== Sys2Proof/Machine/Staging.lean ====
section
/-! DEFINITION. An attempt of a step of the staging list at a boundary (R135, R144, R422, R456, R461 to R463). -/
namespace Sys2Proof.Machine

/-- What an attempt finds: every condition holds (with the state it leaves), some condition does not hold yet, or a chapter
refuses the step at once. -/
inductive Attempt where
  | ok (s : State)
  | waits (full : Bool)
  | refused
  deriving DecidableEq, Repr

/-! ### Store pages (R144, R146) -/

/-- R144: nothing of a context holds a page of its share. -/
def shareFree (d : Device) (c p : Nat) : Bool :=
  let a := pageBase p
  let covers (w : Window) : Bool := w.tier != 0 && overlaps w.base w.size a 0x200000
  !((d.ctx c).wins.any (fun w => covers w.2) || (d.ctx c).pendWins.any (fun w => covers w.2)
      || (d.ctx c).held.any (fun h => overlaps h.1 h.2.1 a 0x200000)
      || d.plots.runs.any (fun r => r.2.ctx == c && r.2.wins.any covers)
      || d.store.objects.any (fun o => o.2.tier == 1 && overlaps o.2.base o.2.span a 0x200000))

/-- One page by the transitions of R144; `none`: the step waits, `true` where a pinned pool object holds the page. -/
def movePage (d : Device) (p : Nat) (o : PageOwner) : Except Bool Device :=
  match d.page p, o with
  | .free, .share c => .ok (d.setPage p (.share c))
  | .pool id, .share c => match d.obj? id with
    | some x => if d.pinned id x || x.st != .sealed then .error true else .ok ((evict id d).setPage p (.share c))
    | none => .ok (d.setPage p (.share c))
  | .share c, .free => if shareFree d c p then .ok (d.setPage p .free) else .error false
  | .share c, .share e =>
    if c == e then .ok d else if shareFree d c p then .ok (d.setPage p (.share e)) else .error false
  | _, _ => .ok d

def movePages (o : PageOwner) : List Nat → Device → Except Bool Device
  | [], d => .ok d
  | p :: t, d => match movePage d p o with
    | .ok d => movePages o t d
    | .error e => .error e

/-- The owner that a TYPE (0 FREE, 1 SHARE) and a context give. -/
def ownerFor (type c : Nat) : PageOwner := if type == 1 then .share c else .free

/-! ### Bank sets (R135) -/

/-- Store page p lies in a bank set whose mode changes. -/
def changesSet (lo hi oldLo oldHi p : Nat) : Bool :=
  let m := p / 128
  if m < 32 then bit m lo != bit m oldLo else bit (m - 32) hi != bit (m - 32) oldHi

def setWide (lo hi : Nat) (d : Device) : Option Device :=
  let oldLo := d.reg R.STORE_SET_WIDE_LO
  let oldHi := d.reg R.STORE_SET_WIDE_HI
  if d.store.pages.any (fun p => !isFree p.2 && changesSet lo hi oldLo oldHi p.1) then none
  else some ((d.setReg R.STORE_SET_WIDE_LO lo).setReg R.STORE_SET_WIDE_HI hi)

/-! ### Domains (R453, R456) -/

/-- R395, repeated for the power-off of an array domain. -/
def arraysOk (d : Device) : Bool :=
  d.qm.stagedC0.getD R.QM_C0_PREFILL (d.fld R.QM_C0_PREFILL 11 0) ≤ 1000 * d.diesOn 0
    && d.decodeSum 1024 0 0 ≤ 1000 * d.diesOn 1

/-- R456, conditions 1 to 4. -/
def offReady (target : Nat) (d : Device) (n : Nat) : Bool :=
  d.power.funcs.getD n 0 == 2
    && switchables.all (fun k => !(domReqs k).contains n || d.domState k == 0 || !bit k target)
    && !d.plotUses n
    && (n % 4 != 3 || 16 ≤ n || d.store.pages.all (fun p => isFree p.2 || p.1 / 2048 != n / 4))

/-- The domains in the order in which they are switched on. -/
def onOrder : List Nat := storeDoms ++ midDoms ++ arrayDoms

/-- A write of PWR_DOM_TARGET takes effect, waits, or is refused by R395. -/
def domTarget (v : Nat) (s : State) : Attempt :=
  let d := s.dev
  let off := onOrder.filter (fun n => d.domState n != 0 && !bit n v)
  let on := onOrder.filter (fun n => d.domState n == 0 && bit n v)
  let gone := off.foldl (fun d n => d.setDom n 0) d
  if off.any (fun n => n < 16 && n % 4 < 2) && !arraysOk gone then .refused
  else if !off.all (offReady v d) then .waits false
  else
    let d := off.reverse.foldl (domSwitchOff 0) d
    let d := on.foldl domSwitchOn d
    if !on.all (fun n => d.domState n != 0) then .waits false
    else .ok { s with dev := d.setReg R.PWR_DOM_TARGET (bits 22 20 v <<< 20 + bits 18 18 v <<< 18 + bits 15 0 v) }

/-! ### Slots (R422) -/

/-- A write of FLASH_SLOT_CFG: a change of the SLC mode waits until no SLC data of the slot awaits a fold. -/
def slotCfg (slot v : Nat) (d : Device) : Option Device :=
  let k := slotReg R.FLASH_SLOT_CFG slot
  let old := d.reg k
  let region := if bits 30 22 v ≤ 256 then bits 30 22 v else bits 30 22 old
  let w := bits 31 31 v <<< 31 + region <<< 22 + bits 15 0 v
  let holds := match (d.slot slot).cart with
    | some c => (List.range 16).any (fun ch => c.slcHeld ch != 0)
    | none => false
  if bits 31 22 w != bits 31 22 old && holds then none else some (d.setReg k w)

/-! ### A step -/

/-- The registers whose value R395 checks. -/
def checkedReg (a : Nat) : Bool :=
  a == R.QM_CTX_RES || a == R.QM_CTX_CTRL || (R.QM_C0_PREFILL ≤ a && a ≤ R.QM_C0_UNITS)

def ofDevice (s : State) : Option Device → Attempt
  | some d => .ok { s with dev := d }
  | none => .waits false

def ofPages (s : State) : Except Bool Device → Attempt
  | .ok d => .ok { s with dev := d }
  | .error full => .waits full

/-- One entry; `lo` is the value that an entry for STORE_SET_WIDE_LO holds for the entry that follows it. -/
def applyEntry (e : StgEntry) (lo : Option Nat) (s : State) : Attempt :=
  let d := s.dev
  if e.kind == 1 then ofPages s (movePages (ownerFor e.type e.ctx) ((List.range e.count).map (· + e.first)) d)
  else if e.offset == R.STORE_SET_WIDE_LO then .ok s
  else if e.offset == R.STORE_SET_WIDE_HI then ofDevice s (setWide (lo.getD (d.reg R.STORE_SET_WIDE_LO)) e.w1 d)
  else if e.offset == R.STORE_PAGE_OWNER then
    if 2 ≤ bits 31 30 e.w1 then .ok s
    else ofPages s (movePage d (e.sel.getD (d.fld R.STORE_PAGE_SEL 12 0)) (ownerFor (bits 31 30 e.w1) (bits 25 16 e.w1)))
  else if e.offset == R.FLASH_SLOT_CFG then ofDevice s (slotCfg (e.sel.getD d.slotSel) e.w1 d)
  else if e.offset == R.PWR_DOM_TARGET then domTarget e.w1 s
  else
    let t := regWritePart e.offset e.w1 s
    if checkedReg e.offset && t.dev.fld R.QM_CFG_STATUS 23 16 != 0 then .refused else .ok t

/-- The entries of a step in list order. -/
def applyEntries : List StgEntry → Option Nat → State → Attempt
  | [], _, s => .ok s
  | e :: t, lo, s => match applyEntry e lo s with
    | .ok s => applyEntries t (if e.kind == 0 && e.offset == R.STORE_SET_WIDE_LO then some e.w1 else none) s
    | x => x

/-- R461: the step that has applied; the next one is attempted from the next boundary. -/
def stepApplied (st : Staging) (d : Device) : Device :=
  let d := d.raise 0x0E06 [(1, st.step)]
  if st.entries.any (fun e => st.step < e.step) then
    stgStatus 1 (st.step + 1) st.step 0 0
      { d with power := { d.power with staging := some { st with step := st.step + 1, tried := 0 } } }
  else stgStatus 2 st.step st.step 0 (min 255 (st.tried + 1)) { d with power := { d.power with staging := none } }

/-- R461, R462: the boundary's attempt. A pending _LO write of the host is not touched by the writes of a step. -/
def stagingBoundary (s : State) : State :=
  match s.dev.power.staging with
  | none => s
  | some st =>
    let d := s.dev
    if (st.step == 0 && !furLe st.at_ s.tb.number) || d.cfgLimit ≤ st.tried then s
    else
      match applyEntries (st.entries.filter (fun e => e.step == st.step)) none { s with dev := d.dropPend } with
      -- R460: FUR_CTRL alone of a list's registers acts on the timebase, by SET_APPLY
      | .ok t => { s with tb := { s.tb with setPending := t.tb.setPending }, dev := stepApplied st { t.dev with port := { t.dev.port with pendLo := d.port.pendLo } } }
      | .waits full =>
        let d := d.setFld R.PWR_STG_STATUS 7 0 (min 255 (st.tried + 1))
        let d := { d with power := { d.power with staging := some { st with tried := st.tried + 1 } } }
        { s with dev := if full then d.raise 0x0307 [] else d }
      | .refused => { s with dev := stepFails 9 (d.setFld R.PWR_STG_STATUS 7 0 (min 255 (st.tried + 1))) }

end Sys2Proof.Machine
end

