-- ==== Sys2Proof/Machine/Boundary.lean ====
section
/-! DEFINITION. The furrow boundary (R42): its steps in their order, and the end of Dormant (R473), which is a boundary. -/
namespace Sys2Proof.Machine

/-- The steps run: the module is started, not in a warm reset (R470) and not in Dormant or waking from it. -/
def Device.active (d : Device) : Bool :=
  (match d.power.phase with
    | .bringup | .service | .dormantEntry => true
    | .rom | .verifying | .dormant | .waking | .halted => false)
  && (match d.power.warm with
    | none => true
    | some w => w + 9 ≤ d.power.furs)

/-- What a boundary does before step 2: ports, fencing and the calendar take up the furrow. -/
def boundaryUnits (tb : Timebase) (d : Device) : Device := calendarBoundary tb (fencingBoundary (portBoundary d))

/-- The staged switches of index slots, table slots and the configuration tag, each as `due` decides. -/
def stagedSwitches (due : Bool → W48 → Due) (d : Device) : Device :=
  tagBoundary due (tableBoundary due (indexBoundary due d))

/-- A boundary that takes no steps: in Dormant (R473), or in a warm reset (R470), whose port evaluates nothing. -/
def idleBoundary (prev : W48) (tb : Timebase) (d : Device) : Device :=
  if d.power.phase == .dormant || d.power.phase == .waking then
    fencingBoundary (stagedSwitches (tb.asleep prev) d)
  else stagedSwitches (tb.inReset prev) { d with brx := { d.brx with next := none, evaluated := false } }

/-- How far a furrow lies from the one that begins. -/
def Timebase.ahead (tb : Timebase) (f : W48) : Int := (f - tb.number).toInt

def insertFurrow (tb : Timebase) (f : W48) : List W48 → List W48
  | [] => [f]
  | g :: t => if f == g then g :: t else if tb.ahead f < tb.ahead g then f :: g :: t else g :: insertFurrow tb f t

/-- The furrows for which changes are staged, the earliest first. -/
def stagedFurrows (tb : Timebase) (d : Device) : List W48 :=
  ((d.power.staging.map (·.at_)).toList ++ d.seq.pendRes.map (·.2) ++ d.sieve.pendIdx.map (·.2) ++ d.gath.pendTbl.map (·.2)
    ++ d.brx.pendTag.toList).foldl (fun l f => insertFurrow tb f l) []

/-- The changes that are staged for one furrow: the staging list, then the switches. -/
def stagedFor (due : Bool → W48 → Due) (s : State) (f : W48) : State :=
  let only (plane : Bool) (at_ : W48) : Due := if at_ == f then due plane at_ else .wait
  let s := if s.dev.power.staging.map (·.at_) == some f then stagingBoundary s else s
  s.onPart (fun _ d => stagedSwitches only (resBoundary only d))

/-- Step 2: objects, staged changes in the order of their furrows (R42, R473), windows and reservations. -/
def boundaryTwo (due : Bool → W48 → Due) (s : State) : State :=
  let s := s.onPart objectBoundary
  let s := (stagedFurrows s.tb s.dev).foldl (stagedFor due) s
  s.onPart (fun _ d => digestForm (funcBoundary (reserveBoundary (windowBoundary d))))

/-- Step 3: handoffs close. -/
def boundaryThree (tb : Timebase) (d : Device) : Device := closeHandoffs tb (resetCloses tb d)

/-- Step 4: cancellations, ends, generation and admission. -/
def boundaryFour (tb : Timebase) (d : Device) : Device :=
  let d := cancelBoundary tb (abortBoundary d)
  let d := promptBoundary tb (boundBoundary tb d)
  let d := contextBoundary tb (seqBoundary tb d)
  funcDrained (admissionBoundary tb d)

/-- Step 5 and the work that starts with a furrow. -/
def boundaryFive (tb : Timebase) (d : Device) : Device :=
  let d := helloSend tb (heartbeatSend tb (sowingStart tb d))
  let d := modelBoundary (tplBoundary (gramBoundary tb (vocBoundary d)))
  let d := gatherBoundary tb (tierResume tb (startSearches tb d))
  serveSlots (drainBoundary (settleUnloads tb d))

/-- Steps 2 to 5. -/
def furrowSteps (due : Bool → W48 → Due) (s : State) : State :=
  (boundaryTwo due (s.onPart boundaryUnits)).onPart (fun tb d => boundaryFive tb (boundaryFour tb (boundaryThree tb d)))

/-- Step 1, and what every boundary counts. -/
def boundaryOne (s : State) : State :=
  let tb := s.tb.boundary s.dev.furSource s.dev.furSet
  let d := boundaryEvents s.tb tb ((carryRuns s.tb s.dev).flush s.tb)
  let d := { d with ev := d.ev.newFurrow, power := { d.power with furs := d.power.furs + 1 } }
  { s with tb := tb, dev := hostBoundary (warmBoundary (flashBoundary s.tb.number (moverBoundary s.tb.number (batchBoundary s.tb.number d)))) }

/-- A boundary, with the readings of the telemetry sources (R503) and of the bay's rails (R449), and what the memories and
lanes have reported since the last. -/
def boundary (temps powers : List Nat) (seen : List (Nat × Nat)) (s : State) : State :=
  let prev := s.tb.number
  let s := boundaryOne { s with dev := seen.foldl observe s.dev }
  let s := if s.dev.active then furrowSteps s.tb.due s else s.onPart (idleBoundary prev)
  s.onPart (fun tb d => telemetry temps powers (slotTemps temps (railCheck ((List.range 4).map (fun i => (seen.lookup i).getD 0)) (sleepBoundary tb (lpDrain tb d.host.lpWait d)))))

/-- FURROW_BOUNDARY (R42); the module in reset (R514) has none. -/
def execFurrowBoundary (temps powers : List Nat) (seen : List (Nat × Nat)) (s : State) : Host.Outcome State Fault Refusal :=
  .next (s.live (fun s => (boundary temps powers seen s).flushed))

/-- R473: from W + 32 Dormant has ended; the boundary's steps run with the changes that were missed. -/
def wakeDone (s : State) : State :=
  match s.dev.power.phase, s.dev.power.wakeFur with
  | .waking, some w =>
    if w + 32 ≤ s.dev.power.furs then
      furrowSteps s.tb.awake (s.onPart (fun _ d =>
        ({ d with power := { d.power with phase := .service, wakeFur := none } }.inc R.PWR_WAKES).raise 0x0E0C []))
    else s
  | _, _ => s

/-- WAKE_DONE (R473). -/
def execWakeDone (s : State) : Host.Outcome State Fault Refusal := .next (s.live (fun s => (wakeDone s).flushed))

end Sys2Proof.Machine
end

