-- ==== Sys2Proof/Machine/BundleIssue.lean ====
section
/-! DEFINITION. The plot sequencer (R49 to R53, R97 to R99): it issues the bundles of a plot run, checks the arrays
before the end of the run (R108), and ends the run. -/
namespace Sys2Proof.Machine

/-! ### Issue -/

/-- The bundle has been issued: when the next one follows (R98). -/
def Run.issued (r : Run) (skip : Nat) : Run := { r with pc := r.pc + 1, nextIssue := r.now + 1 + skip, waitClk := none }

/-- R141: the plot's requests carry MEDIA_ERROR for an uncorrectable error of the Central Store. -/
def storeErr (r : Run) (addr : Nat) (d : Device) : Device :=
  (d.reqsOf r.req r.gen).foldl (fun d q => d.cond q 0xD detStoreEcc) (d.storeEcc addr)

/-- R98, R99: the bundle of a run at its issue clk. -/
def issueBundle (tb : Timebase) (i : Nat) (d : Device) (r : Run) : Device :=
  let b := decodeBundle (r.plot.bundle d.mem r.pc)
  if !b.legal then abortClk i [(0x5B, some b.illegalSlot)] d
  else
    let ss := b.slots
    match bundleExc d r ss with
    | some (det, slot) => abortClk i [(det, some slot)] d
    | none =>
      let (d, r) := ss.foldl (fun (a : Device × Run) o => o.act tb a.1 a.2) (d, r.issued b.skip)
      d.setRun i r

/-- R141: a corrected error of the Central Store is counted for its slice. -/
def Device.storeCorr (d : Device) (a : Nat) : Device := d.inc (R.STORE_ECC_CORR + 8 * ((a - csBase) / 2 ^ 32))

/-- R98, R138, R141: `ecc` is 0 for a fetch and operands without error, 1 for an uncorrectable error of the fetch, 2 for
one of a plot-port read, 3 for a corrected error of either, at a device address. -/
def bundleIssue (i ecc addr : Nat) (tb : Timebase) (d : Device) : Device :=
  match d.run? i with
  | none => d
  | some r0 =>
    let c := r0.issueClk
    if r0.aborted.isSome || r0.replay.isSome || r0.plot.bundles ≤ r0.pc || r0.plot.length ≤ c + r0.pauses then d
    else
      let d := (d.catchUp (r0.startOff + c + r0.pauses) (some i)).runTo i c
      match d.run? i with
      | none => d
      | some r =>
        if r.aborted.isSome then d
        else if ecc == 1 then storeErr r addr (d.setRun i (r.issued 0))
        else issueBundle tb i (if ecc == 2 then storeErr r addr d else if ecc == 3 then d.storeCorr addr else d) r

/-- BUNDLE_ISSUE (R98). -/
def execBundleIssue (run ecc addr : Nat) (s : State) : Host.Outcome State Fault Refusal :=
  .next (s.onDev (bundleIssue run ecc addr))

/-! ### The end of a run -/

/-- Bring a run to an elapsed clk, in it up to an order; a replay pause that covers it holds the machine clk. -/
def Device.runToElapsed (d : Device) (i e ord : Nat) : Device :=
  match d.run? i with
  | none => d
  | some r =>
    if r.replay.isSome then d.setRun i { r with pauses := max r.pauses (e - r.now) }
    else d.runUpTo i (e - r.pauses) ord

/-- R108: the check at LENGTH − 48. -/
def overrunCheck (i : Nat) (d : Device) : Device :=
  match d.run? i with
  | none => d
  | some r0 =>
    if r0.aborted.isSome || r0.overrunChecked then d else
    let d := d.runToElapsed i (r0.plot.length - 48) 40
    match d.run? i with
    | none => d
    | some r =>
      let d := d.setRun i { r with overrunChecked := true }
      if r.arrays.all (fun p => p.2.settled) then d else abortClk i [(0x5F, none)] d

/-- OVERRUN_CHECK (R108). -/
def execOverrunCheck (run : Nat) (s : State) : Host.Outcome State Fault Refusal := .next (s.onDev (fun _ d => overrunCheck run d))

/-- The rake operations that are complete by a machine clk. -/
def finishRake (i t : Nat) : Nat → Device → Device
  | 0, d => d
  | n + 1, d =>
    match (d.run? i).bind (fun r => r.nextRake) with
    | some o => if o.due ≤ t then finishRake i t n (rakeResultDone i d) else d
    | none => d

/-- A run ends for its request or its generation stage (R384, R229, R360). RESULT carries the TIES of the last plot of the
request's own stages, also where a generation follows (DESIGN CHOICE, log entry 168). -/
def noteEnd (tb : Timebase) (r : Run) (d : Device) : Device :=
  match r.gen with
  | some g => genPlotEnd tb g r.entry d
  | none =>
    (d.updReq r.req (fun q =>
      let q' := q.setStage r.entry (fun t => { t with ended := t.ended + 1 })
      let last := r.entry + 1 == q.stages.length && (match q'.stages[r.entry]? with | some t => t.reps ≤ t.ended | none => false)
      if last then { q' with ties := r.lastTies } else q')).startStages r.req

/-- R53: LENGTH comes: the run gives up its slot and footprint. -/
def plotEnd (i : Nat) (tb : Timebase) (d : Device) : Device :=
  match d.run? i with
  | none => d
  | some r0 =>
    let d := overrunCheck i d
    let d := d.runToElapsed i r0.plot.length 32 -- a write of this clk is visible at LENGTH
    let d := finishRake i (r0.plot.length - r0.pauses) r0.rake.length d
    let d := match d.run? i with
      | some r => if (endExc r).isEmpty then d else abortClk i (endExc r) d
      | none => d
    match d.run? i with
    | none => d
    | some r =>
      let (d, r) := settleArrays r.elapsed r.now d r
      let (d, r) := nonfinLeft d r
      let d := { d with plots := { d.plots with runs := d.plots.runs.del i } }.releaseHeld
      let d := noteEnd tb r d
      settleUnloads tb ((d.reqsOf r.req r.gen).foldl (settleReq tb) d)

/-- PLOT_END (R53). -/
def execPlotEnd (run : Nat) (s : State) : Host.Outcome State Fault Refusal := .next (s.onDev (plotEnd run))

end Sys2Proof.Machine
end

