-- ==== Sys2Proof/Machine/SlotRows.lean ====
section
/-! DEFINITION. The instructions of a bundle's slots (R97) as commands of their own: the checks of R99, ranked among the exceptions
of the clk (R130), and then the effect. -/
namespace Sys2Proof.Machine

/-- R98, R99, R130: an instruction of a slot of a running plot, issued at the plot's clk: its checks, then its effect.
`slot` names the slot in PLOT_ABORTED (0 array, 1 store-move, 2 accumulation, 3 rake, 4 dispatch, 5 sync). -/
def slotOp (i slot : Nat) (chk : Device → Run → List Nat) (act : Device → Run → Device × Run) (d : Device) : Device :=
  match d.run? i with
  | none => d
  | some r =>
    if r.aborted.isSome || r.replay.isSome || r.plot.length ≤ r.elapsed then d
    else match firstExc (chk d r) with
      | some det => abortClk i [(det, some slot)] d
      | none => let (d, r) := act d r; d.setRun i r

/-- One slot instruction by itself. -/
def SlotOp.run (o : SlotOp) (i : Nat) (tb : Timebase) (d : Device) : Device := slotOp i o.slot o.chk (o.act tb) d

def rampup (run kind arr : Nat) (d : Device) : Device := slotOp run 0 (rampupExc kind arr) (rampupAct kind arr) d

/-- RAMPUP (R104). -/
def execRampup (run kind arr : Nat) (s : State) : Host.Outcome State Fault Refusal :=
  .next (s.onDev (fun _ d => rampup run kind arr d))

def rampdn (run kind arr : Nat) (d : Device) : Device := slotOp run 0 (rampdnExc kind arr) (rampdnAct kind arr) d

/-- RAMPDN (R104). -/
def execRampdn (run kind arr : Nat) (s : State) : Host.Outcome State Fault Refusal :=
  .next (s.onDev (fun _ d => rampdn run kind arr d))

def ldw (run kind arr fmt sw sa soff : Nat) (d : Device) : Device :=
  slotOp run 0 (ldwExc kind arr fmt sw sa soff) (ldwAct kind arr fmt sw sa soff) d

/-- LDW (R104). -/
def execLdw (run kind arr fmt sw sa soff : Nat) (s : State) : Host.Outcome State Fault Refusal :=
  .next (s.onDev (fun _ d => ldw run kind arr fmt sw sa soff d))

def swapw (run kind arr : Nat) (d : Device) : Device := slotOp run 0 (swapwExc kind arr) (swapwAct kind arr) d

/-- SWAPW (R109). -/
def execSwapw (run kind arr : Nat) (s : State) : Host.Outcome State Fault Refusal :=
  .next (s.onDev (fun _ d => swapw run kind arr d))

def mm (run : Nat) (s : ArrSlot) (d : Device) : Device := slotOp run 0 (mmExc s) (mmAct s) d

/-- MM (R104, R176). -/
def execMm (run kind arr accf fmt pack sw sa soff drow rows : Nat) (s : State) : Host.Outcome State Fault Refusal :=
  .next (s.onDev (fun _ d => mm run ⟨5, kind, arr, accf, fmt, pack, sw, sa, soff, drow, rows⟩ d))

def drain (run kind arr ofmt dw da rbase rcnt : Nat) (d : Device) : Device :=
  slotOp run 2 (drainExc kind arr ofmt dw da rbase rcnt) (drainAct kind arr ofmt dw da rbase rcnt) d

/-- DRAIN (R115). -/
def execDrain (run kind arr ofmt dw da rbase rcnt : Nat) (s : State) : Host.Outcome State Fault Refusal :=
  .next (s.onDev (fun _ d => drain run kind arr ofmt dw da rbase rcnt d))

def sexp (run kind arr exp : Nat) (d : Device) : Device := slotOp run 2 (sexpExc kind arr) (sexpAct kind arr exp) d

/-- SEXP (R188). -/
def execSexp (run kind arr exp : Nat) (s : State) : Host.Outcome State Fault Refusal :=
  .next (s.onDev (fun _ d => sexp run kind arr exp d))

def seta (run a imm : Nat) (tb : Timebase) (d : Device) : Device := (setaOp a imm).run run tb d

/-- SETA (R113). -/
def execSeta (run a imm : Nat) (s : State) : Host.Outcome State Fault Refusal := .next (s.onDev (fun tb d => seta run a imm tb d))

def adda (run a b simm : Nat) (tb : Timebase) (d : Device) : Device := (addaOp a b simm).run run tb d

/-- ADDA (R113). -/
def execAdda (run a b simm : Nat) (s : State) : Host.Outcome State Fault Refusal :=
  .next (s.onDev (fun tb d => adda run a b simm tb d))

def lda (run a port sw sa soff : Nat) (tb : Timebase) (d : Device) : Device := (ldaOp a port sw sa soff).run run tb d

/-- LDA (R113). -/
def execLda (run a port sw sa soff : Nat) (s : State) : Host.Outcome State Fault Refusal :=
  .next (s.onDev (fun tb d => lda run a port sw sa soff tb d))

def copy (run port sw sa dw da soff doff len : Nat) (tb : Timebase) (d : Device) : Device := (copyOp port sw sa dw da soff doff len).run run tb d

/-- COPY (R113). -/
def execCopy (run port sw sa dw da soff doff len : Nat) (s : State) : Host.Outcome State Fault Refusal :=
  .next (s.onDev (fun tb d => copy run port sw sa dw da soff doff len tb d))

def fill (run port dw da pr doff len : Nat) (tb : Timebase) (d : Device) : Device := (fillOp port dw da pr doff len).run run tb d

/-- FILL (R113). -/
def execFill (run port dw da pr doff len : Nat) (s : State) : Host.Outcome State Fault Refusal :=
  .next (s.onDev (fun tb d => fill run port dw da pr doff len tb d))

def rkset (run sw sa dw da soff doff : Nat) (tb : Timebase) (d : Device) : Device := (rksetOp sw sa dw da soff doff).run run tb d

/-- RKSET (R113). -/
def execRkset (run sw sa dw da soff doff : Nat) (s : State) : Host.Outcome State Fault Refusal :=
  .next (s.onDev (fun tb d => rkset run sw sa dw da soff doff tb d))

def pdld (run port sw sa soff p : Nat) (tb : Timebase) (d : Device) : Device := (pdldOp port sw sa soff p).run run tb d

/-- PDLD (R113). -/
def execPdld (run port sw sa soff p : Nat) (s : State) : Host.Outcome State Fault Refusal :=
  .next (s.onDev (fun tb d => pdld run port sw sa soff p tb d))

def rakeIssue (run : Nat) (s : RakeSlot) (d : Device) : Device := slotOp run 3 (rakeExc s) (rakeAct s) d

def amax (run len sfmt lanes : Nat) (mn : Bool) (d : Device) : Device := rakeIssue run ⟨1, len, 1, sfmt, lanes, mn⟩ d

def topk (run len k sfmt lanes : Nat) (mn : Bool) (d : Device) : Device := rakeIssue run ⟨2, len, k, sfmt, lanes, mn⟩ d

def merge (run len k sfmt lanes : Nat) (mn : Bool) (d : Device) : Device := rakeIssue run ⟨3, len, k, sfmt, lanes, mn⟩ d

/-- AMAX (R219). -/
def execAmax (run len sfmt lanes : Nat) (mn : Bool) (s : State) : Host.Outcome State Fault Refusal :=
  .next (s.onDev (fun _ d => amax run len sfmt lanes mn d))

/-- TOPK (R218). -/
def execTopk (run len k sfmt lanes : Nat) (mn : Bool) (s : State) : Host.Outcome State Fault Refusal :=
  .next (s.onDev (fun _ d => topk run len k sfmt lanes mn d))

/-- MERGE (R226). -/
def execMerge (run len k sfmt lanes : Nat) (mn : Bool) (s : State) : Host.Outcome State Fault Refusal :=
  .next (s.onDev (fun _ d => merge run len k sfmt lanes mn d))

def waitclk (run clk : Nat) (tb : Timebase) (d : Device) : Device := (waitclkOp clk).run run tb d

/-- WAITCLK (R121). -/
def execWaitclk (run clk : Nat) (s : State) : Host.Outcome State Fault Refusal := .next (s.onDev (fun tb d => waitclk run clk tb d))

def rdfur (run a : Nat) (tb : Timebase) (d : Device) : Device := (rdfurOp a).run run tb d

/-- RDFUR (R120). -/
def execRdfur (run a : Nat) (s : State) : Host.Outcome State Fault Refusal := .next (s.onDev (fun tb d => rdfur run a tb d))

def rdclk (run a : Nat) (tb : Timebase) (d : Device) : Device := (rdclkOp a).run run tb d

/-- RDCLK (R120). -/
def execRdclk (run a : Nat) (s : State) : Host.Outcome State Fault Refusal := .next (s.onDev (fun tb d => rdclk run a tb d))

def tload (run tc w a size : Nat) (d : Device) : Device := slotOp run 4 (tloadExc tc w a size) (tloadAct tc w a size) d

/-- TLOAD (R118). -/
def execTload (run tc w a size : Nat) (s : State) : Host.Outcome State Fault Refusal := devCmd (tload run tc w a size) s

def tgo (run tc entry budget : Nat) (d : Device) : Device := slotOp run 4 (tgoExc tc entry budget) (tgoAct tc entry budget) d

/-- TGO (R118, R119). -/
def execTgo (run tc entry budget : Nat) (s : State) : Host.Outcome State Fault Refusal := devCmd (tgo run tc entry budget) s

def hoff (run decl w a hr : Nat) (tb : Timebase) (d : Device) : Device :=
  slotOp run 5 (hoffExc decl w a hr) (hoffAct tb decl w a hr) d

/-- HOFF (R122). -/
def execHoff (run decl w a hr : Nat) (s : State) : Host.Outcome State Fault Refusal :=
  .next (s.onDev (hoff run decl w a hr))

end Sys2Proof.Machine
end

