-- ==== Sys2Proof/Machine/Dispatch.lean ====
section
/-! DEFINITION. The meaning of every command: one arm for each, calling its definition. -/
namespace Sys2Proof.Machine
def exec (i : Instr) (s : State) : Host.Outcome State Fault Refusal :=
  match i with
  | .regWrite addr value => Sys2Proof.Machine.execRegWrite addr value s
  | .regUnmappedAccess addr write => Sys2Proof.Machine.execRegUnmappedAccess addr write s
  | .regLoRead addr => Sys2Proof.Machine.execRegLoRead addr s
  | .regHiRead addr => Sys2Proof.Machine.execRegHiRead addr s
  | .regLoWrite addr value => Sys2Proof.Machine.execRegLoWrite addr value s
  | .regHiWrite addr value => Sys2Proof.Machine.execRegHiWrite addr value s
  | .furrowInEdge clk => Sys2Proof.Machine.execFurrowInEdge clk s
  | .refclkLoss clk => Sys2Proof.Machine.execRefclkLoss clk s
  | .pllLock => Sys2Proof.Machine.execPllLock s
  | .captureWindowClose => Sys2Proof.Machine.execCaptureWindowClose s
  | .realignDecision => Sys2Proof.Machine.execRealignDecision s
  | .furrowBoundary temps powers seen => Sys2Proof.Machine.execFurrowBoundary temps powers seen s
  | .sowingFreeze => Sys2Proof.Machine.execSowingFreeze s
  | .furSourceWrite source => Sys2Proof.Machine.execFurSourceWrite source s
  | .setApply => Sys2Proof.Machine.execSetApply s
  | .furCntClr => Sys2Proof.Machine.execFurCntClr s
  | .plotLoad req => Sys2Proof.Machine.execPlotLoad req s
  | .plotUnload req => Sys2Proof.Machine.execPlotUnload req s
  | .plotStart n => Sys2Proof.Machine.execPlotStart n s
  | .bundleIssue run ecc addr => Sys2Proof.Machine.execBundleIssue run ecc addr s
  | .plotEnd run => Sys2Proof.Machine.execPlotEnd run s
  | .overrunCheck run => Sys2Proof.Machine.execOverrunCheck run s
  | .trowelBudget run core => Sys2Proof.Machine.execTrowelBudget run core s
  | .rampup run kind arr => Sys2Proof.Machine.execRampup run kind arr s
  | .rampdn run kind arr => Sys2Proof.Machine.execRampdn run kind arr s
  | .rampDone run kind arr => Sys2Proof.Machine.execRampDone run kind arr s
  | .ldw run kind arr fmt sw sa soff => Sys2Proof.Machine.execLdw run kind arr fmt sw sa soff s
  | .ldwDone run kind arr => Sys2Proof.Machine.execLdwDone run kind arr s
  | .swapw run kind arr => Sys2Proof.Machine.execSwapw run kind arr s
  | .mm run kind arr accf fmt pack sw sa soff drow rows => Sys2Proof.Machine.execMm run kind arr accf fmt pack sw sa soff drow rows s
  | .mmRowFinal run => Sys2Proof.Machine.execMmRowFinal run s
  | .replayPauseEnd run => Sys2Proof.Machine.execReplayPauseEnd run s
  | .seta run a imm => Sys2Proof.Machine.execSeta run a imm s
  | .adda run a b simm => Sys2Proof.Machine.execAdda run a b simm s
  | .lda run a port sw sa soff => Sys2Proof.Machine.execLda run a port sw sa soff s
  | .copy run port sw sa dw da soff doff len => Sys2Proof.Machine.execCopy run port sw sa dw da soff doff len s
  | .fill run port dw da pr doff len => Sys2Proof.Machine.execFill run port dw da pr doff len s
  | .rkset run sw sa dw da soff doff => Sys2Proof.Machine.execRkset run sw sa dw da soff doff s
  | .pdld run port sw sa soff p => Sys2Proof.Machine.execPdld run port sw sa soff p s
  | .drain run kind arr ofmt dw da rbase rcnt => Sys2Proof.Machine.execDrain run kind arr ofmt dw da rbase rcnt s
  | .sexp run kind arr exp => Sys2Proof.Machine.execSexp run kind arr exp s
  | .amax run len sfmt lanes mn => Sys2Proof.Machine.execAmax run len sfmt lanes mn s
  | .topk run len k sfmt lanes mn => Sys2Proof.Machine.execTopk run len k sfmt lanes mn s
  | .merge run len k sfmt lanes mn => Sys2Proof.Machine.execMerge run len k sfmt lanes mn s
  | .rakeResultDone run => Sys2Proof.Machine.execRakeResultDone run s
  | .tload run tc w a size => Sys2Proof.Machine.execTload run tc w a size s
  | .tgo run tc entry budget => Sys2Proof.Machine.execTgo run tc entry budget s
  | .waitclk run clk => Sys2Proof.Machine.execWaitclk run clk s
  | .hoff run decl w a hr => Sys2Proof.Machine.execHoff run decl w a hr s
  | .rdfur run a => Sys2Proof.Machine.execRdfur run a s
  | .rdclk run a => Sys2Proof.Machine.execRdclk run a s
  | .itemLand handoff item err => Sys2Proof.Machine.execItemLand handoff item err s
  | .handoffLateItem handoff => Sys2Proof.Machine.execHandoffLateItem handoff s
  | .landingCutoff => Sys2Proof.Machine.execLandingCutoff s
  | .addSubLogic run core => Sys2Proof.Machine.execAddSubLogic run core s
  | .mul run core => Sys2Proof.Machine.execMul run core s
  | .div run core => Sys2Proof.Machine.execDiv run core s
  | .addi run core => Sys2Proof.Machine.execAddi run core s
  | .andi run core => Sys2Proof.Machine.execAndi run core s
  | .ori run core => Sys2Proof.Machine.execOri run core s
  | .xori run core => Sys2Proof.Machine.execXori run core s
  | .shiftImmediate run core => Sys2Proof.Machine.execShiftImmediate run core s
  | .slti run core => Sys2Proof.Machine.execSlti run core s
  | .li run core => Sys2Proof.Machine.execLi run core s
  | .lih run core => Sys2Proof.Machine.execLih run core s
  | .beq run core => Sys2Proof.Machine.execBeq run core s
  | .bne run core => Sys2Proof.Machine.execBne run core s
  | .blt run core => Sys2Proof.Machine.execBlt run core s
  | .bge run core => Sys2Proof.Machine.execBge run core s
  | .bltu run core => Sys2Proof.Machine.execBltu run core s
  | .bgeu run core => Sys2Proof.Machine.execBgeu run core s
  | .jal run core => Sys2Proof.Machine.execJal run core s
  | .jalr run core => Sys2Proof.Machine.execJalr run core s
  | .ldD run core => Sys2Proof.Machine.execLdD run core s
  | .ldW run core => Sys2Proof.Machine.execLdW run core s
  | .ldH run core => Sys2Proof.Machine.execLdH run core s
  | .ldB run core => Sys2Proof.Machine.execLdB run core s
  | .stD run core => Sys2Proof.Machine.execStD run core s
  | .stW run core => Sys2Proof.Machine.execStW run core s
  | .stH run core => Sys2Proof.Machine.execStH run core s
  | .stB run core => Sys2Proof.Machine.execStB run core s
  | .vld run core => Sys2Proof.Machine.execVld run core s
  | .vst run core => Sys2Proof.Machine.execVst run core s
  | .vst32 run core => Sys2Proof.Machine.execVst32 run core s
  | .vectorArith run core => Sys2Proof.Machine.execVectorArith run core s
  | .vfma run core => Sys2Proof.Machine.execVfma run core s
  | .vexpVrcpVrsqrt run core => Sys2Proof.Machine.execVexpVrcpVrsqrt run core s
  | .vreduce run core => Sys2Proof.Machine.execVreduce run core s
  | .vcvt run core => Sys2Proof.Machine.execVcvt run core s
  | .vbcast run core => Sys2Proof.Machine.execVbcast run core s
  | .vperm run core => Sys2Proof.Machine.execVperm run core s
  | .vext run core => Sys2Proof.Machine.execVext run core s
  | .rdflg run core => Sys2Proof.Machine.execRdflg run core s
  | .trowelRdclk run core => Sys2Proof.Machine.execTrowelRdclk run core s
  | .ldDWide run core => Sys2Proof.Machine.execLdDWide run core s
  | .vldWide run core => Sys2Proof.Machine.execVldWide run core s
  | .stDWide run core => Sys2Proof.Machine.execStDWide run core s
  | .vstWide run core => Sys2Proof.Machine.execVstWide run core s
  | .tend run core => Sys2Proof.Machine.execTend run core s
  | .trowelIllegal run core => Sys2Proof.Machine.execTrowelIllegal run core s
  | .tableCopyDone coll ctx => Sys2Proof.Machine.execTableCopyDone coll ctx s
  | .engineIssue engine => Sys2Proof.Machine.execEngineIssue engine s
  | .readRound => Sys2Proof.Machine.execReadRound s
  | .flashPageDelivered coll ctx cls temp => Sys2Proof.Machine.execFlashPageDelivered coll ctx cls temp s
  | .lpddrReadDelivered coll ctx ecc => Sys2Proof.Machine.execLpddrReadDelivered coll ctx ecc s
  | .searchLand coll => Sys2Proof.Machine.execSearchLand coll s
  | .searchHarvest shard => Sys2Proof.Machine.execSearchHarvest shard s
  | .sieveIdxStage => Sys2Proof.Machine.execSieveIdxStage s
  | .sieveIdxCancel => Sys2Proof.Machine.execSieveIdxCancel s
  | .sieveCntClr => Sys2Proof.Machine.execSieveCntClr s
  | .portEnable port => Sys2Proof.Machine.execPortEnable port s
  | .portDisable port => Sys2Proof.Machine.execPortDisable port s
  | .portTrainingDone port => Sys2Proof.Machine.execPortTrainingDone port s
  | .portTrainingTimeout port => Sys2Proof.Machine.execPortTrainingTimeout port s
  | .portLinkFault port lock uncorr => Sys2Proof.Machine.execPortLinkFault port lock uncorr s
  | .time pkt => Sys2Proof.Machine.execTime pkt s
  | .hello port pkt => Sys2Proof.Machine.execHello port pkt s
  | .heartbeat pkt => Sys2Proof.Machine.execHeartbeat pkt s
  | .heartbeatEval => Sys2Proof.Machine.execHeartbeatEval s
  | .query pkt => Sys2Proof.Machine.execQuery pkt s
  | .result pkt => Sys2Proof.Machine.execResult pkt s
  | .textReq pkt => Sys2Proof.Machine.execTextReq pkt s
  | .textData pkt => Sys2Proof.Machine.execTextData pkt s
  | .nack pkt => Sys2Proof.Machine.execNack pkt s
  | .gatherReq pkt => Sys2Proof.Machine.execGatherReq pkt s
  | .gatherData pkt => Sys2Proof.Machine.execGatherData pkt s
  | .tableWrite pkt => Sys2Proof.Machine.execTableWrite pkt s
  | .tableAck pkt => Sys2Proof.Machine.execTableAck pkt s
  | .reservedClassPacket pkt => Sys2Proof.Machine.execReservedClassPacket pkt s
  | .fallbackSending handoff => Sys2Proof.Machine.execFallbackSending handoff s
  | .brxServeWrite serve => Sys2Proof.Machine.execBrxServeWrite serve s
  | .brxFanoutWrite fanout => Sys2Proof.Machine.execBrxFanoutWrite fanout s
  | .brxCntClr => Sys2Proof.Machine.execBrxCntClr s
  | .brxTagStage => Sys2Proof.Machine.execBrxTagStage s
  | .brxTagCancel => Sys2Proof.Machine.execBrxTagCancel s
  | .gatherRowRead served id ecc => Sys2Proof.Machine.execGatherRowRead served id ecc s
  | .gathBuildGo => Sys2Proof.Machine.execGathBuildGo s
  | .gathBatchDone => Sys2Proof.Machine.execGathBatchDone s
  | .mirrorAckTimeout => Sys2Proof.Machine.execMirrorAckTimeout s
  | .gathTblStage => Sys2Proof.Machine.execGathTblStage s
  | .gathTblCancel => Sys2Proof.Machine.execGathTblCancel s
  | .gathCntClr => Sys2Proof.Machine.execGathCntClr s
  | .textVocLoad => Sys2Proof.Machine.execTextVocLoad s
  | .textVocUnload => Sys2Proof.Machine.execTextVocUnload s
  | .vocCheckDone slot => Sys2Proof.Machine.execVocCheckDone slot s
  | .segmentStart => Sys2Proof.Machine.execSegmentStart s
  | .segmentDone lane => Sys2Proof.Machine.execSegmentDone lane s
  | .textCntClr => Sys2Proof.Machine.execTextCntClr s
  | .espGrmLoad => Sys2Proof.Machine.execEspGrmLoad s
  | .espGrmRelease => Sys2Proof.Machine.execEspGrmRelease s
  | .grammarCompileDone slot => Sys2Proof.Machine.execGrammarCompileDone slot s
  | .espMaskDone ast => Sys2Proof.Machine.execEspMaskDone ast s
  | .espCntClr => Sys2Proof.Machine.execEspCntClr s
  | .pasmTplLoad => Sys2Proof.Machine.execPasmTplLoad s
  | .pasmTplRelease => Sys2Proof.Machine.execPasmTplRelease s
  | .templateLoadDone slot => Sys2Proof.Machine.execTemplateLoadDone slot s
  | .assemblyStart => Sys2Proof.Machine.execAssemblyStart s
  | .assemblyDone => Sys2Proof.Machine.execAssemblyDone s
  | .pasmCntClr => Sys2Proof.Machine.execPasmCntClr s
  | .seqMdlLoad => Sys2Proof.Machine.execSeqMdlLoad s
  | .seqMdlRelease => Sys2Proof.Machine.execSeqMdlRelease s
  | .seqStageRes => Sys2Proof.Machine.execSeqStageRes s
  | .seqCancelRes => Sys2Proof.Machine.execSeqCancelRes s
  | .seqGrfLoad => Sys2Proof.Machine.execSeqGrfLoad s
  | .seqGrfRelease => Sys2Proof.Machine.execSeqGrfRelease s
  | .seqCntClr => Sys2Proof.Machine.execSeqCntClr s
  | .astData0Read => Sys2Proof.Machine.execAstData0Read s
  | .kvWaitExpiry ast => Sys2Proof.Machine.execKvWaitExpiry ast s
  | .doorbellSqTail qp value => Sys2Proof.Machine.execDoorbellSqTail qp value s
  | .doorbellCqHead qp value => Sys2Proof.Machine.execDoorbellCqHead qp value s
  | .pipeline req => Sys2Proof.Machine.execPipeline req s
  | .cancel qp tag target => Sys2Proof.Machine.execCancel qp tag target s
  | .qpEnable qp => Sys2Proof.Machine.execQpEnable qp s
  | .qpDisable qp mode => Sys2Proof.Machine.execQpDisable qp mode s
  | .qpIrqArm qp irq => Sys2Proof.Machine.execQpIrqArm qp irq s
  | .ctxEnable => Sys2Proof.Machine.execCtxEnable s
  | .ctxDisable mode => Sys2Proof.Machine.execCtxDisable mode s
  | .ctxReset => Sys2Proof.Machine.execCtxReset s
  | .ctxResume => Sys2Proof.Machine.execCtxResume s
  | .winCommit => Sys2Proof.Machine.execWinCommit s
  | .winFetch => Sys2Proof.Machine.execWinFetch s
  | .winCheckDone => Sys2Proof.Machine.execWinCheckDone s
  | .qmResWrite addr value => Sys2Proof.Machine.execQmResWrite addr value s
  | .qmCntClr => Sys2Proof.Machine.execQmCntClr s
  | .tierCreate => Sys2Proof.Machine.execTierCreate s
  | .tierSeal => Sys2Proof.Machine.execTierSeal s
  | .tierCopy => Sys2Proof.Machine.execTierCopy s
  | .tierFill => Sys2Proof.Machine.execTierFill s
  | .tierRelease => Sys2Proof.Machine.execTierRelease s
  | .tierOpDone op rep => Sys2Proof.Machine.execTierOpDone op rep s
  | .stagedDirectWrite addr value => Sys2Proof.Machine.execStagedDirectWrite addr value s
  | .cartInsert slot ident life tWriteMax foreign blank => Sys2Proof.Machine.execCartInsert slot ident life tWriteMax foreign blank s
  | .cartPull slot => Sys2Proof.Machine.execCartPull slot s
  | .slotPowerGood slot => Sys2Proof.Machine.execSlotPowerGood slot s
  | .authDone slot sig => Sys2Proof.Machine.execAuthDone slot sig s
  | .authTimeout slot => Sys2Proof.Machine.execAuthTimeout slot s
  | .mountDone slot found => Sys2Proof.Machine.execMountDone slot found s
  | .remove => Sys2Proof.Machine.execRemove s
  | .forceRemove => Sys2Proof.Machine.execForceRemove s
  | .drainDone slot => Sys2Proof.Machine.execDrainDone slot s
  | .slotReset => Sys2Proof.Machine.execSlotReset s
  | .slotResetOffDone slot => Sys2Proof.Machine.execSlotResetOffDone slot s
  | .health => Sys2Proof.Machine.execHealth s
  | .nsCreate => Sys2Proof.Machine.execNsCreate s
  | .nsDelete => Sys2Proof.Machine.execNsDelete s
  | .flashCntClr => Sys2Proof.Machine.execFlashCntClr s
  | .flashReadDone read res => Sys2Proof.Machine.execFlashReadDone read res s
  | .flashProgramDone slot channel stream rep => Sys2Proof.Machine.execFlashProgramDone slot channel stream rep s
  | .flashEraseDone slot channel block ok => Sys2Proof.Machine.execFlashEraseDone slot channel block ok s
  | .foldStart slot channel => Sys2Proof.Machine.execFoldStart slot channel s
  | .foldCommit slot channel => Sys2Proof.Machine.execFoldCommit slot channel s
  | .checkpoint slot => Sys2Proof.Machine.execCheckpoint slot s
  | .relocationStart slot channel => Sys2Proof.Machine.execRelocationStart slot channel s
  | .refreshStart slot channel block => Sys2Proof.Machine.execRefreshStart slot channel block s
  | .tempHoldEnter slot temp => Sys2Proof.Machine.execTempHoldEnter slot temp s
  | .tempHoldExit slot temp => Sys2Proof.Machine.execTempHoldExit slot temp s
  | .hwr addr data => Sys2Proof.Machine.execHwr addr data s
  | .hrd tag addr len err => Sys2Proof.Machine.execHrd tag addr len err s
  | .dcpl tag status data => Sys2Proof.Machine.execDcpl tag status data s
  | .linkTrainingDone trained repairs spares => Sys2Proof.Machine.execLinkTrainingDone trained repairs spares s
  | .adapterRetryLimit module retries crc => Sys2Proof.Machine.execAdapterRetryLimit module retries crc s
  | .laneCheckFail module => Sys2Proof.Machine.execLaneCheckFail module s
  | .hostRetrain module => Sys2Proof.Machine.execHostRetrain module s
  | .retrainDone module lanes spares => Sys2Proof.Machine.execRetrainDone module lanes spares s
  | .retrainTimeout module => Sys2Proof.Machine.execRetrainTimeout module s
  | .devAccessTimeout access => Sys2Proof.Machine.execDevAccessTimeout access s
  | .hostCntClr => Sys2Proof.Machine.execHostCntClr s
  | .funcEnable domain => Sys2Proof.Machine.execFuncEnable domain s
  | .funcDisable domain mode => Sys2Proof.Machine.execFuncDisable domain mode s
  | .stgArm count => Sys2Proof.Machine.execStgArm count s
  | .stgCancel => Sys2Proof.Machine.execStgCancel s
  | .stgStepLimit => Sys2Proof.Machine.execStgStepLimit s
  | .domainPowered => Sys2Proof.Machine.execDomainPowered s
  | .porstRelease straps => Sys2Proof.Machine.execPorstRelease straps s
  | .bootClear => Sys2Proof.Machine.execBootClear s
  | .bootData word => Sys2Proof.Machine.execBootData word s
  | .bootVerify => Sys2Proof.Machine.execBootVerify s
  | .verifyDone sigOk => Sys2Proof.Machine.execVerifyDone sigOk s
  | .bringupStep => Sys2Proof.Machine.execBringupStep s
  | .memcTrainingDone failed => Sys2Proof.Machine.execMemcTrainingDone failed s
  | .porstAssert => Sys2Proof.Machine.execPorstAssert s
  | .supplyLoss vstby => Sys2Proof.Machine.execSupplyLoss vstby s
  | .coldReset => Sys2Proof.Machine.execColdReset s
  | .warmReset => Sys2Proof.Machine.execWarmReset s
  | .wrstFall => Sys2Proof.Machine.execWrstFall s
  | .warmResetEnd => Sys2Proof.Machine.execWarmResetEnd s
  | .pwrCntClr => Sys2Proof.Machine.execPwrCntClr s
  | .sleepArm => Sys2Proof.Machine.execSleepArm s
  | .sleepCancel => Sys2Proof.Machine.execSleepCancel s
  | .dormantEntryLimit => Sys2Proof.Machine.execDormantEntryLimit s
  | .wakeAtExpiry => Sys2Proof.Machine.execWakeAtExpiry s
  | .wakeStep => Sys2Proof.Machine.execWakeStep s
  | .wakeDone => Sys2Proof.Machine.execWakeDone s
  | .entdaa addr => Sys2Proof.Machine.execEntdaa addr s
  | .i3cWake => Sys2Proof.Machine.execI3cWake s
  | .i3cColdReset => Sys2Proof.Machine.execI3cColdReset s
  | .i3cStatusRead => Sys2Proof.Machine.execI3cStatusRead s
  | .i3cOtherWrite => Sys2Proof.Machine.execI3cOtherWrite s
  | .raiseSvn value => Sys2Proof.Machine.execRaiseSvn value s
  | .revoke key => Sys2Proof.Machine.execRevoke key s
  | .fuseBurnDone => Sys2Proof.Machine.execFuseBurnDone s
  | .cartReinit slot => Sys2Proof.Machine.execCartReinit slot s
  | .attestGo => Sys2Proof.Machine.execAttestGo s
  | .attestDone => Sys2Proof.Machine.execAttestDone s
  | .rngTestFail => Sys2Proof.Machine.execRngTestFail s
  | .rngRecover => Sys2Proof.Machine.execRngRecover s
  | .secCntClr => Sys2Proof.Machine.execSecCntClr s
  | .arrSowCntClr => Sys2Proof.Machine.execArrSowCntClr s
  | .arrCntClr die => Sys2Proof.Machine.execArrCntClr die s
  | .arrAccCntClr die => Sys2Proof.Machine.execArrAccCntClr die s
  | .trwCntClr die => Sys2Proof.Machine.execTrwCntClr die s
  | .rakeCntClr die => Sys2Proof.Machine.execRakeCntClr die s
  | .eventRecordWrite => Sys2Proof.Machine.execEventRecordWrite s
  | .evtRingHeadWrite value => Sys2Proof.Machine.execEvtRingHeadWrite value s
  | .evtEnableWrite enable => Sys2Proof.Machine.execEvtEnableWrite enable s
  | .evtIrqWrite irq => Sys2Proof.Machine.execEvtIrqWrite irq s
  | .evtCntClr => Sys2Proof.Machine.execEvtCntClr s
  | .tierCmdCheckDone => Sys2Proof.Machine.execTierCmdCheckDone s
  | .tierReservedOp => Sys2Proof.Machine.execTierReservedOp s
  | .onfiTrainingDone slot => Sys2Proof.Machine.execOnfiTrainingDone slot s
  | .vcartSwitchOpen slot => Sys2Proof.Machine.execVcartSwitchOpen slot s

end Sys2Proof.Machine
end

