-- ==== Sys2Proof/Safety.lean ====
section
/-! DEFINITION. What the claims speak of: the parts of the device that a command leaves alone, the registers that taking
events may change, the timebase's invariant, and the forms of a statement of what a command does. -/
namespace Sys2Proof.Machine

/-! ### The parts of the device -/

/-- The parts of the device, by the chapters that name their state. -/
inductive DevPart where
  | regs | port | ev | out | mem | store | plots | qm | host | flash | power | sec | sieve | brx | gath | text | esp | pasm | seq
  | free
  deriving DecidableEq, Repr

/-- A part is the same in two devices. -/
def DevPart.same (p : DevPart) (a b : Device) : Prop := match p with
  | .regs => b.regs = a.regs
  | .port => b.port = a.port
  | .ev => b.ev = a.ev
  | .out => b.out = a.out
  | .mem => b.mem = a.mem
  | .store => b.store = a.store
  | .plots => b.plots = a.plots
  | .qm => b.qm = a.qm
  | .host => b.host = a.host
  | .flash => b.flash = a.flash
  | .power => b.power = a.power
  | .sec => b.sec = a.sec
  | .sieve => b.sieve = a.sieve
  | .brx => b.brx = a.brx
  | .gath => b.gath = a.gath
  | .text => b.text = a.text
  | .esp => b.esp = a.esp
  | .pasm => b.pasm = a.pasm
  | .seq => b.seq = a.seq
  | .free => b.freeCount = a.freeCount

/-- The registers that R497 to R499 change when events are taken. -/
def eventRegs : List Nat := [R.EVT_SEQ, R.EVT_RAISED, R.EVT_LOST, R.EVT_STATUS, R.EVT_THROTTLED]

/-- Every register but those listed, and those of the event buffer, is as it was. -/
def State.regsBut (ks : List Nat) (s t : State) : Prop := ∀ k, k ∉ ks → k ∉ eventRegs → t.dev.reg k = s.dev.reg k

/-- The frame of a command: the timebase and the queue are as they were, and of the device only the listed parts, the
listed registers and the event buffer may change. -/
def State.frame (ps : List DevPart) (ks : List Nat) (s t : State) : Prop :=
  t.tb = s.tb ∧ t.pending = s.pending ∧ s.regsBut ks t ∧ ∀ p, p ∉ ps → p ≠ .regs → p ≠ .ev → p.same s.dev t.dev

/-- A command answers a next state of which P holds. -/
def Answers (c : Instr) (s : State) (P : State → Prop) : Prop := ∃ t, exec c s = .next t ∧ P t

/-- Out of the reset that PORST_N holds while it is low (R514), a command answers a next state of which P holds. -/
def Ends (c : Instr) (s : State) (P : State → Prop) : Prop := s.dev.power.porst = true → Answers c s P

/-! ### The timebase (02_the_furrow) -/

/-- The error of a realignment, or of an edge in a capture window, is less than half a furrow. -/
def phaseOk (e : Int) : Prop := -78125 ≤ e ∧ e < 78125

/-- What holds of the timebase in every furrow: its point lies in it; a furrow has 156,250 clk, but a realignment furrow
(R40), which is UNLOCKED; the counts of R36 and R38 stay in their ranges; a number is to be loaded only while UNLOCKED
(R30); until the decision a candidate phase stands in HOLDOVER alone (R35); and the state decided is one that R35 and R41 let follow. -/
structure Timebase.Inv (tb : Timebase) : Prop where
  inside : tb.offset < tb.len
  normal : tb.realign = false → tb.len = 156250
  shifted : tb.realign = true → 78125 ≤ tb.len ∧ tb.len < 234375 ∧ tb.st = .unlocked
  hold : tb.holdCount ≤ 64
  relock : tb.relockCount ≤ 4
  setting : tb.setPending = true → tb.st = .unlocked
  edge : ∀ e, tb.edge = some e → phaseOk e
  decided : ∀ d, tb.decided = some d → ∀ e, d.realign = some e → phaseOk e ∧ tb.realign = false
  cand : tb.decided = none → tb.st ≠ .holdover → tb.cand = none
  moves : ∀ d, tb.decided = some d → (tb.st = .unlocked → d.st = .unlocked ∨ d.st = .relock) ∧
    (tb.st = .locked ∨ tb.st = .holdover → d.st ≠ .relock)

/-! ### Events -/

/-- No raise is left over: each command's events were taken at its end. -/
def State.settled (s : State) : Prop := s.dev.ev.raised = []

/-- An event was raised: R498 counts it, and its record stands in the buffer unless R498 or R497 keeps it out. -/
def State.raised (r : EventReq) (s t : State) : Prop :=
  t.dev.ev.counts.getD r.code 0 = s.dev.ev.counts.getD r.code 0 + 1 ∧
  (s.dev.ev.counts.getD r.code 0 < 16 → s.dev.ev.buffer.length < 255 → ∃ x ∈ t.dev.ev.buffer, x.req = r)

/-- R498: one raise of a code was counted. -/
def State.counted (code : Nat) (s t : State) : Prop :=
  t.dev.ev.counts.getD code 0 = s.dev.ev.counts.getD code 0 + 1

/-- A change of one slot of the flash unit: P holds of what it is then, and of the rest of the device only the rest of the
flash unit, but no other slot, the listed registers and the event buffer may change. -/
def State.slotIs (n : Nat) (ks : List Nat) (P : FlashSlot → Prop) (s t : State) : Prop :=
  s.frame [.flash] ks t ∧ P (t.dev.slot n) ∧ ∀ m, m ≠ n → t.dev.slot m = s.dev.slot m

/-- R425: the valid pages of a superblock have begun to move, or there were none and it is queued for erase. -/
def FlashSlot.moves (x : FlashSlot) (c : Cart) (ch k : Nat) (y : FlashSlot) : Prop :=
  if x.validIn k = [] then (y.chan ch).moving = none ∧ ∃ z, y.cart = some z ∧ (z.sb k).st = .erase
  else (y.chan ch).moving = some k ∧ (y.chan ch).queue.getD 2 [] = moveQueue c (x.validIn k)

/-- R469, R492, R514: a cold reset: everything is as after the first power-on, but the fuses, the cartridges, what
THERMTRIP_N holds (unless VSTBY failed), and the straps as they were sampled; `high` says that PORST_N is high. -/
def State.coldFrom (high vstby : Bool) (straps : Nat) (s t : State) : Prop :=
  t.tb = State.reset.tb ∧ t.pending = s.pending ∧
  (∀ p : DevPart, p ∉ [.ev, .out, .flash, .power, .sec, .free] → p.same State.reset.dev t.dev) ∧
  t.dev.ev = { EventUnit.reset with tripped := if vstby then [] else s.dev.ev.tripped } ∧
  t.dev.power = { PowerUnit.reset with porst := high, straps := straps } ∧
  t.dev.sec.svnMin = s.dev.sec.svnMin ∧ t.dev.sec.revoked = s.dev.sec.revoked ∧
  t.dev.sec.minInForce = s.dev.sec.svnMin ∧ t.dev.sec.revInForce = s.dev.sec.revoked ∧
  t.dev.sec.fuse = none ∧ t.dev.sec.attest = none ∧
  t.dev.flash.reads = [] ∧ t.dev.flash.pulled = s.dev.flash.pulled ∧
  ∀ n, (t.dev.slot n).st = .empty ∧ ∀ c, (s.dev.slot n).cart = some c → (t.dev.slot n).cart = some c

/-- A table in order: its keys rise. -/
def risingKeys {α : Type} (t : Tbl α) : Prop := List.Pairwise (fun a b => a.1 < b.1) t

/-- The open handoffs are listed in order, each under its HANDOFF_ID. -/
def Device.handoffsOk (d : Device) : Prop := risingKeys d.plots.handoffs ∧ ∀ p, p ∈ d.plots.handoffs → p.2.id = p.1

/-- R185: the counters of busy and up clks of a die. -/
def clkRegs (die : Nat) : List Nat :=
  [R.ARR_P_BUSY_LO, R.ARR_P_BUSY_HI, R.ARR_D_BUSY_LO, R.ARR_D_BUSY_HI, R.ARR_P_UP_LO, R.ARR_P_UP_HI, R.ARR_D_UP_LO,
    R.ARR_D_UP_HI].map (fun a => dieReg a die)

/-! ### Groups of commands -/

/-- The CNT_CLR commands, each with the counters its rule names (R48, R88, R185, R231, R264, R292, R314, R346, R372, R404,
R434, R452, R477, R492). -/
def clearedBy : Instr → Option (List Nat)
  | .furCntClr => some [R.FUR_SLIP_COUNT, R.FUR_MISS_COUNT, R.FUR_TC_ERR_COUNT]
  | .hostCntClr => some ([R.HOST_REFUSED, R.HOST_UNMAPPED, R.HOST_DATA_ERR, R.HOST_DEV_FAIL]
      ++ (List.range 4).flatMap (fun m =>
        [inst R.HOST_MOD_CRC_ERR m, inst R.HOST_MOD_RETRIES m, inst R.HOST_MOD_RETRAINS m]))
  | .pwrCntClr => some [R.PWR_WAKES, R.PWR_WARM_RESETS, R.PWR_STG_FAILS, R.PWR_DORMANT_FURROWS]
  | .secCntClr => some [R.SEC_UNWRAP_FAILS, R.SEC_RNG_FAILS, R.SEC_ATTESTS]
  | .sieveCntClr => some [R.SIEVE_SEARCHES, R.SIEVE_HARVESTED, R.SIEVE_ABANDONED, R.SIEVE_FILTER_SHORT, R.SIEVE_PAGE_READS,
      R.SIEVE_READ_RETRIES, R.SIEVE_LOOKUPS, R.SIEVE_TOMB_HITS, R.SIEVE_NAN, R.SIEVE_CODES_LO, R.SIEVE_CODES_HI]
  | .brxCntClr => some ([R.BRX_TX_PKTS, R.BRX_RX_PKTS, R.BRX_CRC_DROPS, R.BRX_FURROW_DROPS, R.BRX_UNLOCK_DROPS,
      R.BRX_HEDGE_DISCARDS, R.BRX_FALLBACKS, R.BRX_NACKS_SENT, R.BRX_NACKS_RECV, R.BRX_FENCED_FURROWS]
      ++ (List.range 8).flatMap (fun p =>
        [inst R.BRX_PORT_FEC_CORR p, inst R.BRX_PORT_FEC_UNCORR p, inst R.BRX_PORT_DOWNS p]))
  | .gathCntClr => some [R.GATH_ROWS_LOCAL, R.GATH_ROWS_REMOTE, R.GATH_ROWS_SERVED, R.GATH_NACKS, R.GATH_RECORDS,
      R.GATH_REJECTS, R.GATH_NONFINITE]
  | .textCntClr => some [R.TEXT_SEGMENTS, R.TEXT_TOKENS_OUT, R.TEXT_INVALID_SEQ, R.TEXT_CARRIES, R.TEXT_DETOK_TOKENS,
      R.TEXT_STOPS]
  | .espCntClr => some [R.ESP_MASKS, R.ESP_DEP_TOKENS, R.ESP_DEAD, R.ESP_VIOLATIONS, R.ESP_MASK_MAX]
  | .pasmCntClr => some [R.PASM_PROMPTS, R.PASM_PLACED, R.PASM_CUT, R.PASM_OVER]
  | .seqCntClr => some [R.SEQ_ENTRIES, R.SEQ_STAGES, R.SEQ_TOKENS, R.SEQ_DEFERRALS, R.SEQ_CANCELS, R.SEQ_KV_WAITS,
      R.SEQ_BAD_TOKENS]
  | .qmCntClr => some [R.QM_ADMITTED, R.QM_REJECTED, R.QM_C0_IN_RES, R.QM_C0_BEYOND, R.QM_BOUND_MISSES,
      R.QM_DOORBELL_DISCARDS, R.QM_CANCELS]
  | .flashCntClr => some ((List.range 4).flatMap (fun n => [inst R.FLASH_READS n, inst R.FLASH_RETRIES n,
      inst R.FLASH_UNCORR n, inst R.FLASH_PROGRAMS n, inst R.FLASH_ERASES n, inst R.FLASH_FOLDS n,
      inst R.FLASH_FOLD_RESTARTS n, inst R.FLASH_REFRESHES n]))
  | .arrSowCntClr => some ([R.ARR_SOW_DEFERRED, R.ARR_SOW_PREEMPT, R.ARR_SOW_LATE_ITEMS, R.ARR_SOW_HO_SHORT,
      R.ARR_SOW_HO_NONE] ++ (List.range 4).flatMap (fun n => [R.ARR_PSQ_STARTS + 0x10000 * n, R.ARR_PSQ_ABORTS + 0x10000 * n]))
  | .rakeCntClr n => some ([R.RAKE_OPS, R.RAKE_TWO_PASS, R.RAKE_NAN, R.RAKE_DUPS, R.RAKE_ELEMS_LO, R.RAKE_ELEMS_HI].map
      (fun a => a + 0x10000 * n))
  | .trwCntClr n => some ([R.TRW_BUSY_LO, R.TRW_BUSY_HI, R.TRW_PROGRAMS, R.TRW_STOPS, R.TRW_FAULTS].map (fun a => a + 0x10000 * n))
  | _ => none

/-- The parts of the device, beside its registers, that a CNT_CLR touches: the register port, and of a die's rakes and trowel
cores what is noted of their counts so far. -/
def clearTouches : Instr → List DevPart
  | .rakeCntClr _ | .trwCntClr _ => [.port, .plots]
  | _ => [.port]

/-- The commands that are no act of the device: its supplies, PORST_N and the pins of the cartridge slots, which move also
while PORST_N is low. -/
def pinCommand : Instr → Bool
  | .porstRelease _ | .porstAssert | .supplyLoss _ | .cartInsert .. | .cartPull _ => true
  | _ => false

/-- The commands by which another furrow may begin: the boundary, the cold resets, and the register writes that may be one
(PWR_CTRL.COLD_RST, R477). -/
def startsFurrow : Instr → Bool
  | .furrowBoundary _ _ _ | .porstRelease _ | .porstAssert | .supplyLoss _ | .coldReset | .i3cColdReset | .hwr _ _ => true
  | .regWrite a _ => a == R.PWR_CTRL
  | _ => false

/-- The commands that are writes of FUR, PWR, SEC, EVT or HOST registers, which respond in the ROM phase (R454). -/
def alwaysResponds : Instr → Bool
  | .furCntClr | .hostCntClr | .pwrCntClr | .secCntClr => true
  | _ => false

/-- The commands that are writes of registers of the other blocks, which the ROM phase discards (R454). -/
def romDiscards : Instr → Bool
  | .sieveIdxStage | .sieveIdxCancel | .sieveCntClr | .portEnable _ | .portDisable _ | .brxServeWrite _
  | .brxFanoutWrite _ | .brxCntClr | .brxTagStage | .brxTagCancel | .gathBuildGo | .gathTblStage | .gathTblCancel
  | .gathCntClr | .textVocLoad | .textVocUnload | .textCntClr | .espGrmLoad | .espGrmRelease | .espCntClr
  | .pasmTplLoad | .pasmTplRelease | .pasmCntClr | .seqMdlLoad | .seqMdlRelease | .seqStageRes | .seqCancelRes
  | .seqGrfLoad | .seqGrfRelease | .seqCntClr | .qpEnable _ | .qpDisable _ _ | .qpIrqArm _ _
  | .ctxEnable | .ctxDisable _ | .ctxReset | .ctxResume | .winCommit | .winFetch | .qmResWrite _ _ | .qmCntClr
  | .tierCreate | .tierSeal | .tierCopy | .tierFill | .tierRelease | .remove | .forceRemove | .slotReset | .health
  | .nsCreate | .nsDelete | .flashCntClr | .arrSowCntClr | .arrCntClr _ | .arrAccCntClr _ | .trwCntClr _
  | .rakeCntClr _ | .tierReservedOp => true
  | _ => false

/-- The packets of the Bruxia port: the class each row takes (R274), and the packet. -/
def packetRow : Instr → Option (Nat × List Byte)
  | .time p => some (1, p)
  | .hello _ p => some (2, p)
  | .heartbeat p => some (3, p)
  | .query p => some (4, p)
  | .result p => some (5, p)
  | .textReq p => some (6, p)
  | .textData p => some (7, p)
  | .nack p => some (8, p)
  | .gatherReq p => some (0x10, p)
  | .gatherData p => some (0x11, p)
  | .tableWrite p => some (0x12, p)
  | .tableAck p => some (0x13, p)
  | _ => none

/-- R19, R275: a packet of a class that the port takes in: its domain is ON, the packet's CRC holds, its furrow is near, and its
class is not one that is dropped while UNLOCKED. -/
def State.takes (s : State) (cls : Nat) (pkt : List Byte) : Prop :=
  s.dev.fabOn = true ∧ pktClass pkt = cls ∧ pktCrcOk pkt = true ∧ (2 < cls → furNear (pktFurrow pkt) s.tb.number = true) ∧
  (lockedClass cls = true → s.tb.st ≠ .unlocked)

/-- No text work for another module is open. -/
def Device.noTextJobs (d : Device) : Prop := ∀ p, p ∈ d.brx.jobs → p.2.kind ≠ 1

/-! ### Register space -/

/-- A register whose write stores its fields and commands no unit: it is no half of a 64-bit quantity, is not staged
(R463), and no state locks it. -/
def plainReg (d : Device) (a : Nat) : Bool :=
  d.responds a && !isLo a && !isHi a && !stagedReg a && a != R.PWR_CTRL && a != R.FUR_CTRL &&
    (commandA a 0).isNone && (commandB a 0).isNone && (clearsAt Timebase.reset a).isNone && !locked d a

/-- R9, R525: what a write of `v` makes of a field that read `old`. -/
def fieldAfter (f : Field) (v old : Nat) : Nat :=
  match f.acc with
  | .rw => if f.least ≤ bits f.hi f.lo v ∧ bits f.hi f.lo v ≤ f.most then bits f.hi f.lo v else old
  | .w1c => old - (old &&& bits f.hi f.lo v)
  | .w1s => old ||| bits f.hi f.lo v
  | .ro | .wo => old

/-! ### Slots of a plot run -/

/-- A plot run that may issue in its slots: it exists, was not aborted, is in no replay pause, and LENGTH has not come. -/
def Device.issues (d : Device) (i : Nat) (r : Run) : Prop :=
  d.run? i = some r ∧ r.aborted = none ∧ r.replay = none ∧ r.elapsed < r.plot.length

/-- Of the device only one plot run, the listed registers and the event buffer may differ. -/
def State.oneRun (i : Nat) (ks : List Nat) (s t : State) : Prop :=
  s.frame [.plots] ks t ∧ t.dev.plots = { s.dev.plots with runs := t.dev.plots.runs } ∧
  ∀ j, j ≠ i → t.dev.run? j = s.dev.run? j

/-- The same, counted from a device `d`: what was in flight took effect before. -/
def State.oneRunFrom (i : Nat) (ks : List Nat) (s : State) (d : Device) (t : State) : Prop :=
  State.oneRun i ks { s with dev := d } t

/-- Two runs that differ at most in what is in flight, in the port and bank occupancy, and in one array. -/
def Run.onlyArr (key : Nat) (r r' : Run) : Prop :=
  r' = { r with arrays := r'.arrays, pend := r'.pend, banks := r'.banks, ports := r'.ports } ∧
  (∀ k, k ≠ key → r'.arr k = r.arr k) ∧ ∀ p, p ∈ r.pend → p ∈ r'.pend

/-- Two runs that differ at most in what is in flight and in the port and bank occupancy. -/
def Run.onlyFlight (r r' : Run) : Prop :=
  r' = { r with pend := r'.pend, banks := r'.banks, ports := r'.ports } ∧ ∀ p, p ∈ r.pend → p ∈ r'.pend

/-- The slot instructions, with the run, the slot number that PLOT_ABORTED names, and the checks of R99. -/
def slotCheck : Instr → Option (Nat × (Device → Run → List Nat))
  | .rampup i k a => some (i, rampupExc k a)
  | .rampdn i k a => some (i, rampdnExc k a)
  | .ldw i k a f sw sa so => some (i, ldwExc k a f sw sa so)
  | .swapw i k a => some (i, swapwExc k a)
  | .mm i k a ac f pk sw sa so dr n => some (i, mmExc ⟨5, k, a, ac, f, pk, sw, sa, so, dr, n⟩)
  | .drain i k a o dw da rb rc => some (i, drainExc k a o dw da rb rc)
  | .sexp i k a _ => some (i, sexpExc k a)
  | .seta i a imm => some (i, (setaOp a imm).chk)
  | .adda i a b n => some (i, (addaOp a b n).chk)
  | .lda i a p sw sa so => some (i, (ldaOp a p sw sa so).chk)
  | .copy i p sw sa dw da so d n => some (i, (copyOp p sw sa dw da so d n).chk)
  | .fill i p dw da pr d n => some (i, (fillOp p dw da pr d n).chk)
  | .rkset i sw sa dw da so d => some (i, (rksetOp sw sa dw da so d).chk)
  | .pdld i p sw sa so q => some (i, (pdldOp p sw sa so q).chk)
  | .amax i n f l mn => some (i, rakeExc ⟨1, n, 1, f, l, mn⟩)
  | .topk i n k f l mn => some (i, rakeExc ⟨2, n, k, f, l, mn⟩)
  | .merge i n k f l mn => some (i, rakeExc ⟨3, n, k, f, l, mn⟩)
  | .tload i t w a n => some (i, tloadExc t w a n)
  | .tgo i t e b => some (i, tgoExc t e b)
  | .waitclk i c => some (i, (waitclkOp c).chk)
  | .hoff i dc w a hr => some (i, hoffExc dc w a hr)
  | .rdclk i a => some (i, (rdclkOp a).chk)
  | _ => none

/-! ### Trowel cores -/

/-- Core `t` of plot run `i` comes to issue, at clk `c`, the instruction `w` of opcode `op`, whose operands are the keys
`reads`; `d`, `r` and `x` are the device, the run and the core as they stand at that clk. -/
structure CoreIssues (s : State) (i t op : Nat) (reads : Nat → List Nat) (d : Device) (r : Run) (x : Trowel) (w c : Nat) :
    Prop where
  run : ∃ r0, s.dev.run? i = some r0 ∧ r0.aborted = none ∧ r0.replay = none ∧ (r0.core t).running = true ∧
    trowLegal (r0.core t).pc w = true ∧ w = (r0.core t).fetch ∧ c = (r0.core t).issueAt (reads w) ∧
    c < r0.trowelLimit (r0.core t)
  opc : fOpc w = op
  dev : d = s.dev.runTo i c
  here : d.run? i = some r
  live : r.aborted = none
  core : x = r.core t

/-- What an instruction of the core leaves: the core is `x'`; of the run `r` nothing else but what is in flight, and
of the device `d` nothing else but the listed registers and the event buffer. -/
def CoreLeaves (s : State) (i tc : Nat) (ks : List Nat) (d : Device) (r : Run) (x' : Trowel) (t : State) : Prop :=
  State.oneRunFrom i ks s d t ∧ ∃ r', t.dev.run? i = some (r'.setCore tc x') ∧ r.onlyFlight r'

/-- The next core: the pc and the clk of the next issue moved on, and s[D], but s0, holds a value readable from a clk. -/
def Trowel.wroteS (x x' : Trowel) (pc clk dst v rdy : Nat) : Prop :=
  x'.pc = pc ∧ x'.clk = clk ∧ x'.running = x.running ∧ x'.flags = x.flags ∧ x'.ibuf = x.ibuf ∧
  (∀ k, x'.sreg k = if k = dst ∧ k ≠ 0 then v % 2 ^ 64 else x.sreg k) ∧ (∀ k, x'.vreg k = x.vreg k) ∧
  x'.ready.getD dst 0 = rdy ∧ ∀ k, k ≠ dst → x'.ready.getD k 0 = x.ready.getD k 0

/-- The same for v[D] and the conditions that join FLAGS. -/
def Trowel.wroteV (x x' : Trowel) (pc clk dst v fl rdy : Nat) : Prop :=
  x'.pc = pc ∧ x'.clk = clk ∧ x'.running = x.running ∧ x'.flags = x.flags ||| fl ∧ x'.ibuf = x.ibuf ∧
  (∀ k, x'.sreg k = x.sreg k) ∧ (∀ k, x'.vreg k = if k = dst then v % 2 ^ 512 else x.vreg k) ∧
  x'.ready.getD (vKey dst) 0 = rdy

/-- An instruction whose result goes to s[D]: run, core, opcode, latency, operands, and its result by R127 (of the run and
the core at the clk of issue, the instruction and that clk). -/
structure ScalarRow where
  run : Nat
  core : Nat
  op : Nat
  lat : Nat
  reads : Nat → List Nat
  val : Run → Trowel → Nat → Nat → Nat

def scalarRow : Instr → Option ScalarRow
  | .addSubLogic i t => some ⟨i, t, 0x01, 1, readsAB, fun _ x w _ => aluOp (bits 31 22 w) (x.sreg (fA w)) (x.sreg (fB w))⟩
  | .mul i t => some ⟨i, t, 0x02, 3, readsAB, fun _ x w _ => mulOp (bits 31 22 w) (x.sreg (fA w)) (x.sreg (fB w))⟩
  | .div i t => some ⟨i, t, 0x03, 34, readsAB, fun _ x w _ => divOp (bits 31 22 w) (x.sreg (fA w)) (x.sreg (fB w))⟩
  | .addi i t => some ⟨i, t, 0x04, 1, readsA, fun _ x w _ =>
      (x.sreg (fA w) + ofSigned 64 (toSigned 15 (bits 31 17 w))) % 2 ^ 64⟩
  | .andi i t => some ⟨i, t, 0x05, 1, readsA, fun _ x w _ => x.sreg (fA w) &&& ofSigned 64 (toSigned 15 (bits 31 17 w))⟩
  | .ori i t => some ⟨i, t, 0x06, 1, readsA, fun _ x w _ => x.sreg (fA w) ||| ofSigned 64 (toSigned 15 (bits 31 17 w))⟩
  | .xori i t => some ⟨i, t, 0x07, 1, readsA, fun _ x w _ => x.sreg (fA w) ^^^ ofSigned 64 (toSigned 15 (bits 31 17 w))⟩
  | .shiftImmediate i t => some ⟨i, t, 0x08, 1, readsA, fun _ x w _ =>
      if bits 24 23 w = 0 then (x.sreg (fA w) <<< bits 22 17 w) % 2 ^ 64
      else if bits 24 23 w = 1 then x.sreg (fA w) >>> bits 22 17 w
      else ofSigned 64 (toSigned 64 (x.sreg (fA w)) / 2 ^ bits 22 17 w)⟩
  | .slti i t => some ⟨i, t, 0x09, 1, readsA, fun _ x w _ =>
      if toSigned 64 (x.sreg (fA w)) < toSigned 15 (bits 31 17 w) then 1 else 0⟩
  | .li i t => some ⟨i, t, 0x0C, 1, fun _ => [], fun _ _ w _ => ofSigned 64 (toSigned 32 (bits 63 32 w))⟩
  | .lih i t => some ⟨i, t, 0x0D, 1, fun w => [fD w], fun _ x w _ => x.sreg (fD w) % 2 ^ 32 + 2 ^ 32 * bits 63 32 w⟩
  | .vext i t => some ⟨i, t, 0x2B, 2, fun w => [vKey (fA w), fB w], fun _ x w _ =>
      extract (bits 23 22 w) (x.vreg (fA w)) (x.sreg (fB w))⟩
  | .trowelRdclk i t => some ⟨i, t, 0x2D, 1, fun _ => [], fun r _ _ c => c + r.pauses⟩
  | _ => none

/-- An instruction whose result goes to v[D]: run, core, opcode, latency, operands, and its lanes' result with the
conditions it adds to FLAGS. -/
structure VectorRow where
  run : Nat
  core : Nat
  op : Nat
  lat : Nat → Nat
  reads : Nat → List Nat
  val : Trowel → Nat → Nat × Nat

def vectorRow : Instr → Option VectorRow
  | .vectorArith i t => some ⟨i, t, 0x24, fun w => if bits 23 22 w = 3 then 2 else 4, readsVV,
      fun x w => vecArith (bits 23 22 w) (bits 27 24 w) (x.vreg (fA w)) (x.vreg (fB w))⟩
  | .vfma i t => some ⟨i, t, 0x25, fun _ => 5, fun w => vKey (fD w) :: readsVV w,
      fun x w => vecFma (bits 23 22 w) (x.vreg (fD w)) (x.vreg (fA w)) (x.vreg (fB w))⟩
  | .vexpVrcpVrsqrt i t => some ⟨i, t, 0x26, fun _ => 10, readsV,
      fun x w => vecFunc (bits 23 22 w) (bits 27 24 w) (x.vreg (fA w))⟩
  | .vcvt i t => some ⟨i, t, 0x28, fun _ => 3, readsV, fun x w => vecCvt (bits 23 22 w) (bits 27 24 w) (x.vreg (fA w))⟩
  | .vbcast i t => some ⟨i, t, 0x29, fun _ => 2, readsA, fun x w => (broadcast (bits 23 22 w) (x.sreg (fA w)), 0)⟩
  | .vperm i t => some ⟨i, t, 0x2A, fun _ => 3, readsVV,
      fun x w => (permute (bits 23 22 w) (x.vreg (fA w)) (x.vreg (fB w)), 0)⟩
  | _ => none

/-- The branches: run, core, opcode and the comparison of R127. -/
def branchRow : Instr → Option (Nat × Nat × Nat × (Nat → Nat → Bool))
  | .beq i t => some (i, t, 0x10, fun a b => a == b)
  | .bne i t => some (i, t, 0x11, fun a b => a != b)
  | .blt i t => some (i, t, 0x12, fun a b => decide (toSigned 64 a < toSigned 64 b))
  | .bge i t => some (i, t, 0x13, fun a b => decide (toSigned 64 b ≤ toSigned 64 a))
  | .bltu i t => some (i, t, 0x14, fun a b => decide (a < b))
  | .bgeu i t => some (i, t, 0x15, fun a b => decide (b ≤ a))
  | _ => none

/-- The loads: run, core, opcode, bytes, and whether the data goes to a vector register. -/
def loadRow : Instr → Option (Nat × Nat × Nat × Nat × Bool)
  | .ldD i t => some (i, t, 0x18, 8, false)
  | .ldW i t => some (i, t, 0x19, 4, false)
  | .ldH i t => some (i, t, 0x1A, 2, false)
  | .ldB i t => some (i, t, 0x1B, 1, false)
  | .vld i t => some (i, t, 0x20, 64, true)
  | .ldDWide i t => some (i, t, 0x38, 8, false)
  | .vldWide i t => some (i, t, 0x39, 64, true)
  | _ => none

/-- The stores, in the same form; the data comes from s[D] or v[D]. -/
def storeRow : Instr → Option (Nat × Nat × Nat × Nat × Bool)
  | .stD i t => some (i, t, 0x1C, 8, false)
  | .stW i t => some (i, t, 0x1D, 4, false)
  | .stH i t => some (i, t, 0x1E, 2, false)
  | .stB i t => some (i, t, 0x1F, 1, false)
  | .vst i t => some (i, t, 0x21, 64, true)
  | .vst32 i t => some (i, t, 0x22, 32, true)
  | .stDWide i t => some (i, t, 0x3A, 8, false)
  | .vstWide i t => some (i, t, 0x3B, 64, true)
  | _ => none

end Sys2Proof.Machine
end

