-- ==== Sys2Proof/Certificates/Slice0/Obligations.lean ====
section
/-! DEFINITION. The statements. Each says what a command, or the machine, does by the rules its docstring names. -/
section
open Sys2Proof Sys2Proof.Machine

/-! ### The machine -/

/-- A step carries out the command at the front of the queue, with the queue's rest. -/
def Obligations.StepTakesTheFrontCommand : Prop :=
  ∀ (s : State) (c : Instr) (rest : List Instr), s.pending = c :: rest → step s = exec c { s with pending := rest }

/-- With no command waiting, one clk of the furrow passes, up to its last one. The model's choice: log entry 1. -/
def Obligations.IdleStepPassesOneClk : Prop :=
  ∀ s : State, s.pending = [] →
    (s.tb.offset + 1 < s.tb.len → step s = .next { s with tb := { s.tb with offset := s.tb.offset + 1 } }) ∧
    (s.tb.len ≤ s.tb.offset + 1 → step s = .next s)

/-- Every command of the table has an effect: a next state, whose queue is the one that was left. R514: while PORST_N is low
the device stays in reset: of the commands only its supplies and pins change anything. -/
def Obligations.EveryCommandAnswersNextState : Prop :=
  (∀ (c : Instr) (s : State), Answers c s (fun t => t.pending = s.pending)) ∧
  ∀ (c : Instr) (s : State), s.dev.power.porst = false → pinCommand c = false → Answers c s (fun t => t = s)

/-- The events that a command raises are taken at its end, by whatever command (R499). -/
def Obligations.EveryStepTakesItsEvents : Prop :=
  ∀ s t : State, s.settled → step s = .next t → t.settled

/-- After a cold reset the timebase is UNLOCKED with furrow number 0 (R34); only PD_X_AON is ON (R454), the phase is ROM
(R465); no register differs from its reset value, memory lists nothing, and no command waits. The model's choices: the empty
queue (log entry 2), what memory that nothing wrote reads as (log entry 4), and state for which the spec gives no reset value
(log entry 5). -/
def Obligations.ResetIsUnlockedAndEmpty : Prop :=
  State.reset.tb.st = .unlocked ∧ State.reset.tb.number = 0 ∧ State.reset.tb.offset = 0 ∧
  State.reset.dev.power.phase = .rom ∧ (∀ n, n < 30 → (State.reset.dev.domOn n ↔ n = 16)) ∧
  (∀ k, State.reset.dev.reg k = regRst (k % 2 ^ 32)) ∧ State.reset.dev.mem = [] ∧ State.reset.settled ∧
  State.reset.pending = []

/-- A write to memory reads back; every other address keeps its byte; and the list of cells keeps its canonical form. -/
def Obligations.MemoryReadsBackWhatWasWritten : Prop :=
  ∀ (m : Memory) (a : Nat) (bs : List Byte), m.wf →
    (m.writeBytes a bs).wf ∧ (m.writeBytes a bs).readBytes a bs.length = bs ∧
    ∀ b, b < a ∨ a + bs.length ≤ b → (m.writeBytes a bs).read b = m.read b

/-! ### The furrow timebase (02_the_furrow) -/

/-- The invariant of the timebase holds at reset. -/
def Obligations.ResetTimebaseInvariant : Prop := State.reset.tb.Inv

/-- Every step, by whatever command, keeps the invariant of the timebase: the point lies in the furrow; every furrow has
156,250 clk but a realignment furrow, which is UNLOCKED and has 78,125 to 234,374 (R40); HOLD_COUNT stays at most 64 and
RELOCK_COUNT at most 4; a number waits to be loaded only while UNLOCKED; the phase errors in hold lie in their window. -/
def Obligations.StepKeepsTimebaseInvariant : Prop :=
  ∀ s t : State, s.tb.Inv → step s = .next t → t.tb.Inv

/-- The furrow, its state, its number and its length change at a boundary alone (R34), or by a cold reset. -/
def Obligations.OnlyBoundaryAndResetChangeTheFurrow : Prop :=
  ∀ (c : Instr) (s t : State), exec c s = .next t → startsFurrow c = false →
    t.tb.number = s.tb.number ∧ t.tb.st = s.tb.st ∧ t.tb.len = s.tb.len ∧ t.tb.realign = s.tb.realign ∧
    t.tb.srcForce = s.tb.srcForce ∧ t.tb.holdCount = s.tb.holdCount

/-- R37: the number is one more in LOCKED and HOLDOVER; in FABRIC mode the first boundary of RELOCK adopts the number of the
time code. -/
def Obligations.BoundaryNumberFollowsR37 : Prop :=
  ∀ (s : State) (temps powers : List Nat) (seen : List (Nat × Nat)), s.dev.power.porst = true → s.tb.Inv →
    Ends (.furrowBoundary temps powers seen) s (fun t =>
      (s.tb.st = .locked ∨ s.tb.st = .holdover ∨ t.tb.st = .locked ∨ t.tb.st = .holdover → t.tb.number = s.tb.number + 1) ∧
      (t.tb.st = .relock → s.tb.st ≠ .relock → t.tb.srcForce = false → ∀ v, s.tb.tcNext = some v → t.tb.number = v))

/-- R31, R40, R42, step 1: what else the boundary makes of the decision of the furrow that ends. A number that the host set is
loaded where HOST is in force (R30). REFCLK_OK reads 1 from the boundary after the PLL locked (R27). -/
def Obligations.BoundaryTakesUpTheDecision : Prop :=
  ∀ (s : State) (d : Decision) (temps powers : List Nat) (seen : List (Nat × Nat)), s.dev.power.porst = true → s.tb.decided = some d →
    Ends (.furrowBoundary temps powers seen) s (fun t =>
      t.pending = s.pending ∧ t.tb.offset = 0 ∧ t.tb.decided = none ∧
      t.tb.srcForce = (s.dev.fld R.FUR_CTRL 0 0 == 1) ∧ t.tb.refclkOk = s.tb.pllLocked ∧
      (d.realign = none → t.tb.realign = false ∧ t.tb.len = 156250 ∧
        t.tb.st = (if t.tb.srcForce = s.tb.srcForce then d.st else .unlocked)) ∧
      (∀ e, d.realign = some e → t.tb.realign = true ∧ (t.tb.len : Int) = max 0 (156250 + e) ∧ t.tb.st = .unlocked ∧
        t.tb.holdCount = 0 ∧ t.tb.relockCount = 0) ∧
      (t.tb.st = .holdover → t.tb.holdCount = min (s.tb.holdCount + 1) 64) ∧
      (s.tb.setPending = true → t.tb.srcForce = true →
        t.tb.number = BitVec.ofNat 48 (s.dev.reg R.FUR_SET_LO + 2 ^ 32 * s.dev.reg R.FUR_SET_HI)) ∧
      (t.tb.srcForce = true → s.tb.setPending = false → t.tb.number = s.tb.number + 1) ∧
      (s.tb.tcNext = none → s.tb.setPending = false → t.tb.number = s.tb.number + 1))

/-- R35: the window that closes decides the state of the furrow that follows, by the rows of the table; higher rows win.
CAPTURE_WINDOW_CLOSE, in a furrow that has not decided and is no realignment furrow. By the invariant no candidate is held in
LOCKED. -/
def Obligations.WindowDecidesByR35 : Prop :=
  ∀ s : State, s.tb.realign = false → s.tb.decided = none →
    Ends .captureWindowClose s (fun t => ∃ d, t.tb.decided = some d ∧ t.tb.edge = none ∧ t.tb.prevEdge = s.tb.edge ∧
      t.pending = s.pending ∧ t.tb.number = s.tb.number ∧ t.tb.st = s.tb.st ∧ t.tb.len = s.tb.len ∧
      t.tb.offset = max s.tb.offset (s.tb.len - 78125) ∧
      s.regsBut [R.FUR_SLIP_COUNT, R.FUR_MISS_COUNT] t ∧ (∀ p : DevPart, p ≠ .regs → p ≠ .ev → p.same s.dev t.dev) ∧
      (s.tb.lossThis = true → d = ⟨.unlocked, none⟩) ∧
      (s.tb.lossThis = false →
        ((s.tb.st = .locked ∨ s.tb.st = .holdover) ∧ s.tb.tcResult = .disagrees ∧ s.tb.tcPrevBad = true →
          d = ⟨.unlocked, none⟩) ∧
        (¬ (s.tb.tcResult = .disagrees ∧ s.tb.tcPrevBad = true) →
          (s.tb.st = .locked → ∀ e, s.tb.edge = some e → e.natAbs ≤ 2 → d = ⟨.locked, none⟩) ∧
          (s.tb.st = .locked → ∀ e, s.tb.edge = some e → 2 < e.natAbs → d = ⟨.holdover, none⟩ ∧ t.tb.cand = some e) ∧
          (s.tb.st = .locked → s.tb.edge = none → s.tb.Inv → d = ⟨.holdover, none⟩ ∧ t.tb.cand = none) ∧
          (s.tb.st = .holdover → ∀ e, s.tb.edge = some e → e.natAbs ≤ 2 → d = ⟨.locked, none⟩ ∧ t.tb.cand = none) ∧
          (s.tb.st = .holdover → ∀ e c, s.tb.edge = some e → 2 < e.natAbs → s.tb.cand = some c → (e - c).natAbs ≤ 2 →
            d = ⟨.unlocked, some e⟩) ∧
          (s.tb.st = .holdover → ∀ e, s.tb.edge = some e → 2 < e.natAbs → (∀ c, s.tb.cand = some c → 2 < (e - c).natAbs) →
            s.tb.holdCount < 64 → d = ⟨.holdover, none⟩ ∧ t.tb.cand = some e) ∧
          (s.tb.st = .holdover → s.tb.edge = none → s.tb.holdCount < 64 →
            d = ⟨.holdover, none⟩ ∧ t.tb.cand = s.tb.cand) ∧
          (s.tb.st = .holdover → s.tb.edge = none → 64 ≤ s.tb.holdCount → d = ⟨.unlocked, none⟩) ∧
          (s.tb.st = .holdover → ∀ e, s.tb.edge = some e → 2 < e.natAbs → (∀ c, s.tb.cand = some c → 2 < (e - c).natAbs) →
            64 ≤ s.tb.holdCount → d = ⟨.unlocked, none⟩)) ∧
        (s.tb.st = .unlocked → ∀ e b, s.tb.edge = some e → s.tb.prevEdge = some b → (e - b).natAbs ≤ 2 →
          s.tb.refOkAtStart = true → (s.tb.srcForce = true ∨ s.tb.tcResult ≠ .absent) →
          d = (if e.natAbs ≤ 2 then ⟨.relock, none⟩ else ⟨.unlocked, some e⟩)) ∧
        (s.tb.st = .unlocked → (∀ e b, s.tb.edge = some e → s.tb.prevEdge = some b → 2 < (e - b).natAbs) ∨
          s.tb.refOkAtStart = false ∨ (s.tb.srcForce = false ∧ s.tb.tcResult = .absent) → d = ⟨.unlocked, none⟩) ∧
        (s.tb.st = .relock → ∀ e, s.tb.edge = some e → e.natAbs ≤ 2 → (s.tb.srcForce = true ∨ s.tb.tcResult = .agrees) →
          t.tb.relockCount = min (s.tb.relockCount + 1) 4 ∧
          d = (if 3 ≤ s.tb.relockCount then ⟨.locked, none⟩ else ⟨.relock, none⟩)) ∧
        (s.tb.st = .relock → s.tb.edge = none ∨ (∃ e, s.tb.edge = some e ∧ 2 < e.natAbs) ∨
          (s.tb.srcForce = false ∧ s.tb.tcResult ≠ .agrees) → d = ⟨.unlocked, none⟩)))

/-- R39: a slip raises FUR_SLIP with the phase error and increments FUR_SLIP_COUNT, whichever command makes the window close:
its own, or an edge that comes after its clk. -/
def Obligations.SlipIsCountedAndRaised : Prop :=
  ∀ (s : State) (c : Instr) (e : Int), s.settled → s.tb.realign = false → s.tb.decided = none → s.tb.edge = some e →
    2 < e.natAbs →
    (c = .captureWindowClose ∨ ∃ clk, c = .furrowInEdge clk ∧ s.tb.offset ≤ clk ∧ s.tb.len - 78125 ≤ clk ∧ clk < s.tb.len) →
    Ends c s (fun t => s.raised ⟨0x0101, 4, none, [(4, ofSigned 32 e)]⟩ t ∧
      t.dev.reg R.FUR_SLIP_COUNT = min (s.dev.reg R.FUR_SLIP_COUNT + 1) 0xFFFFFFFF)

/-- R32, R33: the first edge of a window is its phase error, against the boundary that the window belongs to; a further edge
raises FUR_SPURIOUS; an edge in the window of a realignment furrow's own boundary is not evaluated (R41). -/
def Obligations.EdgeIsMeasuredInItsWindow : Prop :=
  ∀ (s : State) (clk : Nat), s.tb.offset ≤ clk → clk < s.tb.len →
    (clk < s.tb.len - 78125 → s.tb.realign = false → s.tb.edge = none →
      Ends (.furrowInEdge clk) s (fun t => t = { s with tb :=
        { s.tb with offset := clk, edge := some (clk : Int), phaseValid := true, lastErr := (clk : Int) } })) ∧
    (clk < s.tb.len - 78125 → s.tb.realign = true →
      Ends (.furrowInEdge clk) s (fun t => t = { s with tb := { s.tb with offset := clk } })) ∧
    (s.tb.len - 78125 ≤ clk → ∀ d, s.tb.decided = some d → d.realign = none → s.tb.edge = none →
      Ends (.furrowInEdge clk) s (fun t => t = { s with tb :=
        { s.tb with offset := clk, edge := some ((clk : Int) - s.tb.len), phaseValid := true,
                    lastErr := (clk : Int) - s.tb.len } })) ∧
    (s.settled → (clk < s.tb.len - 78125 ∧ s.tb.realign = false) ∨
        (s.tb.len - 78125 ≤ clk ∧ ∃ d, s.tb.decided = some d ∧ d.realign = none) → ∀ e, s.tb.edge = some e →
      Ends (.furrowInEdge clk) s (fun t => s.raised ⟨0x0103, 4, none, []⟩ t ∧ t.pending = s.pending ∧
        t.tb = { s.tb with offset := clk } ∧ s.regsBut [] t ∧ ∀ p : DevPart, p ≠ .regs → p ≠ .ev → p.same s.dev t.dev))

/-- R27, R30, R31, R41: the other commands of the timebase. -/
def Obligations.TimebaseCommands : Prop :=
  (∀ (s : State) (clk : Nat), s.settled → s.tb.offset ≤ clk → clk < s.tb.len →
    Ends (.refclkLoss clk) s (fun t => s.raised ⟨0x010A, 4, none, []⟩ t ∧ t.pending = s.pending ∧ s.regsBut [] t ∧
      t.tb.offset = clk ∧ t.tb.refclkOk = false ∧ t.tb.pllLocked = false ∧ t.tb.number = s.tb.number ∧
      (s.tb.decided = none → clk ≤ s.tb.len - 78125 → t.tb.lossThis = true ∧ t.tb.lossNext = s.tb.lossNext) ∧
      (s.tb.len - 78125 < clk → t.tb.lossThis = s.tb.lossThis ∧ t.tb.lossNext = true))) ∧
  (∀ s : State, Ends .pllLock s (fun t => t = { s with tb := { s.tb with pllLocked := true } })) ∧
  (∀ s : State, s.tb.realign = true → s.tb.decided = none →
    Ends .realignDecision s (fun t => t.dev = s.dev ∧ t.pending = s.pending ∧ t.tb.edge = s.tb.edge ∧
      t.tb.decided = some ⟨if s.tb.lossThis = true ∨ s.tb.realignSrcChange = true then .unlocked else .relock, none⟩)) ∧
  (∀ (s : State) (v : Nat), v < 2 →
    Ends (.furSourceWrite v) s (fun t => s.frame [.port] [R.FUR_CTRL] t ∧ t.dev.fld R.FUR_CTRL 0 0 = v)) ∧
  (∀ s : State, s.tb.srcForce = true → s.tb.st = .unlocked →
    Ends .setApply s (fun t => t.tb = { s.tb with setPending := true } ∧ t.pending = s.pending ∧ s.regsBut [] t)) ∧
  (∀ s : State, s.settled → s.tb.srcForce = false ∨ s.tb.st ≠ .unlocked →
    Ends .setApply s (fun t => s.raised ⟨0x010B, 4, none, []⟩ t ∧ s.frame [.port] [] t))

/-! ### Register space (R8 to R10, R454) -/

/-- Each CNT_CLR (R48, R88, R185, R209, R231, R264, R292, R314, R346, R372, R404, R434, R452, R477, R492, R506) sets its
counters to 0 and leaves every other register, but those of the event buffer, and every part of the device; it answers in the
ROM phase where its block does (R454). What the die's arrays, cores and rakes have run through up to its clk is counted first,
and so is gone: their runs note it, and nothing else of them changes. That the counts stand at the clk of the access, with the
clks of a pause, is log entry 116. -/
def Obligations.CounterClearsClearTheirCounters : Prop :=
  (∀ (c : Instr) (ks : List Nat) (s : State), clearedBy c = some ks → alwaysResponds c = true ∨ s.dev.power.phase ≠ .rom →
    Ends c s (fun t => s.frame (clearTouches c) ks t ∧ ∀ k, k ∈ ks → k ∉ eventRegs → t.dev.reg k = 0)) ∧
  (∀ (n : Nat) (s : State), n < 4 → s.dev.power.phase ≠ .rom →
    Ends (.trwCntClr n) s (fun t => t.dev.plots = { s.dev.plots with
      stopped := s.dev.plots.stopped.map (fun x => if x.die = n ∧ x.kind = 2 then (x.settle s.tb.offset).2.2 else x) }) ∧
    Ends (.rakeCntClr n) s (fun t => t.dev.plots = { s.dev.plots with runs := t.dev.plots.runs } ∧
      ∀ i r, s.dev.run? i = some r → ∃ r', t.dev.run? i = some r' ∧ r' = { r with pend := r'.pend } ∧
        (∀ p, p ∈ r'.pend → p ∈ r.pend) ∧
        ∀ p, p ∈ r.pend → r.readBy (r.clkAt s.tb.offset) p = 0 → p ∈ r'.pend)) ∧
  (∀ (n : Nat) (s : State), n < 4 → s.dev.power.phase ≠ .rom →
    Ends (.arrCntClr n) s (fun t =>
      s.frame [.port, .plots] (clkRegs n ++ [R.ARR_WLOADS, R.ARR_NONFINITE, R.ARR_RAMPS].map (fun a => a + 0x10000 * n)) t ∧
      (∀ k, k ∈ clkRegs n → t.dev.reg k = 0) ∧
      (∀ k, k ∈ [R.ARR_WLOADS, R.ARR_NONFINITE, R.ARR_RAMPS] → t.dev.reg (k + 0x10000 * n) = 0) ∧
      t.dev.plots = { s.dev.plots with
        runs := t.dev.plots.runs,
        stopped := s.dev.plots.stopped.map (fun x => if x.die = n ∧ x.kind ≠ 2 then (x.settle s.tb.offset).2.2 else x) } ∧
      ∀ i r, s.dev.run? i = some r → ∃ r', t.dev.run? i = some r' ∧ r' = { r with arrays := r'.arrays } ∧
        ∀ k, (r'.arr k) = { r.arr k with upAt := (r'.arr k).upAt, busyFrom := (r'.arr k).busyFrom })) ∧
  (∀ (n : Nat) (s : State), n < 4 → s.dev.power.phase ≠ .rom →
    Ends (.arrAccCntClr n) s (fun t =>
      s.frame [.port] ([R.ARR_ACC_REPLAYS, R.ARR_ACC_SAT, R.ARR_ACC_EXP_LIMIT, R.ARR_ACC_DRAIN_SAT, R.ARR_ACC_LAST].map
        (fun a => a + 0x10000 * n)) t ∧
      (∀ k, k ∈ [R.ARR_ACC_REPLAYS, R.ARR_ACC_SAT, R.ARR_ACC_EXP_LIMIT, R.ARR_ACC_DRAIN_SAT] →
        t.dev.reg (k + 0x10000 * n) = 0) ∧
      t.dev.fld (R.ARR_ACC_LAST + 0x10000 * n) 31 31 = 0)) ∧
  (∀ s : State, s.settled →
    Ends .evtCntClr s (fun t =>
      s.frame [.port] ((List.range 13).map (fun i => inst R.EVT_TEL_POWER i)) t ∧
      (∀ k, k ∈ [R.EVT_LOST, R.EVT_THROTTLED, R.EVT_RAISED] → t.dev.reg k = 0) ∧
      ∀ i, i < 13 → t.dev.fld (inst R.EVT_TEL_POWER i) 31 16 = 0))

/-- R454: in the ROM phase a write of a register of no GLB, FUR, PWR, SEC, EVT or HOST block is discarded, whichever command
writes it; it still discards a pending write of a _LO register, as any register access does (R10 of 00_scope; that a command
which is named for a register is such an access is log entry 83). -/
def Obligations.RomPhaseDiscardsWrites : Prop :=
  (∀ (c : Instr) (s : State), romDiscards c = true → s.dev.power.phase = .rom →
    Ends c s (fun t => t = { s with dev := { s.dev with port := { s.dev.port with pendLo := none } } })) ∧
  ∀ (c : Instr) (s : State) (a v : Nat), s.settled → s.dev.power.phase = .rom → s.dev.responds a = false →
    c = .regWrite a v ∨ (c = .regLoWrite a v ∧ isLo a = true) ∨ (c = .regHiWrite a v ∧ isHi a = true) ∨
      (c = .stagedDirectWrite a v ∧ stagedReg a = true) →
    Ends c s (fun t => t = { s with dev := { s.dev with port := { s.dev.port with pendLo := none } } })

/-- R9, R525: a write of a register that commands nothing stores each RW field the value of which is in range, clears the bits
written 1 of a W1C field, sets those of a W1S field, and leaves the others; nothing else changes. -/
def Obligations.RegisterWriteStoresItsFields : Prop :=
  ∀ (s : State) (a v : Nat) (r : RegDesc), regDesc a = some r → plainReg s.dev a = true → v < 2 ^ 32 →
    regKey s.dev r a ∉ eventRegs →
    Ends (.regWrite a v) s (fun t => s.frame [.port] [regKey s.dev r a] t ∧ t.dev.port.pendLo = none ∧
      ∀ f, f ∈ r.fields →
        t.dev.fld (regKey s.dev r a) f.hi f.lo = fieldAfter f v (s.dev.fld (regKey s.dev r a) f.hi f.lo))

/-- R10: a read of a _LO register captures the upper half and returns the lower; the read of its _HI returns what was captured
and consumes it, or the upper half as it stands; either discards a pending _LO write. A write of an RW _LO register is held
and stores nothing; the write of its _HI stores both halves. (R10 of 00_scope; that a capture is kept by the key of its _LO
register is the model's choice, log entry 83.) -/
def Obligations.PairsReadAndWriteAsOneValue : Prop :=
  (∀ (s : State) (a : Nat) (r : RegDesc), regDesc a = some r → isLo a = true → s.dev.responds a = true →
    Ends (.regLoRead a) s (fun t => s.regsBut [] t ∧ t.pending = s.pending ∧
      (∀ p : DevPart, p ≠ .regs → p ≠ .ev → p ≠ .port → p.same s.dev t.dev) ∧
      t.tb = (if a = R.FUR_COUNT_LO then { s.tb with offsetCap := s.tb.offset } else s.tb) ∧
      t.dev.port.pendLo = none ∧ t.dev.port.rdata = BitVec.ofNat 32 (currentAt t.tb s.dev a) ∧
      t.dev.port.captures.get? a = some (BitVec.ofNat 32 (currentAt t.tb s.dev (a + 4))) ∧
      ∀ b, b ≠ a → t.dev.port.captures.get? b = s.dev.port.captures.get? b)) ∧
  (∀ (s : State) (a : Nat) (r : RegDesc), regDesc a = some r → isHi a = true → isLo a = false → s.dev.responds a = true →
    Ends (.regHiRead a) s (fun t => s.frame [.port] [] t ∧ t.dev.port.pendLo = none ∧
      (∀ v, s.dev.port.captures.get? (a - 4) = some v →
        t.dev.port.rdata = v ∧ t.dev.port.captures = s.dev.port.captures.del (a - 4)) ∧
      (s.dev.port.captures.get? (a - 4) = none →
        t.dev.port.rdata = BitVec.ofNat 32 (currentAt s.tb s.dev a) ∧ t.dev.port.captures = s.dev.port.captures))) ∧
  (∀ (s : State) (a v : Nat) (r : RegDesc), regDesc a = some r → r.hasRw = true → isLo a = true → s.dev.responds a = true →
    v < 2 ^ 32 →
    Ends (.regLoWrite a v) s (fun t => s.frame [.port] [] t ∧
      t.dev.port = { s.dev.port with pendLo := some (a, BitVec.ofNat 32 v) })) ∧
  (∀ (s : State) (a v : Nat) (w : W32) (r q : RegDesc), regDesc a = some r → regDesc (a - 4) = some q → isHi a = true →
    isLo a = false → stagedReg a = false → s.dev.responds a = true → locked s.dev a = false → v < 2 ^ 32 →
    s.dev.port.pendLo = some (a - 4, w) → rangeOk s.dev r a v (some w) = true →
    regKey s.dev r a ≠ regKey s.dev q (a - 4) → regKey s.dev r a ∉ eventRegs → regKey s.dev q (a - 4) ∉ eventRegs →
    Ends (.regHiWrite a v) s (fun t =>
      s.frame [.port] [regKey s.dev r a, regKey s.dev q (a - 4)] t ∧ t.dev.port = { s.dev.port with pendLo := none } ∧
      t.dev.reg (regKey s.dev r a) = storeFields r (s.dev.reg (regKey s.dev r a)) v % 2 ^ 32 ∧
      t.dev.reg (regKey s.dev q (a - 4)) = storeFields q (s.dev.reg (regKey s.dev q (a - 4))) w.toNat % 2 ^ 32))

/-- R8: a read of an offset that belongs to no register returns 0, a write to it is discarded, and either raises a Host port
event, HOST_UNMAPPED. (In the ROM phase the offsets of the blocks that do not respond raise none, R454.) -/
def Obligations.UnmappedAccessRaisesHostEvent : Prop :=
  ∀ (s : State) (a : Nat) (write : Bool), s.settled → regDesc a = none → s.dev.responds a = true →
    Ends (.regUnmappedAccess a write) s (fun t => s.frame [.port] [R.HOST_UNMAPPED] t ∧
      s.raised ⟨0x0D07, 4, none, [(4, a)]⟩ t ∧ (write = false → t.dev.port.rdata = 0))

/-- R463: a direct write of a staged register, in service and while no list is armed, forms a list for the next boundary, with
the selection registers as they stand; while one is armed it is discarded and raises PWR_STG_REFUSED. -/
def Obligations.StagedDirectWriteFormsList : Prop :=
  ∀ (s : State) (a v : Nat), stagedReg a = true → s.dev.power.phase = .service → v < 2 ^ 32 →
    (a = R.STORE_PAGE_OWNER → bits 31 30 v < 2) → s.dev.port.pendLo = none →
    (s.dev.power.staging = none →
      Ends (.stagedDirectWrite a v) s (fun t => s.frame [.port, .power] [R.PWR_STG_STATUS] t ∧
        t.dev.power = { s.dev.power with staging := some ⟨[⟨a, v, 0,
          if a = R.STORE_PAGE_OWNER then some (s.dev.fld R.STORE_PAGE_SEL 12 0)
          else if a = R.FLASH_SLOT_CFG then some s.dev.slotSel else none⟩], s.tb.number + 1, 0, 0⟩ })) ∧
    (s.settled → s.dev.power.staging ≠ none →
      Ends (.stagedDirectWrite a v) s (fun t => s.frame [.port] [] t ∧ s.raised ⟨0x0E08, 4, none, []⟩ t))

/-! ### The slots of a plot run (03_plots_and_sowing, 06 to 08) -/

/-- R104, R108, R109, R188: RAMPUP, RAMPDN, SWAPW and SEXP on an array that the band names. That the shadow weights keep their
content after SWAPW is log entry 40. -/
def Obligations.ArrayControlInstructions : Prop :=
  ∀ (s : State) (i k a : Nat) (r : Run), s.dev.issues i r → k < 2 → a < 8 → r.namesArray k a = true →
    ((r.arr (arrKey k a)).st = .down →
      Ends (.rampup i k a) s (fun t => s.oneRun i [dieReg R.ARR_RAMPS r.plot.die] t ∧
        t.dev.run? i = some (r.setArr (arrKey k a)
          { r.arr (arrKey k a) with st := .rampUp, rampDue := r.now + 48, upAt := r.elapsed }) ∧
        (dieReg R.ARR_RAMPS r.plot.die ∉ eventRegs → t.dev.reg (dieReg R.ARR_RAMPS r.plot.die) =
          min (s.dev.reg (dieReg R.ARR_RAMPS r.plot.die) + 1) 0xFFFFFFFF))) ∧
    ((r.arr (arrKey k a)).st = .up → (r.arr (arrKey k a)).wFree ≤ r.now → (r.arr (arrKey k a)).sFree ≤ r.now →
      (r.arr (arrKey k a)).dFree ≤ r.now →
      Ends (.rampdn i k a) s (fun t => s.oneRun i [] t ∧
        t.dev.run? i = some (r.setArr (arrKey k a) { r.arr (arrKey k a) with st := .rampDown, rampDue := r.now + 48 }))) ∧
    ((r.arr (arrKey k a)).st = .up → (r.arr (arrKey k a)).wFree ≤ r.now → (r.arr (arrKey k a)).sFree ≤ r.now →
      (∀ l, l ∈ (r.arr (arrKey k a)).ldws → l.issue ≠ (r.arr (arrKey k a)).ldwLast) →
      Ends (.swapw i k a) s (fun t => s.oneRun i [] t ∧
        t.dev.run? i = some (r.setArr (arrKey k a) { r.arr (arrKey k a) with active := (r.arr (arrKey k a)).shadow }))) ∧
    (∀ e, e < 256 → Ends (.sexp i k a e) s (fun t => s.oneRun i [] t ∧
      ∃ r', t.dev.run? i = some r' ∧ r.onlyFlight r' ∧ (r.now + 1, 33, .sexp (arrKey k a) (toSigned 8 e)) ∈ r'.pend))

/-- R104, R178: LDW reads its tile at the weight path's rate, T clk, and its shadow weights are complete at issue + L + T;
R105, R176: MM streams its rows, r clk each, and row t is final at issue + L + r + 2 D + t r; R115: DRAIN reads row j at issue
+ j and writes it for issue + j + L. -/
def Obligations.ArrayDataInstructions : Prop :=
  (∀ (s : State) (i k a f sw sa so : Nat) (r : Run), s.dev.issues i r → ldwExc k a f sw sa so s.dev r = [] →
    Ends (.ldw i k a f sw sa so) s (fun t => s.oneRun i [] t ∧
      ∃ r', t.dev.run? i = some r' ∧ r.onlyArr (arrKey k a) r' ∧
        r'.arr (arrKey k a) = { r.arr (arrKey k a) with
          ldws := (r.arr (arrKey k a)).ldws ++ [⟨r.now, r.now + r.lat sw + tileClks k f, f, []⟩], ldwLast := r.now,
          wFree := r.now + tileClks k f } ∧
        ∀ n, n < tileClks k f → (r.now + n, 32, .ldwRead (arrKey k a) r.now
          (r.addr sw (r.areg sa + 64 * so) + n * weightRate k) (weightRate k)) ∈ r'.pend)) ∧
  (∀ (s : State) (i k a acc f pk sw sa so dr n : Nat) (r : Run), s.dev.issues i r →
    mmExc ⟨5, k, a, acc, f, pk, sw, sa, so, dr, n⟩ s.dev r = [] →
    Ends (.mm i k a acc f pk sw sa so dr n) s (fun t =>
      s.oneRun i (clkRegs r.plot.die) t ∧
      ∃ r' m, t.dev.run? i = some r' ∧ r.onlyArr (arrKey k a) r' ∧
        m.issue = r.now ∧ m.issuedAt = r.elapsed ∧ m.final0 = r.now + r.lat sw + rowClks f + 2 * arrD k ∧ m.step = rowClks f ∧ m.fmt = f ∧
        m.add = (acc == 1) ∧ m.drow = dr ∧ m.rows = n ∧ m.next = 0 ∧ m.tile = (r.arr (arrKey k a)).active ∧
        m.e0 = (r.arr (arrKey k a)).pendExp.getD (defaultE0 f) ∧
        r'.arr (arrKey k a) = { ((r.arr (arrKey k a)).settle r.elapsed r.now).2.2 with
          sFree := r.now + n * rowClks f, busyFrom := some r.elapsed, ops := (r.arr (arrKey k a)).ops ++ [m],
          streamed := (r.arr (arrKey k a)).streamed ++ [⟨r.now, r.now + r.lat sw + rowClks f - 1, rowClks f, n⟩],
          pendExp := if acc = 1 then (r.arr (arrKey k a)).pendExp else none } ∧
        (pk = 0 → ∀ j, j < n → (r.now + j * rowClks f, 32, .mmRead (arrKey k a) r.now j
          [(r.addr sw (r.areg sa + 64 * so) + j * rowStride k f, rowStride k f)]) ∈ r'.pend))) ∧
  (∀ (s : State) (i k a o dw da rb rc : Nat) (r : Run), s.dev.issues i r → drainExc k a o dw da rb rc s.dev r = [] →
    Ends (.drain i k a o dw da rb rc) s (fun t => s.oneRun i [] t ∧
      ∃ r', t.dev.run? i = some r' ∧ r.onlyArr (arrKey k a) r' ∧
        r'.arr (arrKey k a) = { r.arr (arrKey k a) with dFree := r.now + 32 * rc } ∧
        ∀ j, j < 32 * rc → (r.now + j, 32, .drainRow (arrKey k a) o (32 * rb + j)
          (r.addr dw (r.areg da) + j * (arrD k * ofmtBytes o)) (r.now + j + r.lat dw)) ∈ r'.pend))

/-- R108, R177, R178: a ramp that comes to its clk ends, and shadow weights that come to theirs take the tile whole. `d` is
the device, and `r` the run, with what was in flight by that clk. -/
def Obligations.RampsAndWeightLoadsComplete : Prop :=
  ∀ (s : State) (i k a due : Nat) (d : Device) (r0 r : Run), s.dev.run? i = some r0 → r0.replay = none →
    d = s.dev.runUpTo i due 0 → d.run? i = some r →
    ((r0.arr (arrKey k a)).rampDue = due → (r.arr (arrKey k a)).rampDue = due →
      ((r.arr (arrKey k a)).st = .rampUp →
        Ends (.rampDone i k a) s (fun t => State.oneRunFrom i [] s d t ∧
          t.dev.run? i = some (r.setArr (arrKey k a) { r.arr (arrKey k a) with st := .up }))) ∧
      ((r.arr (arrKey k a)).st = .rampDown →
        Ends (.rampDone i k a) s (fun t =>
          State.oneRunFrom i (clkRegs r.plot.die) s d t ∧
          ∃ r', t.dev.run? i = some r' ∧ r.onlyArr (arrKey k a) r' ∧
            r'.arr (arrKey k a) = { ((r.arr (arrKey k a)).settle r.elapsed r.now).2.2 with st := .down }))) ∧
    (∀ l0 l, (r0.arr (arrKey k a)).nextLdw = some l0 → l0.due = due → (r.arr (arrKey k a)).nextLdw = some l →
      Ends (.ldwDone i k a) s (fun t => State.oneRunFrom i [dieReg R.ARR_WLOADS r.plot.die] s d t ∧
        t.dev.run? i = some (r.setArr (arrKey k a) { r.arr (arrKey k a) with
          shadow := ⟨some l.fmt, l.buf⟩, ldws := (r.arr (arrKey k a)).ldws.erase l })))

/-- R198 to R204: a row at its final clk `f`, formed by R190 to R195 as `cols`: without an overflow it is written; with one in
a column whose exponent may still rise, it is held for a replay, which takes one of the reserve; with none left, or at the
exponent limit, it is saturated. `r` is the run with what was in flight before. The order of the draws (rowDraw, rowsBefore)
is log entry 100, the one of rows that may be next log entry 161. -/
def Obligations.RowIsWrittenReplayedOrSaturated : Prop :=
  ∀ (s : State) (i key k0 f g : Nat) (d : Device) (r0 r : Run) (m m0 : MmOp) (cols : List ColWork),
    s.dev.run? i = some r0 → r0.aborted = none → r0.replay = none → nextFinal r0 = some (k0, m0, f) →
    d = s.dev.runUpTo i f 0 → d.run? i = some r → r.aborted = none → r.replay = none → nextFinal r = some (key, m, g) →
    cols = rowPass (key / 8) key r.seed ((r.arr key).rowDraw ((r.arr key).rowsBefore m.issue (m.arrival (key / 8) m.next)) (m.arrival (key / 8) m.next)) m (m.acts.getD m.next [])
      (fun _ => true) (startCols (key / 8) m ((r.arr key).rows.get? (m.drow + m.next))) →
    ((∀ c, c ∈ cols → c.ovf = false) →
      Ends (.mmRowFinal i) s (fun t => ∃ r', t.dev.run? i = some r' ∧ r'.replay = none ∧ r'.replaysLeft = r.replaysLeft ∧
        (r'.arr key).rows.get? (m.drow + m.next) = some (cols.map (fun c => ⟨c.v, c.e⟩)) ∧
        (m.rows ≤ m.next + 1 → ∀ o, o ∈ (r'.arr key).ops → o.issue ≠ m.issue) ∧
        (m.next + 1 < m.rows → ∃ m', m' ∈ (r'.arr key).ops ∧ m'.issue = m.issue ∧ m'.next = m.next + 1) ∧
        t.pending = s.pending ∧ t.tb = s.tb ∧ ∀ p : DevPart, p ≠ .regs → p ≠ .ev → p ≠ .plots → p.same d t.dev)) ∧
    ((∃ c, c ∈ cols ∧ c.ovf = true) → (∀ c, c ∈ cols → c.ovf = true → c.e ≤ 123) → r.replaysLeft ≠ 0 →
      Ends (.mmRowFinal i) s (fun t => ∃ r', t.dev.run? i = some r' ∧ r'.replay = some ⟨key, m.issue, r.pauses, cols⟩ ∧
        r'.replaysLeft = r.replaysLeft - 1 ∧ (r'.arr key).rows = (r.arr key).rows)) ∧
    ((∃ c, c ∈ cols ∧ c.ovf = true) → (∃ c, c ∈ cols ∧ c.ovf = true ∧ 123 < c.e) ∨ r.replaysLeft = 0 →
      Ends (.mmRowFinal i) s (fun t => ∃ r', t.dev.run? i = some r' ∧ r'.replay = none ∧ r'.satSeen = true ∧
        (r'.arr key).rows.get? (m.drow + m.next) = some (cols.map saturateCol)))

/-- R199, R200: at the end of a replay pause its length joins the pauses of the plot, whose machine clk stood still; the
exponents of the columns that overflowed have risen by 4, those of the others stand; these columns are formed again, as
`cols`, and the row is written with them (R198), held for another replay that takes one of the reserve, or saturated (R202,
R204). The draws of the pass are those of log entry 100, and the cause that R204 records where two hold is log entry 166. -/
def Obligations.ReplayPauseRaisesExponents : Prop :=
  ∀ (s : State) (i : Nat) (r : Run) (rp : Replay) (m : MmOp), s.dev.run? i = some r →
    r.replay = some rp → (r.arr rp.key).ops.find? (fun m => m.issue == rp.issue) = some m →
    let cols := rowPass (rp.key / 8) rp.key r.seed ((r.arr rp.key).passDraw r.now) m (m.acts.getD m.next []) (fun c => c.ovf)
      (raiseCols r.seed rp.key m.add (r.arr rp.key).footDraws rp.cols)
    (∀ (j : Nat) (c : ColWork), rp.cols[j]? = some c → ∃ c' : ColWork, cols[j]? = some c' ∧ c'.e = (if c.ovf then c.e + 4 else c.e) ∧
      (c.ovf = false → c' = c)) ∧
    Ends (.replayPauseEnd i) s (fun t => ∃ r', t.dev.run? i = some r' ∧ r'.now = r.now ∧
      r'.pauses = rp.base + 2 * arrD (rp.key / 8) + rowClks m.fmt + 3 ∧ t.pending = s.pending ∧ t.tb = s.tb ∧
      (∀ p : DevPart, p ≠ .regs → p ≠ .ev → p ≠ .plots → p ≠ .qm → p.same s.dev t.dev) ∧
      ((∀ c, c ∈ cols → c.ovf = false) → r'.replay = none ∧ r'.replaysLeft = r.replaysLeft ∧
        (r'.arr rp.key).rows.get? (m.drow + m.next) = some (cols.map (fun c => ⟨c.v, c.e⟩))) ∧
      ((∃ c, c ∈ cols ∧ c.ovf = true) → (∀ c, c ∈ cols → c.ovf = true → c.e ≤ 123) → r.replaysLeft ≠ 0 →
        r'.replay = some ⟨rp.key, m.issue, r'.pauses, cols⟩ ∧ r'.replaysLeft = r.replaysLeft - 1 ∧
        (r'.arr rp.key).rows = (r.arr rp.key).rows) ∧
      ((∃ c, c ∈ cols ∧ c.ovf = true) → (∃ c, c ∈ cols ∧ c.ovf = true ∧ 123 < c.e) ∨ r.replaysLeft = 0 →
        r'.replay = none ∧ r'.satSeen = true ∧
        (r'.arr rp.key).rows.get? (m.drow + m.next) = some (cols.map saturateCol)) ∧
      ∀ j, j ≠ i → t.dev.run? j = s.dev.run? j)

/-- R113, R120: the instructions that write an address register: from the clk after issue (LDA: from issue + L + 1) it holds
the value. -/
def Obligations.AddressRegisterInstructions : Prop :=
  ∀ (s : State) (i : Nat) (r : Run), s.dev.issues i r →
    (∀ a imm, a < 16 → imm < 2 ^ 48 → Ends (.seta i a imm) s (fun t => s.oneRun i [] t ∧
      ∃ r', t.dev.run? i = some r' ∧ r.onlyFlight r' ∧ (r.now + 1, 33, .areg a imm) ∈ r'.pend)) ∧
    (∀ a b n, a < 16 → b < 16 → Ends (.adda i a b n) s (fun t => s.oneRun i [] t ∧
      ∃ r', t.dev.run? i = some r' ∧ r.onlyFlight r' ∧
        (r.now + 1, 33, .areg a (ofSigned 64 ((r.areg b : Int) + toSigned 32 n))) ∈ r'.pend)) ∧
    (∀ a, a < 16 → Ends (.rdfur i a) s (fun t => s.oneRun i [] t ∧
      ∃ r', t.dev.run? i = some r' ∧ r.onlyFlight r' ∧ (r.now + 1, 33, .areg a s.tb.number.toNat) ∈ r'.pend)) ∧
    (∀ a, a < 16 → Ends (.rdclk i a) s (fun t => s.oneRun i [] t ∧
      ∃ r', t.dev.run? i = some r' ∧ r.onlyFlight r' ∧ (r.now + 1, 33, .areg a (r.now + r.pauses)) ∈ r'.pend)) ∧
    (∀ a p sw sa so, (ldaOp a p sw sa so).chk s.dev r = [] → Ends (.lda i a p sw sa so) s (fun t => s.oneRun i [] t ∧
      ∃ r', t.dev.run? i = some r' ∧ r.onlyFlight r' ∧ r'.ports.getD p 0 = r.now + 1 ∧
        (r.now + r.lat sw + 1, 33, .areg a (ofLe (plotRead s.dev r r.now (r.addr sw (r.areg sa + 8 * so)) 8))) ∈ r'.pend))

/-- R113, R110: COPY reads unit k at issue + k for visibility Ls + Ld later; FILL writes unit k for issue + k + Ld; PDLD loads
a packing descriptor; RKSET sets the rake latch from the next clk on; WAITCLK (R121) holds the next bundle back to a clk of
the plot. That PDLD reads its 128 bytes as they stand at its issue is log entry 104. -/
def Obligations.StoreMoveInstructions : Prop :=
  ∀ (s : State) (i : Nat) (r : Run), s.dev.issues i r →
    (∀ p sw sa dw da so d n, (copyOp p sw sa dw da so d n).chk s.dev r = [] →
      Ends (.copy i p sw sa dw da so d n) s (fun t => s.oneRun i [] t ∧
        ∃ r', t.dev.run? i = some r' ∧ r.onlyFlight r' ∧ r'.ports.getD p 0 = r.now + n ∧
          ∀ k, k < n → (r.now + k, 32, .copyUnit (r.addr sw (r.areg sa + 64 * so) + 64 * k)
            (r.addr dw (r.areg da + 64 * d) + 64 * k) (r.now + k + (r.lat sw + r.lat dw))) ∈ r'.pend)) ∧
    (∀ p dw da pr d n, (fillOp p dw da pr d n).chk s.dev r = [] →
      Ends (.fill i p dw da pr d n) s (fun t => s.oneRun i [] t ∧
        ∃ r', t.dev.run? i = some r' ∧ r.onlyFlight r' ∧ r'.ports.getD p 0 = r.now + n ∧
          ∀ k, k < n → (r.now + k + r.lat dw, 18, .store (r.addr dw (r.areg da + 64 * d) + 64 * k)
            (List.replicate 16 (leBytes 4 (r.areg pr % 2 ^ 32))).flatten) ∈ r'.pend)) ∧
    (∀ p sw sa so q, (pdldOp p sw sa so q).chk s.dev r = [] →
      Ends (.pdld i p sw sa so q) s (fun t => s.oneRun i [] t ∧
        ∃ r', t.dev.run? i = some r' ∧ r.onlyFlight r' ∧ r'.ports.getD p 0 = r.now + 2 ∧
          (r.now + r.lat sw + 2, 31, .packed q (plotRead s.dev r r.now (r.addr sw (r.areg sa + 64 * so)) 128)) ∈ r'.pend)) ∧
    (∀ sw sa dw da so d, (rksetOp sw sa dw da so d).chk s.dev r = [] →
      Ends (.rkset i sw sa dw da so d) s (fun t => s.oneRun i [] t ∧
        ∃ r', t.dev.run? i = some r' ∧ r.onlyFlight r' ∧
          (r.now + 1, 33, .latch sw (r.areg sa + 64 * so) dw (r.areg da + 64 * d)) ∈ r'.pend)) ∧
    (∀ c, c < 2 ^ 18 → r.elapsed < c →
      Ends (.waitclk i c) s (fun t => s.oneRun i [] t ∧ t.dev.run? i = some { r with waitClk := some c }))

/-- R117, R214, R220, R231: a rake instruction reads each lane's elements, one a clk, and counts them; it occupies the rake
for the clks of R117, and its result is complete at issue + Ls + occupancy + B / 64 + Ld - 1. -/
def Obligations.RakeInstructionsOccupyTheRake : Prop :=
  ∀ (s : State) (i : Nat) (r : Run) (c : Instr) (z : RakeSlot), s.dev.issues i r → rakeExc z s.dev r = [] →
    (∃ mn, z.min = mn ∧ (c = .amax i z.len z.sfmt z.lanes mn ∧ z.op = 1 ∧ z.k = 1 ∨ c = .topk i z.len z.k z.sfmt z.lanes mn ∧ z.op = 2 ∨
      c = .merge i z.len z.k z.sfmt z.lanes mn ∧ z.op = 3)) →
    Ends c s (fun t => s.oneRun i [] t ∧
      ∃ r' o, t.dev.run? i = some r' ∧ r' = { r with rake := r.rake ++ [o], pend := r'.pend, banks := r'.banks } ∧
        o.op = z.op ∧ o.len = z.len ∧ o.k = z.k ∧ o.sfmt = z.sfmt ∧ o.lanes = z.lanes ∧ o.min = z.min ∧
        o.occEnd = r.now + rakeOcc z ∧
        o.due = r.now + r.lat r.latch.1 + rakeOcc z + rakeBytes z.op z.k / 64 + r.lat r.latch.2.2.1 - 1 ∧
        o.src = r.addr r.latch.1 r.latch.2.1 ∧ o.dst = r.addr r.latch.2.2.1 r.latch.2.2.2 ∧
        (o.due + 1 - rakeBytes z.op z.k / 64, 16, .rakeResult o.occEnd (rakeBytes z.op z.k / 64)) ∈ r'.pend ∧
        ∀ n, n < (z.len + z.lanes - 1) / z.lanes →
          (r.now + n, 32, .rakeRead 1 (n * z.lanes) (min z.lanes (z.len - n * z.lanes))) ∈ r'.pend ∧
          (r.now + n, 34, .rakeCount (min z.lanes (z.len - n * z.lanes))) ∈ r'.pend)

/-- R117, R222: from the first clk of its result on, unit k of it is written one clk after unit k - 1. R224, R231: when the
last is visible the counters are updated, TIES is kept, and the rake goes on to the next. `d` is the device, and `r` the run,
with what was in flight by that clk, the result's writes included; the operation whose result is complete first comes first
(R117). That RAKE_NAN is raised when the result is complete is log entry 13. -/
def Obligations.RakeResultIsWritten : Prop :=
  (∀ (d : Device) (i clk n : Nat) (r : Run) (o : RakeOp), r.rake.filter (fun x => x.occEnd == o.occEnd) = [o] →
    (applyPend i clk d r (.rakeResult o.occEnd n)).1 = d ∧
    (applyPend i clk d r (.rakeResult o.occEnd n)).2 =
      { r with pend := (applyPend i clk d r (.rakeResult o.occEnd n)).2.pend } ∧
    ∀ k, k < n → (clk + k, 16, .store (o.dst + 64 * k) (sliceBytes (rakeResult o (selectRake o)) (64 * k) 64)) ∈
      (applyPend i clk d r (.rakeResult o.occEnd n)).2.pend) ∧
  ∀ (s : State) (i : Nat) (r0 r : Run) (o0 o : RakeOp) (d : Device),
    s.dev.run? i = some r0 → r0.replay = none → r0.nextRake = some o0 → d = s.dev.runUpTo i o0.due 17 → d.run? i = some r →
    r.nextRake = some o →
    let counted (t : State) (a n : Nat) : Prop := r.plot.die < 4 →
      t.dev.reg (dieReg a r.plot.die) = min (d.reg (dieReg a r.plot.die) + n) 0xFFFFFFFF
    Ends (.rakeResultDone i) s (fun t => t.pending = s.pending ∧ t.tb = s.tb ∧
      (∀ p : DevPart, p ≠ .regs → p ≠ .ev → p ≠ .plots → p.same d t.dev) ∧
      (∀ j, j ≠ i → t.dev.run? j = d.run? j) ∧
      counted t R.RAKE_OPS 1 ∧ counted t R.RAKE_TWO_PASS (if 512 < o.k then 1 else 0) ∧
      counted t R.RAKE_NAN (selectRake o).nan ∧ counted t R.RAKE_DUPS (selectRake o).dups ∧
      (∀ x, x ∈ r.rake → o.due ≤ x.due) ∧
      ∃ r', t.dev.run? i = some r' ∧
        r' = { r with rake := r.rake.erase o, nanSeen := r'.nanSeen, lastTies := (selectRake o).ties } ∧
        (r'.nanSeen = true ↔ r.nanSeen = true ∨ 0 < (selectRake o).nan))

/-- R118, R119: TLOAD copies SIZE units into a core's instruction buffer, complete at issue + L + SIZE; TGO starts the core 2
clk after issue, at word 256 ENTRY, with s16 to s31 the address registers and the rest 0. -/
def Obligations.TrowelDispatchInstructions : Prop :=
  ∀ (s : State) (i tc : Nat) (r : Run), s.dev.issues i r →
    (∀ w a n, tloadExc tc w a n s.dev r = [] →
      Ends (.tload i tc w a n) s (fun t => s.oneRun i [] t ∧
        ∃ r', t.dev.run? i = some r' ∧ r' = { r with trowels := r'.trowels, pend := r'.pend, banks := r'.banks } ∧
          r'.core tc = { r.core tc with loadDue := r.now + r.lat w + n } ∧
          ∀ k, k < n → (r.now + k, 32, .tload tc (64 * k) (r.addr w (r.areg a) + 64 * k)) ∈ r'.pend)) ∧
    (∀ e b, tgoExc tc e b s.dev r = [] →
      Ends (.tgo i tc e b) s (fun t => s.oneRun i [dieReg R.TRW_PROGRAMS r.plot.die] t ∧
        ∃ x, t.dev.run? i = some (r.setCore tc x) ∧ x.pc = 256 * e ∧ x.running = true ∧ x.flags = 0 ∧ x.clk = r.now + 2 ∧
          x.budgetDue = r.now + 64 * b ∧ x.ibuf = (r.core tc).ibuf ∧ (∀ k, x.vreg k = 0) ∧
          ∀ k, k < 32 → x.sreg k = if 16 ≤ k then r.areg (k - 16) else 0))

/-- R68, R99, R129, R130, R400: an instruction of a slot that fails a check of its row does nothing; the plot is aborted with
the detail code that comes first in the order of R130 among the exceptions of the clk (log entry 114), its operations in
flight end, its arrays ramp down, its cores stop, and its context becomes FAULTED unless it is RESETTING. -/
def Obligations.FailedCheckAbortsThePlot : Prop :=
  ∀ (s : State) (c : Instr) (i det : Nat) (chk : Device → Run → List Nat) (r : Run), slotCheck c = some (i, chk) →
    s.dev.issues i r → firstExc (chk s.dev r) = some det →
    Ends c s (fun t => t.pending = s.pending ∧ t.tb = s.tb ∧ t.dev.mem = s.dev.mem ∧
      (∀ j, j ≠ i → t.dev.run? j = s.dev.run? j) ∧
      ((s.dev.ctx r.ctx).st ≠ .resetting → (t.dev.ctx r.ctx).st = .faulted) ∧
      ∃ r', t.dev.run? i = some r' ∧ r'.aborted = firstExc ((clkExcs s.dev r).map (·.1) ++ [det]) ∧ r'.pend = [] ∧
        r'.rake = [] ∧ r'.plot = r.plot ∧
        (∀ k, (r'.arr k).st = .down ∨ (r'.arr k).st = .rampDown) ∧ ∀ k, (r'.core k).running = false)

/-! ### The trowel cores (08_trowel_cores_and_rake) -/

/-- R127 (04_swieno_isa): what the scalar operations compute: of OPC 0x01 and 0x02 modulo 2^64, and the division corners. A
shift amount of 64 or more, and the quotient of the most negative number and -1, are open (free values, log entry 24); that
the signed quotient is truncated toward zero is log entry 22. -/
def Obligations.ScalarArithmeticByR127 : Prop :=
  ∀ a b : W64, let x := a.toNat; let y := b.toNat
    aluOp 0 x y = (a + b).toNat ∧ aluOp 1 x y = (a - b).toNat ∧ aluOp 2 x y = (a &&& b).toNat ∧
    aluOp 3 x y = (a ||| b).toNat ∧ aluOp 4 x y = (a ^^^ b).toNat ∧
    (y < 64 → aluOp 5 x y = (a <<< y).toNat ∧ aluOp 6 x y = (a >>> y).toNat ∧ aluOp 7 x y = (a.sshiftRight y).toNat) ∧
    aluOp 8 x y = (if a.toInt < b.toInt then 1 else 0) ∧ aluOp 9 x y = (if x < y then 1 else 0) ∧
    aluOp 10 x y = (if a.toInt ≤ b.toInt then x else y) ∧ aluOp 11 x y = (if a.toInt ≤ b.toInt then y else x) ∧
    aluOp 12 x y = min x y ∧ aluOp 13 x y = max x y ∧
    mulOp 0 x y = (a * b).toNat ∧ mulOp 2 x y = x * y / 2 ^ 64 ∧
    mulOp 1 x y = (BitVec.ofInt 64 (a.toInt * b.toInt / 2 ^ 64)).toNat ∧
    (b ≠ 0 → divOp 1 x y = x / y ∧ divOp 3 x y = x % y) ∧
    (b ≠ 0 → ¬ (a.toInt = -(2 ^ 63) ∧ b.toInt = -1) → divOp 0 x y = (BitVec.ofInt 64 (a.toInt.tdiv b.toInt)).toNat) ∧
    (b ≠ 0 → divOp 2 x y = (BitVec.ofInt 64 (a.toInt.tmod b.toInt)).toNat) ∧
    (b = 0 → divOp 0 x y = 2 ^ 64 - 1 ∧ divOp 1 x y = 2 ^ 64 - 1 ∧ divOp 2 x y = x ∧ divOp 3 x y = x)

/-- R123, R125 to R127 (04_swieno_isa): each scalar instruction writes its result to s[D], readable its latency after issue,
and goes on to the next instruction 1 clk later; s0 reads 0 and ignores the write. That s0 too has a clk from which it is
readable is log entry 105; that a later write of one register replaces one in flight is log entry 163. -/
def Obligations.ScalarInstructionsWriteTheirResult : Prop :=
  ∀ (s : State) (c : Instr) (z : ScalarRow) (d : Device) (r : Run) (x : Trowel) (w n : Nat), scalarRow c = some z →
    CoreIssues s z.run z.core z.op z.reads d r x w n →
    Ends c s (fun t => ∃ x', CoreLeaves s z.run z.core [] d r x' t ∧
      x.wroteS x' (x.pc + (if bit 0 w then 2 else 1)) (n + 1) (bits 11 7 w) (z.val r x w n) (n + z.lat))

/-- R124 to R128 (04_swieno_isa): each lane-wise instruction writes its lanes to v[D] and adds its conditions to FLAGS;
VREDUCE writes its result to s[D]; RDFLG moves FLAGS to s[D] and clears it. What is open of lanes and conditions is log
entries 24 and 164. -/
def Obligations.VectorInstructionsWriteTheirResult : Prop :=
  (∀ (s : State) (c : Instr) (z : VectorRow) (d : Device) (r : Run) (x : Trowel) (w n : Nat), vectorRow c = some z →
    CoreIssues s z.run z.core z.op z.reads d r x w n →
    Ends c s (fun t => ∃ x', CoreLeaves s z.run z.core [] d r x' t ∧
      x.wroteV x' (x.pc + (if bit 0 w then 2 else 1)) (n + 1) (bits 11 7 w) (z.val x w).1 (z.val x w).2 (n + z.lat w))) ∧
  (∀ (s : State) (i t0 : Nat) (d : Device) (r : Run) (x : Trowel) (w n : Nat), CoreIssues s i t0 0x27 readsV d r x w n →
    Ends (.vreduce i t0) s (fun t => ∃ x', CoreLeaves s i t0 [] d r x' t ∧ x'.pc = x.pc + (if bit 0 w then 2 else 1) ∧
      x'.clk = n + 1 ∧ x'.flags = x.flags ||| (vecReduce (bits 23 22 w) (bits 27 24 w) (x.vreg (fA w))).2 ∧
      (∀ k, x'.sreg k = if k = bits 11 7 w ∧ k ≠ 0 then (vecReduce (bits 23 22 w) (bits 27 24 w) (x.vreg (fA w))).1 % 2 ^ 64
        else x.sreg k) ∧ ∀ k, x'.vreg k = x.vreg k)) ∧
  (∀ (s : State) (i t0 : Nat) (d : Device) (r : Run) (x : Trowel) (w n : Nat),
    CoreIssues s i t0 0x2C (fun _ => [flagsKey]) d r x w n →
    Ends (.rdflg i t0) s (fun t => ∃ x', CoreLeaves s i t0 [] d r x' t ∧ x'.pc = x.pc + (if bit 0 w then 2 else 1) ∧
      x'.clk = n + 1 ∧ x'.flags = 0 ∧
      (∀ k, x'.sreg k = if k = bits 11 7 w ∧ k ≠ 0 then x.flags % 2 ^ 64 else x.sreg k) ∧ ∀ k, x'.vreg k = x.vreg k))

/-- R126, R127 (04_swieno_isa): a branch taken goes to pc + IMM, 3 clk after issue; one not taken goes on. JAL and JALR leave
the next word in s[D]. -/
def Obligations.BranchesAndJumpsMoveThePc : Prop :=
  (∀ (s : State) (c : Instr) (i t0 op : Nat) (f : Nat → Nat → Bool) (d : Device) (r : Run) (x : Trowel) (w n : Nat),
    branchRow c = some (i, t0, op, f) → CoreIssues s i t0 op readsAB d r x w n →
    Ends c s (fun t => CoreLeaves s i t0 [] d r
      (if f (x.sreg (fA w)) (x.sreg (fB w)) then
        { x with pc := ofSigned 64 ((x.pc : Int) + toSigned 15 (bits 11 7 w + 32 * bits 31 22 w)), clk := n + 3 }
      else { x with pc := x.pc + (if bit 0 w then 2 else 1), clk := n + 1 }) t)) ∧
  (∀ (s : State) (i t0 : Nat) (d : Device) (r : Run) (x : Trowel) (w n : Nat), CoreIssues s i t0 0x16 (fun _ => []) d r x w n →
    Ends (.jal i t0) s (fun t => ∃ x', CoreLeaves s i t0 [] d r x' t ∧
      x.wroteS x' (ofSigned 64 ((x.pc : Int) + toSigned 15 (bits 31 17 w))) (n + 3) (bits 11 7 w)
        (x.pc + (if bit 0 w then 2 else 1)) (n + 3))) ∧
  (∀ (s : State) (i t0 : Nat) (d : Device) (r : Run) (x : Trowel) (w n : Nat), CoreIssues s i t0 0x17 readsA d r x w n →
    Ends (.jalr i t0) s (fun t => ∃ x', CoreLeaves s i t0 [] d r x' t ∧
      x.wroteS x' (ofSigned 64 ((x.sreg (fA w) : Int) + toSigned 15 (bits 31 17 w))) (n + 3) (bits 11 7 w)
        (x.pc + (if bit 0 w then 2 else 1)) (n + 3)))

/-- R124, R126, R127 (04_swieno_isa): a load puts the bytes, zero-extended, into its register, readable from issue + 2 + L; a
store of the low bytes of its register is visible from issue + L, at the address that the load or store forms: s[A] plus its
immediate in its window. Either holds the core's port for 1 clk. That the immediate of the 64-bit forms is signed is log entry
20. -/
def Obligations.TrowelLoadsAndStores : Prop :=
  (∀ (s : State) (c : Instr) (i t0 op z : Nat) (v : Bool) (d : Device) (r : Run) (x : Trowel) (w n : Nat),
    loadRow c = some (i, t0, op, z, v) → CoreIssues s i t0 op readsA d r x w n → accExc t0 z false d r x w = [] →
    Ends c s (fun t => ∃ x', CoreLeaves s i t0 [] d r x' t ∧
      (v = false → x.wroteS x' (x.pc + (if bit 0 w then 2 else 1)) (n + 1) (bits 11 7 w) (ofLe (plotRead d r n (accAddr r x w z) z))
        (n + 2 + r.lat (fW w))) ∧
      (v = true → x.wroteV x' (x.pc + (if bit 0 w then 2 else 1)) (n + 1) (bits 11 7 w) (ofLe (plotRead d r n (accAddr r x w z) z)) 0
        (n + 2 + r.lat (fW w))))) ∧
  (∀ (s : State) (c : Instr) (i t0 op z : Nat) (v : Bool) (d : Device) (r : Run) (x : Trowel) (w n : Nat),
    storeRow c = some (i, t0, op, z, v) →
    CoreIssues s i t0 op (fun w => [fA w, if v then vKey (bits 11 7 w) else bits 11 7 w]) d r x w n →
    accExc t0 z true d r x w = [] →
    Ends c s (fun t => State.oneRunFrom i [] s d t ∧ ∃ r', r.onlyFlight r' ∧
      t.dev.run? i = some (r'.setCore t0 { x with pc := x.pc + (if bit 0 w then 2 else 1), clk := n + 1 }) ∧
      r'.ports.getD t0 0 = r.now + 1 ∧
      (n + r.lat (fW w), t0, .store (accAddr r x w z)
        (leBytes z (if v then x.vreg (bits 11 7 w) else x.sreg (bits 11 7 w)))) ∈ r'.pend))

/-- R119, R127, R129 (04_swieno_isa), R231: tend stops the core; an illegal instruction that comes to issue, and a budget that
ends, abort the plot, with the exception that comes first among those of the clk (R130; which they are is log entry 114). -/
def Obligations.TrowelProgramEnds : Prop :=
  (∀ (s : State) (i t0 : Nat) (d : Device) (r : Run) (x : Trowel) (w n : Nat), CoreIssues s i t0 0x3F (fun _ => []) d r x w n →
    Ends (.tend i t0) s (fun t =>
      CoreLeaves s i t0 [dieReg R.TRW_BUSY_LO r.plot.die, dieReg R.TRW_BUSY_LO r.plot.die + 4] d r
        { x with pc := x.pc + (if bit 0 w then 2 else 1), clk := n + 1, running := false, idleAt := n + 1 } t)) ∧
  (∀ (s : State) (i t0 : Nat) (r r1 : Run), s.dev.run? i = some r → r.aborted = none → r.replay = none →
    (r.core t0).running = true → trowLegal (r.core t0).pc (r.core t0).fetch = false →
    (r.core t0).clk < r.trowelLimit (r.core t0) → (s.dev.runTo i (r.core t0).clk).run? i = some r1 → r1.aborted = none →
    Ends (.trowelIllegal i t0) s (fun t => ∃ r', t.dev.run? i = some r' ∧
      r'.aborted = firstExc ((clkExcs (s.dev.runTo i (r.core t0).clk) r1).map (·.1) ++ [0x61]) ∧
      ∀ k, (r'.core k).running = false)) ∧
  (∀ (s : State) (i t0 : Nat) (r r1 : Run), s.dev.run? i = some r → r.aborted = none → r.replay = none →
    (r.core t0).running = true → (s.dev.runTo i (r.trowelLimit (r.core t0))).run? i = some r1 → r1.aborted = none →
    Ends (.trowelBudget i t0) s (fun t => ∃ r', t.dev.run? i = some r' ∧
      r'.aborted = firstExc ((clkExcs (s.dev.runTo i (r.trowelLimit (r.core t0))) r1).map (·.1) ++ [0x60]) ∧
      ∀ k, (r'.core k).running = false))

/-! ### Plots, runs and handoffs (03_plots_and_sowing, 04_handoffs) -/

/-- R62, R63: a PLOT_LOAD whose image passes the checks joins the directory under the lowest free handle, and its request ends
(unless its context is RESETTING, R401); one that fails is reported with the detail of the first check that fails. A
PLOT_UNLOAD takes effect once no instance of its plot runs, is placed or is named by a loaded model. -/
def Obligations.PlotLoadAndUnload : Prop :=
  ∀ (s : State) (req : Nat) (q : Request), s.dev.req? req = some q →
    let w := (s.dev.ctx q.ctx).win (fieldLe q.bytes 2 1)
    let off := fieldLe q.bytes 0x40 8
    let wins := (s.dev.ctx q.ctx).all
    let key := 65536 * q.ctx + fieldLe q.bytes 0x40 2
    (fieldLe q.bytes 0 1 = 1 → loadCheck s.dev q.ctx w off = none →
      Ends (.plotLoad req) s (fun t => s.frame [.plots, .qm, .host, .out] [R.QM_CANCELS, R.QM_BOUND_MISSES] t ∧
        t.dev.plots = { s.dev.plots with
          dir := s.dev.plots.dir.set (65536 * q.ctx + freeHandle s.dev q.ctx)
            (readPlot s.dev.mem (w.base + off) wins (wins.map s.dev.groupsOf)) } ∧
        ((s.dev.ctx q.ctx).st ≠ .resetting → risingKeys s.dev.qm.reqs → t.dev.req? req = none) ∧
        ∀ j, j ≠ req → t.dev.req? j = s.dev.req? j)) ∧
    (fieldLe q.bytes 0 1 = 1 → s.settled → q.ready = none → ∀ det, loadCheck s.dev q.ctx w off = some det →
      Ends (.plotLoad req) s (fun t => s.frame [.qm, .host, .out] [R.QM_CANCELS] t ∧
        s.raised ⟨0x0201, 4, some q.ctx, [(1, det)]⟩ t ∧ ∀ j, j ≠ req → t.dev.req? j = s.dev.req? j)) ∧
    (fieldLe q.bytes 0 1 = 2 → ∀ p, s.dev.plots.dir.get? key = some p →
      (∀ x, x ∈ s.dev.plots.dir → x.1 ≠ key → x.2.unloading = true → s.dev.plotInUse x.1 = true) →
      (s.dev.plotInUse key = true →
        Ends (.plotUnload req) s (fun t => s.frame [.plots] [] t ∧
          t.dev.plots = { s.dev.plots with dir := s.dev.plots.dir.set key { p with unloading := true } })) ∧
      (s.dev.plotInUse key = false →
        Ends (.plotUnload req) s (fun t => s.frame [.plots, .qm, .host, .out] [R.QM_CANCELS, R.QM_BOUND_MISSES] t ∧
          t.dev.plots = { s.dev.plots with dir := s.dev.plots.dir.filter (fun x => x.1 != key) })))

/-- R66, R68, R102: a placed plot starts with its units DOWN, its address registers its arguments, at bundle 0; one whose
context faulted is idle (log entry 99). R108: an array that is up at LENGTH - 48 aborts the plot. R53, R384: at LENGTH a run
that has nothing in flight ends, for its stage too (R384 of 14_queues_contexts_isolation). The exceptions of the clk are log
entry 114. -/
def Obligations.RunsStartAndEnd : Prop :=
  (∀ (s : State) (n : Nat) (p : Placed) (plot : Plot), s.dev.plots.sown[n]? = some p →
    s.dev.plots.dir.get? (65536 * p.ctx + p.handle) = some plot →
    (p.idle = false →
      Ends (.plotStart n) s (fun t => s.frame [.plots, .store] [dieReg R.ARR_PSQ_STARTS plot.die] t ∧
        t.dev.plots = { s.dev.plots with
          sown := s.dev.plots.sown.eraseIdx n, runs := t.dev.plots.runs, nextRun := s.dev.plots.nextRun + 1 } ∧
        (∀ j, j ≠ s.dev.plots.nextRun → t.dev.run? j = s.dev.run? j) ∧
        ∃ r, t.dev.run? s.dev.plots.nextRun = some r ∧ r.plot = plot ∧ r.ctx = p.ctx ∧ r.req = p.req ∧
          r.startOff = 1250 * p.band ∧ r.phys = p.phys ∧ r.wins = (s.dev.ctx p.ctx).all ∧ r.now = 0 ∧ r.pauses = 0 ∧ r.pc = 0 ∧
          r.aborted = none ∧ r.pend = [] ∧ r.rake = [] ∧ r.replaysLeft = plot.replayRes ∧ (∀ k, (r.arr k).st = .down) ∧
          ∀ a, a < 16 → r.areg a = if a < 8 then (p.args.getD a 0).toNat else 0)) ∧
    (p.idle = true →
      Ends (.plotStart n) s (fun t => s.frame [.plots] [] t ∧
        ∃ r, t.dev.run? s.dev.plots.nextRun = some r ∧ r.plot = plot ∧ r.aborted = some 0))) ∧
  (∀ (s : State) (i : Nat) (d : Device) (r0 r : Run), s.dev.run? i = some r0 → r0.aborted = none → r0.replay = none →
    r0.overrunChecked = false → d = s.dev.runUpTo i (r0.plot.length - 48 - r0.pauses) 40 → d.run? i = some r → r.aborted = none →
    (r.arrays.all (fun p => p.2.settled) = true → Ends (.overrunCheck i) s (fun t =>
      State.oneRunFrom i [] s d t ∧ t.dev.run? i = some { r with overrunChecked := true })) ∧
    (r.arrays.all (fun p => p.2.settled) = false → Ends (.overrunCheck i) s (fun t =>
      ∃ r', t.dev.run? i = some r' ∧ r'.pend = [] ∧ t.pending = s.pending ∧ t.tb = s.tb ∧
        r'.aborted = firstExc ((clkExcs (d.setRun i { r with overrunChecked := true }) { r with overrunChecked := true }).map (·.1)
          ++ [0x5F])))) ∧
  (∀ (s : State) (i : Nat) (r : Run) (q : Request), s.dev.run? i = some r → risingKeys s.dev.plots.runs → r.aborted = none →
    r.overrunChecked = true → r.replay = none → r.pend = [] → r.rake = [] → (∀ p, p ∈ r.trowels → p.2.running = false) →
    (∀ p, p ∈ r.arrays → p.2.ops = []) →
    r.gen = none → s.dev.req? r.req = some q → q.cancel = none → (∀ x, x ∈ q.stages → x.type = 0) →
    (∀ x, x ∈ s.dev.plots.dir → x.2.unloading = false) →
    Ends (.plotEnd i) s (fun t => s.frame [.plots, .qm] (clkRegs r.plot.die) t ∧ t.dev.plots = { s.dev.plots with runs := t.dev.plots.runs } ∧
      t.dev.run? i = none ∧ (∀ j, j ≠ i → t.dev.run? j = s.dev.run? j) ∧
      ∃ q', t.dev.req? r.req = some q' ∧ q'.conds = q.conds ∧
        q'.stages = q.stages.modify r.entry (fun x => { x with ended := x.ended + 1 })))

/-- R98, R99: a bundle whose slots pass their checks takes effect whole, in the order of R97, and the next follows its SKIP
later; an illegal one, or one with a slot that fails, aborts the plot. R141: an uncorrectable error of its fetch is counted
and raised, and its requests carry MEDIA_ERROR. `d` and `r` are the device and the run at the clk of issue. Which exceptions
are those of one clk is log entry 114. -/
def Obligations.BundleTakesEffectWhole : Prop :=
  ∀ (s : State) (i a : Nat) (r0 r : Run) (d : Device) (b : Bundle), s.dev.run? i = some r0 → r0.aborted = none →
    r0.replay = none → r0.pc < r0.plot.bundles → r0.issueClk + r0.pauses < r0.plot.length →
    d = (s.dev.catchUp (r0.startOff + r0.issueClk + r0.pauses) (some i)).runTo i r0.issueClk → d.run? i = some r →
    r.aborted = none → b = decodeBundle (r.plot.bundle d.mem r.pc) →
    (b.legal = true → (∀ o, o ∈ b.slots → o.chk d r = []) →
      Ends (.bundleIssue i 0 a) s (fun t => t.pending = s.pending ∧ t.tb = s.tb ∧
        ∃ e r', (b.slots).foldl (fun x o => o.act s.tb x.1 x.2) (d, r.issued b.skip) = (e, r') ∧ t.dev.mem = e.mem ∧
          t.dev.run? i = some r' ∧ (∀ j, j ≠ i → t.dev.run? j = e.run? j) ∧
          ∀ p : DevPart, p ≠ .regs → p ≠ .ev → p ≠ .plots → p.same e t.dev)) ∧
    (b.legal = false → Ends (.bundleIssue i 0 a) s (fun t => ∃ r', t.dev.run? i = some r' ∧ r'.aborted = some 0x5B ∧
      r'.pend = [] ∧ r'.pc = r.pc)) ∧
    (b.legal = true → ∀ det, firstExc ((b.slots).flatMap (fun o => o.chk d r)) = some det →
      Ends (.bundleIssue i 0 a) s (fun t => ∃ r', t.dev.run? i = some r' ∧ r'.pend = [] ∧ r'.pc = r.pc ∧
        r'.aborted = firstExc ((clkExcs d r).map (·.1) ++ [det]))) ∧
    (d.ev.raised = [] → Ends (.bundleIssue i 1 a) s (fun t => t.dev.run? i = some (r.issued 0) ∧
      (∀ k x, k ∈ d.reqsOf r.req r.gen → d.req? k = some x → ∃ y, t.dev.req? k = some y ∧ (0xD, detStoreEcc) ∈ y.conds) ∧
      (∀ k, k ∉ d.reqsOf r.req r.gen → t.dev.req? k = d.req? k) ∧
      State.raised ⟨0x0301, 4, none, [(1, (a - csBase) / 2 ^ 32), (8, a)]⟩ { s with dev := d } t))

/-- R77, R79, R122: HOFF issues a handoff, with the next HANDOFF_ID, for the declaration of its consumer. R80: an item of a
TIER handoff lands whole in its slot and sets its bit, and no byte outside the landing area changes. R82: a late item is
counted and raised. R81: at the cutoff a handoff that closes at the next boundary takes no more items. R122 (04_swieno_isa)
gives the issue; that KIND 3 is TIER is log entry 43, that the event names the consumer plot's die is log entry 44. -/
def Obligations.HandoffsIssueLandAndCutOff : Prop :=
  (∀ (s : State) (i dc w a hr rid : Nat) (r : Run) (q : Request) (x : HoDecl), s.dev.issues i r →
    hoffExc dc w a hr s.dev r = [] → (s.dev.reqsOf r.req r.gen).head? = some rid → s.dev.req? rid = some q →
    consumerDecl s.dev r hr dc = some x →
    Ends (.hoff i dc w a hr) s (fun t => t.pending = s.pending ∧ t.tb = s.tb ∧
      t.dev.plots.nextHandoff = (s.dev.plots.nextHandoff + 1) % 2 ^ 32 ∧ t.dev.run? i = some r ∧
      ∃ h, t.dev.handoff? s.dev.plots.nextHandoff = some h ∧ h.kind = x.kind ∧ h.ctx = r.ctx ∧ h.req = rid ∧
        h.handle = r.areg hr % 65536 ∧ h.decl = dc ∧ h.issue = s.tb.number ∧ h.deadline = furAdd s.tb.number x.deadlineRel ∧
        h.addr = ((s.dev.ctx r.ctx).win x.window).base + x.landingOff ∧ h.stride = x.stride ∧ h.itemsMax = x.itemsMax ∧
        h.landedItems = [] ∧ h.cutoff = false ∧ h.desc = plotRead s.dev r r.now (r.addr w (r.areg a)) 256)) ∧
  (∀ (s : State) (hid i : Nat) (h : Handoff) (b : List Byte) (d : Device), d = s.dev.catchUp s.tb.offset none →
    d.handoff? hid = some h → h.noWork = false → h.kind = 3 → h.cutoff = false → i < h.itemsMax → i ∉ h.landedItems →
    tierItemData d h i = some b →
    Ends (.itemLand hid i none) s (fun t => t.pending = s.pending ∧ t.tb = s.tb ∧
      t.dev.handoff? hid = some { h with landedItems := h.landedItems ++ [i] } ∧
      (∀ k, k ≠ hid → t.dev.handoff? k = d.handoff? k) ∧
      (∀ p : DevPart, p ≠ .regs → p ≠ .ev → p ≠ .plots → p ≠ .mem → p.same d t.dev) ∧
      (∀ k, k < h.addr ∨ h.addr + h.len ≤ k → t.dev.mem.read k = d.mem.read k) ∧
      (d.inImage none h.addr h.len = false → (∀ p, p ∈ d.plots.handoffs → p.1 ≠ hid →
          overlaps h.addr h.len p.2.addr p.2.len = false) →
        t.dev.mem.readBytes (h.itemAddr i) (b.take h.stride).length = b.take h.stride ∧
        t.dev.mem.read (h.addr + 64 + i / 8) = d.mem.read (h.addr + 64 + i / 8) ||| BitVec.ofNat 8 (2 ^ (i % 8))))) ∧
  (∀ (s : State) (hid : Nat) (h : Handoff), s.settled → s.dev.handoff? hid = some h → h.cutoff = true →
    Ends (.handoffLateItem hid) s (fun t => s.frame [] [R.ARR_SOW_LATE_ITEMS] t ∧
      t.dev.reg R.ARR_SOW_LATE_ITEMS = min (s.dev.reg R.ARR_SOW_LATE_ITEMS + 1) 0xFFFFFFFF ∧
      s.raised ⟨0x0208, s.dev.plotDie h.ctx h.handle, some h.ctx, [(2, h.handle)]⟩ t)) ∧
  (∀ s : State, s.dev.handoffsOk → Ends .landingCutoff s (fun t => t.pending = s.pending ∧
    t.tb = { s.tb with offset := max s.tb.offset (s.tb.len - 64) } ∧ t.dev.plots.runs = s.dev.plots.runs ∧
    ∀ k h, s.dev.handoff? k = some h → s.dev.flash.failDetail.get? k = none →
      t.dev.handoff? k = some (if furLe h.closes (s.tb.number + 1) then { h with cutoff := true } else h)))

/-- R73, R76: the freeze fixes the sowing of the next furrow, once; ARR_SOW_STATUS tells how many runs it placed; it is empty
out of service, before a realignment furrow (R41 of 02_the_furrow), and where nothing waits. That it is composed from the
state at its clk is log entry 36. -/
def Obligations.SowingFreezesOnce : Prop :=
  ∀ s : State,
    (s.dev.plots.frozen = none → Ends .sowingFreeze s (fun t => t.pending = s.pending ∧
      t.tb = { s.tb with offset := max s.tb.offset (s.tb.point 150000) } ∧ t.dev.plots.runs = s.dev.plots.runs ∧
      t.dev.plots.sown = s.dev.plots.sown ∧ t.dev.mem = s.dev.mem ∧
      ∃ l, t.dev.plots.frozen = some l ∧ t.dev.fld R.ARR_SOW_STATUS 11 0 = l.length % 4096 ∧
        (s.dev.power.phase ≠ .service ∨ s.tb.decision.realign ≠ none ∨ (s.dev.qm.reqs = [] ∧ s.dev.seq.stages = []) → l = []))) ∧
    (s.settled → s.dev.plots.frozen ≠ none →
      Ends .sowingFreeze s (fun t => t = { s with tb := { s.tb with offset := max s.tb.offset (s.tb.point 150000) } }))

/-! ### The sieve (09_vector_search) and staged switches -/

/-- R237 to R253: what a context of a search does (a lookup is issued and delivered as a read, log entry 47; a read round has
two points in a furrow and a search's reads count against its record, log entry 127): it begins (R248), is issued (R237), asks
for its page in a read round (R239), and takes what arrives; a collector never holds more than K entries (R238). `se` and `x`
are the search and the context. -/
def Obligations.SieveContextsWork : Prop :=
  (∀ (s : State) (c w : Nat) (se : Search) (x : SieveCtx), s.dev.search? c = some se → se.ctxs[w]? = some x →
    x.st = .copying → se.spent = false → x.look = none → x.stream = [] →
    Ends (.tableCopyDone c w) s (fun t => t.pending = s.pending ∧ t.tb = s.tb ∧ t.dev.mem = s.dev.mem ∧
      (∀ j, j ≠ c → t.dev.search? j = s.dev.search? j) ∧
      ∃ se', t.dev.search? c = some se' ∧ (se.coll.length ≤ se.k → se'.coll.length ≤ se.k) ∧
        (∃ x', se'.ctxs[w]? = some x' ∧ (x'.st = .ready ∨ x'.st = .stopped)) ∧
        (se.graph = false → ∀ p l, x.probes = p :: l → x.group < s.dev.mem.readLe (se.hdrBase + 0x1000 + 16 * p.1 + 8) 4 →
          x.groups < (se.dsc 0x34 4 + se.dsc 0xC 1 - 1) / se.dsc 0xC 1 →
          se' = { se with ctxs := se.ctxs.set w { x with
            st := .ready, entry := 0, table := s.dev.mem.readBytes se.tableBase (512 * se.hdr 5 1) } }))) ∧
  (∀ (s : State) (e : Nat), s.dev.engineOn e = true →
    (∃ y se, y ∈ s.dev.engCtxs e ∧ s.dev.search? y.1 = some se ∧ canIssue s.dev se y.2.2 = true) →
    Ends (.engineIssue e) s (fun t => s.frame [.sieve, .store] [R.SIEVE_LOOKUPS] t ∧ ∃ c w x se, (c, w, x) ∈ s.dev.engCtxs e ∧
      s.dev.search? c = some se ∧ canIssue s.dev se x = true ∧
      (∀ y se', y ∈ s.dev.engCtxs e → s.dev.search? y.1 = some se' → canIssue s.dev se' y.2.2 = true →
        (x.num + 31 - s.dev.sieve.lastCtx.getD e 31) % 32 ≤ (y.2.2.num + 31 - s.dev.sieve.lastCtx.getD e 31) % 32) ∧
      (∀ j, j ≠ c → t.dev.search? j = s.dev.search? j) ∧ t.dev.sieve.lastCtx.getD e 31 = x.num ∧
      t.dev.search? c = some { se with
        lookups := se.lookups + boolBit x.look.isSome,
        ctxs := se.ctxs.set w { x with st := if x.look.isSome || !se.graph then .reading else .asked } })) ∧
  (∀ (s : State), (roundPoint s.tb s.dev = none → Ends .readRound s (fun t => t = s)) ∧
    (∀ n, roundPoint s.tb s.dev = some n → Ends .readRound s (fun t => t.pending = s.pending ∧
      t.tb = { s.tb with offset := max s.tb.offset n } ∧ s.regsBut [R.SIEVE_PAGE_READS] t ∧
      (∀ p : DevPart, p ≠ .regs → p ≠ .ev → p ≠ .sieve → p.same s.dev t.dev) ∧
      t.dev.sieve.round = (if n = 0 then 1 else 2) ∧
      (∀ ch, t.dev.sieve.chanRound.getD ch 0 ≤ 12 ∧
        t.dev.sieve.chanReads.getD ch 0 ≤ max 21 (s.dev.sieve.chanReads.getD ch 0)) ∧
      ∀ c se x, s.dev.sieve.searches = [(c, se)] → se.ctxs = [x] → x.st = .asked →
        s.dev.sieve.chanReads.getD (s.dev.walkChannel se x) 0 < 21 → s.dev.readFits se (s.dev.walkChannel se x) = true →
        t.dev.search? c = some { se with reads := se.reads + 1, ctxs := [{ x with st := .reading, src := s.dev.walkSrc se x }] } ∧
        t.dev.reg R.SIEVE_PAGE_READS = min (s.dev.reg R.SIEVE_PAGE_READS + 1) 0xFFFFFFFF))) ∧
  (∀ (s : State) (c w cls temp : Nat) (se : Search) (x : SieveCtx), s.dev.search? c = some se → se.ctxs[w]? = some x →
    x.st = .reading → se.spent = false → se.graph = true → cls ≤ 4 →
    Ends (.flashPageDelivered c w cls temp) s (fun t => t.pending = s.pending ∧ t.tb = s.tb ∧ t.dev.mem = s.dev.mem ∧
      (∀ j, j ≠ c → t.dev.search? j = s.dev.search? j) ∧
      ∃ se', t.dev.search? c = some se' ∧ (se.coll.length ≤ se.k → se'.coll.length ≤ se.k) ∧
        ∃ x', se'.ctxs[w]? = some x' ∧ (x'.st = .ready ∨ x'.st = .stopped))) ∧
  (∀ (s : State) (c w : Nat) (se : Search) (x : SieveCtx), s.dev.search? c = some se → se.ctxs[w]? = some x →
    x.st = .reading → se.spent = false → se.graph = false → se.extra = true →
    Ends (.lpddrReadDelivered c w none) s (fun t => t.pending = s.pending ∧ t.tb = s.tb ∧ t.dev.mem = s.dev.mem ∧
      (∀ j, j ≠ c → t.dev.search? j = s.dev.search? j) ∧
      ∃ se', t.dev.search? c = some se' ∧ (se.coll.length ≤ se.k → se'.coll.length ≤ se.k) ∧
        (∃ x', se'.ctxs[w]? = some x' ∧ (x'.st = .ready ∨ x'.st = .stopped)) ∧
        (x.look = none → se'.looked = se.looked) ∧
        ∀ k, x.look = some k → se'.looked = se.looked + 1 ∧
          (k.step = 1 → se.entriesLeft x = 0 →
            let pass := bit (k.v % 8) (s.dev.mem.read (se.lookAddr k)).toNat = (se.dsc 0x42 1 == 1)
            (¬ pass → se'.coll = se.coll) ∧ (pass → se'.coll = collOffer se.k se.coll (k.sc, se.passage k.v)))))

/-- R254: a finished search of a handoff lands and leaves its collector, its counts joining KIND_DETAIL; at the harvest point
every search that is due leaves, one without PARTIAL abandoned. -/
def Obligations.SearchesLandOrAreHarvested : Prop :=
  (∀ (s : State) (c h : Nat) (se : Search) (ho : Handoff), s.dev.search? c = some se → se.allStopped = true →
    se.shard = none → se.handoff = some h → s.dev.handoff? h = some ho → ho.cutoff = false → ho.noWork = false →
    se.item < ho.itemsMax → se.item ∉ ho.landedItems → s.dev.sieve.tally.get? h = none →
    Ends (.searchLand c) s (fun t => t.pending = s.pending ∧ t.tb = s.tb ∧
      t.dev.sieve.searches = s.dev.sieve.searches.del c ∧
      (∀ p : DevPart, p ≠ .regs → p ≠ .ev → p ≠ .plots → p ≠ .mem → p ≠ .sieve → p.same s.dev t.dev) ∧
      (∀ k, k ≠ h → t.dev.handoff? k = s.dev.handoff? k) ∧
      ∃ ho', t.dev.handoff? h = some ho' ∧ ho'.landedItems = ho.landedItems ++ [se.item] ∧
        ho'.detail = sieveDetail [1, 0, 0, boolBit (se.ctxs.any (·.onBudget)), se.codes, se.reads] ∧
        ho'.flags = (if se.filtered = true ∧ se.coll.length < se.k then Nat.lor ho.flags 1 else ho.flags))) ∧
  (∀ (s : State) (shard : Bool),
    Ends (.searchHarvest shard) s (fun t => t.pending = s.pending ∧
      t.tb = { s.tb with offset := max s.tb.offset (s.tb.point (if shard then 100000 else 120000)) } ∧
      t.dev.sieve.searches = s.dev.sieve.searches.filter (fun p => !harvestDue s.tb shard p.2) ∧
      t.dev.sieve.waiting = s.dev.sieve.waiting.filter (fun x => !harvestDue s.tb shard x) ∧
      ∀ c se h, s.dev.sieve.searches.filter (fun p => harvestDue s.tb shard p.2) = [(c, se)] →
        s.dev.sieve.waiting.filter (harvestDue s.tb shard) = [] → se.shard = none → se.handoff = some h →
        (bit 0 (se.dsc 1 1) = true → t.dev.reg R.SIEVE_HARVESTED = min (s.dev.reg R.SIEVE_HARVESTED + 1) 0xFFFFFFFF) ∧
        (bit 0 (se.dsc 1 1) = false → s.settled →
          t.dev.reg R.SIEVE_ABANDONED = min (s.dev.reg R.SIEVE_ABANDONED + 1) 0xFFFFFFFF ∧
          s.raised ⟨0x0602, 4, some se.owner, [(2, se.slot)]⟩ t ∧ t.dev.mem = s.dev.mem)))

/-- R44, R259, R276, R305, R364: a switch is staged for a furrow that has not begun, and the status shows it; for one that has
passed it is refused with CFG_BUSY; a cancel drops it. That SEQ_RES_SWITCH is raised at such a refusal too is the model's
choice, log entry 70. -/
def Obligations.SwitchesAreStagedAndCancelled : Prop :=
  ∀ s : State, s.dev.power.phase ≠ .rom →
    (let k := s.dev.fld R.SIEVE_IDX_SEL 7 0
     let n := s.dev.furReg (idxReg R.SIEVE_IDX_APPLY_LO k) (idxReg R.SIEVE_IDX_APPLY_HI k)
     (furLt s.tb.number n = true → Ends .sieveIdxStage s (fun t => s.frame [.port, .sieve] [idxReg R.SIEVE_IDX_CTRL k] t ∧
        t.dev.sieve = { s.dev.sieve with pendIdx := s.dev.sieve.pendIdx.set k n } ∧
        t.dev.fld (idxReg R.SIEVE_IDX_CTRL k) 2 2 = 1)) ∧
     (furLt s.tb.number n = false → Ends .sieveIdxStage s (fun t => s.frame [.port] [idxReg R.SIEVE_IDX_CTRL k] t ∧
        t.dev.fld (idxReg R.SIEVE_IDX_CTRL k) 17 16 = 3)) ∧
     Ends .sieveIdxCancel s (fun t => s.frame [.port, .sieve] [idxReg R.SIEVE_IDX_CTRL k] t ∧
        t.dev.sieve = { s.dev.sieve with pendIdx := s.dev.sieve.pendIdx.del k } ∧
        t.dev.fld (idxReg R.SIEVE_IDX_CTRL k) 2 2 = 0)) ∧
    (let n := s.dev.furReg R.BRX_APPLY_LO R.BRX_APPLY_HI
     (furLt s.tb.number n = true → Ends .brxTagStage s (fun t => s.frame [.port, .brx] [R.BRX_STAGE_CTRL] t ∧
        t.dev.brx = { s.dev.brx with pendTag := some n } ∧ t.dev.fld R.BRX_STAGE_CTRL 2 2 = 1)) ∧
     (s.settled → furLt s.tb.number n = false → Ends .brxTagStage s (fun t => s.frame [.port] [R.BRX_STAGE_CTRL] t ∧
        t.dev.fld R.BRX_STAGE_CTRL 17 16 = 3 ∧ s.raised ⟨0x070C, 4, none, []⟩ t)) ∧
     Ends .brxTagCancel s (fun t => s.frame [.port, .brx] [R.BRX_STAGE_CTRL] t ∧
        t.dev.brx = { s.dev.brx with pendTag := none } ∧ t.dev.fld R.BRX_STAGE_CTRL 2 2 = 0)) ∧
    (let k := s.dev.fld R.GATH_TBL_SEL 5 0
     let n := s.dev.furReg (tblReg R.GATH_TBL_APPLY_LO k) (tblReg R.GATH_TBL_APPLY_HI k)
     (furLt s.tb.number n = true → Ends .gathTblStage s (fun t => s.frame [.port, .gath] [tblReg R.GATH_TBL_CTRL k] t ∧
        t.dev.gath = { s.dev.gath with pendTbl := s.dev.gath.pendTbl.set k n } ∧
        t.dev.fld (tblReg R.GATH_TBL_CTRL k) 2 2 = 1)) ∧
     (furLt s.tb.number n = false → Ends .gathTblStage s (fun t => s.frame [.port] [tblReg R.GATH_TBL_CTRL k] t ∧
        t.dev.fld (tblReg R.GATH_TBL_CTRL k) 17 16 = 3)) ∧
     Ends .gathTblCancel s (fun t => s.frame [.port, .gath] [tblReg R.GATH_TBL_CTRL k] t ∧
        t.dev.gath = { s.dev.gath with pendTbl := s.dev.gath.pendTbl.del k } ∧
        t.dev.fld (tblReg R.GATH_TBL_CTRL k) 2 2 = 0)) ∧
    (let k := s.dev.fld R.SEQ_MDL_SEL 7 0
     let n := s.dev.furReg (mdlReg R.SEQ_MDL_APPLY_LO k) (mdlReg R.SEQ_MDL_APPLY_HI k)
     (s.dev.mdl? k ≠ none → furLt s.tb.number n = true →
        Ends .seqStageRes s (fun t => s.frame [.port, .seq] [mdlReg R.SEQ_MDL_CMD k] t ∧
          t.dev.seq = { s.dev.seq with pendRes := s.dev.seq.pendRes.set k n } ∧
          t.dev.fld (mdlReg R.SEQ_MDL_CMD k) 12 12 = 1)) ∧
     (s.settled → s.dev.mdl? k ≠ none → furLt s.tb.number n = false →
        Ends .seqStageRes s (fun t => s.frame [.port] [mdlReg R.SEQ_MDL_CMD k] t ∧
          t.dev.fld (mdlReg R.SEQ_MDL_CMD k) 15 14 = 3 ∧ s.raised ⟨0x0A05, 4, none, [(1, k), (1, 3)]⟩ t)) ∧
     Ends .seqCancelRes s (fun t => s.frame [.port, .seq] [mdlReg R.SEQ_MDL_CMD k] t ∧
        t.dev.seq = { s.dev.seq with pendRes := s.dev.seq.pendRes.del k } ∧ t.dev.fld (mdlReg R.SEQ_MDL_CMD k) 12 12 = 0))

/-! ### The Bruxia port and the gather unit (10_bruxia_and_planes, 11_embedding_tables) -/

/-- R269, R270, R277, R278, R29: ports and their states, time codes, heartbeats and their evaluation. A port trains and takes
packets in while PD_X_FAB is ON (R19). That a time code counts only with the source FABRIC is log entry 8; that the later of
two counts is log entry 97. -/
def Obligations.PortsHeartbeatsAndFencing : Prop :=
  (∀ (s : State) (p : Nat), p < 8 → s.dev.power.phase ≠ .rom →
    (s.dev.fld R.BRX_PORT_CTRL p p = 0 → Ends (.portEnable p) s (fun t => s.frame [.port, .brx] [R.BRX_PORT_CTRL] t ∧
      t.dev.fld R.BRX_PORT_CTRL p p = 1 ∧
      t.dev.brx = { s.dev.brx with ports := s.dev.brx.ports.set p ⟨.training, none, none⟩ })) ∧
    (s.dev.fld R.BRX_PORT_CTRL p p = 1 → Ends (.portDisable p) s (fun t => s.frame [.port, .brx] [R.BRX_PORT_CTRL] t ∧
      t.dev.fld R.BRX_PORT_CTRL p p = 0 ∧ (t.dev.port' p).st = .disabled)) ∧
    (∀ v, v < 2 → Ends (.brxServeWrite v) s (fun t => s.frame [.port, .brx] [R.BRX_CTRL] t ∧
      t.dev.fld R.BRX_CTRL 0 0 = v ∧ t.dev.fld R.BRX_CTRL 1 1 = s.dev.fld R.BRX_CTRL 1 1)) ∧
    (∀ v, v < 2 → Ends (.brxFanoutWrite v) s (fun t => s.frame [.port] [R.BRX_CTRL] t ∧
      t.dev.fld R.BRX_CTRL 1 1 = v ∧ t.dev.fld R.BRX_CTRL 0 0 = s.dev.fld R.BRX_CTRL 0 0))) ∧
  (∀ (s : State) (p : Nat), s.settled → p < 8 → s.dev.fabOn = true →
    ((s.dev.port' p).st = .training → Ends (.portTrainingDone p) s (fun t => s.frame [.brx] [] t ∧
      t.dev.brx = { s.dev.brx with ports := s.dev.brx.ports.set p ⟨.hello, none, none⟩ })) ∧
    ((s.dev.port' p).st = .training → Ends (.portTrainingTimeout p) s (fun t => s.frame [.brx] [] t ∧
      t.dev.brx = { s.dev.brx with ports := s.dev.brx.ports.set p ⟨.failed, none, none⟩ } ∧
      s.raised ⟨0x0703, 4, none, []⟩ t)) ∧
    (∀ lock n, (s.dev.port' p).st = .up →
      Ends (.portLinkFault p lock n) s (fun t => s.frame [.brx] [inst R.BRX_PORT_FEC_UNCORR p] t ∧
        t.dev.reg (inst R.BRX_PORT_FEC_UNCORR p) = min (s.dev.reg (inst R.BRX_PORT_FEC_UNCORR p) + n) 0xFFFFFFFF ∧
        t.dev.port' p = (if lock = true ∨ 65536 < n then { s.dev.port' p with down := some (if lock then 0 else 1) }
          else s.dev.port' p))) ∧
    (∀ pkt, s.takes 2 pkt → (s.dev.port' p).st = .hello →
      (fieldLe (pktPayload pkt) 0 1 ≠ 1 → Ends (.hello p pkt) s (fun t => s.frame [] [R.BRX_RX_PKTS] t ∧
        s.raised ⟨0x0704, 4, none, []⟩ t)) ∧
      (fieldLe (pktPayload pkt) 0 1 = 1 → ∀ f, (s.dev.port' p).lastHello = some f → f + 1 = s.tb.number →
        Ends (.hello p pkt) s (fun t => s.frame [.brx] [R.BRX_RX_PKTS] t ∧
          t.dev.brx = { s.dev.brx with ports := s.dev.brx.ports.set p ⟨.up, none, none⟩ } ∧
          s.raised ⟨0x0701, 4, none, [(1, p)]⟩ t)) ∧
      (fieldLe (pktPayload pkt) 0 1 = 1 → (s.dev.port' p).lastHello = none →
        Ends (.hello p pkt) s (fun t => s.frame [.brx] [R.BRX_RX_PKTS] t ∧
          t.dev.port' p = { s.dev.port' p with lastHello := some s.tb.number })))) ∧
  (∀ (s : State) (pkt : List Byte), s.takes 1 pkt → s.tb.srcForce = false →
    Ends (.time pkt) s (fun t => t.pending = s.pending ∧ s.regsBut [R.BRX_RX_PKTS] t ∧
      (∀ p : DevPart, p ≠ .regs → p ≠ .ev → p.same s.dev t.dev) ∧
      t.tb = { s.tb with tcNext := some (BitVec.ofNat 48 (fieldLe (pktPayload pkt) 0 8)) })) ∧
  (∀ (s : State) (pkt : List Byte), s.takes 3 pkt → furLt (pktFurrow pkt) s.tb.number = false →
    (pktFurrow pkt = s.tb.number → s.dev.brx.evaluated = false) →
    (s.dev.brx.beats.getD (pktSrc pkt % 16384) []).length < 3 →
    Ends (.heartbeat pkt) s (fun t => s.frame [.brx] [R.BRX_RX_PKTS] t ∧
      t.dev.brx = { s.dev.brx with beats := t.dev.brx.beats } ∧
      ∃ b, b ∈ t.dev.brx.beats.getD (pktSrc pkt % 16384) [] ∧ b.furrow = pktFurrow pkt ∧
        b.digest = BitVec.ofNat 64 (fieldLe (pktPayload pkt) 0 8))) ∧
  (∀ s : State, s.dev.brx.evaluated = false →
    let own := planeOf s.dev.identity
    Ends .heartbeatEval s (fun t => t.pending = s.pending ∧
      t.tb = { s.tb with offset := max s.tb.offset (s.tb.point 100000) } ∧
      (∀ p : DevPart, p ≠ .regs → p ≠ .ev → p ≠ .brx → p.same s.dev t.dev) ∧ t.dev.brx.evaluated = true ∧
      t.dev.brx.fenced = s.dev.brx.fenced ∧
      ∃ f inc, t.dev.brx.next = some (f, inc) ∧ s.dev.identity ∉ inc ∧
        (s.tb.st = .unlocked ∨ majority s.dev s.tb.number own = none → f = true) ∧
        ∀ x, s.tb.st ≠ .unlocked → majority s.dev s.tb.number own = some x →
          (f = true ↔ BitVec.ofNat 64 (s.dev.reg64 R.BRX_DIGEST_LO) ≠ x)))

/-- R28, R274, R275: a packet whose CRC fails, or of a reserved class, is dropped and counted; so is one of the classes above
2 whose furrow is more than 2 away, with one event a furrow, and one of a class that needs the lock while UNLOCKED. R19: while
PD_X_FAB is not ON the port takes none in. -/
def Obligations.PacketsAreDroppedByR275 : Prop :=
  (∀ (s : State) (c : Instr) (cls : Nat) (pkt : List Byte), s.settled → packetRow c = some (cls, pkt) →
    pktClass pkt = cls → s.dev.noTextJobs →
    (s.dev.fabOn = false → Ends c s (fun t => t = s)) ∧
    (s.dev.fabOn = true → pktCrcOk pkt = false → Ends c s (fun t => s.frame [] [R.BRX_RX_PKTS, R.BRX_CRC_DROPS] t ∧
      t.dev.reg R.BRX_RX_PKTS = min (s.dev.reg R.BRX_RX_PKTS + 1) 0xFFFFFFFF ∧
      t.dev.reg R.BRX_CRC_DROPS = min (s.dev.reg R.BRX_CRC_DROPS + 1) 0xFFFFFFFF)) ∧
    (s.dev.fabOn = true → pktCrcOk pkt = true → 2 < cls → furNear (pktFurrow pkt) s.tb.number = false →
      Ends c s (fun t => s.frame [.brx] [R.BRX_RX_PKTS, R.BRX_FURROW_DROPS] t ∧
        t.dev.brx = { s.dev.brx with dropSeen := true } ∧
        t.dev.reg R.BRX_FURROW_DROPS = min (s.dev.reg R.BRX_FURROW_DROPS + 1) 0xFFFFFFFF ∧
        (s.dev.brx.dropSeen = false → s.raised ⟨0x0709, 4, none, []⟩ t) ∧
        (s.dev.brx.dropSeen = true → t.dev.ev = s.dev.ev))) ∧
    (s.dev.fabOn = true → pktCrcOk pkt = true → furNear (pktFurrow pkt) s.tb.number = true → lockedClass cls = true → s.tb.st = .unlocked →
      Ends c s (fun t => s.frame [] [R.BRX_RX_PKTS, R.BRX_UNLOCK_DROPS] t ∧
        t.dev.reg R.BRX_UNLOCK_DROPS = min (s.dev.reg R.BRX_UNLOCK_DROPS + 1) 0xFFFFFFFF))) ∧
  (∀ (s : State) (pkt : List Byte), s.dev.fabOn = true → ¬ (1 ≤ pktClass pkt ∧ pktClass pkt ≤ 8) → ¬ (0x10 ≤ pktClass pkt ∧ pktClass pkt ≤ 0x13) →
    Ends (.reservedClassPacket pkt) s (fun t => s.frame [] [R.BRX_RX_PKTS, R.BRX_CRC_DROPS] t ∧
      t.dev.reg R.BRX_CRC_DROPS = min (s.dev.reg R.BRX_CRC_DROPS + 1) 0xFFFFFFFF))

/-- R280 to R289, R300, R301: work for other modules is refused by NACK or taken as a job; replies land in the handoff that
asked, once each; a NACK is noted; the later sending is made once. `d` is the device once the packet is counted. -/
def Obligations.FabricAndGatherWork : Prop :=
  (∀ (s : State) (c : Instr) (cls : Nat) (pkt : List Byte), s.settled → packetRow c = some (cls, pkt) → s.takes cls pkt →
    s.dev.noTextJobs → cls = 6 ∨ cls = 0x10 ∨ (cls = 4 ∧ bit (indexOf s.dev.identity % 8)
      (fieldLe (pktPayload pkt) (0x40 + indexOf s.dev.identity / 8) 1) = true) →
    s.dev.selfFenced = true ∨ s.dev.serving = false → s.dev.upPorts ≠ [] →
    Ends c s (fun t => s.frame [.brx] [R.BRX_RX_PKTS, R.BRX_TX_PKTS, R.BRX_NACKS_SENT] t ∧
      t.dev.reg R.BRX_NACKS_SENT = min (s.dev.reg R.BRX_NACKS_SENT + 1) 0xFFFFFFFF ∧
      (s.dev.brx.nackSeen = false → s.raised ⟨0x070B, 4, none, [(1, 1)]⟩ t) ∧
      ∃ x, t.dev.brx.sent = s.dev.brx.sent ++ [x] ∧ pktClass x.pkt = 8)) ∧
  (∀ (s : State) (pkt : List Byte) (d d1 d' : Device) (bind : Nat × Nat) (off per : Nat), s.takes 4 pkt →
    d = s.dev.inc R.BRX_RX_PKTS →
    let f := fieldLe (pktPayload pkt)
    let own := indexOf d.identity
    let m := hdrM (d.slotHdr d.corpusSlot bind.1)
    let len := 512 * m + 8 * (f 0x14 2 + f 0x16 2)
    let ctx := d.fld R.BRX_SVC 9 0
    let dl : W48 := BitVec.ofNat 48 (f 8 8)
    bit (own % 8) (f (0x40 + own / 8) 1) = true → nackFirst d true = none →
    d.idxVersion d.corpusSlot (f 0 4) = some bind → servicePlace d len = some off →
    d1 = d.bgWrite none (d.serviceWin.base + off) (sliceBytes (pktPayload pkt) 0x340 len) →
    sieveCheck d1 ctx (some (d1.slotHdr d.corpusSlot bind.1)) true (shardDesc d (pktPayload pkt) off m) (16 * f 4 2) 1 = none →
    admitShard s.tb (f 7 1) dl (ivfUnits m (f 0x18 4) (f 0x14 2) (f 0x16 2) (if f 0x1C 4 == 0 then 4 * f 4 2 else f 0x1C 4))
      (f 0x10 1) d1 = some (per, d') → tooLate s.tb dl = false →
    Ends (.query pkt) s (fun t => t.pending = s.pending ∧ t.tb = s.tb ∧ t.dev.mem = d'.mem ∧
      t.dev.brx.nextJob = d'.brx.nextJob + 1 ∧
      t.dev.brx.jobs.get? d'.brx.nextJob = some ⟨0, pktSrc pkt, pktTag pkt, f 7 1, dl, s.tb.number + 1, f 0 4, (off, len), 0, 0, 0,
        0, [], false, per, 0⟩ ∧
      t.dev.sieve.waiting = d'.sieve.waiting ++ sieveSearches s.tb
        (d'.addJob ⟨0, pktSrc pkt, pktTag pkt, f 7 1, dl, s.tb.number + 1, f 0 4, (off, len), 0, 0, 0, 0, [], false, per, 0⟩)
        ctx bind (shardDesc d (pktPayload pkt) off m) none (some d'.brx.nextJob) dl)) ∧
  (∀ (s : State) (pkt : List Byte) (d : Device), s.takes 6 pkt → d = s.dev.inc R.BRX_RX_PKTS →
    nackFirst d (d.idxVersion d.corpusSlot (fieldLe (pktPayload pkt) 0 4)).isSome = none →
    (d.textObj (d.corpusText (fieldLe (pktPayload pkt) 0 4))).isSome = true →
    tooLate s.tb (BitVec.ofNat 48 (fieldLe (pktPayload pkt) 4 8)) = false →
    Ends (.textReq pkt) s (fun t => t.pending = s.pending ∧ t.tb = s.tb ∧ t.dev.mem = s.dev.mem ∧
      t.dev.brx.nextJob = s.dev.brx.nextJob + 1)) ∧
  (∀ (s : State) (pkt : List Byte) (d d' : Device) (o per : Nat), s.takes 0x10 pkt → d = s.dev.inc R.BRX_RX_PKTS →
    let f := fieldLe (pktPayload pkt)
    let rows := (List.range (f 4 4)).map (fun i => (f (24 + 12 * i) 4, f (28 + 12 * i) 8))
    nackFirst d true = none → d.tblVersion (f 0 1) (f 8 4) = some o → d.tblPlane (f 0 1) = true → d.tblPublic (f 0 1) = true →
    f 1 1 ≤ 3 → (∀ r, r ∈ rows → d.rowLocal (f 0 1) r.2 = true ∧ r.2 < d.tblRows (f 0 1)) →
    admitShard s.tb (f 2 1) (BitVec.ofNat 48 (f 16 8)) ((f 4 4 * d.rowWork (f 0 1) + 63) / 64) 0 d = some (per, d') →
    tooLate s.tb (BitVec.ofNat 48 (f 16 8)) = false →
    Ends (.gatherReq pkt) s (fun t => t.pending = s.pending ∧ t.tb = s.tb ∧ t.dev.mem = d'.mem ∧
      t.dev.brx.jobs.get? d'.brx.nextJob = some ⟨2, pktSrc pkt, pktTag pkt, f 2 1, BitVec.ofNat 48 (f 16 8), s.tb.number + 1,
        f 8 4, (0, 0), o, f 0 1, f 1 1, 0, rows.map (fun r => (r.1, d.localRow (f 0 1) r.2)), false, per, 0⟩)) ∧
  (∀ (s : State) (j : Nat) (job : ShardJob) (it : Nat × Nat) (rest : List (Nat × Nat)), s.dev.brx.jobs.get? j = some job →
    job.items = it :: rest → rest ≠ [] → job.kind = 2 → furLt s.tb.number job.start = false →
    job.work + s.dev.rowWork job.table ≤ 64 * job.units → shardOpen s.tb job.deadline = true → s.tb.st ≠ .unlocked →
    s.dev.chanFits (s.dev.rowAddr job.obj job.table it.2) (s.dev.rowWork job.table) = true →
    Ends (.gatherRowRead true j none) s (fun t =>
      s.frame [.brx, .store] [R.GATH_ROWS_SERVED, R.GATH_NONFINITE, R.BRX_TX_PKTS] t ∧
      t.dev.reg R.GATH_ROWS_SERVED = min (s.dev.reg R.GATH_ROWS_SERVED + 1) 0xFFFFFFFF ∧
      t.dev.store = (s.dev.serveRow s.tb job.obj job.table it.2).store ∧
      t.dev.brx.jobs = s.dev.brx.jobs.set j { job with items := rest, work := job.work + s.dev.rowWork job.table } ∧
      (s.dev.upPorts ≠ [] → ∃ x, t.dev.brx.sent = s.dev.brx.sent ++ [x] ∧ pktClass x.pkt = 0x11))) ∧
  (∀ (s : State) (hid : Nat) (h : Handoff) (r : Remote) (it : Nat × Nat) (rest : List (Nat × Nat)) (v : Reservation),
    s.dev.handoff? hid = some h → s.dev.remote? hid = some r → r.locals = it :: rest → h.res = some v → r.kind = 2 →
    r.started = true → r.work + s.dev.rowWork r.table ≤ 64 * v.units → h.cutoff = false → h.noWork = false →
    s.dev.chanFits (s.dev.rowAddr r.obj r.table it.2) (s.dev.rowWork r.table) = true →
    it.1 < h.itemsMax → it.1 ∉ h.landedItems →
    Ends (.gatherRowRead false hid none) s (fun t => t.pending = s.pending ∧ t.tb = s.tb ∧
      t.dev.reg R.GATH_ROWS_LOCAL = min (s.dev.reg R.GATH_ROWS_LOCAL + 1) 0xFFFFFFFF ∧
      t.dev.remote? hid = some { r with
        locals := rest, localDone := r.localDone + 1, work := r.work + s.dev.rowWork r.table } ∧
      ∃ h', t.dev.handoff? hid = some h' ∧ h'.landedItems = h.landedItems ++ [it.1])) ∧
  (∀ (s : State) (pkt : List Byte) (h : Handoff) (r : Remote) (u : RemoteUnit),
    replyUnit (s.dev.inc R.BRX_RX_PKTS) pkt = some (h, r, u) → h.id = pktTag pkt → h.cutoff = false →
    (s.takes 5 pkt → r.kind = 0 → u.yields s.tb pkt u.idx = false → fieldLe (pktPayload pkt) 4 2 = u.idx → u.replied = false → h.noWork = false →
      u.idx < h.itemsMax → u.idx ∉ h.landedItems →
      Ends (.result pkt) s (fun t => t.pending = s.pending ∧ t.tb = s.tb ∧
        (∃ h', t.dev.handoff? h.id = some h' ∧ h'.landedItems = h.landedItems ++ [u.idx]) ∧
        ∃ r' c, t.dev.remote? h.id = some r' ∧ c.item = u.idx ∧ c.plane = planeOf (pktSrc pkt) ∧ c.clk = s.tb.offset ∧
          r'.units = (r.setUnit { u with replied := true, got := u.got ++ [u.idx], came := c :: u.came }).units)) ∧
    (s.takes 7 pkt → r.kind = 1 → ∀ it, it = fieldLe (pktPayload pkt) 0 4 → it ≠ 0xFFFFFFFF → (∃ x, x ∈ u.items ∧ x.1 = it) →
      u.yields s.tb pkt it = false → it ∉ u.got → h.noWork = false → it < h.itemsMax → it ∉ h.landedItems →
      Ends (.textData pkt) s (fun t => t.pending = s.pending ∧ t.tb = s.tb ∧
        (∃ h', t.dev.handoff? h.id = some h' ∧ h'.landedItems = h.landedItems ++ [it]) ∧
        ∃ r' c, t.dev.remote? h.id = some r' ∧ c.item = it ∧ c.plane = planeOf (pktSrc pkt) ∧ c.clk = s.tb.offset ∧
          r'.units = (r.setUnit { u with replied := true, got := u.got ++ [it], came := c :: u.came }).units)) ∧
    (s.takes 0x11 pkt → r.kind = 2 → fieldLe (pktPayload pkt) 0 4 = 1 → ∀ it, it = fieldLe (pktPayload pkt) 8 4 →
      (∃ x, x ∈ u.items ∧ x.1 = it) → u.yields s.tb pkt it = false → it ∉ u.got → h.noWork = false → it < h.itemsMax → it ∉ h.landedItems →
      Ends (.gatherData pkt) s (fun t => t.pending = s.pending ∧ t.tb = s.tb ∧
        t.dev.reg R.GATH_ROWS_REMOTE = min (s.dev.reg R.GATH_ROWS_REMOTE + 1) 0xFFFFFFFF ∧
        (∃ h', t.dev.handoff? h.id = some h' ∧ h'.landedItems = h.landedItems ++ [it]) ∧
        ∃ r' c, t.dev.remote? h.id = some r' ∧ c.item = it ∧ c.plane = planeOf (pktSrc pkt) ∧ c.clk = s.tb.offset ∧
          r'.units = (r.setUnit { u with replied := true, got := u.got ++ [it], came := c :: u.came }).units)) ∧
    (s.takes 5 pkt → r.kind = 0 → fieldLe (pktPayload pkt) 4 2 = u.idx → u.replied = true →
      Ends (.result pkt) s (fun t => t.pending = s.pending ∧ t.tb = s.tb ∧
        t.dev.reg R.BRX_HEDGE_DISCARDS = min (s.dev.reg R.BRX_HEDGE_DISCARDS + 1) 0xFFFFFFFF ∧
        (u.yields s.tb pkt u.idx = false → t.dev.mem = s.dev.mem) ∧
        ∃ r', t.dev.remote? h.id = some r' ∧ ∀ u', u' ∈ r'.units → u'.idx = u.idx →
          (u.yields s.tb pkt u.idx = false → u' ∈ r.units) ∧
          (u.yields s.tb pkt u.idx = true → ∀ c, c ∈ u'.came → c.item = u.idx → c.plane = planeOf (pktSrc pkt)))) ∧
    (s.takes 8 pkt → r.cls = 0 → r.kind ≠ 2 →
      Ends (.nack pkt) s (fun t => t.pending = s.pending ∧ t.tb = s.tb ∧ s.regsBut [R.BRX_RX_PKTS, R.BRX_NACKS_RECV] t ∧
        t.dev.reg R.BRX_NACKS_RECV = min (s.dev.reg R.BRX_NACKS_RECV + 1) 0xFFFFFFFF ∧ t.dev.mem = s.dev.mem ∧
        ∃ r', t.dev.remote? h.id = some r' ∧
          r'.units = (r.setUnit { u with nacks := u.nacks ++ [fieldLe (pktPayload pkt) 0 1] }).units))) ∧
  (∀ (s : State) (hid : Nat) (h : Handoff) (r : Remote), s.dev.handoff? hid = some h → s.dev.remote? hid = some r → r.cls ≠ 0 →
    r.fallback ≠ 0 → r.fell = false → r.started = true → s.tb.number = furAdd h.issue r.fallback → s.tb.st ≠ .unlocked →
    s.dev.selfFenced = false →
    Ends (.fallbackSending hid) s (fun t => t.pending = s.pending ∧ t.tb = s.tb ∧ t.dev.mem = s.dev.mem ∧
      s.regsBut [R.BRX_FALLBACKS, R.BRX_TX_PKTS] t ∧
      ∃ r', t.dev.remote? hid = some r' ∧ r'.fell = true ∧ ∀ u', u' ∈ r'.units → ∃ u, u ∈ r.units ∧ u'.idx = u.idx ∧
        (u' = u ∨ ∃ p, u.planes = [p] ∧ u'.planes = [p, 1 - p] ∧ u.replied = false ∧ u.nacks = [])))

/-- R307 to R311: build batches: accepted or refused with a reason; applied, once what is left of their records finds the
capacity that R162 leaves of the furrow, with a result area of counts and refusals; their mirror writes acknowledged or
missed. A TABLE_ACK settles the oldest packet with as many records as its ACCEPTED and REJECTED together (R310, log entry
129). -/
def Obligations.BuildBatchesApplyTheirRecords : Prop :=
  (∀ s : State, s.dev.power.phase ≠ .rom →
    let w := buildWord s.dev
    let t0 := w 0
    let src := bits 15 0 (w 1)
    let dst := bits 31 16 (w 1)
    let so := w 2 + 2 ^ 32 * w 3
    let seq := (s.dev.fld R.GATH_BUILD_STATUS 23 0 + 1) % 2 ^ 24
    (t0 < 64 → so % 8 = 0 → w 5 % 64 = 0 → (∃ o, s.dev.obj? src = some o ∧ (o.st = .sealed ∨ o.st = .shareObject) ∧
        so + w 4 * (8 + s.dev.tblStride t0) ≤ o.size) →
      (∃ o, s.dev.obj? dst = some o ∧ (o.st = .building ∨ o.st = .shareObject) ∧ w 5 + (16 + 8 * w 4) ≤ o.size) →
      s.dev.gath.batches.length < 16 →
      Ends .gathBuildGo s (fun t => s.frame [.port, .gath] [R.GATH_BUILD_STATUS] t ∧ t.dev.reg R.GATH_BUILD_STATUS = seq ∧
        t.dev.gath = { s.dev.gath with
          batches := s.dev.gath.batches ++ [⟨seq, t0, src, dst, so, w 5, w 4, false, 0, [], 0, 0, []⟩] })) ∧
    (63 < t0 ∨ so % 8 ≠ 0 ∨ w 5 % 64 ≠ 0 →
      Ends .gathBuildGo s (fun t => s.frame [.port] [R.GATH_BUILD_STATUS] t ∧ t.dev.fld R.GATH_BUILD_STATUS 31 24 = 1))) ∧
  (∀ (s : State) (b : Batch) (l : List Batch), s.dev.gath.batches = b :: l → b.applied = false →
    s.dev.tblMirrored b.table = false → s.dev.batchFits s.tb.number.toNat b (b.count - s.dev.gath.moved) = true →
    Ends .gathBatchDone s (fun t => t.pending = s.pending ∧ t.tb = s.tb ∧
      (∀ p : DevPart, p ≠ .regs → p ≠ .ev → p ≠ .mem → p ≠ .store → p ≠ .gath → p ≠ .flash → p.same s.dev t.dev) ∧
      t.dev.gath = { s.dev.gath with moved := 0, batches := (b :: l).filter (fun x => x.seq != b.seq) } ∧
      s.regsBut [R.GATH_RECORDS, R.GATH_REJECTS] t ∧
      ∃ d e ok no ow, d = s.dev.takeSpare (s.dev.batchNeed b (b.count - s.dev.gath.moved)) ∧
        applyRecords b.table (d.ownsRange b.table) (s.dev.batchRecs b) { d with gath := { d.gath with moved := 0 } } = (e, ok, no) ∧
        ow ≤ ok.length ∧ ok.length + no.length = b.count ∧ (e.obj? b.dst = none → t.dev.mem = e.mem) ∧
        ∀ o, e.obj? b.dst = some o → o.st = .shareObject → t.dev.mem = (e.bgWrite none (o.base + b.dstOff)
          (leBytes 4 ok.length ++ leBytes 4 no.length ++ leBytes 4 ow ++ leBytes 4 b.missed
            ++ (no.map (fun x => leBytes 4 x.1 ++ leBytes 4 x.2)).flatten)).mem)) ∧
  (∀ (s : State) (b : Batch) (l : List Batch), s.dev.gath.batches = b :: l → b.applied = true → b.out ≠ [] →
    ((∀ p, p ∈ b.out → furLt s.tb.number (furAdd p.at_ 2) = false) →
      Ends .mirrorAckTimeout s (fun t => t.pending = s.pending ∧ t.tb = s.tb ∧
        t.dev.gath = { s.dev.gath with batches := (b :: l).filter (fun x => x.seq != b.seq) } ∧
        t.dev.reg R.GATH_REJECTS =
          min (s.dev.reg R.GATH_REJECTS + (b.out.map (fun p => p.rows.length)).sum) 0xFFFFFFFF)) ∧
    (∀ pkt x rest, s.takes 0x13 pkt → b.out = x :: rest → pktSrc pkt = s.dev.mirrorPeer → pktTag pkt = b.seq →
      fieldLe (pktPayload pkt) 0 4 + fieldLe (pktPayload pkt) 4 4 = x.rows.length →
      Ends (.tableAck pkt) s (fun t => t.pending = s.pending ∧ t.tb = s.tb ∧ s.regsBut [R.BRX_RX_PKTS, R.GATH_REJECTS] t ∧
        t.dev.reg R.GATH_REJECTS = min (s.dev.reg R.GATH_REJECTS + fieldLe (pktPayload pkt) 4 4) 0xFFFFFFFF ∧
        (rest = [] → t.dev.gath = { s.dev.gath with batches := (b :: l).filter (fun y => y.seq != b.seq) }) ∧
        (rest ≠ [] → t.dev.mem = s.dev.mem ∧ t.dev.gath.batches = (b :: l).map (fun y =>
          if y.seq == b.seq then { b with out := rest, missed := b.missed + fieldLe (pktPayload pkt) 4 4 } else y))))) ∧
  (∀ (s : State) (pkt : List Byte), s.takes 0x12 pkt →
    let q := pktPayload pkt
    let t0 := fieldLe q 0 1 % 64
    let len := 8 + s.dev.tblStride t0
    let recs := (List.range (fieldLe q 8 4)).map (fun i => (fieldLe q (16 + len * i) 8, sliceBytes q (24 + len * i) (len - 8)))
    (pktSrc pkt ≠ s.dev.mirrorPeer → Ends (.tableWrite pkt) s (fun t =>
      s.frame [.brx] [R.BRX_RX_PKTS, R.BRX_TX_PKTS, R.GATH_REJECTS] t ∧
      t.dev.reg R.GATH_REJECTS = min (s.dev.reg R.GATH_REJECTS + fieldLe q 8 4) 0xFFFFFFFF)) ∧
    (pktSrc pkt = s.dev.mirrorPeer → Ends (.tableWrite pkt) s (fun t => t.pending = s.pending ∧ t.tb = s.tb ∧
      ∃ e ok no, applyRecords t0 true recs (s.dev.inc R.BRX_RX_PKTS) = (e, ok, no) ∧ t.dev.mem = e.mem ∧
        t.dev.store = e.store ∧ ok.length + no.length = fieldLe q 8 4 ∧
        (s.dev.upPorts ≠ [] → ∃ x, t.dev.brx.sent = s.dev.brx.sent ++ [x] ∧ pktClass x.pkt = 0x13))))

/-! ### Text, grammars, templates, sequences (12_text_paths, 13_generation) -/

/-- R319, R336, R339, R349, R354: a slot that is EMPTY and whose source is fit begins to load; its check ends with the slot
loaded, or EMPTY with a reason; a READY slot that is released begins to leave. -/
def Obligations.SlotsLoadCheckAndLeave : Prop :=
  (∀ s : State, s.dev.power.phase ≠ .rom →
    (let n := s.dev.fld R.TEXT_VOC_SEL 2 0
     let cfg := s.dev.reg (inst R.TEXT_VOC_CFG n)
     let obj := s.dev.fld (inst R.TEXT_VOC_OBJ n) 15 0
     (s.dev.voc? n = none → dataSource s.dev obj (ownerOf cfg) = none →
       Ends .textVocLoad s (fun t => s.frame [.port, .text] [] t ∧ t.dev.voc? n = some
         ⟨.loading, ownerOf cfg, obj, 65536 * bits 15 8 cfg, 65536 * bits 7 0 cfg, false, 0, 0, 0, none, 0, 0, 0⟩ ∧
         ∀ k, k ≠ n → t.dev.voc? k = s.dev.voc? k)) ∧
     (s.settled → ∀ r, s.dev.voc? n = none → dataSource s.dev obj (ownerOf cfg) = some r →
       Ends .textVocLoad s (fun t => s.frame [.port] [inst R.TEXT_VOC_CMD n] t ∧
         s.raised ⟨0x0902, 4, none, [(1, n), (1, r)]⟩ t ∧ t.dev.fld (inst R.TEXT_VOC_CMD n) 23 16 = r % 256)) ∧
     (∀ v, s.dev.voc? n = some v → v.st = .ready → Ends .textVocUnload s (fun t => s.frame [.port, .text] [] t ∧
       t.dev.text = { s.dev.text with vocs := s.dev.text.vocs.set n { v with st := .leaving } }))) ∧
    (let n := s.dev.fld R.ESP_GRM_SEL 7 0
     let cfg := s.dev.reg (inst R.ESP_GRM_CFG n)
     let obj := s.dev.fld (inst R.ESP_GRM_OBJ n) 15 0
     (∀ v, s.dev.gram? n = none → dataSource s.dev obj (ownerOf cfg) = none → s.dev.voc? (bits 2 0 cfg) = some v →
       v.st = .ready → v.owner = none ∨ v.owner = ownerOf cfg →
       Ends .espGrmLoad s (fun t => s.frame [.port, .esp] [] t ∧ t.dev.esp = { s.dev.esp with
         grams := s.dev.esp.grams.set n ⟨.loading, bit 30 cfg, ownerOf cfg, bits 2 0 cfg, obj, 0, false⟩ })) ∧
     (∀ g, s.dev.gram? n = some g → g.st = .ready → Ends .espGrmRelease s (fun t => s.frame [.port, .esp] [] t ∧
       t.dev.esp = { s.dev.esp with grams := s.dev.esp.grams.set n { g with st := .leaving } }))) ∧
    (let n := s.dev.fld R.PASM_TPL_SEL 7 0
     let cfg := s.dev.reg (inst R.PASM_TPL_CFG n)
     let obj := s.dev.fld (inst R.PASM_TPL_OBJ n) 15 0
     (s.dev.tpl? n = none → dataSource s.dev obj (ownerOf cfg) = none →
       Ends .pasmTplLoad s (fun t => s.frame [.port, .pasm] [] t ∧
         ∃ x, t.dev.pasm = { s.dev.pasm with tpls := s.dev.pasm.tpls.set n x } ∧ x.st = .loading ∧ x.owner = ownerOf cfg ∧
           x.obj = obj ∧ x.passed = false)) ∧
     (∀ x, s.dev.tpl? n = some x → x.st = .ready → Ends .pasmTplRelease s (fun t => s.frame [.port, .pasm] [] t ∧
       t.dev.pasm = { s.dev.pasm with tpls := s.dev.pasm.tpls.set n { x with st := .leaving } }))) ∧
    (let n := s.dev.fld R.SEQ_MDL_SEL 7 0
     (∀ x, mdlCheck s.dev n = .ok x → Ends .seqMdlLoad s (fun t => s.frame [.port, .seq] [mdlReg R.SEQ_MDL_CMD n] t ∧
       t.dev.seq = { s.dev.seq with models := s.dev.seq.models.set n x } ∧ t.dev.fld (mdlReg R.SEQ_MDL_CMD n) 23 16 = 0)) ∧
     (s.settled → ∀ r, mdlCheck s.dev n = .error r →
       Ends .seqMdlLoad s (fun t => s.frame [.port] [mdlReg R.SEQ_MDL_CMD n] t ∧
         s.raised ⟨0x0A04, 4, none, [(1, n), (1, r)]⟩ t)) ∧
     (∀ x, s.dev.mdl? n = some x → x.st = .ready → Ends .seqMdlRelease s (fun t => s.frame [.port, .seq] [] t ∧
       t.dev.seq = { s.dev.seq with models := s.dev.seq.models.set n { x with st := .leaving } }))) ∧
    (let g := s.dev.fld R.SEQ_GRF_SEL 11 0
     (∀ o, s.dev.seq.grafts.get? g = none → s.dev.obj? (s.dev.grfObj g) = some o → o.st = .sealed → o.tier = 1 → o.kind = 6 →
       o.owner = s.dev.grfOwner g → Ends .seqGrfLoad s (fun t => s.frame [.port, .seq] [grfReg R.SEQ_GRF_CMD g] t ∧
         t.dev.seq = { s.dev.seq with grafts := s.dev.seq.grafts.set g .loading } ∧
         t.dev.fld (grfReg R.SEQ_GRF_CMD g) 23 16 = 0)) ∧
     (s.dev.seq.grafts.get? g = some .ready → Ends .seqGrfRelease s (fun t => s.frame [.port, .seq] [] t ∧
       t.dev.seq = { s.dev.seq with grafts := s.dev.seq.grafts.set g .leaving })))) ∧
  (∀ (s : State) (n : Nat), s.settled →
    (∀ v, s.dev.voc? n = some v → v.st = .loading → v.passed = false →
      (∀ v' o, vocCheck s.dev n v = .ok v' → s.dev.obj? v.obj = some o →
        Ends (.vocCheckDone n) s (fun t => s.frame [.text] [inst R.TEXT_VOC_CMD n] t ∧
          t.dev.fld (inst R.TEXT_VOC_CMD n) 23 16 = 0 ∧ t.dev.text = { s.dev.text with
            vocs := s.dev.text.vocs.set n v',
            vocMem := s.dev.text.vocMem.paste v.base (8 * v'.nodes + 4 * v'.edges)
              (s.dev.mem.cut (o.base + 64) (8 * v'.nodes + 4 * v'.edges)) })) ∧
      (∀ r, vocCheck s.dev n v = .error r →
        Ends (.vocCheckDone n) s (fun t => s.frame [.text] [inst R.TEXT_VOC_CMD n] t ∧
          t.dev.text = { s.dev.text with vocs := s.dev.text.vocs.del n } ∧
          s.raised ⟨0x0902, 4, none, [(1, n), (1, r)]⟩ t))) ∧
    (∀ g o v, s.dev.gram? n = some g → g.st = .loading → g.passed = false → s.dev.obj? g.obj = some o →
      s.dev.voc? g.vocab = some v →
      (g.allow = true → (v.tokens + 7) / 8 ≤ o.size →
        Ends (.grammarCompileDone n) s (fun t => s.frame [.esp] [inst R.ESP_GRM_CMD n] t ∧
          t.dev.esp = { s.dev.esp with grams := s.dev.esp.grams.set n { g with passed := true } })) ∧
      (g.allow = false → autoOk s.dev.mem o.base o.size = false →
        Ends (.grammarCompileDone n) s (fun t => s.frame [.esp] [inst R.ESP_GRM_CMD n] t ∧
          t.dev.esp = { s.dev.esp with grams := s.dev.esp.grams.del n } ∧
          s.raised ⟨0x0905, 4, none, [(1, n), (1, 1)]⟩ t)) ∧
      (g.allow = false → autoOk s.dev.mem o.base o.size = true →
        tooDependent (readAuto s.dev.mem o.base) (s.dev.vocArrays v) v.tokens = none →
        ∀ id d, createCompiled s.tb g.owner (compiledImage (readAuto s.dev.mem o.base) (s.dev.vocArrays v) v.tokens) s.dev =
          some (id, d) →
        Ends (.grammarCompileDone n) s (fun t => s.frame [.esp, .mem, .store] [inst R.ESP_GRM_CMD n] t ∧
          t.dev.mem = d.mem ∧ t.dev.store = d.store ∧
          t.dev.esp = { s.dev.esp with grams := s.dev.esp.grams.set n { g with passed := true, compiled := id } }))) ∧
    (∀ x, s.dev.tpl? n = some x → x.st = .loading → x.passed = false →
      (∀ y, tplCheck s.dev x = .ok y → Ends (.templateLoadDone n) s (fun t => s.frame [.pasm] [inst R.PASM_TPL_CMD n] t ∧
        t.dev.fld (inst R.PASM_TPL_CMD n) 23 16 = 0 ∧
        t.dev.pasm = { s.dev.pasm with tpls := s.dev.pasm.tpls.set n y })) ∧
      (∀ r, tplCheck s.dev x = .error r → Ends (.templateLoadDone n) s (fun t =>
        s.frame [.pasm] [inst R.PASM_TPL_CMD n] t ∧ t.dev.pasm = { s.dev.pasm with tpls := s.dev.pasm.tpls.del n } ∧
        s.raised ⟨0x0907, 4, none, [(1, n), (1, r)]⟩ t))))

/-- R326, R327, R337, R341, R343, R353, R372: a segment and an assembly start, and end with their token list written; a mask
is written at the end of its sequence's record; a sequence that waited too long for blocks leaves its entry; the table is
read, but in the ROM phase (R454 of 17_power_reset_startup; log entry 84). That the lowest free lane is taken and a segment's
text read when it is complete is log entry 63; what a lane is busy with, log entry 132. -/
def Obligations.TextAndSequencesMoveOn : Prop :=
  (∀ (s : State) (l : Nat) (j : SegJob) (rest : List SegJob), s.dev.domOn 22 = true → s.dev.text.lanes.leastFree 0 8 = some l →
    sortBy (segBefore s.dev) s.dev.text.queue = j :: rest →
    Ends .segmentStart s (fun t => s.frame [.text] [] t ∧ t.dev.text = { s.dev.text with
      queue := s.dev.text.queue.erase j, lanes := s.dev.text.lanes.set l j })) ∧
  (∀ (s : State) (lane : Nat) (j : SegJob) (q : Request) (v : VocSlot), s.dev.text.lanes.get? lane = some j →
    s.dev.req? j.req = some q → s.dev.voc? q.vocab = some v →
    let r := q.segRef s.dev.mem j.idx
    let ps := segmentPieces (s.dev.segBuffers q.ctx r)
    let toks := tokenizePieces s.dev v false ps.1
    let inv := (ps.1.filter (fun p => !p.ok)).length
    Ends (.segmentDone lane) s (fun t => t.pending = s.pending ∧ t.tb = s.tb ∧
      s.regsBut [R.TEXT_SEGMENTS, R.TEXT_TOKENS_OUT, R.TEXT_INVALID_SEQ, R.TEXT_CARRIES] t ∧
      (∀ p : DevPart, p ≠ .regs → p ≠ .ev → p ≠ .mem → p ≠ .qm → p ≠ .text → p ≠ .pasm → p.same s.dev t.dev) ∧
      t.dev.text.lanes = s.dev.text.lanes.del lane ∧
      t.dev.reg R.TEXT_SEGMENTS = min (s.dev.reg R.TEXT_SEGMENTS + 1) 0xFFFFFFFF ∧
      t.dev.mem = (s.dev.winWrite q.ctx (fieldLe r 2 1) (fieldLe r 8 8)
        (tokenList (toks.take (fieldLe r 4 4)) toks.length inv (boolBit (fieldLe r 4 4 < toks.length)) q.vocab)).mem)) ∧
  (∀ (s : State) (j : Nat × Nat), s.dev.pasm.cur = none → s.dev.domOn 22 = true → s.dev.pasm.queue = [j] →
    Ends .assemblyStart s (fun t => s.frame [.pasm] [] t ∧
      t.dev.pasm = { s.dev.pasm with queue := [], cur := some j })) ∧
  (∀ (s : State) (rid k : Nat) (q : Request) (st : Stage) (x : Template), s.dev.pasm.cur = some (rid, k) →
    s.dev.req? rid = some q → q.stages[k]? = some st → s.dev.tpl? q.template = some x →
    let r := assemble x (q.budget x) (fun i => if i < q.userSegCount then some (s.dev.segTokens q i) else none)
      (rankedPassages s.dev q st)
    Ends .assemblyDone s (fun t => t.pending = s.pending ∧ t.tb = s.tb ∧
      s.regsBut [R.PASM_PROMPTS, R.PASM_PLACED, R.PASM_CUT, R.PASM_OVER] t ∧
      (∀ p : DevPart, p ≠ .regs → p ≠ .ev → p ≠ .mem → p ≠ .qm → p ≠ .text → p ≠ .pasm → p.same s.dev t.dev) ∧
      t.dev.pasm.cur = none ∧ t.dev.pasm.tpls = s.dev.pasm.tpls ∧
      t.dev.reg R.PASM_PROMPTS = min (s.dev.reg R.PASM_PROMPTS + 1) 0xFFFFFFFF ∧
      t.dev.mem = (s.dev.winWrite q.ctx (q.f 0x2C 1) (q.f 0x30 8) (tokenList (r.toks.take (q.f 0x38 4)) r.toks.length 0
        (boolBit (q.f 0x38 4 < r.toks.length)) x.vocab)).mem ∧
      ∃ q', t.dev.req? rid = some q' ∧ q'.promptTokens = r.toks.length ∧ q'.passages = r.placed)) ∧
  (∀ (s : State) (i m : Nat) (j : MaskJob) (e : SeqEnt) (q : Request) (v : VocSlot),
    s.dev.esp.engines.find? (fun p => p.2.ast == i) = some (m, j) → s.dev.esp.queue = [] → s.dev.ent? i = some e →
    s.dev.req? e.req = some q → s.dev.voc? (s.dev.mdlVocab e.model) = some v →
    let ok := (s.dev.seqMask q v e.autoSt e.autoStack).1
    let len := s.dev.maskLen e.model
    (List.range v.tokens).any ok = true →
    Ends (.espMaskDone i) s (fun t => s.frame [.mem, .esp, .seq] [R.ESP_MASKS, R.ESP_DEP_TOKENS, R.ESP_MASK_MAX] t ∧
      t.dev.esp = { s.dev.esp with engines := s.dev.esp.engines.del m } ∧
      t.dev.ent? i = some { e with maskDue := false } ∧
      t.dev.reg R.ESP_MASKS = min (s.dev.reg R.ESP_MASKS + 1) 0xFFFFFFFF ∧
      t.dev.mem = (s.dev.areaWrite e.model (e.record * s.dev.recLen e.model + s.dev.recLen e.model - len)
        (maskBytes v.tokens len ok)).mem)) ∧
  (∀ (s : State) (i : Nat) (e : SeqEnt), s.dev.ent? i = some e → risingKeys s.dev.seq.ast → e.kvWait = true →
    max 1 (s.dev.fld R.SEQ_CTRL 15 8) < e.wait →
    Ends (.kvWaitExpiry i) s (fun t => t.pending = s.pending ∧ t.tb = s.tb ∧ t.dev.mem = s.dev.mem ∧ t.dev.ent? i = none ∧
      (∀ k, k ≠ i → t.dev.ent? k = s.dev.ent? k) ∧ (e.stage = none → t.dev.seq.freeing = s.dev.seq.freeing))) ∧
  (∀ s : State,
    (s.dev.power.phase ≠ .rom → Ends .astData0Read s (fun t => s.frame [.port, .seq] [] t ∧
      t.dev.seq = { s.dev.seq with astCap := s.dev.astBytes (s.dev.fld R.SEQ_AST_SEL 12 0) } ∧
      t.dev.port = { s.dev.port with
        pendLo := none, rdata := BitVec.ofNat 32 (fieldLe (s.dev.astBytes (s.dev.fld R.SEQ_AST_SEL 12 0)) 0 4) })) ∧
    (s.dev.power.phase = .rom → Ends .astData0Read s (fun t => s.frame [.port] [] t ∧
      t.dev.port = { s.dev.port with pendLo := none, rdata := 0 })))

/-! ### Queues, contexts, windows (14_queues_contexts_isolation) -/

/-- R377, R378, R381, R384, R385, R398, R399, R502: doorbells, the fetch of a CANCEL, the beginning of a PIPELINE, enabling,
disabling and arming. That a CANCEL takes its target when it is fetched is log entries 74 and 133. -/
def Obligations.QueuePairCommands : Prop :=
  (∀ (s : State) (q v : Nat), s.settled →
    let x := s.dev.qp q
    let size := 2 ^ s.dev.sqLog q
    let c := s.dev.qpCtx q
    (65536 ≤ v ∨ x.st ≠ .active ∨ (s.dev.ctx c).st = .resetting → Ends (.doorbellSqTail q v) s (fun t =>
      s.frame [] [R.QM_DOORBELL_DISCARDS] t ∧ s.raised ⟨0x0B02, 4, some c, []⟩ t ∧
      t.dev.reg R.QM_DOORBELL_DISCARDS = min (s.dev.reg R.QM_DOORBELL_DISCARDS + 1) 0xFFFFFFFF)) ∧
    (v < 65536 → x.st = .active → (s.dev.ctx c).st ≠ .resetting →
      (size < idxDiff v x.sqTail ∨ size < idxDiff v x.sqHead → Ends (.doorbellSqTail q v) s (fun t =>
        s.frame [.qm, .host] [] t ∧ (t.dev.qp q).st = .error ∧ (t.dev.qp q).lastErr = 1 ∧ (t.dev.qp q).bells = [] ∧
        s.raised ⟨0x0B01, 4, some c, [(2, q), (1, 1)]⟩ t)) ∧
      (idxDiff v x.sqTail ≤ size → idxDiff v x.sqHead ≤ size → v ≠ x.sqTail → Ends (.doorbellSqTail q v) s (fun t =>
        s.frame [.qm, .host, .out] [] t ∧ (t.dev.qp q).sqTail = v ∧ (t.dev.qp q).sqHead = x.sqHead ∧
        (t.dev.qp q).bells = x.bells ++ [(v, s.tb.number,
          if s.tb.offset ≤ s.tb.point 140000 then s.tb.number + 1 else s.tb.number + 2)] ∧
        ∀ j, j ≠ q → t.dev.qp j = s.dev.qp j))) ∧
    (65536 ≤ v ∨ x.st = .disabled ∨ (s.dev.ctx c).st = .resetting → Ends (.doorbellCqHead q v) s (fun t =>
      s.frame [] [R.QM_DOORBELL_DISCARDS] t ∧ s.raised ⟨0x0B02, 4, some c, []⟩ t)) ∧
    (v < 65536 → x.st ≠ .disabled → (s.dev.ctx c).st ≠ .resetting → idxDiff v x.cqHead ≤ idxDiff x.cqTail x.cqHead →
      s.dev.qpIrq q = false → (∀ p, p ∈ s.dev.qm.reqs → p.2.qp = q → p.2.textOut = []) →
      Ends (.doorbellCqHead q v) s (fun t => s.frame [.qm] [] t ∧
        t.dev.qm = { s.dev.qm with qps := s.dev.qm.qps.set q { x with cqHead := v } })) ∧
    (∀ tag target, x.st = .active → Ends (.cancel q tag target) s (fun t => s.frame [.qm] [] t ∧
      ∃ j, t.dev.qm.cancels = s.dev.qm.cancels ++ [j] ∧ j.qp = q ∧ j.bytes.length = 256 ∧ fieldLe j.bytes 0 1 = 3 ∧
        fieldLe j.bytes 4 4 = tag % 2 ^ 32 ∧ fieldLe j.bytes 0x40 4 = target % 2 ^ 32 ∧
        (∀ rid, s.dev.tagged q (target % 2 ^ 32) = some rid → j.target = .admitted rid ∧ t.dev.qm.qps = s.dev.qm.qps ∧
          ∀ k r, s.dev.req? k = some r → t.dev.req? k = some
            (if k = rid ∧ s.dev.entered rid = true ∧ r.cancel = none then { r with cancel := some 0, conds := r.conds ++ [(3, 0)] }
             else r)) ∧
        (s.dev.tagged q (target % 2 ^ 32) = none →
          (∀ f, x.fetched.find? (fun f => fieldLe f.bytes 4 4 == target % 2 ^ 32) = some f → j.target = .fetched f.bytes ∧
            t.dev.qm.reqs = s.dev.qm.reqs ∧ t.dev.qp q = { x with fetched := x.fetched.erase f }) ∧
          (x.fetched.find? (fun f => fieldLe f.bytes 4 4 == target % 2 ^ 32) = none → j.target = .none ∧
            t.dev.qm = { s.dev.qm with cancels := s.dev.qm.cancels ++ [j] }))))) ∧
  (∀ (s : State) (req : Nat) (q : Request), s.dev.req? req = some q → q.isPipeline = true → q.begun = false →
    q.cancel = none → Ends (.pipeline req) s (fun t => s.frame [.qm, .text, .pasm] [] t ∧
      (∃ q', t.dev.req? req = some q' ∧ q'.begun = true ∧ q'.userSegs = (q.userSegCount == 0)) ∧
      (∀ j, j ≠ req → t.dev.req? j = s.dev.req? j) ∧
      ∃ l, t.dev.text.queue = s.dev.text.queue ++ (List.range q.userSegCount).map (fun i => ⟨req, i, none⟩) ++ l)) ∧
  (∀ (s : State) (q : Nat), q < 4096 → s.dev.power.phase ≠ .rom →
    let x := s.dev.qp q
    (x.st = .disabled → Ends (.qpEnable q) s (fun t => s.frame [.port, .qm] [qpReg R.QM_QP_CTRL q] t ∧
      t.dev.fld (qpReg R.QM_QP_CTRL q) 31 31 = 1 ∧ t.dev.qm = { s.dev.qm with
        qps := s.dev.qm.qps.set q { offQp with st := .active, armed := s.dev.qpIrq q } })) ∧
    (∀ m, x.st = .active → x.fetched = [] → Ends (.qpDisable q m) s (fun t =>
      s.frame [.port, .qm, .host] [qpReg R.QM_QP_CTRL q] t ∧ t.dev.fld (qpReg R.QM_QP_CTRL q) 31 31 = 0 ∧
      t.dev.qm = { s.dev.qm with
        qps := s.dev.qm.qps.set q
          { x with st := .draining, abort := m % 2 == 1, bells := [], fetched := [], requested := x.sqHead } })) ∧
    (Ends (.qpIrqArm q 0) s (fun t => s.frame [.port, .qm] [qpReg R.QM_QP_CTRL q] t ∧
      t.dev.fld (qpReg R.QM_QP_CTRL q) 27 27 = 0 ∧ t.dev.qp q = { x with armed := false })) ∧
    (x.st = .active → x.cqTail = x.cqHead → Ends (.qpIrqArm q 1) s (fun t =>
      s.frame [.port, .qm] [qpReg R.QM_QP_CTRL q] t ∧ t.dev.fld (qpReg R.QM_QP_CTRL q) 27 27 = 1 ∧
      t.dev.qp q = { x with armed := true })))

/-- R374, R373, R399 to R401, R404, R395: the commands of the selected context, its windows and its reserves. That reserved
bits of a QM_C0 value are ignored is log entry 76; that handoffs which a RESETTING context issued close at the next boundary,
log entry 78. -/
def Obligations.ContextAndWindowCommands : Prop :=
  ∀ s : State, s.dev.power.phase ≠ .rom →
    let c := s.dev.ctxSel
    let n := s.dev.winSel
    let x := s.dev.ctx c
    (x.st = .off → Ends .ctxEnable s (fun t => s.frame [.port, .qm] [inst R.QM_CTX_CTRL c] t ∧
      t.dev.fld (inst R.QM_CTX_CTRL c) 31 31 = 1 ∧
      t.dev.qm = { s.dev.qm with ctxs := s.dev.qm.ctxs.set c { x with enabling := true } })) ∧
    (∀ m, x.st = .active → s.dev.liveQps c = [] → Ends (.ctxDisable m) s (fun t =>
      s.frame [.port, .qm] [inst R.QM_CTX_CTRL c] t ∧ t.dev.fld (inst R.QM_CTX_CTRL c) 31 31 = 0 ∧
      (t.dev.ctx c).st = .draining ∧ ∀ k, k ≠ c → t.dev.ctx k = s.dev.ctx k)) ∧
    (x.st ≠ .resetting → Ends .ctxReset s (fun t => s.frame [.port, .qm, .plots] [] t ∧ (t.dev.ctx c).st = .resetting ∧
      (∀ k, k ≠ c → t.dev.ctx k = s.dev.ctx k) ∧
      (∀ k q, s.dev.req? k = some q → t.dev.req? k = some (if q.ctx = c then q.resetCancel else q)) ∧
      t.dev.plots = { s.dev.plots with handoffs := t.dev.plots.handoffs } ∧
      ∀ k h, s.dev.handoff? k = some h → t.dev.handoff? k = some
        (if h.ctx = c ∧ furLt (s.tb.number + 1) h.deadline = true then { h with deadline := s.tb.number + 1 } else h))) ∧
    (x.st = .faulted → Ends .ctxResume s (fun t => s.frame [.port, .qm] [] t ∧
      t.dev.qm = { s.dev.qm with ctxs := s.dev.qm.ctxs.set c { x with resume := true } })) ∧
    Ends .winCommit s (fun t => s.frame [.port, .qm] [] t ∧
      t.dev.qm = { s.dev.qm with checks := s.dev.qm.checks ++ [(c, n, s.dev.stagedWin c n)] }) ∧
    ((x.win n).tier < 4 → (x.win n).base < 2 ^ 44 → (x.win n).size < 2 ^ 44 →
      Ends .winFetch s (fun t => s.frame [.port] [winReg R.QM_WIN_ATTR c n, winReg R.QM_WIN_BASE_LO c n,
        winReg R.QM_WIN_BASE_HI c n, winReg R.QM_WIN_SIZE_LO c n, winReg R.QM_WIN_SIZE_HI c n] t ∧
        t.dev.stagedWin c n = x.win n)) ∧
    (∀ a k w l, s.dev.qm.checks = (a, k, w) :: l →
      (winCheck s.dev a w = 0 → Ends .winCheckDone s (fun t => s.frame [.qm] [] t ∧ t.dev.qm.checks = l ∧
        t.dev.ctx a = { s.dev.ctx a with pendWins := (s.dev.ctx a).pendWins.set k w } ∧
        t.dev.qm.winLast.get? (16 * a + k) = some 0)) ∧
      (s.settled → winCheck s.dev a w ≠ 0 → Ends .winCheckDone s (fun t => s.frame [.qm] [] t ∧ t.dev.qm.checks = l ∧
        t.dev.qm.ctxs = s.dev.qm.ctxs ∧ s.raised ⟨0x0B03, 4, some a, [(1, k), (1, winCheck s.dev a w)]⟩ t))) ∧
    (∀ v, v < 2 ^ 32 →
      (resReason s.dev c (bits 28 16 v * 65536 + bits 11 0 v) = 0 →
        Ends (.qmResWrite R.QM_CTX_RES v) s (fun t => s.frame [.port, .qm] [R.QM_CFG_STATUS] t ∧
          t.dev.fld R.QM_CFG_STATUS 23 16 = 0 ∧ t.dev.qm = { s.dev.qm with
            stagedRes := s.dev.qm.stagedRes.set c (bits 28 16 v * 65536 + bits 11 0 v) })) ∧
      (classesOk s.dev c (bits 27 25 v) = true →
        Ends (.qmResWrite R.QM_CTX_CTRL v) s (fun t => s.frame [.port, .qm] [R.QM_CFG_STATUS] t ∧
          t.dev.qm = { s.dev.qm with stagedClasses := s.dev.qm.stagedClasses.set c (bits 27 25 v) })) ∧
      (∀ a, a ∈ [R.QM_C0_PREFILL, R.QM_C0_DEPTH, R.QM_C0_SIEVE, R.QM_C0_UNITS] → c0Reason s.dev a (c0Bits a v) = 0 →
        Ends (.qmResWrite a v) s (fun t => s.frame [.port, .qm] [R.QM_CFG_STATUS] t ∧
          t.dev.qm = { s.dev.qm with stagedC0 := s.dev.qm.stagedC0.set a (c0Bits a v) })))

/-! ### The tier mover (05_central_store_and_tiers) -/

/-- R159: a command that comes while another is checked is discarded; one that is accepted has its effect (R150, R160, R161),
and RESULT and OBJECT are given when its check ends (that OBJECT names a COPY's destination, and a refused command's object,
is log entries 93 and 108). A COPY and a FILL between LPDDR5X objects end with their bytes copied once what is left of them
finds the capacity that admission leaves of the furrow (R162, log entry 123). -/
def Obligations.TierCommands : Prop :=
  (∀ (s : State) (c : Instr), c ∈ [.tierCreate, .tierSeal, .tierCopy, .tierFill, .tierRelease, .tierReservedOp] → s.settled →
    s.dev.power.phase ≠ .rom → s.dev.store.cmdResult ≠ none → Ends c s (fun t => s.frame [.port] [] t)) ∧
  (∀ s : State, s.dev.power.phase ≠ .rom → s.dev.store.cmdResult = none →
    let w := cmdWord s.dev
    let id := bits 15 0 (w 1)
    let dst := bits 31 16 (w 1)
    (cmdOp s.dev = 1 → (tierCreate s.tb s.dev.dropPend).1 = 0 → Ends .tierCreate s (fun t =>
      s.frame [.port, .store, .flash] [] t ∧ ∃ i o, s.dev.freeId = some i ∧
        t.dev.store.cmdResult = some (0, i) ∧ t.dev.obj? i = some o ∧ o.tier = bits 1 0 (w 1) ∧ o.kind = bits 23 16 (w 0) ∧
        o.owner = (if bit 15 (w 0) then none else some (bits 9 0 (w 0))) ∧ o.size = w 2 + 2 ^ 32 * w 3 ∧
        o.st = (if bits 1 0 (w 1) = 1 then .shareObject else .building) ∧ ∀ j, j ≠ i → t.dev.obj? j = s.dev.obj? j)) ∧
    (cmdOp s.dev = 2 → cmdReserved s.dev 2 = false → s.dev.store.ops.length < 64 → ∀ o, s.dev.obj? id = some o →
      o.st = .building → Ends .tierSeal s (fun t => s.frame [.port, .store, .flash] [] t ∧
        t.dev.store.cmdResult = some (0, id) ∧ t.dev.obj? id = some { o with st := .sealing } ∧
        t.dev.store.ops = s.dev.store.ops ++ [⟨2, id, 0, 0, 0, 0, false, 0, []⟩])) ∧
    (cmdOp s.dev = 3 → (tierCopy s.tb s.dev.dropPend).1 = 0 → Ends .tierCopy s (fun t =>
      s.frame [.port, .store, .flash] [] t ∧ t.dev.store.cmdResult = some (0, dst) ∧ t.dev.store.ops = s.dev.store.ops ++
        [⟨3, dst, id, w 2 + 2 ^ 32 * w 3, w 4 + 2 ^ 32 * w 5, w 6 + 2 ^ 32 * w 7, false, 0, []⟩])) ∧
    (cmdOp s.dev = 4 → (tierFill s.tb s.dev.dropPend).1 = 0 → Ends .tierFill s (fun t =>
      s.frame [.port, .store] [R.TIER_EVICTIONS] t ∧ ∃ i o p, s.dev.obj? id = some o ∧
        t.dev.store.cmdResult = some (0, i) ∧ t.dev.obj? i = some p ∧ p.tier = 1 ∧ p.st = .sealing ∧ p.size = o.size ∧
        p.kind = o.kind ∧ p.src = id ∧ t.dev.store.ops = s.dev.store.ops ++ [⟨4, i, id, 0, 0, o.size, false, 0, []⟩])) ∧
    (cmdOp s.dev = 5 → cmdReserved s.dev 5 = false → s.dev.store.ops.length < 64 → ∀ o, s.dev.obj? id = some o →
      o.st = .building ∨ o.st = .sealed ∨ o.st = .shareObject → Ends .tierRelease s (fun t =>
        s.frame [.port, .store, .flash] [] t ∧ t.dev.store.cmdResult = some (0, id) ∧
        t.dev.obj? id = some { o with st := .retiring } ∧
        t.dev.store.ops = s.dev.store.ops ++ [⟨5, id, 0, 0, 0, 0, false, 0, []⟩])) ∧
    (cmdOp s.dev = 0 ∨ 5 < cmdOp s.dev → Ends .tierReservedOp s (fun t => s.frame [.port, .store] [] t ∧
      t.dev.store = { s.dev.store with cmdResult := some (1, 0) }))) ∧
  (∀ (s : State) (r o : Nat), s.dev.store.cmdResult = some (r, o) → r < 256 → o < 65536 →
    Ends .tierCmdCheckDone s (fun t => s.frame [.store] [R.TIER_CMD_STATUS] t ∧
      t.dev.store = { s.dev.store with cmdResult := none } ∧ t.dev.fld R.TIER_CMD_STATUS 15 0 = o ∧
      t.dev.fld R.TIER_CMD_STATUS 23 16 = r)) ∧
  (∀ (s : State) (i : Nat) (d : Device) (x : TierOp) (a b : Obj), d = s.dev.catchUp s.tb.offset none →
    s.dev.store.ops[i]? = some x → d.store = s.dev.store → d.obj? x.src = some a → d.obj? x.obj = some b → a.tier = 2 →
    d.opFits s.tb.number.toNat x (d.opLines x) = true →
    ∀ cl, (x.op = 3 → b.tier = 2 → d.ev.raised = [] → Ends (.tierOpDone i ⟨none, cl⟩) s (fun t => t.pending = s.pending ∧ t.tb = s.tb ∧
      t.dev.mem = d.mem.copy (a.base + x.srcOff) (b.base + x.dstOff) x.len ∧
      t.dev.store.ops = s.dev.store.ops.eraseIdx i ∧
      State.raised ⟨0x0305, 4, none, [(2, x.obj), (1, 0)]⟩ { s with dev := d } t)) ∧
    (x.op = 4 → x.copied = false → Ends (.tierOpDone i ⟨none, cl⟩) s (fun t => t.pending = s.pending ∧ t.tb = s.tb ∧
      t.dev.mem = d.mem.copy a.base b.base x.len ∧
      t.dev.store.ops = s.dev.store.ops.set i { x with copied := true } ∧ t.dev.store.objects = s.dev.store.objects)))

/-! ### Cartridges (15_index_cartridges) -/

/-- R409, R411, R412, R420, R428, R429, R485, R517: the slots. A cartridge is inserted and comes back as it was pulled; its
power, authentication by its chain and its signature, training and mount succeed or fail; it is removed, reset, held for its
temperature, or loses its supply; its health is read (R431). The model's choices: which slot is powered next and what a slot
under reset reads (log entry 55), that a pulled cartridge comes back as it was (log entry 59), and how certificates and
signatures stand in the state (log entry 126). -/
def Obligations.CartridgeSlots : Prop :=
  (∀ (s : State) (n life tw : Nat) (id : CartIdent) (foreign blank : Bool) (x : FlashSlot), s.settled → x = s.dev.slot n →
    n < 4 → x.st = .empty → x.cart = none → Ends (.cartInsert n id life tw foreign blank) s (fun t =>
      State.slotIs n [] (fun y => y = { emptySlot with
        st := .detected, failReason := x.failReason, cart := some ((s.dev.flash.pulled.find? (fun c =>
          c.serial == BitVec.ofNat 64 id.serial)).getD (newCart id life tw foreign blank)) }) s t ∧
      s.raised ⟨0x0C01, 4, none, [(1, n)]⟩ t)) ∧
  (∀ (s : State) (n : Nat) (x : FlashSlot) (c : Cart), s.settled → x = s.dev.slot n → x.cart = some c →
    Ends (.cartPull n) s (fun t =>
      State.slotIs n [] (fun y => y = { emptySlot with failReason := x.failReason }) s t ∧
      t.dev.flash.pulled = s.dev.flash.pulled ++ [c] ∧ (∀ r, r ∈ t.dev.flash.reads → r.slot ≠ n) ∧
      (x.st ≠ .removable → x.st ≠ .failed → x.st ≠ .empty → s.raised ⟨0x0C06, 4, none, [(1, n)]⟩ t))) ∧
  (∀ (s : State) (n : Nat) (x : FlashSlot), s.settled → x = s.dev.slot n →
    (x.st = .powering → Ends (.slotPowerGood n) s (fun t =>
      s.frame [.flash, .free] [] t ∧ (∀ m, m ≠ n → t.dev.slot m = s.dev.slot m) ∧
      t.dev.slot n = { x with
        st := .authenticating, authDone := false, challenge := if s.dev.rngOk then some s.dev.draw48 else none } ∧
      s.raised ⟨0x0E04, 4, none, [(1, 26 + n)]⟩ t)) ∧
    (∀ (c : Cart) (ch : List Byte) (g : CartSig), x.cart = some c →
      (∀ k, c.ident.chain = [k] → (c.authReason ch g = 0 ↔ k.form = true ∧ k.digitalSignature = true ∧
        k.serial = c.ident.serial ∧ k.signer = 0 ∧ g.key = k.key ∧ g.digest = sha384 (ch ++ leBytes 8 c.ident.serial) ∧
        c.ident.paramsOk = true)) ∧
      (∀ k m, c.ident.chain = [k, m] → (c.authReason ch g = 0 ↔ k.form = true ∧ k.digitalSignature = true ∧
        k.serial = c.ident.serial ∧ k.signer = m.key ∧ m.form = true ∧ m.signer = 0 ∧ g.key = k.key ∧
        g.digest = sha384 (ch ++ leBytes 8 c.ident.serial) ∧ c.ident.paramsOk = true)) ∧
      (x.st = .authenticating → x.authDone = false → x.supplied = true → x.challenge = some ch →
        (c.authReason ch g = 0 → Ends (.authDone n g) s (State.slotIs n [] (fun y => y = { x with authDone := true }) s)) ∧
        (∀ r, c.authReason ch g = r → r ≠ 0 → Ends (.authDone n g) s (fun t =>
          State.slotIs n [] (fun y => y.st = .failed ∧ y.failReason = r ∧ y.cart = x.cart ∧ y.map = []) s t ∧
          s.raised ⟨0x0C02, 4, none, [(1, n), (1, r)]⟩ t)))) ∧
    (x.st = .authenticating → x.authDone = false →
      Ends (.authTimeout n) s (fun t =>
        State.slotIs n [] (fun y => y.st = .failed ∧ y.failReason = 1 ∧ y.cart = x.cart ∧ y.map = []) s t ∧
        s.raised ⟨0x0C02, 4, none, [(1, n), (1, 1)]⟩ t)) ∧
    (x.st = .authenticating → x.authDone = true → x.supplied = true →
      Ends (.onfiTrainingDone n) s (State.slotIs n [] (fun y => y = { x with st := .mounting }) s)) ∧
    (∀ c, x.st = .mounting → x.cart = some c →
      (x.supplied = true → (∃ k, c.sysKey = some k ∧ c.sysForeign = false) ∨ (c.sysKey = none ∧ s.dev.rngOk = true) →
        ∀ found k, (if c.sysKey = none then k = ⟨[], []⟩ else c.readableCkpt found.segs = some k) →
        Ends (.mountDone n found) s (fun t =>
          s.frame [.flash, .store] [R.SEC_UNWRAP_FAILS, inst R.FLASH_FOLD_RESTARTS n] t ∧ s.counted 0x0C03 t ∧
          ((∀ e, e ∈ c.dir → e.2.st ≠ .building ∧ e.2.st ≠ .sealing) → ∀ m, m ≠ n → t.dev.slot m = s.dev.slot m) ∧
          (t.dev.slot n).st = .ready ∧ (t.dev.slot n).offline = false ∧
          ∃ z, (t.dev.slot n).cart = some z ∧ z.sysKey = some (c.sysKey.getD s.dev.flash.nextKey) ∧
            z.pages = (if c.sysKey = none then [] else c.pages) ∧ (t.dev.slot n).map = z.rebuild n k found.spares)) ∧
      (∀ found : MountRead, (c.sysKey ≠ none ∧ (c.sysForeign = true ∨ c.readableCkpt found.segs = none)) ∨ x.supplied = false →
        Ends (.mountDone n found) s (fun t => s.counted 0x0C04 t ∧ State.slotIs n [R.SEC_UNWRAP_FAILS] (fun y =>
          y.st = .failed ∧ y.failReason = 5 ∧ y.cart = x.cart ∧ y.map = [] ∧
          (y.unwrapFail = true ↔ c.sysKey ≠ none ∧ c.sysForeign = true)) s t))) ∧
    (x.st.power ≠ 0 → Ends (.vcartSwitchOpen n) s (State.slotIs n [] (fun y => y = { x with vcartOpen := true }) s)) ∧
    (x.st = .draining →
      (s.dev.drained n = true → Ends (.drainDone n) s (fun t => s.counted 0x0C05 t ∧
        (∀ r, r ∈ t.dev.flash.reads → r.slot ≠ n) ∧ (x.force = false → x.dirty = []) ∧
        State.slotIs n [] (fun y => y.st = .removable ∧ y.map = [] ∧
          ∀ c, x.cart = some c → ∃ z, y.cart = some z ∧ z.pages = c.pages ∧ z.ckpts = c.ckpts) s t)) ∧
      (s.dev.drained n = false → Ends (.drainDone n) s (s.frame [] []))) ∧
    Ends (.slotResetOffDone n) s (State.slotIs n [] (fun y =>
      y.resetting = false ∧ y.st = x.st ∧ y.cart = x.cart ∧ y.map = x.map) s) ∧
    (∀ tp, x.authentic = none → Ends (.tempHoldEnter n tp) s (fun t => t = s) ∧ Ends (.tempHoldExit n tp) s (fun t => t = s)) ∧
    (∀ c tp, x.authentic = some c →
      (x.tempHold = false → toSigned 8 c.tWriteMax < toSigned 8 tp → Ends (.tempHoldEnter n tp) s (fun t =>
        State.slotIs n [] (fun y => y.tempHold = true ∧ y.temp = tp % 256 ∧ y.st = x.st) s t ∧
        s.raised ⟨0x0C0B, 4, none, [(1, n)]⟩ t)) ∧
      (x.tempHold = true → toSigned 8 tp + 5 ≤ toSigned 8 c.tWriteMax → Ends (.tempHoldExit n tp) s
        (State.slotIs n [] (fun y => y.tempHold = false ∧ y.temp = tp % 256 ∧ y.st = x.st) s)))) ∧
  (∀ (s : State) (n : Nat) (x : FlashSlot), s.dev.power.phase ≠ .rom → n = s.dev.slotSel → x = s.dev.slot n →
    (x.st = .ready → s.dev.inTransit = false → ∀ f, Ends (if f then .forceRemove else .remove) s (fun t =>
      s.frame [.flash, .port] [] t ∧ (∀ m, m ≠ n → t.dev.slot m = s.dev.slot m) ∧
      t.dev.slot n = x.drain f)) ∧
    (x.st ≠ .empty → Ends .slotReset s (fun t =>
      s.frame [.flash, .port] [] t ∧ (∀ m, m ≠ n → t.dev.slot m = s.dev.slot m) ∧
      (t.dev.slot n).st = .detected ∧ (t.dev.slot n).resetting = true ∧ (t.dev.slot n).map = [] ∧
      (t.dev.slot n).chans = [] ∧ (t.dev.slot n).readOnly = false ∧
      (∀ c, x.cart = some c → ∃ z, (t.dev.slot n).cart = some z ∧ z.pages = c.pages) ∧
      ∀ r, r ∈ t.dev.flash.reads → r.slot ≠ n)) ∧
    Ends .health s (fun t => s.frame [.port] ((List.range 64).map (fun w => R.FLASH_HEALTH0 + 4 * w)) t ∧
      ∀ w, w < 64 → t.dev.reg (R.FLASH_HEALTH0 + 4 * w) = fieldLe (healthRecord s.dev n) (4 * w) 4))

/-- R414, R417, R420 to R427: namespaces are made and deleted; pages are read and programmed, superblocks erased, folded,
relocated and refreshed, and checkpoints begun. (The order of the checks of NS_CREATE is log entry 56.) A read is tried up to
four times (R426); a wordline is programmed where its transfers fit into what its channel has left (R407). -/
def Obligations.FlashMediaWork : Prop :=
  (∀ (s : State) (ns cfg quota : Nat), s.dev.power.phase ≠ .rom → s.dev.rngOk = true → ns = s.dev.nsSel →
    cfg = s.dev.reg (inst R.FLASH_NS_CFG ns) → quota = s.dev.reg (inst R.FLASH_NS_QUOTA ns) →
    Ends .nsCreate s (fun t => s.frame [.flash, .port] [R.FLASH_NS_CMD] t ∧
      (t.dev.fld R.FLASH_NS_CMD 23 16 ≠ 0 → t.dev.flash = s.dev.flash) ∧
      (t.dev.fld R.FLASH_NS_CMD 23 16 = 0 ↔ ns ≠ 0 ∧ s.dev.nsSlots ns = [] ∧ bits 27 24 cfg ≠ 0 ∧
        ∀ m, m ∈ slotList (bits 27 24 cfg) → (s.dev.slot m).st = .ready ∧ (s.dev.slot m).readOnly = false ∧
          ∀ c, (s.dev.slot m).cart = some c → c.nss.length < 256 ∧
            quota + (c.nss.map (fun n => n.2.quota)).sum ≤ 1953125008) ∧
      (t.dev.fld R.FLASH_NS_CMD 23 16 = 0 → ∀ m c, m ∈ slotList (bits 27 24 cfg) → (s.dev.slot m).cart = some c →
        ∃ z n, (t.dev.slot m).cart = some z ∧ z.pages = c.pages ∧ z.nss = c.nss.set ns n ∧
          n.owner = (if bit 31 cfg then none else some (bits 9 0 cfg)) ∧ n.slots = bits 27 24 cfg ∧ n.quota = quota))) ∧
  (∀ (s : State) (ns m0 : Nat) (n : FlashNs), s.dev.power.phase ≠ .rom → ns = s.dev.nsSel →
    (s.dev.nsSlots ns).head? = some m0 → s.dev.nsOn ns m0 = some n →
    (∀ p, p ∈ s.dev.store.objects → p.2.tier = 3 → p.2.ns ≠ ns) →
    (∀ m, m ∈ slotList n.slots → (s.dev.slot m).st = .ready ∧ (s.dev.slot m).readOnly = false ∧
      ∀ c, (s.dev.slot m).cart = some c → ∀ p, p ∈ c.dir → p.2.ns ≠ ns) →
    Ends .nsDelete s (fun t => s.frame [.flash, .port] [R.FLASH_NS_CMD] t ∧ t.dev.fld R.FLASH_NS_CMD 23 16 = 0 ∧
      (∀ m, m ∉ slotList n.slots → t.dev.slot m = s.dev.slot m) ∧
      ∀ m c, m ∈ slotList n.slots → (s.dev.slot m).cart = some c →
        (∃ z, (t.dev.slot m).cart = some z ∧ z.nss = c.nss.del ns ∧ z.pages = c.pages ∧ z.dir = c.dir) ∧
        ∀ e, e ∈ (t.dev.slot m).map → e ∈ (s.dev.slot m).map ∧ ∀ p, c.pages.get? e.2 = some p → p.nsid ≠ ns)) ∧
  (∀ (s : State) (i : Nat) (res : ReadTry) (r : FlashRead) (x : FlashSlot), s.settled → s.dev.flash.reads[i]? = some r →
    readAllowed s.dev s.tb.number.toNat r = true → x = s.dev.slot r.slot →
    let gone := s.dev.flash.reads.eraseIdx i
    let fails (p : Nat) : Prop := r.src = .page p ∧ (res.ok = false ∨ x.supplied = false)
    let up (t : State) (a n : Nat) : Prop := t.dev.reg (inst a r.slot) = min (s.dev.reg (inst a r.slot) + n) 0xFFFFFFFF
    Ends (.flashReadDone i res) s (fun t =>
      ((∀ p, p ∈ s.dev.brx.jobs → p.2.kind ≠ 1) →
        State.slotIs r.slot [inst R.FLASH_READS r.slot, inst R.FLASH_RETRIES r.slot, inst R.FLASH_UNCORR r.slot]
          (fun y => y.map = x.map) s t ∧
        ∀ p, fails p → 3 ≤ r.tries →
          s.raised ⟨0x0C07, 4, none, [(1, r.slot), (8, r.lpn), (2, s.dev.nsOfLpn r.slot r.lpn)]⟩ t) ∧
      (r.src = .zero ∨ r.src = .offline ∨ r.src = .keyless → t.dev.flash.reads = gone ∧
        t.dev.reg (inst R.FLASH_READS r.slot) = s.dev.reg (inst R.FLASH_READS r.slot)) ∧
      (∀ p, r.src = .page p → res.ok = true → x.supplied = true →
        t.dev.flash.reads = gone ∧ up t R.FLASH_READS 1 ∧ up t R.FLASH_RETRIES (min r.tries 3)) ∧
      (∀ p, fails p → r.tries < 3 → ∃ l, t.dev.flash.reads = s.dev.flash.reads.set i { r with tries := r.tries + 1, sets := l } ∧
        t.dev.reg (inst R.FLASH_READS r.slot) = s.dev.reg (inst R.FLASH_READS r.slot) ∧
        (0 < r.tries → l = r.sets.tail) ∧
        (r.tries = 0 → ∀ c, x.cart = some c → l = (c.readSets p res.temp s.tb).tail)) ∧
      (∀ p, fails p → 3 ≤ r.tries →
        t.dev.flash.reads = gone ∧ up t R.FLASH_READS 1 ∧ up t R.FLASH_RETRIES 3 ∧ up t R.FLASH_UNCORR 1) ∧
      ∀ h it, r.user = .text h it → r.src = .offline ∨ r.src = .keyless ∨ (3 ≤ r.tries ∧ ∃ p, fails p) →
        (h, it) ∈ t.dev.flash.failed)) ∧
  (∀ (s : State) (n ch : Nat) (x : FlashSlot) (c : Cart) (h : FlashChan), s.settled → x = s.dev.slot n →
    x.cart = some c → h = x.chan ch → x.st = .ready → x.tempHold = false → x.vcartOpen = false →
    (∀ stream k slc w w' q rep, stream ≤ 2 → q = x.waiting ch stream → q ≠ [] →
      streamSb s.dev n ch stream c = some (slc, k) → w = (if slc then 1 else 3) → w ≤ q.length ∨ stream ≠ 0 →
      w' = (c.sb k).nextWl → (∀ j, rep.classes.getD j 0 < 4) →
      wordlineNeed w (q.take w) rep.classes - h.paid.getD stream 0 ≤ s.dev.streamLeft s.tb.number.toNat n ch stream →
      (rep.ok = true → Ends (.flashProgramDone n ch stream rep) s (fun t =>
        State.slotIs n [inst R.FLASH_PROGRAMS n, inst R.FLASH_READS n, inst R.FLASH_RETRIES n] (fun y =>
          (y.chan ch).queue.getD stream [] = q.drop w ∧ ∃ z, y.cart = some z ∧ (z.sb k).next = w' + 1 ∧
            ∀ j g, j < w → q[j]? = some g → ∃ p, z.pages.get? (wlPage ch k w' j slc) = some p ∧
              p.lpn = g.lpn ∧ p.nsid = g.nsid ∧ p.key = g.key ∧ p.filler = g.filler ∧ p.seq = h.seq + j ∧
              p.furrow = s.tb.number ∧ p.temp = rep.temp % 256) s t ∧
        t.dev.reg (inst R.FLASH_PROGRAMS n) = min (s.dev.reg (inst R.FLASH_PROGRAMS n) + w) 0xFFFFFFFF)) ∧
      (rep.ok = false → Ends (.flashProgramDone n ch stream rep) s (fun t =>
        State.slotIs n [inst R.FLASH_READS n, inst R.FLASH_RETRIES n] (fun y =>
          ((y.chan ch).queue.getD stream []).map (·.lpn) = q.map (·.lpn) ∧ y.map = x.map ∧
          (y.chan ch).failed.get? stream = some k ∧ k ∈ (y.chan ch).openSbs.getD stream [] ∧
          ∃ z, y.cart = some z ∧ z.pages = c.pages ∧ (z.sb k).retired = (c.sb k).retired ++ [w' % 32]) s t ∧
        s.raised ⟨0x0C08, 4, none, [(1, n)]⟩ t))) ∧
    (∀ b k, k = 3800 * ch + b → (c.sb k).st = .erase → x.validIn k = [] →
      s.dev.readsOut n (fun p => sbOfPhys p == k) = false →
      Ends (.flashEraseDone n ch b true) s (fun t => State.slotIs n [inst R.FLASH_ERASES n] (fun y =>
        y.map = x.map ∧ ∃ z, y.cart = some z ∧ (z.sb k).st = .free ∧ (z.sb k).next = 0 ∧
          (z.sb k).wear = (c.sb k).wear + (if (c.sb k).slc then 1 else 10) ∧
          ∀ p, p ∈ z.pages ↔ p ∈ c.pages ∧ sbOfPhys p.1 ≠ k) s t ∧
        t.dev.reg (inst R.FLASH_ERASES n) = min (s.dev.reg (inst R.FLASH_ERASES n) + 1) 0xFFFFFFFF) ∧
      Ends (.flashEraseDone n ch b false) s (State.slotIs n [] (fun y => y = { x with cart := some (c.bump 0x4C 1) }) s)) ∧
    (∀ k, h.fold = none → foldDue s.tb s.dev n ch c h = true → c.leastWorn ch (s.dev.slcRegion n) 3800 = some k →
      Ends (.foldStart n ch) s (State.slotIs n [] (fun y => y.map = x.map ∧
        (y.chan ch).fold = some ⟨s.dev.flash.nextFold, [k], foldSources s.dev n ch c, []⟩ ∧
        (y.chan ch).queue.getD 1 [] = moveQueue c ((foldSources s.dev n ch c).flatMap x.validIn) ∧
        ∃ z, y.cart = some z ∧ z.pages = c.pages ∧ (z.sb k).st = .openSb ∧ (z.sb k).slc = false) s)) ∧
    (∀ f, h.fold = some f → x.waiting ch 1 = [] → h.openSbs.getD 1 [] = [] →
      Ends (.foldCommit n ch) s (fun t => State.slotIs n [inst R.FLASH_FOLDS n] (fun y => (y.chan ch).fold = none ∧
        (∃ z l, y.cart = some z ∧ z.pages = c.pages ∧ z.commits = c.commits ++ [(ch, f.id, l)] ∧
          ∀ k, k ∈ f.sources → (c.sb k).st = .full → y.validIn k = [] → k ∈ l ∧ (y.foldTarget k = false → (z.sb k).st = .erase)) ∧
        (∀ l, (∀ m, m ∈ f.moves → m.1 ≠ l) → y.map.get? l = x.map.get? l) ∧
        ((f.moves.map (·.1)).Nodup → ∀ m, m ∈ f.moves →
          y.map.get? m.1 = (if x.map.get? m.1 = some m.2.1 then some m.2.2 else x.map.get? m.1))) s t ∧
        t.dev.reg (inst R.FLASH_FOLDS n) = min (s.dev.reg (inst R.FLASH_FOLDS n) + 1) 0xFFFFFFFF)) ∧
    (x.ckpt = none → x.ckptDue s.tb = true → Ends (.checkpoint n) s (State.slotIs n [] (fun y => y.map = x.map ∧
      (x.dirty = [] → y.ckpt = none ∧ ∃ z k, y.cart = some z ∧ z.ckpts.head? = some k ∧ k.map = x.map) ∧
      (x.dirty ≠ [] → y.cart = x.cart ∧ ∃ r, y.ckpt = some r ∧ r.snap.map = x.map ∧ r.left = x.dirty)) s)) ∧
    (h.moving = none → c.freeCount ch (s.dev.slcRegion n) < 96 →
      (∃ p, p ∈ c.chanSbs ch ∧ p.2.st = .full ∧ s.dev.slcRegion n ≤ p.1 % 3800) →
      Ends (.relocationStart n ch) s (State.slotIs n [] (fun y => y.map = x.map ∧
        ∃ b, b ∈ c.chanSbs ch ∧ b.2.st = .full ∧ s.dev.slcRegion n ≤ b.1 % 3800 ∧ x.moves c ch b.1 y ∧
          ∀ p, p ∈ c.chanSbs ch → p.2.st = .full → s.dev.slcRegion n ≤ p.1 % 3800 →
            (x.validIn b.1).length ≤ (x.validIn p.1).length) s)) ∧
    (∀ b k, h.moving = none → k = 3800 * ch + b →
      ((c.sb k).st = .full ∨ ((c.sb k).st = .openSb ∧ x.foldTarget k = false) → refreshDue s.dev n k c s.tb = true →
        Ends (.refreshStart n ch b) s (fun t => State.slotIs n [inst R.FLASH_REFRESHES n] (fun y => y.map = x.map ∧
          x.moves c ch k y) s t ∧
          t.dev.reg (inst R.FLASH_REFRESHES n) = min (s.dev.reg (inst R.FLASH_REFRESHES n) + 1) 0xFFFFFFFF)) ∧
      ((c.sb k).refresh = true ∨ (∃ p, p ∈ c.pages ∧ sbOfPhys p.1 = k ∧
        s.dev.refreshAge n < (s.tb.number - p.2.furrow).toNat) → refreshDue s.dev n k c s.tb = true) ∧
      ((c.sb k).st = .erase → x.validIn k ≠ [] → Ends (.refreshStart n ch b) s (State.slotIs n [] (fun y => y.map = x.map ∧
        x.moves c ch k y) s))))

/-! ### The host port and the event ring (16_host_port, 19_events_and_telemetry) -/

/-- R377, R436 to R443, R449: what a host access reaches (one of LPDDR5X waits where what reservations leave of its channel is
used up, or one before it waits: R442, log entry 123), and the link: training, retraining, and the reads and writes of host
memory; R496, R497, R500, R502: the event ring and vector 0. Accesses sent while the link is DOWN are lost. -/
def Obligations.HostPortAndEventRing : Prop :=
  (∀ (s : State) (a : Nat) (data : List Byte) (tag n : Nat) (err : Bool), s.dev.linkUp = false →
    Ends (.hwr a data) s (fun t => t = s) ∧ Ends (.hrd tag a n err) s (fun t => t = s)) ∧
  (∀ (s : State) (a : Nat) (data : List Byte) (d : Device), s.dev.linkUp = true → s.settled →
    d = s.dev.catchUp s.tb.offset none →
    (reach a data.length = .register → Ends (.hwr a data) s (fun t => exec (.regWrite a (ofLe data)) s = .next t)) ∧
    (∀ q, a = 0x4000000 + 4096 * q → q < 4096 → data.length = 4 →
      Ends (.hwr a data) s (fun t => exec (.doorbellSqTail q (ofLe data)) s = .next t) ∧
      Ends (.hwr (a + 4) data) s (fun t => exec (.doorbellCqHead q (ofLe data)) s = .next t) ∧
      ∀ k, 2 ≤ k → k < 1024 → Ends (.hwr (a + 4 * k) data) s (fun t => t = s)) ∧
    (reach a data.length = .central →
      (isShare (d.page (pageOf a)) = true → d.inImage none a data.length = false →
        (∀ p, p ∈ d.plots.handoffs → overlaps a data.length p.2.addr p.2.len = false) → Ends (.hwr a data) s (fun t =>
          t.tb = s.tb ∧ t.pending = s.pending ∧ t.dev.mem = d.mem.writeBytes a data ∧ t.dev.store = d.store)) ∧
      (d.ev.raised = [] → isShare (d.page (pageOf a)) = false → Ends (.hwr a data) s (fun t =>
        t.tb = s.tb ∧ t.pending = s.pending ∧ t.dev.mem = d.mem ∧
        State.raised ⟨0x0303, 4, none, []⟩ { s with dev := d } t))) ∧
    (reach a data.length = .lpddr →
      (∀ id o, s.dev.objAt a = some (id, o) → o.tier = 2 → o.st = .building → within a data.length o.base o.span = true →
        s.dev.batchTarget id = false →
        (s.dev.lpFree s.tb a data.length = true → Ends (.hwr a data) s (fun t => s.frame [.mem, .store] [] t ∧
          t.dev.mem = s.dev.mem.writeBytes a data ∧ t.dev.store.bgUnits = s.dev.store.bgUnits.set (lpChannel a)
            (s.dev.store.bgUnits.getD (lpChannel a) 0 + data.length / 64))) ∧
        (s.dev.lpFree s.tb a data.length = false → Ends (.hwr a data) s (fun t => s.frame [.host] [] t ∧
          t.dev.host = { s.dev.host with lpWait := s.dev.host.lpWait ++ [.write a data] }))) ∧
      (s.dev.objAt a = none → Ends (.hwr a data) s (fun t => s.frame [] [] t ∧ s.raised ⟨0x0304, 4, none, []⟩ t)) ∧
      (∀ id o, s.dev.objAt a = some (id, o) → o.tier ≠ 2 ∨ o.st ≠ .building → Ends (.hwr a data) s (fun t =>
        s.frame [] [] t ∧ s.raised ⟨0x0304, 4, none, []⟩ t))) ∧
    (reach a data.length = .refused → Ends (.hwr a data) s (fun t =>
      s.frame [] [R.HOST_REFUSED, R.HOST_LAST_REFUSED_LO, R.HOST_LAST_REFUSED_LO + 4] t ∧
      t.dev.reg R.HOST_REFUSED = min (s.dev.reg R.HOST_REFUSED + 1) 0xFFFFFFFF ∧
      t.dev.reg64 R.HOST_LAST_REFUSED_LO = a % 2 ^ 44 ∧ s.raised ⟨0x0D06, 4, none, [(8, a % 2 ^ 44), (1, 1)]⟩ t))) ∧
  (∀ (s : State) (a tag n : Nat) (err : Bool) (d : Device), s.dev.linkUp = true → s.settled →
    d = s.dev.catchUp s.tb.offset none →
    (∀ r, reach a n = .register → regDesc a = some r → isLo a = false → isHi a = false → a ≠ R.SEQ_AST_DATA0 →
      s.dev.responds a = true → Ends (.hrd tag a n err) s (fun t => s.frame [.port, .out] [] t ∧
        t.dev.out = s.dev.out ++ [.hcpl tag 0 (leBytes 4 (currentAt s.tb s.dev a % 2 ^ 32))])) ∧
    (reach a n = .doorbell → Ends (.hrd tag a n err) s (fun t => s.frame [.out] [] t ∧
      t.dev.out = s.dev.out ++ [.hcpl tag 0 [0, 0, 0, 0]])) ∧
    (reach a n = .central → err = false → Ends (.hrd tag a n err) s (fun t => t.tb = s.tb ∧ t.pending = s.pending ∧
      t.dev.mem = d.mem ∧ t.dev.out = d.out ++ [.hcpl tag 0 (d.mem.readBytes a n)])) ∧
    (reach a n = .lpddr → s.dev.lpFree s.tb a n = false → Ends (.hrd tag a n err) s (fun t => s.frame [.host] [] t ∧
      t.dev.host = { s.dev.host with lpWait := s.dev.host.lpWait ++ [.read tag a n err] })) ∧
    (reach a n = .lpddr → s.dev.lpFree s.tb a n = true →
      Ends (.hrd tag a n err) s (fun t => s.frame [.out, .store] [R.MEMC_ECC_UNCORR, R.HOST_DATA_ERR] t ∧
      t.dev.store = { s.dev.store with
        bgUnits := s.dev.store.bgUnits.set (lpChannel a) (s.dev.store.bgUnits.getD (lpChannel a) 0 + n / 64) } ∧
      t.dev.out = s.dev.out ++ [.hcpl tag (if err then 2 else 0) (s.dev.mem.readBytes a n)] ∧
      (err = true → t.dev.reg R.HOST_DATA_ERR = min (s.dev.reg R.HOST_DATA_ERR + 1) 0xFFFFFFFF ∧
        s.raised ⟨0x0308, 4, none, [(1, lpChannel a)]⟩ t))) ∧
    (reach a n = .refused → Ends (.hrd tag a n err) s (fun t =>
      s.frame [.out] [R.HOST_REFUSED, R.HOST_LAST_REFUSED_LO, R.HOST_LAST_REFUSED_LO + 4] t ∧
      t.dev.out = s.dev.out ++ [.hcpl tag 1 []] ∧ s.raised ⟨0x0D06, 4, none, [(8, a % 2 ^ 44), (1, 2)]⟩ t))) ∧
  (∀ (s : State) (tag status q i : Nat) (data : List Byte), s.settled → s.dev.linkUp = true →
    s.dev.host.drds.get? tag = some (q, i) → q < 4096 →
    (status = 0 → bellsFrom (2 ^ s.dev.sqLog q) (s.dev.qp q).sqHead (s.dev.qp q).bells ≠ [] →
      Ends (.dcpl tag status data) s (fun t => s.frame [.qm, .host, .out] [] t ∧
        (t.dev.qp q).sqHead = ((s.dev.qp q).sqHead + 1) % 65536 ∧
        (∀ j, j ≠ q → t.dev.qp j = { s.dev.qp j with requested := (t.dev.qp j).requested } ∧
          (s.dev.host.drds.length < 512 → t.dev.qp j = s.dev.qp j)) ∧
        (fieldLe (sliceBytes data 0 256) 0 1 = 3 → ∃ j, t.dev.qm.cancels = s.dev.qm.cancels ++ [j] ∧ j.qp = q ∧
          j.bytes = sliceBytes data 0 256 ∧ ((t.dev.qp q).fetched = (s.dev.qp q).fetched ∨
            ∃ f, f ∈ (s.dev.qp q).fetched ∧ j.target = .fetched f.bytes ∧
              (t.dev.qp q).fetched = (s.dev.qp q).fetched.erase f)) ∧
        (fieldLe (sliceBytes data 0 256) 0 1 ≠ 3 → t.dev.qm.cancels = s.dev.qm.cancels ∧
          ∃ e, (t.dev.qp q).fetched = (s.dev.qp q).fetched ++ [e] ∧ e.bytes = sliceBytes data 0 256))) ∧
    (status ≠ 0 → (s.dev.qp q).st = .active → Ends (.dcpl tag status data) s (fun t =>
      s.frame [.qm, .host, .out] [R.HOST_DEV_FAIL] t ∧ (t.dev.qp q).st = .error ∧ (t.dev.qp q).lastErr = 2 ∧
      t.dev.reg R.HOST_DEV_FAIL = min (s.dev.reg R.HOST_DEV_FAIL + 1) 0xFFFFFFFF ∧
      s.raised ⟨0x0D08, 4, none, [(2, q)]⟩ t))) ∧
  (∀ (s : State) (i q : Nat) (x : HostTxn), s.settled → s.dev.host.waiting[i]? = some (q, x) →
    Ends (.devAccessTimeout i) s (fun t => s.frame [.qm, .host, .out] [R.HOST_DEV_FAIL] t ∧
      t.dev.reg R.HOST_DEV_FAIL = min (s.dev.reg R.HOST_DEV_FAIL + 1) 0xFFFFFFFF ∧
      s.raised ⟨0x0D08, 4, none, [(2, q)]⟩ t ∧
      (4096 ≤ q → t.dev.qm = s.dev.qm ∧ t.dev.host.waiting = s.dev.host.waiting.eraseIdx i) ∧
      (q < 4096 → (s.dev.qp q).st = .active → (t.dev.qp q).st = .error ∧
        (t.dev.qp q).lastErr = (match x with | .drd _ _ _ => 2 | _ => 3)))) ∧
  (∀ (s : State) (trained : Nat) (repairs : List (Nat × Nat)) (spares : List Nat), s.settled → s.dev.domOn 17 = true →
    Ends (.linkTrainingDone trained repairs spares) s (fun t => s.frame [.host, .out, .qm] [R.HOST_STATUS] t ∧
      (∀ m, t.dev.module m =
        if m < 4 ∧ (s.dev.module m).st = .training ∧ s.dev.modDisabled m = false then
          (if bit m trained then ⟨.up, (repairs.filter (fun r => r.1 == m)).map (·.2), spares.getD m 0⟩
            else ⟨.excluded, [], 0⟩)
        else s.dev.module m) ∧
      (s.dev.linkUp = false → t.dev.linkUp = true → s.counted 0x0D01 t ∧ t.dev.host.waiting = [] ∧
        t.dev.fld R.HOST_STATUS 15 0 = (s.dev.fld R.HOST_STATUS 15 0 + 1) % 65536))) ∧
  (∀ (s : State) (m : Nat), s.settled → m < 4 →
    ((s.dev.module m).st = .up → ∀ retries crc,
      Ends (.adapterRetryLimit m retries crc) s (fun t =>
        s.frame [.host] [inst R.HOST_MOD_RETRIES m, inst R.HOST_MOD_CRC_ERR m, inst R.HOST_MOD_RETRAINS m] t ∧
        t.dev.reg (inst R.HOST_MOD_RETRIES m) = min (s.dev.reg (inst R.HOST_MOD_RETRIES m) + retries) 0xFFFFFFFF ∧
        t.dev.reg (inst R.HOST_MOD_CRC_ERR m) = min (s.dev.reg (inst R.HOST_MOD_CRC_ERR m) + crc) 0xFFFFFFFF ∧
        (retries ≤ 16 → t.dev.host = s.dev.host) ∧
        (16 < retries → s.counted 0x0D04 t ∧ t.dev.module m = { s.dev.module m with st := .retraining } ∧
          t.dev.reg (inst R.HOST_MOD_RETRAINS m) = min (s.dev.reg (inst R.HOST_MOD_RETRAINS m) + 1) 0xFFFFFFFF))) ∧
    ((s.dev.module m).st = .up → ∀ c, c ∈ [.laneCheckFail m, .hostRetrain m] → Ends c s (fun t =>
      s.frame [.host, .port] [inst R.HOST_MOD_RETRAINS m] t ∧ s.counted 0x0D04 t ∧
      t.dev.module m = { s.dev.module m with st := .retraining } ∧ (∀ j, j ≠ m → t.dev.module j = s.dev.module j) ∧
      t.dev.reg (inst R.HOST_MOD_RETRAINS m) = min (s.dev.reg (inst R.HOST_MOD_RETRAINS m) + 1) 0xFFFFFFFF)) ∧
    ((s.dev.module m).st = .excluded → Ends (.hostRetrain m) s (fun t =>
      s.frame [.host, .port] [] t ∧ t.dev.module m = ⟨.training, [], 0⟩ ∧ ∀ j, j ≠ m → t.dev.module j = s.dev.module j)) ∧
    ((s.dev.module m).st = .retraining ∨ (s.dev.module m).st = .training → s.dev.domOn 17 = true →
      (∀ lanes spares, s.dev.modDisabled m = false → Ends (.retrainDone m lanes spares) s (fun t =>
        s.frame [.host, .out, .qm] [R.HOST_STATUS] t ∧ t.dev.module m = ⟨.up, lanes, spares⟩ ∧
        (∀ j, j ≠ m → t.dev.module j = s.dev.module j) ∧
        (s.dev.linkUp = false → s.counted 0x0D01 t ∧ t.dev.host.waiting = [] ∧
          t.dev.fld R.HOST_STATUS 15 0 = (s.dev.fld R.HOST_STATUS 15 0 + 1) % 65536))) ∧
      Ends (.retrainTimeout m) s (fun t => s.frame [.host] [] t ∧ s.raised ⟨0x0D03, 4, none, [(1, m)]⟩ t ∧
        t.dev.module m = ⟨.excluded, [], 0⟩ ∧ ∀ j, j ≠ m → t.dev.module j = s.dev.module j))) ∧
  (∀ (s : State) (r : EventRec) (rest : List EventRec), s.settled → s.dev.ev.buffer = r :: rest →
    s.dev.evtEnabled = true → s.dev.linkUp = true → s.dev.ringHeld < s.dev.ringSize →
    Ends .eventRecordWrite s (fun t => s.frame [.out] [R.EVT_RING_TAIL] t ∧ t.dev.ev.buffer = rest ∧
      t.dev.reg R.EVT_RING_TAIL = (s.dev.reg R.EVT_RING_TAIL + 1) % 2 ^ 32 ∧
      t.dev.out = s.dev.out ++ [.dwr (s.dev.reg64 R.EVT_RING_BASE_LO + 64 * (s.dev.reg R.EVT_RING_TAIL % s.dev.ringSize))
          (r.encode (if s.dev.reg R.EVT_RING_TAIL / s.dev.ringSize % 2 = 0 then 1 else 0))]
        ++ (if s.dev.famIrq (r.req.code / 256) = true ∧ s.dev.ev.armed0 = true then [.msg 0] else []))) ∧
  (∀ (s : State) (v : Nat), s.settled →
    (v < 2 ^ 32 → (v + 2 ^ 32 - s.dev.reg R.EVT_RING_HEAD) % 2 ^ 32 ≤ s.dev.ringHeld →
      Ends (.evtRingHeadWrite v) s (fun t => s.frame [.port, .out] [R.EVT_RING_HEAD] t ∧ t.dev.reg R.EVT_RING_HEAD = v ∧
        t.dev.ev.buffer = s.dev.ev.buffer ∧
        t.dev.ev.ringFams = s.dev.ev.ringFams.drop ((v + 2 ^ 32 - s.dev.reg R.EVT_RING_HEAD) % 2 ^ 32))) ∧
    (s.dev.ringHeld < (v + 2 ^ 32 - s.dev.reg R.EVT_RING_HEAD) % 2 ^ 32 →
      Ends (.evtRingHeadWrite v) s (fun t => s.frame [.port] [] t ∧ t.dev.ev = s.dev.ev)) ∧
    Ends (.evtEnableWrite v) s (fun t => s.frame [.port] [R.EVT_CTRL] t ∧ t.dev.fld R.EVT_CTRL 31 31 = v % 2 ∧
      ∀ hi lo, hi < 31 → lo ≤ hi → t.dev.fld R.EVT_CTRL hi lo = s.dev.fld R.EVT_CTRL hi lo) ∧
    Ends (.evtIrqWrite v) s (fun t => s.frame [.port, .out] [R.EVT_CTRL] t ∧ t.dev.fld R.EVT_CTRL 30 30 = v % 2 ∧
      (v % 2 = 0 → t.dev.ev.armed0 = false ∧ t.dev.out = s.dev.out) ∧
      (v % 2 = 1 → if s.dev.ev.ringFams.any s.dev.famIrq = true ∧ s.dev.linkUp = true
        then t.dev.ev.armed0 = false ∧ t.dev.out = s.dev.out ++ [.msg 0]
        else t.dev.ev.armed0 = true ∧ t.dev.out = s.dev.out)))

/-! ### Power, start-up, sleep and security (17_power_reset_startup, 18_security) -/

/-- R156, R453 to R467, R471 to R474, R477, R481: functions, domains, the staging list, start-up, Dormant and the management
interface. -/
def Obligations.PowerStartupAndSleep : Prop :=
  (∀ (s : State) (n m : Nat), switchable n = true →
    Ends (.funcEnable n) s (fun t => s.frame [.port, .power] [] t ∧
      t.dev.power = { s.dev.power with funcPend := s.dev.power.funcPend.set n (true, false) }) ∧
    Ends (.funcDisable n m) s (fun t => s.frame [.port, .power] [] t ∧
      t.dev.power = { s.dev.power with funcPend := s.dev.power.funcPend.set n (false, m % 2 == 1) })) ∧
  (∀ (s : State) (n : Nat), s.settled → 1 ≤ n → n ≤ 256 →
    (armReason s.tb s.dev n = 0 → Ends (.stgArm n) s (fun t =>
      s.frame [.port, .power] [R.PWR_STG_CTRL, R.PWR_STG_STATUS] t ∧
      t.dev.fld R.PWR_STG_CTRL 8 0 = n ∧ t.dev.fld R.PWR_STG_STATUS 31 30 = 1 ∧
      t.dev.power = { s.dev.power with staging := some ⟨(List.range n).map (stgEntry s.dev),
        BitVec.ofNat 48 (s.dev.reg64 R.PWR_STG_AT_LO), 0, 0⟩ })) ∧
    (armReason s.tb s.dev n ≠ 0 → Ends (.stgArm n) s (fun t =>
      s.frame [.port] [R.PWR_STG_CTRL, R.PWR_STG_STATUS] t ∧
      t.dev.fld R.PWR_STG_STATUS 15 8 = armReason s.tb s.dev n ∧ s.raised ⟨0x0E08, 4, none, []⟩ t))) ∧
  (∀ (s : State) (x : Staging), s.settled → s.dev.power.staging = some x →
    Ends .stgCancel s (fun t => s.frame [.port, .power] [R.PWR_STG_STATUS] t ∧
      t.dev.power = { s.dev.power with staging := none } ∧ t.dev.fld R.PWR_STG_STATUS 31 30 = 0) ∧
    (s.dev.cfgLimit ≤ x.tried → Ends .stgStepLimit s (fun t =>
      s.frame [.power, .qm] [R.PWR_STG_STATUS, R.PWR_STG_FAILS] t ∧
      t.dev.power = { s.dev.power with staging := none } ∧ t.dev.fld R.PWR_STG_STATUS 31 30 = 3 ∧
      t.dev.fld R.PWR_STG_STATUS 15 8 = 8 ∧
      t.dev.reg R.PWR_STG_FAILS = min (s.dev.reg R.PWR_STG_FAILS + 1) 0xFFFFFFFF ∧
      s.raised ⟨0x0E07, 4, none, [(1, x.step), (1, 8)]⟩ t))) ∧
  (∀ s : State, Ends .domainPowered s (fun t => s.frame [.power] [] t ∧
    ∀ n, t.dev.power.doms.getD n 0 =
      if n < 26 ∧ s.dev.power.doms.getD n 0 = 1 ∧ s.dev.power.poweredAt.getD n 0 + 2 ≤ s.dev.power.furs then 2
      else s.dev.power.doms.getD n 0)) ∧
  (∀ (s : State) (w : Nat), s.dev.power.verify = none →
    Ends .bootClear s (fun t => s.frame [.port, .power] [] t ∧
      t.dev.power = { s.dev.power with image := [], imageLen := 0 }) ∧
    (s.dev.power.imageLen + 4 ≤ 8388608 → Ends (.bootData w) s (fun t => s.frame [.port, .power] [] t ∧
      t.dev.power = { s.dev.power with
          imageLen := s.dev.power.imageLen + 4,
          image := s.dev.power.image.writeBytes s.dev.power.imageLen (leBytes 4 w) })) ∧
    (s.dev.power.phase = .rom → Ends .bootVerify s (fun t => s.frame [.port, .power] [] t ∧
      t.dev.power = { s.dev.power with
        phase := .verifying, verify := some (imageCheck s.dev), verFur := some s.dev.power.furs }))) ∧
  (∀ (s : State) (ok : Bool) (c : Nat), s.settled → s.dev.power.verify = some c →
    (c = 1 → ok = true → bodyHashOk s.dev.power = true → Ends (.verifyDone ok) s (fun t => s.frame [.power, .sec] [] t ∧
      t.dev.power = { s.dev.power with verify := none, result := 1, phase := .bringup } ∧
      t.dev.sec.runKey = (s.dev.power.image.read 6).toNat ∧ t.dev.sec.runSvn = (s.dev.power.image.read 7).toNat ∧
      t.dev.sec.svnMin = s.dev.sec.svnMin)) ∧
    (c ≠ 1 ∨ ok = false ∨ bodyHashOk s.dev.power = false → Ends (.verifyDone ok) s (fun t => s.frame [.power] [] t ∧
      t.dev.power = { s.dev.power with verify := none, result := if c = 1 then 3 else c, phase := .rom } ∧
      s.raised ⟨0x0E02, 4, none, [(1, if c = 1 then 3 else c)]⟩ t))) ∧
  (∀ s : State, s.settled → s.dev.power.phase = .bringup → Ends .bringupStep s (fun t =>
    s.frame [.power, .flash] [] t ∧
    (1 ≤ s.dev.power.furs → t.dev.power.doms.getD 17 0 ≠ 0) ∧
    (∀ v, s.dev.power.verFur = some v → v + 3 ≤ s.dev.power.furs →
      t.dev.power.doms.getD 24 0 ≠ 0 ∧ t.dev.power.doms.getD 25 0 ≠ 0) ∧
    ((∀ m, s.dev.power.memFur = some m → s.dev.power.furs < m + 8) →
      t.dev.power.phase = .bringup ∧ t.dev.flash = s.dev.flash) ∧
    (∀ m, s.dev.power.memFur = some m → m + 8 ≤ s.dev.power.furs → t.dev.power.phase = .service ∧
      s.raised ⟨0x0E01, 4, none, []⟩ t ∧ ∀ n, n < 4 → (s.dev.slot n).cart ≠ none → (s.dev.slot n).st = .empty →
        (t.dev.slot n).st = .detected ∧ (t.dev.slot n).cart = (s.dev.slot n).cart))) ∧
  (∀ (s : State) (l : List Nat), s.settled → s.dev.power.phase = .bringup → s.dev.power.memFur = none →
    s.dev.power.doms.getD 19 0 ≠ 0 →
    (l = [] → Ends (.memcTrainingDone l) s (fun t => s.frame [.power, .store] [] t ∧
      t.dev.store = { s.dev.store with chTrained := true } ∧ t.dev.power = { s.dev.power with
        memFur := some (if s.tb.offset = 0 then s.dev.power.furs else s.dev.power.furs + 1) })) ∧
    (l ≠ [] → Ends (.memcTrainingDone l) s (fun t => s.frame [.power] (l.map (inst R.MEMC_CH_INFO)) t ∧
      s.counted 0x0E03 t ∧ t.dev.power = { s.dev.power with phase := .halted } ∧
      ∀ c, c ∈ l → t.dev.fld (inst R.MEMC_CH_INFO c) 31 31 = 1))) ∧
  (∀ s : State, s.settled →
    (s.dev.power.phase = .service → Ends .sleepArm s (fun t => s.frame [.port, .power] [] t ∧
      t.dev.power = { s.dev.power with sleepPend := true, sleepTried := 0 })) ∧
    Ends .sleepCancel s (fun t => s.frame [.port, .power] [] t ∧
      t.dev.power = { s.dev.power with sleepPend := false, sleepTried := 0 }) ∧
    (s.dev.power.sleepPend = true → s.dev.cfgLimit ≤ s.dev.power.sleepTried → Ends .dormantEntryLimit s (fun t =>
      s.frame [.power] [R.PWR_SLEEP_CTRL] t ∧ t.dev.power = { s.dev.power with sleepPend := false, sleepTried := 0 } ∧
      t.dev.fld R.PWR_SLEEP_CTRL 17 16 = 3 ∧ s.raised ⟨0x0E0B, 4, none, []⟩ t)) ∧
    (s.dev.power.phase = .dormant → ∀ c, c = .i3cWake ∨ (c = .wakeAtExpiry ∧ s.dev.fld R.PWR_SLEEP_CTRL 2 2 = 1 ∧
        furLe (BitVec.ofNat 48 (s.dev.reg64 R.PWR_WAKE_AT_LO)) s.tb.number = true) → Ends c s (fun t =>
      s.frame [.power] [] t ∧ t.dev.power = { s.dev.power with phase := .waking, wakeFur := some s.dev.power.furs })) ∧
    (s.dev.power.phase = .service → s.dev.power.sleepPend = true → Ends .i3cWake s (fun t =>
      s.frame [.power] [R.PWR_SLEEP_CTRL] t ∧ t.dev.power = { s.dev.power with sleepPend := false, sleepTried := 0 } ∧
      t.dev.fld R.PWR_SLEEP_CTRL 17 16 = 2)) ∧
    (∀ w, s.dev.power.phase = .waking → s.dev.power.wakeFur = some w →
      Ends .wakeStep s (fun t => s.frame [.power, .flash] [] t ∧ t.dev.power.phase = .waking ∧
        (w + 1 ≤ s.dev.power.furs → 17 ∈ s.dev.power.onAtEntry → t.dev.power.doms.getD 17 0 ≠ 0) ∧
        (w + 5 ≤ s.dev.power.furs → ∀ n, n ∈ storeDoms → n ∈ s.dev.power.onAtEntry → s.dev.power.doms.getD n 0 = 3 →
          t.dev.power.doms.getD n 0 = 2)) ∧
      (w + 32 ≤ s.dev.power.furs → Ends .wakeDone s (fun t => ∃ u : State, t = (furrowSteps s.tb.awake u).flushed ∧
        u.tb = s.tb ∧ u.pending = s.pending ∧ s.regsBut [R.PWR_WAKES] u ∧
        u.dev.reg R.PWR_WAKES = min (s.dev.reg R.PWR_WAKES + 1) 0xFFFFFFFF ∧
        u.dev.ev.raised = [⟨0x0E0C, 4, none, []⟩] ∧
        u.dev.power = { s.dev.power with phase := .service, wakeFur := none } ∧
        ∀ p : DevPart, p ≠ .regs → p ≠ .ev → p ≠ .power → p.same s.dev u.dev))) ∧
    (∀ a, a < 128 → Ends (.entdaa a) s (fun t => s.frame [.power] [] t ∧ t.dev.i3cAddr = a ∧
      t.dev.power = { s.dev.power with dynAddr := some a })) ∧
    Ends .i3cStatusRead s (fun t => s.frame [.power] [] t ∧ t.dev.power = { s.dev.power with
      i3cOut := [BitVec.ofNat 8 (phaseCode s.dev.power.phase), BitVec.ofNat 8 (boolBit s.dev.linkUp), 0, 0] }) ∧
    Ends .i3cOtherWrite s (fun t => t = s))

/-- R468 to R470, R482, R484, R487, R488, R492, R514: cold and warm resets (a write of WARM_RESET is taken in any phase, a
falling edge of WRST_N in SERVICE alone: log entry 153), the fuses, the entropy source, attestation and the reinitialisation
of a cartridge. -/
def Obligations.ResetsAndSecurity : Prop :=
  (∀ s : State, Answers .porstAssert s (State.coldFrom false false s.dev.power.straps s) ∧
    (∀ v, Answers (.supplyLoss v) s (State.coldFrom false v s.dev.power.straps s)) ∧
    (s.dev.power.porst = false →
      (∀ st, Answers (.porstRelease st) s (State.coldFrom true false (st % 4) s)) ∧
      ∀ c, c ∈ [.coldReset, .i3cColdReset] → Answers c s (fun t => t = s)) ∧
    (s.dev.power.porst = true →
      (∀ st, Answers (.porstRelease st) s (fun t => t = s)) ∧
      ∀ c, c ∈ [.coldReset, .i3cColdReset] → Answers c s (State.coldFrom true false s.dev.power.straps s))) ∧
  (∀ (s : State) (c : Instr), c = .warmReset ∨ (c = .wrstFall ∧ s.dev.power.phase = .service) → s.dev.power.warm = none →
    Ends c s (fun t =>
      t.tb = s.tb ∧ t.pending = s.pending ∧ s.regsBut [R.BRX_CTRL, R.EVT_CTRL] t ∧
      t.dev.fld R.EVT_CTRL 31 31 = 0 ∧ t.dev.fld R.BRX_CTRL 1 0 = 0 ∧ t.dev.out = s.dev.out ∧
      t.dev.mem = s.dev.mem.zero csBase csSize ∧ t.dev.power.phase = s.dev.power.phase ∧
      t.dev.power.warm = some s.dev.power.furs ∧ t.dev.power.doms = s.dev.power.doms ∧ t.dev.power.staging = none ∧
      t.dev.plots.runs = [] ∧ t.dev.plots.handoffs = [] ∧ t.dev.plots.dir = [] ∧ t.dev.qm.reqs = [] ∧ t.dev.qm.qps = [] ∧
      t.dev.qm.ctxs = [] ∧ t.dev.store.pages = [] ∧ t.dev.store.ops = [] ∧
      (∀ p, p ∈ t.dev.store.objects → p.2.tier ≠ 1 ∧ p.2.st ≠ .sealing) ∧
      (∀ p, p ∈ s.dev.store.objects → p.2.tier ≠ 1 → p.2.st ≠ .sealing → p ∈ t.dev.store.objects) ∧
      t.dev.sec = { s.dev.sec with attest := none } ∧ t.dev.host.mods = s.dev.host.mods ∧
      ∀ n x, n < 4 → s.dev.slot n = x → x.st ≠ .empty → (t.dev.slot n).st = .detected ∧
        (t.dev.slot n).resetting = true ∧ (t.dev.slot n).map = [] ∧
        ∀ z, x.cart = some z → ∃ y, (t.dev.slot n).cart = some y ∧ y.pages = z.pages)) ∧
  (∀ (s : State) (w : Nat), s.settled → s.dev.power.warm = some w → w + 9 ≤ s.dev.power.furs →
    Ends .warmResetEnd s (fun t => s.frame [.power] [R.PWR_WARM_RESETS] t ∧
      t.dev.power = { s.dev.power with warm := none } ∧
      t.dev.reg R.PWR_WARM_RESETS = min (s.dev.reg R.PWR_WARM_RESETS + 1) 0xFFFFFFFF ∧
      s.raised ⟨0x0E09, 4, none, []⟩ t)) ∧
  (∀ (s : State) (v k : Nat), s.settled → v < 64 → k < 4 →
    (s.dev.sec.fuse = none →
      (s.dev.sec.svnMin < v → v ≤ s.dev.sec.runSvn → Ends (.raiseSvn v) s (fun t =>
        s.frame [.port, .sec] [R.SEC_FUSE_CMD] t ∧ t.dev.sec = { s.dev.sec with fuse := some (1, v) } ∧
        t.dev.fld R.SEC_FUSE_CMD 23 16 = 0)) ∧
      (v ≤ s.dev.sec.svnMin ∨ s.dev.sec.runSvn < v → Ends (.raiseSvn v) s (fun t =>
        s.frame [.port] [R.SEC_FUSE_CMD] t ∧ t.dev.fld R.SEC_FUSE_CMD 23 16 = 2 ∧
        s.raised ⟨0x0F02, 4, none, [(4, R.SEC_FUSE_CMD), (1, 2)]⟩ t)) ∧
      (k ≠ s.dev.sec.runKey → (∃ j, j < 4 ∧ j ≠ k ∧ bit j s.dev.sec.revoked = false) → Ends (.revoke k) s (fun t =>
        s.frame [.port, .sec] [R.SEC_FUSE_CMD] t ∧ t.dev.sec = { s.dev.sec with fuse := some (2, k) } ∧
        t.dev.fld R.SEC_FUSE_CMD 23 16 = 0)) ∧
      (k = s.dev.sec.runKey ∨ (∀ j, j < 4 → j ≠ k → bit j s.dev.sec.revoked = true) → Ends (.revoke k) s (fun t =>
        s.frame [.port] [R.SEC_FUSE_CMD] t ∧ t.dev.fld R.SEC_FUSE_CMD 23 16 = 3 ∧
        s.raised ⟨0x0F02, 4, none, [(4, R.SEC_FUSE_CMD), (1, 3)]⟩ t))) ∧
    (s.dev.sec.fuse ≠ none → ∀ c, c ∈ [.raiseSvn v, .revoke k] → Ends c s (fun t =>
      s.frame [.port] [R.SEC_FUSE_CMD] t ∧ t.dev.fld R.SEC_FUSE_CMD 23 16 = 4 ∧
      s.raised ⟨0x0F02, 4, none, [(4, R.SEC_FUSE_CMD), (1, 4)]⟩ t)) ∧
    (s.dev.sec.fuse = some (1, v) → Ends .fuseBurnDone s (fun t => s.frame [.sec] [R.SEC_FUSE_CMD] t ∧
      t.dev.sec = { s.dev.sec with fuse := none, svnMin := max s.dev.sec.svnMin v } ∧
      t.dev.fld R.SEC_FUSE_CMD 23 16 = 1 ∧ s.raised ⟨0x0F01, 4, none, [(1, 1), (1, v)]⟩ t)) ∧
    (s.dev.sec.fuse = some (2, k) → Ends .fuseBurnDone s (fun t => s.frame [.sec] [R.SEC_FUSE_CMD] t ∧
      t.dev.sec = { s.dev.sec with fuse := none, revoked := t.dev.sec.revoked } ∧
      (∀ j, bit j t.dev.sec.revoked = (bit j s.dev.sec.revoked || j == k)) ∧
      t.dev.fld R.SEC_FUSE_CMD 23 16 = 1 ∧ s.raised ⟨0x0F01, 4, none, [(1, 2), (1, k)]⟩ t)) ∧
    ((s.dev.slot k).st = .failed → (s.dev.slot k).unwrapFail = true → Ends (.cartReinit k) s (fun t =>
      s.frame [.port, .flash] [R.SEC_CART_CMD] t ∧ (t.dev.slot k).st = .detected ∧ (t.dev.slot k).unwrapFail = false ∧
      (t.dev.slot k).cart = (s.dev.slot k).cart.map (fun c => { c with sysKey := none, sysForeign := false }) ∧
      (∀ m, m ≠ k → t.dev.slot m = s.dev.slot m) ∧ s.raised ⟨0x0F06, 4, none, [(1, k)]⟩ t)) ∧
    ((s.dev.slot k).st ≠ .failed ∨ (s.dev.slot k).unwrapFail = false → Ends (.cartReinit k) s (fun t =>
      s.frame [.port, .free] [R.SEC_CART_CMD] t ∧ s.counted 0x0F02 t))) ∧
  (∀ s : State, s.settled →
    Ends .rngTestFail s (fun t => s.frame [] [R.SEC_STATUS, R.SEC_RNG_FAILS] t ∧ t.dev.rngOk = false ∧
      t.dev.reg R.SEC_RNG_FAILS = min (s.dev.reg R.SEC_RNG_FAILS + 1) 0xFFFFFFFF ∧ s.raised ⟨0x0F04, 4, none, []⟩ t) ∧
    (s.dev.rngOk = false → Ends .rngRecover s (fun t => s.frame [.sec] [R.SEC_STATUS] t ∧ t.dev.rngOk = true ∧
      t.dev.sec = { s.dev.sec with reseeds := s.dev.sec.reseeds + 1 })) ∧
    (s.dev.sec.attest = none → s.dev.rngOk = true → s.dev.power.phase = .bringup ∨ s.dev.power.phase = .service →
      Ends .attestGo s (fun t => s.frame [.port, .sec] [] t ∧
        t.dev.sec = { s.dev.sec with attest := some (nonceBytes s.dev) })) ∧
    (∀ nonce, s.dev.sec.attest = some nonce → Ends .attestDone s (fun t =>
      s.frame [.sec, .free] (R.SEC_ATTESTS :: (List.range 64).map (fun w => R.SEC_ATTEST_OUT0 + 4 * w)) t ∧
      t.dev.sec = { s.dev.sec with attest := none } ∧
      (∀ w, w < 40 → t.dev.reg (R.SEC_ATTEST_OUT0 + 4 * w) = fieldLe (attestBody s.tb s.dev nonce) (4 * w) 4) ∧
      t.dev.reg R.SEC_ATTESTS = min (s.dev.reg R.SEC_ATTESTS + 1) 0xFFFFFFFF ∧ s.raised ⟨0x0F05, 4, none, []⟩ t)))

end
end

