-- ==== Sys2Proof/Laws/State.lean ====
section
/-! SUPPORT. What an update of the device leaves: one lemma for each field and each named update. -/
namespace Sys2Proof.Machine

variable (d : Device)

@[simp] theorem Device.setReg_port (k v : Nat) : (d.setReg k v).port = d.port := rfl
@[simp] theorem Device.setReg_ev (k v : Nat) : (d.setReg k v).ev = d.ev := rfl
@[simp] theorem Device.setReg_out (k v : Nat) : (d.setReg k v).out = d.out := rfl
@[simp] theorem Device.setReg_mem (k v : Nat) : (d.setReg k v).mem = d.mem := rfl
@[simp] theorem Device.setReg_store (k v : Nat) : (d.setReg k v).store = d.store := rfl
@[simp] theorem Device.setReg_plots (k v : Nat) : (d.setReg k v).plots = d.plots := rfl
@[simp] theorem Device.setReg_qm (k v : Nat) : (d.setReg k v).qm = d.qm := rfl
@[simp] theorem Device.setReg_host (k v : Nat) : (d.setReg k v).host = d.host := rfl
@[simp] theorem Device.setReg_flash (k v : Nat) : (d.setReg k v).flash = d.flash := rfl
@[simp] theorem Device.setReg_power (k v : Nat) : (d.setReg k v).power = d.power := rfl
@[simp] theorem Device.setReg_sec (k v : Nat) : (d.setReg k v).sec = d.sec := rfl
@[simp] theorem Device.setReg_sieve (k v : Nat) : (d.setReg k v).sieve = d.sieve := rfl
@[simp] theorem Device.setReg_brx (k v : Nat) : (d.setReg k v).brx = d.brx := rfl
@[simp] theorem Device.setReg_gath (k v : Nat) : (d.setReg k v).gath = d.gath := rfl
@[simp] theorem Device.setReg_text (k v : Nat) : (d.setReg k v).text = d.text := rfl
@[simp] theorem Device.setReg_esp (k v : Nat) : (d.setReg k v).esp = d.esp := rfl
@[simp] theorem Device.setReg_pasm (k v : Nat) : (d.setReg k v).pasm = d.pasm := rfl
@[simp] theorem Device.setReg_seq (k v : Nat) : (d.setReg k v).seq = d.seq := rfl
@[simp] theorem Device.setReg_freeCount (k v : Nat) : (d.setReg k v).freeCount = d.freeCount := rfl

@[simp] theorem Device.setFld_port (k hi lo v : Nat) : (d.setFld k hi lo v).port = d.port := rfl
@[simp] theorem Device.setFld_ev (k hi lo v : Nat) : (d.setFld k hi lo v).ev = d.ev := rfl
@[simp] theorem Device.setFld_out (k hi lo v : Nat) : (d.setFld k hi lo v).out = d.out := rfl
@[simp] theorem Device.setFld_mem (k hi lo v : Nat) : (d.setFld k hi lo v).mem = d.mem := rfl
@[simp] theorem Device.setFld_store (k hi lo v : Nat) : (d.setFld k hi lo v).store = d.store := rfl
@[simp] theorem Device.setFld_plots (k hi lo v : Nat) : (d.setFld k hi lo v).plots = d.plots := rfl
@[simp] theorem Device.setFld_qm (k hi lo v : Nat) : (d.setFld k hi lo v).qm = d.qm := rfl
@[simp] theorem Device.setFld_host (k hi lo v : Nat) : (d.setFld k hi lo v).host = d.host := rfl
@[simp] theorem Device.setFld_flash (k hi lo v : Nat) : (d.setFld k hi lo v).flash = d.flash := rfl
@[simp] theorem Device.setFld_power (k hi lo v : Nat) : (d.setFld k hi lo v).power = d.power := rfl
@[simp] theorem Device.setFld_sec (k hi lo v : Nat) : (d.setFld k hi lo v).sec = d.sec := rfl
@[simp] theorem Device.setFld_sieve (k hi lo v : Nat) : (d.setFld k hi lo v).sieve = d.sieve := rfl
@[simp] theorem Device.setFld_brx (k hi lo v : Nat) : (d.setFld k hi lo v).brx = d.brx := rfl
@[simp] theorem Device.setFld_gath (k hi lo v : Nat) : (d.setFld k hi lo v).gath = d.gath := rfl
@[simp] theorem Device.setFld_text (k hi lo v : Nat) : (d.setFld k hi lo v).text = d.text := rfl
@[simp] theorem Device.setFld_esp (k hi lo v : Nat) : (d.setFld k hi lo v).esp = d.esp := rfl
@[simp] theorem Device.setFld_pasm (k hi lo v : Nat) : (d.setFld k hi lo v).pasm = d.pasm := rfl
@[simp] theorem Device.setFld_seq (k hi lo v : Nat) : (d.setFld k hi lo v).seq = d.seq := rfl
@[simp] theorem Device.setFld_freeCount (k hi lo v : Nat) : (d.setFld k hi lo v).freeCount = d.freeCount := rfl

@[simp] theorem Device.incBy_port (k n : Nat) : (d.incBy k n).port = d.port := rfl
@[simp] theorem Device.incBy_ev (k n : Nat) : (d.incBy k n).ev = d.ev := rfl
@[simp] theorem Device.incBy_out (k n : Nat) : (d.incBy k n).out = d.out := rfl
@[simp] theorem Device.incBy_mem (k n : Nat) : (d.incBy k n).mem = d.mem := rfl
@[simp] theorem Device.incBy_store (k n : Nat) : (d.incBy k n).store = d.store := rfl
@[simp] theorem Device.incBy_plots (k n : Nat) : (d.incBy k n).plots = d.plots := rfl
@[simp] theorem Device.incBy_qm (k n : Nat) : (d.incBy k n).qm = d.qm := rfl
@[simp] theorem Device.incBy_host (k n : Nat) : (d.incBy k n).host = d.host := rfl
@[simp] theorem Device.incBy_flash (k n : Nat) : (d.incBy k n).flash = d.flash := rfl
@[simp] theorem Device.incBy_power (k n : Nat) : (d.incBy k n).power = d.power := rfl
@[simp] theorem Device.incBy_sec (k n : Nat) : (d.incBy k n).sec = d.sec := rfl
@[simp] theorem Device.incBy_sieve (k n : Nat) : (d.incBy k n).sieve = d.sieve := rfl
@[simp] theorem Device.incBy_brx (k n : Nat) : (d.incBy k n).brx = d.brx := rfl
@[simp] theorem Device.incBy_gath (k n : Nat) : (d.incBy k n).gath = d.gath := rfl
@[simp] theorem Device.incBy_text (k n : Nat) : (d.incBy k n).text = d.text := rfl
@[simp] theorem Device.incBy_esp (k n : Nat) : (d.incBy k n).esp = d.esp := rfl
@[simp] theorem Device.incBy_pasm (k n : Nat) : (d.incBy k n).pasm = d.pasm := rfl
@[simp] theorem Device.incBy_seq (k n : Nat) : (d.incBy k n).seq = d.seq := rfl
@[simp] theorem Device.incBy_freeCount (k n : Nat) : (d.incBy k n).freeCount = d.freeCount := rfl

@[simp] theorem Device.inc_port (k : Nat) : (d.inc k).port = d.port := rfl
@[simp] theorem Device.inc_ev (k : Nat) : (d.inc k).ev = d.ev := rfl
@[simp] theorem Device.inc_out (k : Nat) : (d.inc k).out = d.out := rfl
@[simp] theorem Device.inc_mem (k : Nat) : (d.inc k).mem = d.mem := rfl
@[simp] theorem Device.inc_store (k : Nat) : (d.inc k).store = d.store := rfl
@[simp] theorem Device.inc_plots (k : Nat) : (d.inc k).plots = d.plots := rfl
@[simp] theorem Device.inc_qm (k : Nat) : (d.inc k).qm = d.qm := rfl
@[simp] theorem Device.inc_host (k : Nat) : (d.inc k).host = d.host := rfl
@[simp] theorem Device.inc_flash (k : Nat) : (d.inc k).flash = d.flash := rfl
@[simp] theorem Device.inc_power (k : Nat) : (d.inc k).power = d.power := rfl
@[simp] theorem Device.inc_sec (k : Nat) : (d.inc k).sec = d.sec := rfl
@[simp] theorem Device.inc_sieve (k : Nat) : (d.inc k).sieve = d.sieve := rfl
@[simp] theorem Device.inc_brx (k : Nat) : (d.inc k).brx = d.brx := rfl
@[simp] theorem Device.inc_gath (k : Nat) : (d.inc k).gath = d.gath := rfl
@[simp] theorem Device.inc_text (k : Nat) : (d.inc k).text = d.text := rfl
@[simp] theorem Device.inc_esp (k : Nat) : (d.inc k).esp = d.esp := rfl
@[simp] theorem Device.inc_pasm (k : Nat) : (d.inc k).pasm = d.pasm := rfl
@[simp] theorem Device.inc_seq (k : Nat) : (d.inc k).seq = d.seq := rfl
@[simp] theorem Device.inc_freeCount (k : Nat) : (d.inc k).freeCount = d.freeCount := rfl

@[simp] theorem Device.setReg64_port (k v : Nat) : (d.setReg64 k v).port = d.port := rfl
@[simp] theorem Device.setReg64_ev (k v : Nat) : (d.setReg64 k v).ev = d.ev := rfl
@[simp] theorem Device.setReg64_out (k v : Nat) : (d.setReg64 k v).out = d.out := rfl
@[simp] theorem Device.setReg64_mem (k v : Nat) : (d.setReg64 k v).mem = d.mem := rfl
@[simp] theorem Device.setReg64_store (k v : Nat) : (d.setReg64 k v).store = d.store := rfl
@[simp] theorem Device.setReg64_plots (k v : Nat) : (d.setReg64 k v).plots = d.plots := rfl
@[simp] theorem Device.setReg64_qm (k v : Nat) : (d.setReg64 k v).qm = d.qm := rfl
@[simp] theorem Device.setReg64_host (k v : Nat) : (d.setReg64 k v).host = d.host := rfl
@[simp] theorem Device.setReg64_flash (k v : Nat) : (d.setReg64 k v).flash = d.flash := rfl
@[simp] theorem Device.setReg64_power (k v : Nat) : (d.setReg64 k v).power = d.power := rfl
@[simp] theorem Device.setReg64_sec (k v : Nat) : (d.setReg64 k v).sec = d.sec := rfl
@[simp] theorem Device.setReg64_sieve (k v : Nat) : (d.setReg64 k v).sieve = d.sieve := rfl
@[simp] theorem Device.setReg64_brx (k v : Nat) : (d.setReg64 k v).brx = d.brx := rfl
@[simp] theorem Device.setReg64_gath (k v : Nat) : (d.setReg64 k v).gath = d.gath := rfl
@[simp] theorem Device.setReg64_text (k v : Nat) : (d.setReg64 k v).text = d.text := rfl
@[simp] theorem Device.setReg64_esp (k v : Nat) : (d.setReg64 k v).esp = d.esp := rfl
@[simp] theorem Device.setReg64_pasm (k v : Nat) : (d.setReg64 k v).pasm = d.pasm := rfl
@[simp] theorem Device.setReg64_seq (k v : Nat) : (d.setReg64 k v).seq = d.seq := rfl
@[simp] theorem Device.setReg64_freeCount (k v : Nat) : (d.setReg64 k v).freeCount = d.freeCount := rfl

@[simp] theorem Device.inc64_port (k n : Nat) : (d.inc64 k n).port = d.port := rfl
@[simp] theorem Device.inc64_ev (k n : Nat) : (d.inc64 k n).ev = d.ev := rfl
@[simp] theorem Device.inc64_out (k n : Nat) : (d.inc64 k n).out = d.out := rfl
@[simp] theorem Device.inc64_mem (k n : Nat) : (d.inc64 k n).mem = d.mem := rfl
@[simp] theorem Device.inc64_store (k n : Nat) : (d.inc64 k n).store = d.store := rfl
@[simp] theorem Device.inc64_plots (k n : Nat) : (d.inc64 k n).plots = d.plots := rfl
@[simp] theorem Device.inc64_qm (k n : Nat) : (d.inc64 k n).qm = d.qm := rfl
@[simp] theorem Device.inc64_host (k n : Nat) : (d.inc64 k n).host = d.host := rfl
@[simp] theorem Device.inc64_flash (k n : Nat) : (d.inc64 k n).flash = d.flash := rfl
@[simp] theorem Device.inc64_power (k n : Nat) : (d.inc64 k n).power = d.power := rfl
@[simp] theorem Device.inc64_sec (k n : Nat) : (d.inc64 k n).sec = d.sec := rfl
@[simp] theorem Device.inc64_sieve (k n : Nat) : (d.inc64 k n).sieve = d.sieve := rfl
@[simp] theorem Device.inc64_brx (k n : Nat) : (d.inc64 k n).brx = d.brx := rfl
@[simp] theorem Device.inc64_gath (k n : Nat) : (d.inc64 k n).gath = d.gath := rfl
@[simp] theorem Device.inc64_text (k n : Nat) : (d.inc64 k n).text = d.text := rfl
@[simp] theorem Device.inc64_esp (k n : Nat) : (d.inc64 k n).esp = d.esp := rfl
@[simp] theorem Device.inc64_pasm (k n : Nat) : (d.inc64 k n).pasm = d.pasm := rfl
@[simp] theorem Device.inc64_seq (k n : Nat) : (d.inc64 k n).seq = d.seq := rfl
@[simp] theorem Device.inc64_freeCount (k n : Nat) : (d.inc64 k n).freeCount = d.freeCount := rfl

@[simp] theorem Device.raiseReq_regs (r : EventReq) : (d.raiseReq r).regs = d.regs := rfl
@[simp] theorem Device.raiseReq_port (r : EventReq) : (d.raiseReq r).port = d.port := rfl
@[simp] theorem Device.raiseReq_out (r : EventReq) : (d.raiseReq r).out = d.out := rfl
@[simp] theorem Device.raiseReq_mem (r : EventReq) : (d.raiseReq r).mem = d.mem := rfl
@[simp] theorem Device.raiseReq_store (r : EventReq) : (d.raiseReq r).store = d.store := rfl
@[simp] theorem Device.raiseReq_plots (r : EventReq) : (d.raiseReq r).plots = d.plots := rfl
@[simp] theorem Device.raiseReq_qm (r : EventReq) : (d.raiseReq r).qm = d.qm := rfl
@[simp] theorem Device.raiseReq_host (r : EventReq) : (d.raiseReq r).host = d.host := rfl
@[simp] theorem Device.raiseReq_flash (r : EventReq) : (d.raiseReq r).flash = d.flash := rfl
@[simp] theorem Device.raiseReq_power (r : EventReq) : (d.raiseReq r).power = d.power := rfl
@[simp] theorem Device.raiseReq_sec (r : EventReq) : (d.raiseReq r).sec = d.sec := rfl
@[simp] theorem Device.raiseReq_sieve (r : EventReq) : (d.raiseReq r).sieve = d.sieve := rfl
@[simp] theorem Device.raiseReq_brx (r : EventReq) : (d.raiseReq r).brx = d.brx := rfl
@[simp] theorem Device.raiseReq_gath (r : EventReq) : (d.raiseReq r).gath = d.gath := rfl
@[simp] theorem Device.raiseReq_text (r : EventReq) : (d.raiseReq r).text = d.text := rfl
@[simp] theorem Device.raiseReq_esp (r : EventReq) : (d.raiseReq r).esp = d.esp := rfl
@[simp] theorem Device.raiseReq_pasm (r : EventReq) : (d.raiseReq r).pasm = d.pasm := rfl
@[simp] theorem Device.raiseReq_seq (r : EventReq) : (d.raiseReq r).seq = d.seq := rfl
@[simp] theorem Device.raiseReq_freeCount (r : EventReq) : (d.raiseReq r).freeCount = d.freeCount := rfl

@[simp] theorem Device.raise_regs (c : Nat) (p : List (Nat × Nat)) : (d.raise c p).regs = d.regs := rfl
@[simp] theorem Device.raise_port (c : Nat) (p : List (Nat × Nat)) : (d.raise c p).port = d.port := rfl
@[simp] theorem Device.raise_out (c : Nat) (p : List (Nat × Nat)) : (d.raise c p).out = d.out := rfl
@[simp] theorem Device.raise_mem (c : Nat) (p : List (Nat × Nat)) : (d.raise c p).mem = d.mem := rfl
@[simp] theorem Device.raise_store (c : Nat) (p : List (Nat × Nat)) : (d.raise c p).store = d.store := rfl
@[simp] theorem Device.raise_plots (c : Nat) (p : List (Nat × Nat)) : (d.raise c p).plots = d.plots := rfl
@[simp] theorem Device.raise_qm (c : Nat) (p : List (Nat × Nat)) : (d.raise c p).qm = d.qm := rfl
@[simp] theorem Device.raise_host (c : Nat) (p : List (Nat × Nat)) : (d.raise c p).host = d.host := rfl
@[simp] theorem Device.raise_flash (c : Nat) (p : List (Nat × Nat)) : (d.raise c p).flash = d.flash := rfl
@[simp] theorem Device.raise_power (c : Nat) (p : List (Nat × Nat)) : (d.raise c p).power = d.power := rfl
@[simp] theorem Device.raise_sec (c : Nat) (p : List (Nat × Nat)) : (d.raise c p).sec = d.sec := rfl
@[simp] theorem Device.raise_sieve (c : Nat) (p : List (Nat × Nat)) : (d.raise c p).sieve = d.sieve := rfl
@[simp] theorem Device.raise_brx (c : Nat) (p : List (Nat × Nat)) : (d.raise c p).brx = d.brx := rfl
@[simp] theorem Device.raise_gath (c : Nat) (p : List (Nat × Nat)) : (d.raise c p).gath = d.gath := rfl
@[simp] theorem Device.raise_text (c : Nat) (p : List (Nat × Nat)) : (d.raise c p).text = d.text := rfl
@[simp] theorem Device.raise_esp (c : Nat) (p : List (Nat × Nat)) : (d.raise c p).esp = d.esp := rfl
@[simp] theorem Device.raise_pasm (c : Nat) (p : List (Nat × Nat)) : (d.raise c p).pasm = d.pasm := rfl
@[simp] theorem Device.raise_seq (c : Nat) (p : List (Nat × Nat)) : (d.raise c p).seq = d.seq := rfl
@[simp] theorem Device.raise_freeCount (c : Nat) (p : List (Nat × Nat)) : (d.raise c p).freeCount = d.freeCount := rfl

@[simp] theorem Device.raiseCtx_regs (c x : Nat) (p : List (Nat × Nat)) : (d.raiseCtx c x p).regs = d.regs := rfl
@[simp] theorem Device.raiseCtx_port (c x : Nat) (p : List (Nat × Nat)) : (d.raiseCtx c x p).port = d.port := rfl
@[simp] theorem Device.raiseCtx_out (c x : Nat) (p : List (Nat × Nat)) : (d.raiseCtx c x p).out = d.out := rfl
@[simp] theorem Device.raiseCtx_mem (c x : Nat) (p : List (Nat × Nat)) : (d.raiseCtx c x p).mem = d.mem := rfl
@[simp] theorem Device.raiseCtx_store (c x : Nat) (p : List (Nat × Nat)) : (d.raiseCtx c x p).store = d.store := rfl
@[simp] theorem Device.raiseCtx_plots (c x : Nat) (p : List (Nat × Nat)) : (d.raiseCtx c x p).plots = d.plots := rfl
@[simp] theorem Device.raiseCtx_qm (c x : Nat) (p : List (Nat × Nat)) : (d.raiseCtx c x p).qm = d.qm := rfl
@[simp] theorem Device.raiseCtx_host (c x : Nat) (p : List (Nat × Nat)) : (d.raiseCtx c x p).host = d.host := rfl
@[simp] theorem Device.raiseCtx_flash (c x : Nat) (p : List (Nat × Nat)) : (d.raiseCtx c x p).flash = d.flash := rfl
@[simp] theorem Device.raiseCtx_power (c x : Nat) (p : List (Nat × Nat)) : (d.raiseCtx c x p).power = d.power := rfl
@[simp] theorem Device.raiseCtx_sec (c x : Nat) (p : List (Nat × Nat)) : (d.raiseCtx c x p).sec = d.sec := rfl
@[simp] theorem Device.raiseCtx_sieve (c x : Nat) (p : List (Nat × Nat)) : (d.raiseCtx c x p).sieve = d.sieve := rfl
@[simp] theorem Device.raiseCtx_brx (c x : Nat) (p : List (Nat × Nat)) : (d.raiseCtx c x p).brx = d.brx := rfl
@[simp] theorem Device.raiseCtx_gath (c x : Nat) (p : List (Nat × Nat)) : (d.raiseCtx c x p).gath = d.gath := rfl
@[simp] theorem Device.raiseCtx_text (c x : Nat) (p : List (Nat × Nat)) : (d.raiseCtx c x p).text = d.text := rfl
@[simp] theorem Device.raiseCtx_esp (c x : Nat) (p : List (Nat × Nat)) : (d.raiseCtx c x p).esp = d.esp := rfl
@[simp] theorem Device.raiseCtx_pasm (c x : Nat) (p : List (Nat × Nat)) : (d.raiseCtx c x p).pasm = d.pasm := rfl
@[simp] theorem Device.raiseCtx_seq (c x : Nat) (p : List (Nat × Nat)) : (d.raiseCtx c x p).seq = d.seq := rfl
@[simp] theorem Device.raiseCtx_freeCount (c x : Nat) (p : List (Nat × Nat)) : (d.raiseCtx c x p).freeCount = d.freeCount := rfl

@[simp] theorem Device.raiseDie_regs (c n x : Nat) (p : List (Nat × Nat)) : (d.raiseDie c n x p).regs = d.regs := rfl
@[simp] theorem Device.raiseDie_port (c n x : Nat) (p : List (Nat × Nat)) : (d.raiseDie c n x p).port = d.port := rfl
@[simp] theorem Device.raiseDie_out (c n x : Nat) (p : List (Nat × Nat)) : (d.raiseDie c n x p).out = d.out := rfl
@[simp] theorem Device.raiseDie_mem (c n x : Nat) (p : List (Nat × Nat)) : (d.raiseDie c n x p).mem = d.mem := rfl
@[simp] theorem Device.raiseDie_store (c n x : Nat) (p : List (Nat × Nat)) : (d.raiseDie c n x p).store = d.store := rfl
@[simp] theorem Device.raiseDie_plots (c n x : Nat) (p : List (Nat × Nat)) : (d.raiseDie c n x p).plots = d.plots := rfl
@[simp] theorem Device.raiseDie_qm (c n x : Nat) (p : List (Nat × Nat)) : (d.raiseDie c n x p).qm = d.qm := rfl
@[simp] theorem Device.raiseDie_host (c n x : Nat) (p : List (Nat × Nat)) : (d.raiseDie c n x p).host = d.host := rfl
@[simp] theorem Device.raiseDie_flash (c n x : Nat) (p : List (Nat × Nat)) : (d.raiseDie c n x p).flash = d.flash := rfl
@[simp] theorem Device.raiseDie_power (c n x : Nat) (p : List (Nat × Nat)) : (d.raiseDie c n x p).power = d.power := rfl
@[simp] theorem Device.raiseDie_sec (c n x : Nat) (p : List (Nat × Nat)) : (d.raiseDie c n x p).sec = d.sec := rfl
@[simp] theorem Device.raiseDie_sieve (c n x : Nat) (p : List (Nat × Nat)) : (d.raiseDie c n x p).sieve = d.sieve := rfl
@[simp] theorem Device.raiseDie_brx (c n x : Nat) (p : List (Nat × Nat)) : (d.raiseDie c n x p).brx = d.brx := rfl
@[simp] theorem Device.raiseDie_gath (c n x : Nat) (p : List (Nat × Nat)) : (d.raiseDie c n x p).gath = d.gath := rfl
@[simp] theorem Device.raiseDie_text (c n x : Nat) (p : List (Nat × Nat)) : (d.raiseDie c n x p).text = d.text := rfl
@[simp] theorem Device.raiseDie_esp (c n x : Nat) (p : List (Nat × Nat)) : (d.raiseDie c n x p).esp = d.esp := rfl
@[simp] theorem Device.raiseDie_pasm (c n x : Nat) (p : List (Nat × Nat)) : (d.raiseDie c n x p).pasm = d.pasm := rfl
@[simp] theorem Device.raiseDie_seq (c n x : Nat) (p : List (Nat × Nat)) : (d.raiseDie c n x p).seq = d.seq := rfl
@[simp] theorem Device.raiseDie_freeCount (c n x : Nat) (p : List (Nat × Nat)) : (d.raiseDie c n x p).freeCount = d.freeCount := rfl

@[simp] theorem Device.send_regs (t : HostTxn) : (d.send t).regs = d.regs := rfl
@[simp] theorem Device.send_port (t : HostTxn) : (d.send t).port = d.port := rfl
@[simp] theorem Device.send_ev (t : HostTxn) : (d.send t).ev = d.ev := rfl
@[simp] theorem Device.send_mem (t : HostTxn) : (d.send t).mem = d.mem := rfl
@[simp] theorem Device.send_store (t : HostTxn) : (d.send t).store = d.store := rfl
@[simp] theorem Device.send_plots (t : HostTxn) : (d.send t).plots = d.plots := rfl
@[simp] theorem Device.send_qm (t : HostTxn) : (d.send t).qm = d.qm := rfl
@[simp] theorem Device.send_host (t : HostTxn) : (d.send t).host = d.host := rfl
@[simp] theorem Device.send_flash (t : HostTxn) : (d.send t).flash = d.flash := rfl
@[simp] theorem Device.send_power (t : HostTxn) : (d.send t).power = d.power := rfl
@[simp] theorem Device.send_sec (t : HostTxn) : (d.send t).sec = d.sec := rfl
@[simp] theorem Device.send_sieve (t : HostTxn) : (d.send t).sieve = d.sieve := rfl
@[simp] theorem Device.send_brx (t : HostTxn) : (d.send t).brx = d.brx := rfl
@[simp] theorem Device.send_gath (t : HostTxn) : (d.send t).gath = d.gath := rfl
@[simp] theorem Device.send_text (t : HostTxn) : (d.send t).text = d.text := rfl
@[simp] theorem Device.send_esp (t : HostTxn) : (d.send t).esp = d.esp := rfl
@[simp] theorem Device.send_pasm (t : HostTxn) : (d.send t).pasm = d.pasm := rfl
@[simp] theorem Device.send_seq (t : HostTxn) : (d.send t).seq = d.seq := rfl
@[simp] theorem Device.send_freeCount (t : HostTxn) : (d.send t).freeCount = d.freeCount := rfl

@[simp] theorem Device.dropPend_regs : (d.dropPend).regs = d.regs := rfl
@[simp] theorem Device.dropPend_ev : (d.dropPend).ev = d.ev := rfl
@[simp] theorem Device.dropPend_out : (d.dropPend).out = d.out := rfl
@[simp] theorem Device.dropPend_mem : (d.dropPend).mem = d.mem := rfl
@[simp] theorem Device.dropPend_store : (d.dropPend).store = d.store := rfl
@[simp] theorem Device.dropPend_plots : (d.dropPend).plots = d.plots := rfl
@[simp] theorem Device.dropPend_qm : (d.dropPend).qm = d.qm := rfl
@[simp] theorem Device.dropPend_host : (d.dropPend).host = d.host := rfl
@[simp] theorem Device.dropPend_flash : (d.dropPend).flash = d.flash := rfl
@[simp] theorem Device.dropPend_power : (d.dropPend).power = d.power := rfl
@[simp] theorem Device.dropPend_sec : (d.dropPend).sec = d.sec := rfl
@[simp] theorem Device.dropPend_sieve : (d.dropPend).sieve = d.sieve := rfl
@[simp] theorem Device.dropPend_brx : (d.dropPend).brx = d.brx := rfl
@[simp] theorem Device.dropPend_gath : (d.dropPend).gath = d.gath := rfl
@[simp] theorem Device.dropPend_text : (d.dropPend).text = d.text := rfl
@[simp] theorem Device.dropPend_esp : (d.dropPend).esp = d.esp := rfl
@[simp] theorem Device.dropPend_pasm : (d.dropPend).pasm = d.pasm := rfl
@[simp] theorem Device.dropPend_seq : (d.dropPend).seq = d.seq := rfl
@[simp] theorem Device.dropPend_freeCount : (d.dropPend).freeCount = d.freeCount := rfl

@[simp] theorem Device.setCtx_regs (c : Nat) (x : Context) : (d.setCtx c x).regs = d.regs := rfl
@[simp] theorem Device.setCtx_port (c : Nat) (x : Context) : (d.setCtx c x).port = d.port := rfl
@[simp] theorem Device.setCtx_ev (c : Nat) (x : Context) : (d.setCtx c x).ev = d.ev := rfl
@[simp] theorem Device.setCtx_out (c : Nat) (x : Context) : (d.setCtx c x).out = d.out := rfl
@[simp] theorem Device.setCtx_mem (c : Nat) (x : Context) : (d.setCtx c x).mem = d.mem := rfl
@[simp] theorem Device.setCtx_store (c : Nat) (x : Context) : (d.setCtx c x).store = d.store := rfl
@[simp] theorem Device.setCtx_plots (c : Nat) (x : Context) : (d.setCtx c x).plots = d.plots := rfl
@[simp] theorem Device.setCtx_host (c : Nat) (x : Context) : (d.setCtx c x).host = d.host := rfl
@[simp] theorem Device.setCtx_flash (c : Nat) (x : Context) : (d.setCtx c x).flash = d.flash := rfl
@[simp] theorem Device.setCtx_power (c : Nat) (x : Context) : (d.setCtx c x).power = d.power := rfl
@[simp] theorem Device.setCtx_sec (c : Nat) (x : Context) : (d.setCtx c x).sec = d.sec := rfl
@[simp] theorem Device.setCtx_sieve (c : Nat) (x : Context) : (d.setCtx c x).sieve = d.sieve := rfl
@[simp] theorem Device.setCtx_brx (c : Nat) (x : Context) : (d.setCtx c x).brx = d.brx := rfl
@[simp] theorem Device.setCtx_gath (c : Nat) (x : Context) : (d.setCtx c x).gath = d.gath := rfl
@[simp] theorem Device.setCtx_text (c : Nat) (x : Context) : (d.setCtx c x).text = d.text := rfl
@[simp] theorem Device.setCtx_esp (c : Nat) (x : Context) : (d.setCtx c x).esp = d.esp := rfl
@[simp] theorem Device.setCtx_pasm (c : Nat) (x : Context) : (d.setCtx c x).pasm = d.pasm := rfl
@[simp] theorem Device.setCtx_seq (c : Nat) (x : Context) : (d.setCtx c x).seq = d.seq := rfl
@[simp] theorem Device.setCtx_freeCount (c : Nat) (x : Context) : (d.setCtx c x).freeCount = d.freeCount := rfl

@[simp] theorem Device.setReq_regs (r : Nat) (q : Request) : (d.setReq r q).regs = d.regs := rfl
@[simp] theorem Device.setReq_port (r : Nat) (q : Request) : (d.setReq r q).port = d.port := rfl
@[simp] theorem Device.setReq_ev (r : Nat) (q : Request) : (d.setReq r q).ev = d.ev := rfl
@[simp] theorem Device.setReq_out (r : Nat) (q : Request) : (d.setReq r q).out = d.out := rfl
@[simp] theorem Device.setReq_mem (r : Nat) (q : Request) : (d.setReq r q).mem = d.mem := rfl
@[simp] theorem Device.setReq_store (r : Nat) (q : Request) : (d.setReq r q).store = d.store := rfl
@[simp] theorem Device.setReq_plots (r : Nat) (q : Request) : (d.setReq r q).plots = d.plots := rfl
@[simp] theorem Device.setReq_host (r : Nat) (q : Request) : (d.setReq r q).host = d.host := rfl
@[simp] theorem Device.setReq_flash (r : Nat) (q : Request) : (d.setReq r q).flash = d.flash := rfl
@[simp] theorem Device.setReq_power (r : Nat) (q : Request) : (d.setReq r q).power = d.power := rfl
@[simp] theorem Device.setReq_sec (r : Nat) (q : Request) : (d.setReq r q).sec = d.sec := rfl
@[simp] theorem Device.setReq_sieve (r : Nat) (q : Request) : (d.setReq r q).sieve = d.sieve := rfl
@[simp] theorem Device.setReq_brx (r : Nat) (q : Request) : (d.setReq r q).brx = d.brx := rfl
@[simp] theorem Device.setReq_gath (r : Nat) (q : Request) : (d.setReq r q).gath = d.gath := rfl
@[simp] theorem Device.setReq_text (r : Nat) (q : Request) : (d.setReq r q).text = d.text := rfl
@[simp] theorem Device.setReq_esp (r : Nat) (q : Request) : (d.setReq r q).esp = d.esp := rfl
@[simp] theorem Device.setReq_pasm (r : Nat) (q : Request) : (d.setReq r q).pasm = d.pasm := rfl
@[simp] theorem Device.setReq_seq (r : Nat) (q : Request) : (d.setReq r q).seq = d.seq := rfl
@[simp] theorem Device.setReq_freeCount (r : Nat) (q : Request) : (d.setReq r q).freeCount = d.freeCount := rfl

@[simp] theorem Device.setObj_regs (i : Nat) (o : Obj) : (d.setObj i o).regs = d.regs := rfl
@[simp] theorem Device.setObj_port (i : Nat) (o : Obj) : (d.setObj i o).port = d.port := rfl
@[simp] theorem Device.setObj_ev (i : Nat) (o : Obj) : (d.setObj i o).ev = d.ev := rfl
@[simp] theorem Device.setObj_out (i : Nat) (o : Obj) : (d.setObj i o).out = d.out := rfl
@[simp] theorem Device.setObj_mem (i : Nat) (o : Obj) : (d.setObj i o).mem = d.mem := rfl
@[simp] theorem Device.setObj_plots (i : Nat) (o : Obj) : (d.setObj i o).plots = d.plots := rfl
@[simp] theorem Device.setObj_qm (i : Nat) (o : Obj) : (d.setObj i o).qm = d.qm := rfl
@[simp] theorem Device.setObj_host (i : Nat) (o : Obj) : (d.setObj i o).host = d.host := rfl
@[simp] theorem Device.setObj_flash (i : Nat) (o : Obj) : (d.setObj i o).flash = d.flash := rfl
@[simp] theorem Device.setObj_power (i : Nat) (o : Obj) : (d.setObj i o).power = d.power := rfl
@[simp] theorem Device.setObj_sec (i : Nat) (o : Obj) : (d.setObj i o).sec = d.sec := rfl
@[simp] theorem Device.setObj_sieve (i : Nat) (o : Obj) : (d.setObj i o).sieve = d.sieve := rfl
@[simp] theorem Device.setObj_brx (i : Nat) (o : Obj) : (d.setObj i o).brx = d.brx := rfl
@[simp] theorem Device.setObj_gath (i : Nat) (o : Obj) : (d.setObj i o).gath = d.gath := rfl
@[simp] theorem Device.setObj_text (i : Nat) (o : Obj) : (d.setObj i o).text = d.text := rfl
@[simp] theorem Device.setObj_esp (i : Nat) (o : Obj) : (d.setObj i o).esp = d.esp := rfl
@[simp] theorem Device.setObj_pasm (i : Nat) (o : Obj) : (d.setObj i o).pasm = d.pasm := rfl
@[simp] theorem Device.setObj_seq (i : Nat) (o : Obj) : (d.setObj i o).seq = d.seq := rfl
@[simp] theorem Device.setObj_freeCount (i : Nat) (o : Obj) : (d.setObj i o).freeCount = d.freeCount := rfl

@[simp] theorem Device.setRun_regs (i : Nat) (r : Run) : (d.setRun i r).regs = d.regs := rfl
@[simp] theorem Device.setRun_port (i : Nat) (r : Run) : (d.setRun i r).port = d.port := rfl
@[simp] theorem Device.setRun_ev (i : Nat) (r : Run) : (d.setRun i r).ev = d.ev := rfl
@[simp] theorem Device.setRun_out (i : Nat) (r : Run) : (d.setRun i r).out = d.out := rfl
@[simp] theorem Device.setRun_mem (i : Nat) (r : Run) : (d.setRun i r).mem = d.mem := rfl
@[simp] theorem Device.setRun_store (i : Nat) (r : Run) : (d.setRun i r).store = d.store := rfl
@[simp] theorem Device.setRun_qm (i : Nat) (r : Run) : (d.setRun i r).qm = d.qm := rfl
@[simp] theorem Device.setRun_host (i : Nat) (r : Run) : (d.setRun i r).host = d.host := rfl
@[simp] theorem Device.setRun_flash (i : Nat) (r : Run) : (d.setRun i r).flash = d.flash := rfl
@[simp] theorem Device.setRun_power (i : Nat) (r : Run) : (d.setRun i r).power = d.power := rfl
@[simp] theorem Device.setRun_sec (i : Nat) (r : Run) : (d.setRun i r).sec = d.sec := rfl
@[simp] theorem Device.setRun_sieve (i : Nat) (r : Run) : (d.setRun i r).sieve = d.sieve := rfl
@[simp] theorem Device.setRun_brx (i : Nat) (r : Run) : (d.setRun i r).brx = d.brx := rfl
@[simp] theorem Device.setRun_gath (i : Nat) (r : Run) : (d.setRun i r).gath = d.gath := rfl
@[simp] theorem Device.setRun_text (i : Nat) (r : Run) : (d.setRun i r).text = d.text := rfl
@[simp] theorem Device.setRun_esp (i : Nat) (r : Run) : (d.setRun i r).esp = d.esp := rfl
@[simp] theorem Device.setRun_pasm (i : Nat) (r : Run) : (d.setRun i r).pasm = d.pasm := rfl
@[simp] theorem Device.setRun_seq (i : Nat) (r : Run) : (d.setRun i r).seq = d.seq := rfl
@[simp] theorem Device.setRun_freeCount (i : Nat) (r : Run) : (d.setRun i r).freeCount = d.freeCount := rfl

@[simp] theorem Device.setQp_regs (q : Nat) (x : QueuePair) : (d.setQp q x).regs = d.regs := rfl
@[simp] theorem Device.setQp_port (q : Nat) (x : QueuePair) : (d.setQp q x).port = d.port := rfl
@[simp] theorem Device.setQp_ev (q : Nat) (x : QueuePair) : (d.setQp q x).ev = d.ev := rfl
@[simp] theorem Device.setQp_out (q : Nat) (x : QueuePair) : (d.setQp q x).out = d.out := rfl
@[simp] theorem Device.setQp_mem (q : Nat) (x : QueuePair) : (d.setQp q x).mem = d.mem := rfl
@[simp] theorem Device.setQp_store (q : Nat) (x : QueuePair) : (d.setQp q x).store = d.store := rfl
@[simp] theorem Device.setQp_plots (q : Nat) (x : QueuePair) : (d.setQp q x).plots = d.plots := rfl
@[simp] theorem Device.setQp_host (q : Nat) (x : QueuePair) : (d.setQp q x).host = d.host := rfl
@[simp] theorem Device.setQp_flash (q : Nat) (x : QueuePair) : (d.setQp q x).flash = d.flash := rfl
@[simp] theorem Device.setQp_power (q : Nat) (x : QueuePair) : (d.setQp q x).power = d.power := rfl
@[simp] theorem Device.setQp_sec (q : Nat) (x : QueuePair) : (d.setQp q x).sec = d.sec := rfl
@[simp] theorem Device.setQp_sieve (q : Nat) (x : QueuePair) : (d.setQp q x).sieve = d.sieve := rfl
@[simp] theorem Device.setQp_brx (q : Nat) (x : QueuePair) : (d.setQp q x).brx = d.brx := rfl
@[simp] theorem Device.setQp_gath (q : Nat) (x : QueuePair) : (d.setQp q x).gath = d.gath := rfl
@[simp] theorem Device.setQp_text (q : Nat) (x : QueuePair) : (d.setQp q x).text = d.text := rfl
@[simp] theorem Device.setQp_esp (q : Nat) (x : QueuePair) : (d.setQp q x).esp = d.esp := rfl
@[simp] theorem Device.setQp_pasm (q : Nat) (x : QueuePair) : (d.setQp q x).pasm = d.pasm := rfl
@[simp] theorem Device.setQp_seq (q : Nat) (x : QueuePair) : (d.setQp q x).seq = d.seq := rfl
@[simp] theorem Device.setQp_freeCount (q : Nat) (x : QueuePair) : (d.setQp q x).freeCount = d.freeCount := rfl

@[simp] theorem Device.setPort_regs (p : Nat) (x : BrxPort) : (d.setPort p x).regs = d.regs := rfl
@[simp] theorem Device.setPort_port (p : Nat) (x : BrxPort) : (d.setPort p x).port = d.port := rfl
@[simp] theorem Device.setPort_ev (p : Nat) (x : BrxPort) : (d.setPort p x).ev = d.ev := rfl
@[simp] theorem Device.setPort_out (p : Nat) (x : BrxPort) : (d.setPort p x).out = d.out := rfl
@[simp] theorem Device.setPort_mem (p : Nat) (x : BrxPort) : (d.setPort p x).mem = d.mem := rfl
@[simp] theorem Device.setPort_store (p : Nat) (x : BrxPort) : (d.setPort p x).store = d.store := rfl
@[simp] theorem Device.setPort_plots (p : Nat) (x : BrxPort) : (d.setPort p x).plots = d.plots := rfl
@[simp] theorem Device.setPort_qm (p : Nat) (x : BrxPort) : (d.setPort p x).qm = d.qm := rfl
@[simp] theorem Device.setPort_host (p : Nat) (x : BrxPort) : (d.setPort p x).host = d.host := rfl
@[simp] theorem Device.setPort_flash (p : Nat) (x : BrxPort) : (d.setPort p x).flash = d.flash := rfl
@[simp] theorem Device.setPort_power (p : Nat) (x : BrxPort) : (d.setPort p x).power = d.power := rfl
@[simp] theorem Device.setPort_sec (p : Nat) (x : BrxPort) : (d.setPort p x).sec = d.sec := rfl
@[simp] theorem Device.setPort_sieve (p : Nat) (x : BrxPort) : (d.setPort p x).sieve = d.sieve := rfl
@[simp] theorem Device.setPort_gath (p : Nat) (x : BrxPort) : (d.setPort p x).gath = d.gath := rfl
@[simp] theorem Device.setPort_text (p : Nat) (x : BrxPort) : (d.setPort p x).text = d.text := rfl
@[simp] theorem Device.setPort_esp (p : Nat) (x : BrxPort) : (d.setPort p x).esp = d.esp := rfl
@[simp] theorem Device.setPort_pasm (p : Nat) (x : BrxPort) : (d.setPort p x).pasm = d.pasm := rfl
@[simp] theorem Device.setPort_seq (p : Nat) (x : BrxPort) : (d.setPort p x).seq = d.seq := rfl
@[simp] theorem Device.setPort_freeCount (p : Nat) (x : BrxPort) : (d.setPort p x).freeCount = d.freeCount := rfl

@[simp] theorem Device.setModule_regs (m : Nat) (x : HostModule) : (d.setModule m x).regs = d.regs := rfl
@[simp] theorem Device.setModule_port (m : Nat) (x : HostModule) : (d.setModule m x).port = d.port := rfl
@[simp] theorem Device.setModule_ev (m : Nat) (x : HostModule) : (d.setModule m x).ev = d.ev := rfl
@[simp] theorem Device.setModule_out (m : Nat) (x : HostModule) : (d.setModule m x).out = d.out := rfl
@[simp] theorem Device.setModule_mem (m : Nat) (x : HostModule) : (d.setModule m x).mem = d.mem := rfl
@[simp] theorem Device.setModule_store (m : Nat) (x : HostModule) : (d.setModule m x).store = d.store := rfl
@[simp] theorem Device.setModule_plots (m : Nat) (x : HostModule) : (d.setModule m x).plots = d.plots := rfl
@[simp] theorem Device.setModule_qm (m : Nat) (x : HostModule) : (d.setModule m x).qm = d.qm := rfl
@[simp] theorem Device.setModule_flash (m : Nat) (x : HostModule) : (d.setModule m x).flash = d.flash := rfl
@[simp] theorem Device.setModule_power (m : Nat) (x : HostModule) : (d.setModule m x).power = d.power := rfl
@[simp] theorem Device.setModule_sec (m : Nat) (x : HostModule) : (d.setModule m x).sec = d.sec := rfl
@[simp] theorem Device.setModule_sieve (m : Nat) (x : HostModule) : (d.setModule m x).sieve = d.sieve := rfl
@[simp] theorem Device.setModule_brx (m : Nat) (x : HostModule) : (d.setModule m x).brx = d.brx := rfl
@[simp] theorem Device.setModule_gath (m : Nat) (x : HostModule) : (d.setModule m x).gath = d.gath := rfl
@[simp] theorem Device.setModule_text (m : Nat) (x : HostModule) : (d.setModule m x).text = d.text := rfl
@[simp] theorem Device.setModule_esp (m : Nat) (x : HostModule) : (d.setModule m x).esp = d.esp := rfl
@[simp] theorem Device.setModule_pasm (m : Nat) (x : HostModule) : (d.setModule m x).pasm = d.pasm := rfl
@[simp] theorem Device.setModule_seq (m : Nat) (x : HostModule) : (d.setModule m x).seq = d.seq := rfl
@[simp] theorem Device.setModule_freeCount (m : Nat) (x : HostModule) : (d.setModule m x).freeCount = d.freeCount := rfl

@[simp] theorem Device.setDom_regs (n v : Nat) : (d.setDom n v).regs = d.regs := rfl
@[simp] theorem Device.setDom_port (n v : Nat) : (d.setDom n v).port = d.port := rfl
@[simp] theorem Device.setDom_ev (n v : Nat) : (d.setDom n v).ev = d.ev := rfl
@[simp] theorem Device.setDom_out (n v : Nat) : (d.setDom n v).out = d.out := rfl
@[simp] theorem Device.setDom_mem (n v : Nat) : (d.setDom n v).mem = d.mem := rfl
@[simp] theorem Device.setDom_store (n v : Nat) : (d.setDom n v).store = d.store := rfl
@[simp] theorem Device.setDom_plots (n v : Nat) : (d.setDom n v).plots = d.plots := rfl
@[simp] theorem Device.setDom_qm (n v : Nat) : (d.setDom n v).qm = d.qm := rfl
@[simp] theorem Device.setDom_host (n v : Nat) : (d.setDom n v).host = d.host := rfl
@[simp] theorem Device.setDom_flash (n v : Nat) : (d.setDom n v).flash = d.flash := rfl
@[simp] theorem Device.setDom_sec (n v : Nat) : (d.setDom n v).sec = d.sec := rfl
@[simp] theorem Device.setDom_sieve (n v : Nat) : (d.setDom n v).sieve = d.sieve := rfl
@[simp] theorem Device.setDom_brx (n v : Nat) : (d.setDom n v).brx = d.brx := rfl
@[simp] theorem Device.setDom_gath (n v : Nat) : (d.setDom n v).gath = d.gath := rfl
@[simp] theorem Device.setDom_text (n v : Nat) : (d.setDom n v).text = d.text := rfl
@[simp] theorem Device.setDom_esp (n v : Nat) : (d.setDom n v).esp = d.esp := rfl
@[simp] theorem Device.setDom_pasm (n v : Nat) : (d.setDom n v).pasm = d.pasm := rfl
@[simp] theorem Device.setDom_seq (n v : Nat) : (d.setDom n v).seq = d.seq := rfl
@[simp] theorem Device.setDom_freeCount (n v : Nat) : (d.setDom n v).freeCount = d.freeCount := rfl

@[simp] theorem Device.setVoc_regs (n : Nat) (v : Option VocSlot) : (d.setVoc n v).regs = d.regs := rfl
@[simp] theorem Device.setVoc_port (n : Nat) (v : Option VocSlot) : (d.setVoc n v).port = d.port := rfl
@[simp] theorem Device.setVoc_ev (n : Nat) (v : Option VocSlot) : (d.setVoc n v).ev = d.ev := rfl
@[simp] theorem Device.setVoc_out (n : Nat) (v : Option VocSlot) : (d.setVoc n v).out = d.out := rfl
@[simp] theorem Device.setVoc_mem (n : Nat) (v : Option VocSlot) : (d.setVoc n v).mem = d.mem := rfl
@[simp] theorem Device.setVoc_store (n : Nat) (v : Option VocSlot) : (d.setVoc n v).store = d.store := rfl
@[simp] theorem Device.setVoc_plots (n : Nat) (v : Option VocSlot) : (d.setVoc n v).plots = d.plots := rfl
@[simp] theorem Device.setVoc_qm (n : Nat) (v : Option VocSlot) : (d.setVoc n v).qm = d.qm := rfl
@[simp] theorem Device.setVoc_host (n : Nat) (v : Option VocSlot) : (d.setVoc n v).host = d.host := rfl
@[simp] theorem Device.setVoc_flash (n : Nat) (v : Option VocSlot) : (d.setVoc n v).flash = d.flash := rfl
@[simp] theorem Device.setVoc_power (n : Nat) (v : Option VocSlot) : (d.setVoc n v).power = d.power := rfl
@[simp] theorem Device.setVoc_sec (n : Nat) (v : Option VocSlot) : (d.setVoc n v).sec = d.sec := rfl
@[simp] theorem Device.setVoc_sieve (n : Nat) (v : Option VocSlot) : (d.setVoc n v).sieve = d.sieve := rfl
@[simp] theorem Device.setVoc_brx (n : Nat) (v : Option VocSlot) : (d.setVoc n v).brx = d.brx := rfl
@[simp] theorem Device.setVoc_gath (n : Nat) (v : Option VocSlot) : (d.setVoc n v).gath = d.gath := rfl
@[simp] theorem Device.setVoc_esp (n : Nat) (v : Option VocSlot) : (d.setVoc n v).esp = d.esp := rfl
@[simp] theorem Device.setVoc_pasm (n : Nat) (v : Option VocSlot) : (d.setVoc n v).pasm = d.pasm := rfl
@[simp] theorem Device.setVoc_seq (n : Nat) (v : Option VocSlot) : (d.setVoc n v).seq = d.seq := rfl
@[simp] theorem Device.setVoc_freeCount (n : Nat) (v : Option VocSlot) : (d.setVoc n v).freeCount = d.freeCount := rfl

@[simp] theorem Device.setGram_regs (n : Nat) (g : Option Gram) : (d.setGram n g).regs = d.regs := rfl
@[simp] theorem Device.setGram_port (n : Nat) (g : Option Gram) : (d.setGram n g).port = d.port := rfl
@[simp] theorem Device.setGram_ev (n : Nat) (g : Option Gram) : (d.setGram n g).ev = d.ev := rfl
@[simp] theorem Device.setGram_out (n : Nat) (g : Option Gram) : (d.setGram n g).out = d.out := rfl
@[simp] theorem Device.setGram_mem (n : Nat) (g : Option Gram) : (d.setGram n g).mem = d.mem := rfl
@[simp] theorem Device.setGram_store (n : Nat) (g : Option Gram) : (d.setGram n g).store = d.store := rfl
@[simp] theorem Device.setGram_plots (n : Nat) (g : Option Gram) : (d.setGram n g).plots = d.plots := rfl
@[simp] theorem Device.setGram_qm (n : Nat) (g : Option Gram) : (d.setGram n g).qm = d.qm := rfl
@[simp] theorem Device.setGram_host (n : Nat) (g : Option Gram) : (d.setGram n g).host = d.host := rfl
@[simp] theorem Device.setGram_flash (n : Nat) (g : Option Gram) : (d.setGram n g).flash = d.flash := rfl
@[simp] theorem Device.setGram_power (n : Nat) (g : Option Gram) : (d.setGram n g).power = d.power := rfl
@[simp] theorem Device.setGram_sec (n : Nat) (g : Option Gram) : (d.setGram n g).sec = d.sec := rfl
@[simp] theorem Device.setGram_sieve (n : Nat) (g : Option Gram) : (d.setGram n g).sieve = d.sieve := rfl
@[simp] theorem Device.setGram_brx (n : Nat) (g : Option Gram) : (d.setGram n g).brx = d.brx := rfl
@[simp] theorem Device.setGram_gath (n : Nat) (g : Option Gram) : (d.setGram n g).gath = d.gath := rfl
@[simp] theorem Device.setGram_text (n : Nat) (g : Option Gram) : (d.setGram n g).text = d.text := rfl
@[simp] theorem Device.setGram_pasm (n : Nat) (g : Option Gram) : (d.setGram n g).pasm = d.pasm := rfl
@[simp] theorem Device.setGram_seq (n : Nat) (g : Option Gram) : (d.setGram n g).seq = d.seq := rfl
@[simp] theorem Device.setGram_freeCount (n : Nat) (g : Option Gram) : (d.setGram n g).freeCount = d.freeCount := rfl

@[simp] theorem Device.setMdl_regs (m : Nat) (x : Option Model) : (d.setMdl m x).regs = d.regs := rfl
@[simp] theorem Device.setMdl_port (m : Nat) (x : Option Model) : (d.setMdl m x).port = d.port := rfl
@[simp] theorem Device.setMdl_ev (m : Nat) (x : Option Model) : (d.setMdl m x).ev = d.ev := rfl
@[simp] theorem Device.setMdl_out (m : Nat) (x : Option Model) : (d.setMdl m x).out = d.out := rfl
@[simp] theorem Device.setMdl_mem (m : Nat) (x : Option Model) : (d.setMdl m x).mem = d.mem := rfl
@[simp] theorem Device.setMdl_store (m : Nat) (x : Option Model) : (d.setMdl m x).store = d.store := rfl
@[simp] theorem Device.setMdl_plots (m : Nat) (x : Option Model) : (d.setMdl m x).plots = d.plots := rfl
@[simp] theorem Device.setMdl_qm (m : Nat) (x : Option Model) : (d.setMdl m x).qm = d.qm := rfl
@[simp] theorem Device.setMdl_host (m : Nat) (x : Option Model) : (d.setMdl m x).host = d.host := rfl
@[simp] theorem Device.setMdl_flash (m : Nat) (x : Option Model) : (d.setMdl m x).flash = d.flash := rfl
@[simp] theorem Device.setMdl_power (m : Nat) (x : Option Model) : (d.setMdl m x).power = d.power := rfl
@[simp] theorem Device.setMdl_sec (m : Nat) (x : Option Model) : (d.setMdl m x).sec = d.sec := rfl
@[simp] theorem Device.setMdl_sieve (m : Nat) (x : Option Model) : (d.setMdl m x).sieve = d.sieve := rfl
@[simp] theorem Device.setMdl_brx (m : Nat) (x : Option Model) : (d.setMdl m x).brx = d.brx := rfl
@[simp] theorem Device.setMdl_gath (m : Nat) (x : Option Model) : (d.setMdl m x).gath = d.gath := rfl
@[simp] theorem Device.setMdl_text (m : Nat) (x : Option Model) : (d.setMdl m x).text = d.text := rfl
@[simp] theorem Device.setMdl_esp (m : Nat) (x : Option Model) : (d.setMdl m x).esp = d.esp := rfl
@[simp] theorem Device.setMdl_pasm (m : Nat) (x : Option Model) : (d.setMdl m x).pasm = d.pasm := rfl
@[simp] theorem Device.setMdl_freeCount (m : Nat) (x : Option Model) : (d.setMdl m x).freeCount = d.freeCount := rfl

@[simp] theorem Device.setGrf_regs (g : Nat) (x : Option SlotSt) : (d.setGrf g x).regs = d.regs := rfl
@[simp] theorem Device.setGrf_port (g : Nat) (x : Option SlotSt) : (d.setGrf g x).port = d.port := rfl
@[simp] theorem Device.setGrf_ev (g : Nat) (x : Option SlotSt) : (d.setGrf g x).ev = d.ev := rfl
@[simp] theorem Device.setGrf_out (g : Nat) (x : Option SlotSt) : (d.setGrf g x).out = d.out := rfl
@[simp] theorem Device.setGrf_mem (g : Nat) (x : Option SlotSt) : (d.setGrf g x).mem = d.mem := rfl
@[simp] theorem Device.setGrf_store (g : Nat) (x : Option SlotSt) : (d.setGrf g x).store = d.store := rfl
@[simp] theorem Device.setGrf_plots (g : Nat) (x : Option SlotSt) : (d.setGrf g x).plots = d.plots := rfl
@[simp] theorem Device.setGrf_qm (g : Nat) (x : Option SlotSt) : (d.setGrf g x).qm = d.qm := rfl
@[simp] theorem Device.setGrf_host (g : Nat) (x : Option SlotSt) : (d.setGrf g x).host = d.host := rfl
@[simp] theorem Device.setGrf_flash (g : Nat) (x : Option SlotSt) : (d.setGrf g x).flash = d.flash := rfl
@[simp] theorem Device.setGrf_power (g : Nat) (x : Option SlotSt) : (d.setGrf g x).power = d.power := rfl
@[simp] theorem Device.setGrf_sec (g : Nat) (x : Option SlotSt) : (d.setGrf g x).sec = d.sec := rfl
@[simp] theorem Device.setGrf_sieve (g : Nat) (x : Option SlotSt) : (d.setGrf g x).sieve = d.sieve := rfl
@[simp] theorem Device.setGrf_brx (g : Nat) (x : Option SlotSt) : (d.setGrf g x).brx = d.brx := rfl
@[simp] theorem Device.setGrf_gath (g : Nat) (x : Option SlotSt) : (d.setGrf g x).gath = d.gath := rfl
@[simp] theorem Device.setGrf_text (g : Nat) (x : Option SlotSt) : (d.setGrf g x).text = d.text := rfl
@[simp] theorem Device.setGrf_esp (g : Nat) (x : Option SlotSt) : (d.setGrf g x).esp = d.esp := rfl
@[simp] theorem Device.setGrf_pasm (g : Nat) (x : Option SlotSt) : (d.setGrf g x).pasm = d.pasm := rfl
@[simp] theorem Device.setGrf_freeCount (g : Nat) (x : Option SlotSt) : (d.setGrf g x).freeCount = d.freeCount := rfl

@[simp] theorem Device.setEnt_regs (e : Nat) (x : SeqEnt) : (d.setEnt e x).regs = d.regs := rfl
@[simp] theorem Device.setEnt_port (e : Nat) (x : SeqEnt) : (d.setEnt e x).port = d.port := rfl
@[simp] theorem Device.setEnt_ev (e : Nat) (x : SeqEnt) : (d.setEnt e x).ev = d.ev := rfl
@[simp] theorem Device.setEnt_out (e : Nat) (x : SeqEnt) : (d.setEnt e x).out = d.out := rfl
@[simp] theorem Device.setEnt_mem (e : Nat) (x : SeqEnt) : (d.setEnt e x).mem = d.mem := rfl
@[simp] theorem Device.setEnt_store (e : Nat) (x : SeqEnt) : (d.setEnt e x).store = d.store := rfl
@[simp] theorem Device.setEnt_plots (e : Nat) (x : SeqEnt) : (d.setEnt e x).plots = d.plots := rfl
@[simp] theorem Device.setEnt_qm (e : Nat) (x : SeqEnt) : (d.setEnt e x).qm = d.qm := rfl
@[simp] theorem Device.setEnt_host (e : Nat) (x : SeqEnt) : (d.setEnt e x).host = d.host := rfl
@[simp] theorem Device.setEnt_flash (e : Nat) (x : SeqEnt) : (d.setEnt e x).flash = d.flash := rfl
@[simp] theorem Device.setEnt_power (e : Nat) (x : SeqEnt) : (d.setEnt e x).power = d.power := rfl
@[simp] theorem Device.setEnt_sec (e : Nat) (x : SeqEnt) : (d.setEnt e x).sec = d.sec := rfl
@[simp] theorem Device.setEnt_sieve (e : Nat) (x : SeqEnt) : (d.setEnt e x).sieve = d.sieve := rfl
@[simp] theorem Device.setEnt_brx (e : Nat) (x : SeqEnt) : (d.setEnt e x).brx = d.brx := rfl
@[simp] theorem Device.setEnt_gath (e : Nat) (x : SeqEnt) : (d.setEnt e x).gath = d.gath := rfl
@[simp] theorem Device.setEnt_text (e : Nat) (x : SeqEnt) : (d.setEnt e x).text = d.text := rfl
@[simp] theorem Device.setEnt_esp (e : Nat) (x : SeqEnt) : (d.setEnt e x).esp = d.esp := rfl
@[simp] theorem Device.setEnt_pasm (e : Nat) (x : SeqEnt) : (d.setEnt e x).pasm = d.pasm := rfl
@[simp] theorem Device.setEnt_freeCount (e : Nat) (x : SeqEnt) : (d.setEnt e x).freeCount = d.freeCount := rfl

variable (s : State) (f : Timebase → Device → Device)

@[simp] theorem State.onPins_tb : (s.onPins f).tb = s.tb := rfl
@[simp] theorem State.onPins_pending : (s.onPins f).pending = s.pending := rfl
@[simp] theorem State.onPins_dev : (s.onPins f).dev = (f s.tb s.dev).flush s.tb := rfl
@[simp] theorem State.onPart_tb : (s.onPart f).tb = s.tb := rfl
@[simp] theorem State.onPart_pending : (s.onPart f).pending = s.pending := rfl
@[simp] theorem State.onPart_dev : (s.onPart f).dev = f s.tb s.dev := rfl
@[simp] theorem State.flushed_tb : s.flushed.tb = s.tb := rfl
@[simp] theorem State.flushed_pending : s.flushed.pending = s.pending := rfl
@[simp] theorem State.flushed_dev : s.flushed.dev = s.dev.flush s.tb := rfl

/-- R514: a command out of the reset that PORST_N holds. -/
theorem State.live_of (g : State → State) (h : s.dev.power.porst = true) : s.live g = g s := by
  unfold State.live; rw [if_pos h]

/-- R514: a command in it. -/
theorem State.live_off (g : State → State) (h : s.dev.power.porst = false) : s.live g = s := by
  unfold State.live; rw [if_neg (by simp [h])]

@[simp] theorem State.onDev_tb : (s.onDev f).tb = s.tb := by unfold State.onDev State.live; split <;> rfl
@[simp] theorem State.onDev_pending : (s.onDev f).pending = s.pending := by unfold State.onDev State.live; split <;> rfl
@[simp] theorem State.onAon_tb : (s.onAon f).tb = s.tb := by unfold State.onAon State.live; split <;> rfl
@[simp] theorem State.onAon_pending : (s.onAon f).pending = s.pending := by unfold State.onAon State.live; split <;> rfl
@[simp] theorem State.atPoint_pending (n : Nat) : (s.atPoint n f).pending = s.pending := by
  unfold State.atPoint State.live; split <;> rfl
@[simp] theorem State.onReg_tb : (s.onReg f).tb = s.tb := by
  unfold State.onReg; split
  · unfold State.live; split <;> rfl
  · simp
@[simp] theorem State.onReg_pending : (s.onReg f).pending = s.pending := by
  unfold State.onReg; split
  · unfold State.live; split <;> rfl
  · simp

theorem State.onDev_of (h : s.dev.power.porst = true) : s.onDev f = { s with dev := (f s.tb s.dev).flush s.tb } :=
  s.live_of _ h
theorem State.onAon_of (h : s.dev.power.porst = true) : s.onAon f = { s with dev := (f s.tb s.dev.dropPend).flush s.tb } :=
  s.live_of _ h
theorem State.atPoint_of (n : Nat) (h : s.dev.power.porst = true) :
    s.atPoint n f = { s with tb := s.tb.goto n, dev := (f (s.tb.goto n) s.dev).flush (s.tb.goto n) } :=
  s.live_of _ h

/-- A write of a register of another block, outside the ROM phase (R454). -/
theorem State.onReg_of_ne (h : s.dev.power.phase ≠ .rom) : s.onReg f = s.onAon f := by
  unfold State.onReg
  rw [if_neg]
  simpa using h

@[simp] theorem Timebase.goto_len (tb : Timebase) (n : Nat) : (tb.goto n).len = tb.len := rfl
@[simp] theorem Timebase.goto_number (tb : Timebase) (n : Nat) : (tb.goto n).number = tb.number := rfl
@[simp] theorem Timebase.goto_st (tb : Timebase) (n : Nat) : (tb.goto n).st = tb.st := rfl

end Sys2Proof.Machine
end

