-- ==== Sys2Proof/Laws/Tables.lean ====
section
/-! SUPPORT. Tables and the register file: what is read after a write. -/
namespace Sys2Proof

namespace Tbl

@[simp] theorem get?_nil {α : Type} (k : Nat) : get? ([] : Tbl α) k = none := rfl

theorem get?_set_self {α : Type} (t : Tbl α) (k : Nat) (v : α) : get? (set t k v) k = some v := by
  induction t with
  | nil => simp [set, get?]
  | cons p t ih =>
    obtain ⟨a, w⟩ := p
    unfold set
    split
    · simp [get?]
    · split
      · simp [get?]
      · next h => simp [get?, h, ih]

theorem get?_set_ne {α : Type} (t : Tbl α) {j k : Nat} (v : α) (h : k ≠ j) : get? (set t k v) j = get? t j := by
  induction t with
  | nil => simp [set, get?, h]
  | cons p t ih =>
    obtain ⟨a, w⟩ := p
    unfold set
    split
    · simp [get?, h]
    · split
      · next e => subst e; simp [get?, h]
      · simp [get?, ih]

@[simp] theorem get?_set {α : Type} (t : Tbl α) (j k : Nat) (v : α) :
    get? (set t k v) j = if k = j then some v else get? t j := by
  split
  · next h => subst h; exact get?_set_self t k v
  · next h => exact get?_set_ne t v h

theorem getD_set {α : Type} (t : Tbl α) (j k : Nat) (v d : α) :
    getD (set t k v) j d = if k = j then v else getD t j d := by
  unfold getD; rw [get?_set]; split <;> rfl

theorem get?_del_ne {α : Type} (t : Tbl α) {j k : Nat} (h : k ≠ j) : get? (del t k) j = get? t j := by
  induction t with
  | nil => rfl
  | cons p t ih =>
    obtain ⟨a, w⟩ := p
    unfold del
    split
    · next e => subst e; simp [get?, h]
    · simp [get?, ih]

end Tbl

namespace Machine

theorem reg_setReg (d : Device) (j k v : Nat) : (d.setReg k v).reg j = if k = j then v % 2 ^ 32 else d.reg j := by
  unfold Device.setReg Device.reg
  rw [Tbl.get?_set]
  by_cases h : k = j
  · simp [h]
  · simp [h]

theorem reg_setReg_self (d : Device) (k v : Nat) : (d.setReg k v).reg k = v % 2 ^ 32 := by simp [reg_setReg]

theorem reg_setReg_ne (d : Device) {j k : Nat} (v : Nat) (h : k ≠ j) : (d.setReg k v).reg j = d.reg j := by
  simp [reg_setReg, h]

theorem reg_setFld_ne (d : Device) {j k : Nat} (hi lo v : Nat) (h : k ≠ j) : (d.setFld k hi lo v).reg j = d.reg j :=
  reg_setReg_ne d _ h

theorem reg_incBy_ne (d : Device) {j k : Nat} (n : Nat) (h : k ≠ j) : (d.incBy k n).reg j = d.reg j := reg_setReg_ne d _ h

/-- A counter after it was incremented (R493). -/
theorem reg_incBy_self (d : Device) (k n : Nat) : (d.incBy k n).reg k = min (d.reg k + n) 0xFFFFFFFF := by
  unfold Device.incBy
  rw [reg_setReg_self, Nat.mod_eq_of_lt]
  omega

theorem reg_clear (d : Device) (ks : List Nat) (j : Nat) : (d.clear ks).reg j = if j ∈ ks then 0 else d.reg j := by
  unfold Device.clear
  induction ks generalizing d with
  | nil => simp
  | cons k ks ih =>
    rw [List.foldl_cons, ih, reg_setReg]
    by_cases h : j ∈ ks
    · simp [h]
    · by_cases e : k = j
      · simp [e]
      · simp [h, e, Ne.symm e]

end Machine
end Sys2Proof
end

