-- ==== Sys2Proof/Laws/Events.lean ====
section
/-! SUPPORT. Taking events (R497 to R499) changes the event buffer and its registers, and nothing else. -/
namespace Sys2Proof.Machine

/-- Taking one event leaves every part but the buffer and the registers. -/
theorem takeEvent_eq (tb : Timebase) (d : Device) (r : EventReq) :
    d.takeEvent tb r = { d with regs := (d.takeEvent tb r).regs, ev := (d.takeEvent tb r).ev } := by
  unfold Device.takeEvent
  dsimp only
  split
  · rfl
  · split <;> rfl

theorem takeEvents_eq (tb : Timebase) (l : List EventReq) (d : Device) :
    l.foldl (Device.takeEvent tb) d =
      { d with regs := (l.foldl (Device.takeEvent tb) d).regs, ev := (l.foldl (Device.takeEvent tb) d).ev } := by
  induction l generalizing d with
  | nil => rfl
  | cons r l ih =>
    rw [List.foldl_cons, ih, takeEvent_eq]

theorem flush_eq (tb : Timebase) (d : Device) :
    d.flush tb = { d with regs := (d.flush tb).regs, ev := (d.flush tb).ev } := by
  unfold Device.flush
  rw [takeEvents_eq]

variable (tb : Timebase) (d : Device)

@[simp] theorem Device.flush_port : (d.flush tb).port = d.port := by rw [flush_eq]
@[simp] theorem Device.flush_out : (d.flush tb).out = d.out := by rw [flush_eq]
@[simp] theorem Device.flush_mem : (d.flush tb).mem = d.mem := by rw [flush_eq]
@[simp] theorem Device.flush_store : (d.flush tb).store = d.store := by rw [flush_eq]
@[simp] theorem Device.flush_plots : (d.flush tb).plots = d.plots := by rw [flush_eq]
@[simp] theorem Device.flush_qm : (d.flush tb).qm = d.qm := by rw [flush_eq]
@[simp] theorem Device.flush_host : (d.flush tb).host = d.host := by rw [flush_eq]
@[simp] theorem Device.flush_flash : (d.flush tb).flash = d.flash := by rw [flush_eq]
@[simp] theorem Device.flush_power : (d.flush tb).power = d.power := by rw [flush_eq]
@[simp] theorem Device.flush_sec : (d.flush tb).sec = d.sec := by rw [flush_eq]
@[simp] theorem Device.flush_sieve : (d.flush tb).sieve = d.sieve := by rw [flush_eq]
@[simp] theorem Device.flush_brx : (d.flush tb).brx = d.brx := by rw [flush_eq]
@[simp] theorem Device.flush_gath : (d.flush tb).gath = d.gath := by rw [flush_eq]
@[simp] theorem Device.flush_text : (d.flush tb).text = d.text := by rw [flush_eq]
@[simp] theorem Device.flush_esp : (d.flush tb).esp = d.esp := by rw [flush_eq]
@[simp] theorem Device.flush_pasm : (d.flush tb).pasm = d.pasm := by rw [flush_eq]
@[simp] theorem Device.flush_seq : (d.flush tb).seq = d.seq := by rw [flush_eq]
@[simp] theorem Device.flush_freeCount : (d.flush tb).freeCount = d.freeCount := by rw [flush_eq]

theorem reg_takeEvent {k : Nat} (r : EventReq) (h : k ∉ eventRegs) : (d.takeEvent tb r).reg k = d.reg k := by
  simp only [eventRegs, List.mem_cons, List.not_mem_nil, or_false, not_or] at h
  obtain ⟨h1, h2, h3, h4, h5⟩ := h
  unfold Device.takeEvent
  dsimp only
  split
  · exact reg_incBy_ne _ _ (Ne.symm h5)
  · split
    · change (((Device.inc _ _).setFld _ _ _ _)).reg k = _
      rw [reg_setFld_ne _ _ _ _ (Ne.symm h4)]
      unfold Device.inc
      rw [reg_incBy_ne _ _ (Ne.symm h3), reg_incBy_ne _ _ (Ne.symm h2), reg_setReg_ne _ _ (Ne.symm h1)]
      rfl
    · change (Device.inc _ _).reg k = _
      unfold Device.inc
      rw [reg_incBy_ne _ _ (Ne.symm h2), reg_setReg_ne _ _ (Ne.symm h1)]
      rfl

/-- A register that is none of the event buffer's is as before. -/
theorem reg_flush {k : Nat} (h : k ∉ eventRegs) : (d.flush tb).reg k = d.reg k := by
  unfold Device.flush
  have : ∀ (l : List EventReq) (e : Device), (l.foldl (Device.takeEvent tb) e).reg k = e.reg k := by
    intro l
    induction l with
    | nil => intro e; rfl
    | cons r l ih => intro e; rw [List.foldl_cons, ih, reg_takeEvent _ _ _ h]
  rw [this]
  rfl

theorem raised_takeEvent (r : EventReq) : (d.takeEvent tb r).ev.raised = d.ev.raised := by
  unfold Device.takeEvent
  dsimp only
  split
  · rfl
  · split <;> rfl

/-- Every raise was taken. -/
@[simp] theorem Device.flush_raised : (d.flush tb).ev.raised = [] := by
  unfold Device.flush
  have : ∀ (l : List EventReq) (e : Device), (l.foldl (Device.takeEvent tb) e).ev.raised = e.ev.raised := by
    intro l
    induction l with
    | nil => intro e; rfl
    | cons r l ih => intro e; rw [List.foldl_cons, ih, raised_takeEvent]
  rw [this]

@[simp] theorem reg_raiseReq (k : Nat) (r : EventReq) : (d.raiseReq r).reg k = d.reg k := rfl
@[simp] theorem reg_raise (k c : Nat) (p : List (Nat × Nat)) : (d.raise c p).reg k = d.reg k := rfl
@[simp] theorem reg_raiseCtx (k c x : Nat) (p : List (Nat × Nat)) : (d.raiseCtx c x p).reg k = d.reg k := rfl
@[simp] theorem reg_dropPend (k : Nat) : d.dropPend.reg k = d.reg k := rfl

/-! ### What the buffer holds after an event was taken -/

theorem mem_insertRec (r : EventRec) (l : List EventRec) :
    (∃ x ∈ insertRec r l, x.req = r.req) ∧ ∀ y ∈ l, ∃ x ∈ insertRec r l, x.req = y.req := by
  induction l generalizing r with
  | nil => simp [insertRec]
  | cons a t ih =>
    unfold insertRec
    split
    · have h := ih { r with
        seq := a.seq, lost := a.lost, throttled := if a.req.code == r.req.code then a.throttled else r.throttled }
      constructor
      · obtain ⟨x, hx, e⟩ := h.1
        exact ⟨x, List.mem_cons_of_mem _ hx, e⟩
      · intro y hy
        rcases List.mem_cons.mp hy with rfl | hy
        · exact ⟨_, List.mem_cons_self, rfl⟩
        · obtain ⟨x, hx, e⟩ := h.2 y hy
          exact ⟨x, List.mem_cons_of_mem _ hx, e⟩
    · exact ⟨⟨r, List.mem_cons_self, rfl⟩, fun y hy => ⟨y, List.mem_cons_of_mem _ hy, rfl⟩⟩

theorem counts_takeEvent (r : EventReq) :
    (d.takeEvent tb r).ev.counts = d.ev.counts.set r.code (d.ev.counts.getD r.code 0 + 1) := by
  unfold Device.takeEvent
  dsimp only
  split
  · rfl
  · split <;> rfl

theorem length_insertRec (r : EventRec) (l : List EventRec) : (insertRec r l).length = l.length + 1 := by
  induction l generalizing r with
  | nil => rfl
  | cons a t ih =>
    unfold insertRec
    split
    · simp [ih]
    · simp

theorem length_takeEvent (r : EventReq) : (d.takeEvent tb r).ev.buffer.length ≤ d.ev.buffer.length + 1 := by
  unfold Device.takeEvent
  dsimp only
  split
  · exact Nat.le_add_right _ _
  · split
    · exact Nat.le_add_right _ _
    · simp [length_insertRec]

/-- What the buffer held it holds. -/
theorem buffer_takeEvent_old (r : EventReq) {y : EventRec} (h : y ∈ d.ev.buffer) :
    ∃ x ∈ (d.takeEvent tb r).ev.buffer, x.req = y.req := by
  unfold Device.takeEvent
  dsimp only
  split
  · exact ⟨y, h, rfl⟩
  · split
    · exact ⟨y, h, rfl⟩
    · obtain ⟨x, hx, e⟩ := (mem_insertRec _ _).2 y (List.mem_reverse.mpr h)
      exact ⟨x, List.mem_reverse.mpr hx, e⟩

/-- A record that is neither throttled nor lost enters it. -/
theorem buffer_takeEvent_new (r : EventReq) (hn : d.ev.counts.getD r.code 0 < 16) (hb : d.ev.buffer.length < 256) :
    ∃ x ∈ (d.takeEvent tb r).ev.buffer, x.req = r := by
  unfold Device.takeEvent
  dsimp only
  rw [if_neg (by omega)]
  split
  · next h => exact absurd h (by simp; exact hb)
  · obtain ⟨x, hx, e⟩ := (mem_insertRec _ _).1
    exact ⟨x, List.mem_reverse.mpr hx, e⟩

/-- One event raised, and no other of its command. -/
theorem flush_one (r : EventReq) (h : d.ev.raised = []) : (d.raiseReq r).flush tb = d.takeEvent tb r := by
  unfold Device.flush Device.raiseReq
  rw [h]
  obtain ⟨rg, po, ev, _⟩ := d
  obtain ⟨ra, _⟩ := ev
  simp at h
  subst h
  rfl

/-- What one event leaves of it. -/
theorem raised_of_one {s t : State} (r : EventReq) (e : Device) (hs : e.ev = s.dev.ev) (h : s.settled)
    (ht : t.dev = (e.raiseReq r).flush s.tb) : s.raised r t := by
  have hr : e.ev.raised = [] := by rw [hs]; exact h
  unfold State.raised
  rw [ht, flush_one _ _ _ hr, counts_takeEvent, hs]
  refine ⟨by rw [Tbl.getD_set, if_pos rfl], fun hn hb => ?_⟩
  exact buffer_takeEvent_new _ _ _ (by rw [hs]; exact hn) (by rw [hs]; omega)

/-- With nothing raised, nothing is taken. -/
theorem flush_of_settled (h : d.ev.raised = []) : d.flush tb = d := by
  unfold Device.flush
  rw [h]
  obtain ⟨rg, po, ev, _⟩ := d
  obtain ⟨ra, _⟩ := ev
  simp at h
  subst h
  rfl

end Sys2Proof.Machine
end

