-- ==== Sys2Proof/Laws/Commands.lean ====
section
/-! SUPPORT. What the forms of a command do: its effect on the device, its frame, and its events, one or two of them. -/
namespace Sys2Proof.Machine

/-- Taking events leaves the parts of the device. -/
theorem DevPart.same_flush {p : DevPart} {a b : Device} (tb : Timebase) (h : p ≠ .regs) (h2 : p ≠ .ev) (h3 : p.same a b) :
    p.same a (b.flush tb) := by
  cases p <;> first | exact absurd rfl h | exact absurd rfl h2 | (simp only [DevPart.same] at *; simp [h3])

/-- A command on the device has the frame of its effect. -/
theorem frame_onDev {s : State} {ps : List DevPart} {ks : List Nat} {f : Timebase → Device → Device}
    (hl : s.dev.power.porst = true)
    (hk : ∀ k, k ∉ ks → (f s.tb s.dev).reg k = s.dev.reg k)
    (hp : ∀ p : DevPart, p ∉ ps → p ≠ .regs → p ≠ .ev → p.same s.dev (f s.tb s.dev)) : s.frame ps ks (s.onDev f) := by
  rw [s.onDev_of f hl]
  exact ⟨rfl, rfl, fun k h he => by
    show ((f s.tb s.dev).flush s.tb).reg k = _
    rw [reg_flush _ _ he, hk k h],
    fun p h h2 h3 => DevPart.same_flush _ h2 h3 (hp p h h2 h3)⟩

/-- A register write has the frame of its effect, and discards a pending _LO write. -/
theorem frame_onAon {s : State} {ps : List DevPart} {ks : List Nat} {f : Timebase → Device → Device}
    (hl : s.dev.power.porst = true)
    (hk : ∀ k, k ∉ ks → (f s.tb s.dev.dropPend).reg k = s.dev.reg k)
    (hp : ∀ p : DevPart, p ∉ ps → p ≠ .regs → p ≠ .ev → p.same s.dev (f s.tb s.dev.dropPend)) :
    s.frame ps ks (s.onAon f) := by
  rw [s.onAon_of f hl]
  exact ⟨rfl, rfl, fun k h he => by
    show ((f s.tb s.dev.dropPend).flush s.tb).reg k = _
    rw [reg_flush _ _ he, hk k h],
    fun p h h2 h3 => DevPart.same_flush _ h2 h3 (hp p h h2 h3)⟩

/-- Two events of a command, of different codes: the first is counted, and stands in the buffer. -/
theorem raised_of_two {s t : State} (r q : EventReq) (e : Device) (hs : e.ev = s.dev.ev) (h : s.settled)
    (hne : r.code ≠ q.code) (hb : r.before q = true) (ht : t.dev = ((e.raiseReq r).raiseReq q).flush s.tb) :
    s.raised r t := by
  have hr : e.ev.raised = [] := by rw [hs]; exact h
  have hf : t.dev = (e.takeEvent s.tb r).takeEvent s.tb q := by
    rw [ht]
    unfold Device.flush Device.raiseReq
    rw [hr]
    simp only [List.reverse_cons, List.reverse_nil, List.nil_append, List.cons_append, sortReqs, List.foldl_cons,
      List.foldl_nil, insertReq, hb, if_pos]
    obtain ⟨rg, po, ev, _⟩ := e
    obtain ⟨ra, _⟩ := ev
    simp at hr
    subst hr
    rfl
  unfold State.raised
  rw [hf, counts_takeEvent, counts_takeEvent, Tbl.getD_set, if_neg (Ne.symm hne), Tbl.getD_set, if_pos rfl, hs]
  refine ⟨rfl, fun hn hl => ?_⟩
  obtain ⟨x, hx, hxe⟩ := buffer_takeEvent_new s.tb e r (by rw [hs]; exact hn) (by rw [hs]; omega)
  obtain ⟨y, hy, hye⟩ := buffer_takeEvent_old s.tb (e.takeEvent s.tb r) q hx
  exact ⟨y, hy, hye.trans hxe⟩

end Sys2Proof.Machine
end

