-- ==== Sys2Proof/Laws/Issue.lean ====
section
/-! SUPPORT. What the shared operations of issue do: an instruction of a slot of a run, an instruction of a Trowel core,
and the change of one run or one cartridge slot. -/
namespace Sys2Proof.Machine

/-- A run after one run was stored. -/
theorem run?_setRun (d : Device) (i j : Nat) (r : Run) :
    (d.setRun i r).run? j = if i = j then some r else d.run? j := Tbl.get?_set _ _ _ _

/-- An instruction of a slot acts, aborts its plot with the first exception of the clk, its own first one among them, or finds its plot not issuing. -/
theorem slotOp_cases (i slot : Nat) (chk : Device → Run → List Nat) (act : Device → Run → Device × Run) (d : Device) :
    (∃ r, d.issues i r ∧ firstExc (chk d r) = none ∧ slotOp i slot chk act d = (act d r).1.setRun i (act d r).2) ∨
    (∃ r det, d.issues i r ∧ firstExc (chk d r) = some det ∧ slotOp i slot chk act d = abortClk i [(det, some slot)] d) ∨
    ((∀ r, ¬ d.issues i r) ∧ slotOp i slot chk act d = d) := by
  unfold slotOp Device.issues
  split
  · next h => exact .inr (.inr ⟨by simp [h], rfl⟩)
  · next r h =>
    split
    · next hc =>
      refine .inr (.inr ⟨?_, rfl⟩)
      rintro r' ⟨h', ha, hb, hl⟩
      rw [h] at h'
      cases h'
      rw [ha, hb] at hc
      simp at hc
      omega
    · next hc =>
      simp only [Bool.or_eq_true, decide_eq_true_eq, not_or] at hc
      obtain ⟨⟨ha, hb⟩, hl⟩ := hc
      have hi : r.aborted = none ∧ r.replay = none ∧ r.elapsed < r.plot.length := by
        refine ⟨by simpa using ha, by simpa using hb, by omega⟩
      split
      · next det he => exact .inr (.inl ⟨r, det, ⟨h, hi⟩, he, rfl⟩)
      · next he => exact .inl ⟨r, ⟨h, hi⟩, he, rfl⟩

/-- An instruction of a slot whose checks pass. -/
theorem slotOp_acts {i slot : Nat} {chk : Device → Run → List Nat} {act : Device → Run → Device × Run} {d : Device} {r : Run}
    (h : d.issues i r) (hc : firstExc (chk d r) = none) :
    slotOp i slot chk act d = (act d r).1.setRun i (act d r).2 := by
  obtain ⟨hr, ha, hb, hl⟩ := h
  unfold slotOp
  rw [hr]
  have : ¬ r.plot.length ≤ r.elapsed := by omega
  simp [ha, hb, this, hc]

/-- An instruction of a slot with an exception. -/
theorem slotOp_aborts {i slot det : Nat} {chk : Device → Run → List Nat} {act : Device → Run → Device × Run} {d : Device}
    {r : Run} (h : d.issues i r) (hc : firstExc (chk d r) = some det) : slotOp i slot chk act d = abortClk i [(det, some slot)] d := by
  obtain ⟨hr, ha, hb, hl⟩ := h
  unfold slotOp
  rw [hr]
  have : ¬ r.plot.length ≤ r.elapsed := by omega
  simp [ha, hb, this, hc]

/-- An instruction that comes to issue in a core, without an exception. -/
theorem coreOp_acts {s : State} {i t op : Nat} {reads : Nat → List Nat} {exc : Device → Run → Trowel → Nat → List Nat}
    {act : Device → Run → Trowel → Nat → Nat → Device × Run × Trowel} {d : Device} {r : Run} {x : Trowel} {w c : Nat}
    (h : CoreIssues s i t op reads d r x w c) (he : firstExc (exc d r x w) = none) :
    coreOp i t op reads exc act s.dev = (act d r x w c).1.setRun i ((act d r x w c).2.1.setCore t (act d r x w c).2.2) := by
  obtain ⟨⟨r0, hr, ha, hb, hrun, hleg, hw, hc, hlim⟩, hopc, hd, hhere, hlive, hcore⟩ := h
  subst hw hc hd hcore
  unfold coreOp
  rw [hr]
  have hl : ¬ r0.trowelLimit (r0.core t) ≤ (r0.core t).issueAt (reads (r0.core t).fetch) := by omega
  dsimp only
  simp only [ha, hb, hrun, hleg, hopc, hl, Option.isSome_none, Bool.not_true, Bool.or_self, bne_self_eq_false, decide_false,
    Bool.false_eq_true, if_false]
  rw [hhere]
  simp [hlive, he]

/-- A slot after one slot was stored; its switch is closed where its power is off. -/
theorem slot_setSlot (d : Device) (n m : Nat) (x : FlashSlot) :
    (d.setSlot n x).slot m = if n = m then (if x.st.power = 0 then { x with vcartOpen := false } else x) else d.slot m := by
  have h : ∀ (s a b : Nat) (e : Device), (cartPower s a b e).slot m = e.slot m := by
    intro s a b e; unfold cartPower; split <;> rfl
  unfold Device.setSlot
  dsimp only
  rw [h]
  unfold Device.slot
  dsimp only
  rw [Tbl.getD_set]
  split
  · by_cases hp : x.st.power = 0
    · simp [hp]
    · have : (x.st.power == 0) = false := by simpa using hp
      simp [this, hp]
  · rfl

/-- R476: a change of a slot's power touches the events alone. -/
theorem cartPower_eq (n old new : Nat) (d : Device) : cartPower n old new d = { d with ev := (cartPower n old new d).ev } := by
  unfold cartPower; split <;> rfl

/-- Storing a slot changes nothing but the slots, and raises the change of its power. -/
theorem setSlot_eq (d : Device) (n : Nat) (x : FlashSlot) :
    d.setSlot n x = { d with
      flash := { d.flash with slots := (d.setSlot n x).flash.slots }
      ev := (d.setSlot n x).ev } := by
  unfold Device.setSlot
  dsimp only
  rw [cartPower_eq]

end Sys2Proof.Machine
end

