-- ==== Sys2Proof/Laws/Flash.lean ====
section
/-! SUPPORT. What an update of a cartridge slot, of one of its flash channels and of its cartridge leaves, and what it gives. -/
namespace Sys2Proof.Machine

variable (d : Device) (x : FlashSlot) (c : Cart)

@[simp] theorem Device.setSlot_regs (n : Nat) : (d.setSlot n x).regs = d.regs := by rw [setSlot_eq]
@[simp] theorem Device.setSlot_port (n : Nat) : (d.setSlot n x).port = d.port := by rw [setSlot_eq]
@[simp] theorem Device.setSlot_out (n : Nat) : (d.setSlot n x).out = d.out := by rw [setSlot_eq]
@[simp] theorem Device.setSlot_mem (n : Nat) : (d.setSlot n x).mem = d.mem := by rw [setSlot_eq]
@[simp] theorem Device.setSlot_store (n : Nat) : (d.setSlot n x).store = d.store := by rw [setSlot_eq]
@[simp] theorem Device.setSlot_plots (n : Nat) : (d.setSlot n x).plots = d.plots := by rw [setSlot_eq]
@[simp] theorem Device.setSlot_qm (n : Nat) : (d.setSlot n x).qm = d.qm := by rw [setSlot_eq]
@[simp] theorem Device.setSlot_host (n : Nat) : (d.setSlot n x).host = d.host := by rw [setSlot_eq]
@[simp] theorem Device.setSlot_power (n : Nat) : (d.setSlot n x).power = d.power := by rw [setSlot_eq]
@[simp] theorem Device.setSlot_sec (n : Nat) : (d.setSlot n x).sec = d.sec := by rw [setSlot_eq]
@[simp] theorem Device.setSlot_sieve (n : Nat) : (d.setSlot n x).sieve = d.sieve := by rw [setSlot_eq]
@[simp] theorem Device.setSlot_brx (n : Nat) : (d.setSlot n x).brx = d.brx := by rw [setSlot_eq]
@[simp] theorem Device.setSlot_gath (n : Nat) : (d.setSlot n x).gath = d.gath := by rw [setSlot_eq]
@[simp] theorem Device.setSlot_text (n : Nat) : (d.setSlot n x).text = d.text := by rw [setSlot_eq]
@[simp] theorem Device.setSlot_esp (n : Nat) : (d.setSlot n x).esp = d.esp := by rw [setSlot_eq]
@[simp] theorem Device.setSlot_pasm (n : Nat) : (d.setSlot n x).pasm = d.pasm := by rw [setSlot_eq]
@[simp] theorem Device.setSlot_seq (n : Nat) : (d.setSlot n x).seq = d.seq := by rw [setSlot_eq]
@[simp] theorem Device.setSlot_freeCount (n : Nat) : (d.setSlot n x).freeCount = d.freeCount := by rw [setSlot_eq]

@[simp] theorem Device.updSlot_regs (n : Nat) (g : FlashSlot → FlashSlot) : (d.updSlot n g).regs = d.regs := d.setSlot_regs _ n
@[simp] theorem Device.updSlot_port (n : Nat) (g : FlashSlot → FlashSlot) : (d.updSlot n g).port = d.port := d.setSlot_port _ n
@[simp] theorem Device.updSlot_out (n : Nat) (g : FlashSlot → FlashSlot) : (d.updSlot n g).out = d.out := d.setSlot_out _ n
@[simp] theorem Device.updSlot_mem (n : Nat) (g : FlashSlot → FlashSlot) : (d.updSlot n g).mem = d.mem := d.setSlot_mem _ n
@[simp] theorem Device.updSlot_store (n : Nat) (g : FlashSlot → FlashSlot) : (d.updSlot n g).store = d.store := d.setSlot_store _ n
@[simp] theorem Device.updSlot_plots (n : Nat) (g : FlashSlot → FlashSlot) : (d.updSlot n g).plots = d.plots := d.setSlot_plots _ n
@[simp] theorem Device.updSlot_qm (n : Nat) (g : FlashSlot → FlashSlot) : (d.updSlot n g).qm = d.qm := d.setSlot_qm _ n
@[simp] theorem Device.updSlot_host (n : Nat) (g : FlashSlot → FlashSlot) : (d.updSlot n g).host = d.host := d.setSlot_host _ n
@[simp] theorem Device.updSlot_power (n : Nat) (g : FlashSlot → FlashSlot) : (d.updSlot n g).power = d.power := d.setSlot_power _ n
@[simp] theorem Device.updSlot_sec (n : Nat) (g : FlashSlot → FlashSlot) : (d.updSlot n g).sec = d.sec := d.setSlot_sec _ n
@[simp] theorem Device.updSlot_sieve (n : Nat) (g : FlashSlot → FlashSlot) : (d.updSlot n g).sieve = d.sieve := d.setSlot_sieve _ n
@[simp] theorem Device.updSlot_brx (n : Nat) (g : FlashSlot → FlashSlot) : (d.updSlot n g).brx = d.brx := d.setSlot_brx _ n
@[simp] theorem Device.updSlot_gath (n : Nat) (g : FlashSlot → FlashSlot) : (d.updSlot n g).gath = d.gath := d.setSlot_gath _ n
@[simp] theorem Device.updSlot_text (n : Nat) (g : FlashSlot → FlashSlot) : (d.updSlot n g).text = d.text := d.setSlot_text _ n
@[simp] theorem Device.updSlot_esp (n : Nat) (g : FlashSlot → FlashSlot) : (d.updSlot n g).esp = d.esp := d.setSlot_esp _ n
@[simp] theorem Device.updSlot_pasm (n : Nat) (g : FlashSlot → FlashSlot) : (d.updSlot n g).pasm = d.pasm := d.setSlot_pasm _ n
@[simp] theorem Device.updSlot_seq (n : Nat) (g : FlashSlot → FlashSlot) : (d.updSlot n g).seq = d.seq := d.setSlot_seq _ n
@[simp] theorem Device.updSlot_freeCount (n : Nat) (g : FlashSlot → FlashSlot) : (d.updSlot n g).freeCount = d.freeCount := d.setSlot_freeCount _ n

/-- A slot after one slot was changed. -/
theorem slot_updSlot (n m : Nat) (g : FlashSlot → FlashSlot) : (d.updSlot n g).slot m =
    if n = m then (if (g (d.slot n)).st.power = 0 then { g (d.slot n) with vcartOpen := false } else g (d.slot n)) else d.slot m :=
  slot_setSlot d n m _

@[simp] theorem FlashSlot.onCart_st (g : Cart → Cart) : (x.onCart g).st = x.st := rfl
@[simp] theorem FlashSlot.onCart_challenge (g : Cart → Cart) : (x.onCart g).challenge = x.challenge := rfl
@[simp] theorem FlashSlot.onCart_authDone (g : Cart → Cart) : (x.onCart g).authDone = x.authDone := rfl
@[simp] theorem FlashSlot.onCart_failReason (g : Cart → Cart) : (x.onCart g).failReason = x.failReason := rfl
@[simp] theorem FlashSlot.onCart_unwrapFail (g : Cart → Cart) : (x.onCart g).unwrapFail = x.unwrapFail := rfl
@[simp] theorem FlashSlot.onCart_readOnly (g : Cart → Cart) : (x.onCart g).readOnly = x.readOnly := rfl
@[simp] theorem FlashSlot.onCart_lifeWarned (g : Cart → Cart) : (x.onCart g).lifeWarned = x.lifeWarned := rfl
@[simp] theorem FlashSlot.onCart_tempHold (g : Cart → Cart) : (x.onCart g).tempHold = x.tempHold := rfl
@[simp] theorem FlashSlot.onCart_temp (g : Cart → Cart) : (x.onCart g).temp = x.temp := rfl
@[simp] theorem FlashSlot.onCart_offline (g : Cart → Cart) : (x.onCart g).offline = x.offline := rfl
@[simp] theorem FlashSlot.onCart_force (g : Cart → Cart) : (x.onCart g).force = x.force := rfl
@[simp] theorem FlashSlot.onCart_resetting (g : Cart → Cart) : (x.onCart g).resetting = x.resetting := rfl
@[simp] theorem FlashSlot.onCart_vcartOpen (g : Cart → Cart) : (x.onCart g).vcartOpen = x.vcartOpen := rfl
@[simp] theorem FlashSlot.onCart_map (g : Cart → Cart) : (x.onCart g).map = x.map := rfl
@[simp] theorem FlashSlot.onCart_chans (g : Cart → Cart) : (x.onCart g).chans = x.chans := rfl
@[simp] theorem FlashSlot.onCart_locked (g : Cart → Cart) : (x.onCart g).locked = x.locked := rfl
@[simp] theorem FlashSlot.onCart_ckpt (g : Cart → Cart) : (x.onCart g).ckpt = x.ckpt := rfl
@[simp] theorem FlashSlot.onCart_ckptFur (g : Cart → Cart) : (x.onCart g).ckptFur = x.ckptFur := rfl
@[simp] theorem FlashSlot.onCart_lunSet (g : Cart → Cart) : (x.onCart g).lunSet = x.lunSet := rfl
@[simp] theorem FlashSlot.onCart_cart (g : Cart → Cart) : (x.onCart g).cart = x.cart.map g := rfl

@[simp] theorem FlashSlot.setChan_st (n : Nat) (h : FlashChan) : (x.setChan n h).st = x.st := rfl
@[simp] theorem FlashSlot.setChan_cart (n : Nat) (h : FlashChan) : (x.setChan n h).cart = x.cart := rfl
@[simp] theorem FlashSlot.setChan_challenge (n : Nat) (h : FlashChan) : (x.setChan n h).challenge = x.challenge := rfl
@[simp] theorem FlashSlot.setChan_authDone (n : Nat) (h : FlashChan) : (x.setChan n h).authDone = x.authDone := rfl
@[simp] theorem FlashSlot.setChan_failReason (n : Nat) (h : FlashChan) : (x.setChan n h).failReason = x.failReason := rfl
@[simp] theorem FlashSlot.setChan_unwrapFail (n : Nat) (h : FlashChan) : (x.setChan n h).unwrapFail = x.unwrapFail := rfl
@[simp] theorem FlashSlot.setChan_readOnly (n : Nat) (h : FlashChan) : (x.setChan n h).readOnly = x.readOnly := rfl
@[simp] theorem FlashSlot.setChan_lifeWarned (n : Nat) (h : FlashChan) : (x.setChan n h).lifeWarned = x.lifeWarned := rfl
@[simp] theorem FlashSlot.setChan_tempHold (n : Nat) (h : FlashChan) : (x.setChan n h).tempHold = x.tempHold := rfl
@[simp] theorem FlashSlot.setChan_temp (n : Nat) (h : FlashChan) : (x.setChan n h).temp = x.temp := rfl
@[simp] theorem FlashSlot.setChan_offline (n : Nat) (h : FlashChan) : (x.setChan n h).offline = x.offline := rfl
@[simp] theorem FlashSlot.setChan_force (n : Nat) (h : FlashChan) : (x.setChan n h).force = x.force := rfl
@[simp] theorem FlashSlot.setChan_resetting (n : Nat) (h : FlashChan) : (x.setChan n h).resetting = x.resetting := rfl
@[simp] theorem FlashSlot.setChan_vcartOpen (n : Nat) (h : FlashChan) : (x.setChan n h).vcartOpen = x.vcartOpen := rfl
@[simp] theorem FlashSlot.setChan_map (n : Nat) (h : FlashChan) : (x.setChan n h).map = x.map := rfl
@[simp] theorem FlashSlot.setChan_locked (n : Nat) (h : FlashChan) : (x.setChan n h).locked = x.locked := rfl
@[simp] theorem FlashSlot.setChan_ckpt (n : Nat) (h : FlashChan) : (x.setChan n h).ckpt = x.ckpt := rfl
@[simp] theorem FlashSlot.setChan_ckptFur (n : Nat) (h : FlashChan) : (x.setChan n h).ckptFur = x.ckptFur := rfl
@[simp] theorem FlashSlot.setChan_lunSet (n : Nat) (h : FlashChan) : (x.setChan n h).lunSet = x.lunSet := rfl

@[simp] theorem FlashSlot.updChan_st (n : Nat) (g : FlashChan → FlashChan) : (x.updChan n g).st = x.st := rfl
@[simp] theorem FlashSlot.updChan_cart (n : Nat) (g : FlashChan → FlashChan) : (x.updChan n g).cart = x.cart := rfl
@[simp] theorem FlashSlot.updChan_challenge (n : Nat) (g : FlashChan → FlashChan) : (x.updChan n g).challenge = x.challenge := rfl
@[simp] theorem FlashSlot.updChan_authDone (n : Nat) (g : FlashChan → FlashChan) : (x.updChan n g).authDone = x.authDone := rfl
@[simp] theorem FlashSlot.updChan_failReason (n : Nat) (g : FlashChan → FlashChan) : (x.updChan n g).failReason = x.failReason := rfl
@[simp] theorem FlashSlot.updChan_unwrapFail (n : Nat) (g : FlashChan → FlashChan) : (x.updChan n g).unwrapFail = x.unwrapFail := rfl
@[simp] theorem FlashSlot.updChan_readOnly (n : Nat) (g : FlashChan → FlashChan) : (x.updChan n g).readOnly = x.readOnly := rfl
@[simp] theorem FlashSlot.updChan_lifeWarned (n : Nat) (g : FlashChan → FlashChan) : (x.updChan n g).lifeWarned = x.lifeWarned := rfl
@[simp] theorem FlashSlot.updChan_tempHold (n : Nat) (g : FlashChan → FlashChan) : (x.updChan n g).tempHold = x.tempHold := rfl
@[simp] theorem FlashSlot.updChan_temp (n : Nat) (g : FlashChan → FlashChan) : (x.updChan n g).temp = x.temp := rfl
@[simp] theorem FlashSlot.updChan_offline (n : Nat) (g : FlashChan → FlashChan) : (x.updChan n g).offline = x.offline := rfl
@[simp] theorem FlashSlot.updChan_force (n : Nat) (g : FlashChan → FlashChan) : (x.updChan n g).force = x.force := rfl
@[simp] theorem FlashSlot.updChan_resetting (n : Nat) (g : FlashChan → FlashChan) : (x.updChan n g).resetting = x.resetting := rfl
@[simp] theorem FlashSlot.updChan_vcartOpen (n : Nat) (g : FlashChan → FlashChan) : (x.updChan n g).vcartOpen = x.vcartOpen := rfl
@[simp] theorem FlashSlot.updChan_map (n : Nat) (g : FlashChan → FlashChan) : (x.updChan n g).map = x.map := rfl
@[simp] theorem FlashSlot.updChan_locked (n : Nat) (g : FlashChan → FlashChan) : (x.updChan n g).locked = x.locked := rfl
@[simp] theorem FlashSlot.updChan_ckpt (n : Nat) (g : FlashChan → FlashChan) : (x.updChan n g).ckpt = x.ckpt := rfl
@[simp] theorem FlashSlot.updChan_ckptFur (n : Nat) (g : FlashChan → FlashChan) : (x.updChan n g).ckptFur = x.ckptFur := rfl
@[simp] theorem FlashSlot.updChan_lunSet (n : Nat) (g : FlashChan → FlashChan) : (x.updChan n g).lunSet = x.lunSet := rfl

/-- A channel after one channel was stored. -/
theorem chan_setChan (n m : Nat) (h : FlashChan) : (x.setChan n h).chan m = if n = m then h else x.chan m := by
  unfold FlashSlot.chan FlashSlot.setChan Tbl.getD
  rw [Tbl.get?_set]
  split <;> rfl

/-- A channel after one channel was changed. -/
theorem chan_updChan (n m : Nat) (g : FlashChan → FlashChan) :
    (x.updChan n g).chan m = if n = m then g (x.chan n) else x.chan m := chan_setChan x n m _

@[simp] theorem Cart.updSb_ident (k : Nat) (g : Superblock → Superblock) : (c.updSb k g).ident = c.ident := rfl
@[simp] theorem Cart.updSb_life (k : Nat) (g : Superblock → Superblock) : (c.updSb k g).life = c.life := rfl
@[simp] theorem Cart.updSb_tWriteMax (k : Nat) (g : Superblock → Superblock) : (c.updSb k g).tWriteMax = c.tWriteMax := rfl
@[simp] theorem Cart.updSb_rated (k : Nat) (g : Superblock → Superblock) : (c.updSb k g).rated = c.rated := rfl
@[simp] theorem Cart.updSb_wearBase (k : Nat) (g : Superblock → Superblock) : (c.updSb k g).wearBase = c.wearBase := rfl
@[simp] theorem Cart.updSb_sysKey (k : Nat) (g : Superblock → Superblock) : (c.updSb k g).sysKey = c.sysKey := rfl
@[simp] theorem Cart.updSb_sysForeign (k : Nat) (g : Superblock → Superblock) : (c.updSb k g).sysForeign = c.sysForeign := rfl
@[simp] theorem Cart.updSb_pages (k : Nat) (g : Superblock → Superblock) : (c.updSb k g).pages = c.pages := rfl
@[simp] theorem Cart.updSb_data (k : Nat) (g : Superblock → Superblock) : (c.updSb k g).data = c.data := rfl
@[simp] theorem Cart.updSb_nss (k : Nat) (g : Superblock → Superblock) : (c.updSb k g).nss = c.nss := rfl
@[simp] theorem Cart.updSb_dir (k : Nat) (g : Superblock → Superblock) : (c.updSb k g).dir = c.dir := rfl
@[simp] theorem Cart.updSb_dirSlot (k : Nat) (g : Superblock → Superblock) : (c.updSb k g).dirSlot = c.dirSlot := rfl
@[simp] theorem Cart.updSb_born (k : Nat) (g : Superblock → Superblock) : (c.updSb k g).born = c.born := rfl
@[simp] theorem Cart.updSb_ckpts (k : Nat) (g : Superblock → Superblock) : (c.updSb k g).ckpts = c.ckpts := rfl
@[simp] theorem Cart.updSb_commits (k : Nat) (g : Superblock → Superblock) : (c.updSb k g).commits = c.commits := rfl
@[simp] theorem Cart.updSb_maxTemp (k : Nat) (g : Superblock → Superblock) : (c.updSb k g).maxTemp = c.maxTemp := rfl
@[simp] theorem Cart.updSb_hist (k : Nat) (g : Superblock → Superblock) : (c.updSb k g).hist = c.hist := rfl
@[simp] theorem Cart.updSb_stats (k : Nat) (g : Superblock → Superblock) : (c.updSb k g).stats = c.stats := rfl

@[simp] theorem Cart.bump_ident (k n : Nat) : (c.bump k n).ident = c.ident := rfl
@[simp] theorem Cart.bump_life (k n : Nat) : (c.bump k n).life = c.life := rfl
@[simp] theorem Cart.bump_tWriteMax (k n : Nat) : (c.bump k n).tWriteMax = c.tWriteMax := rfl
@[simp] theorem Cart.bump_rated (k n : Nat) : (c.bump k n).rated = c.rated := rfl
@[simp] theorem Cart.bump_wearBase (k n : Nat) : (c.bump k n).wearBase = c.wearBase := rfl
@[simp] theorem Cart.bump_sysKey (k n : Nat) : (c.bump k n).sysKey = c.sysKey := rfl
@[simp] theorem Cart.bump_sysForeign (k n : Nat) : (c.bump k n).sysForeign = c.sysForeign := rfl
@[simp] theorem Cart.bump_sbs (k n : Nat) : (c.bump k n).sbs = c.sbs := rfl
@[simp] theorem Cart.bump_pages (k n : Nat) : (c.bump k n).pages = c.pages := rfl
@[simp] theorem Cart.bump_data (k n : Nat) : (c.bump k n).data = c.data := rfl
@[simp] theorem Cart.bump_nss (k n : Nat) : (c.bump k n).nss = c.nss := rfl
@[simp] theorem Cart.bump_dir (k n : Nat) : (c.bump k n).dir = c.dir := rfl
@[simp] theorem Cart.bump_dirSlot (k n : Nat) : (c.bump k n).dirSlot = c.dirSlot := rfl
@[simp] theorem Cart.bump_born (k n : Nat) : (c.bump k n).born = c.born := rfl
@[simp] theorem Cart.bump_ckpts (k n : Nat) : (c.bump k n).ckpts = c.ckpts := rfl
@[simp] theorem Cart.bump_commits (k n : Nat) : (c.bump k n).commits = c.commits := rfl
@[simp] theorem Cart.bump_maxTemp (k n : Nat) : (c.bump k n).maxTemp = c.maxTemp := rfl
@[simp] theorem Cart.bump_hist (k n : Nat) : (c.bump k n).hist = c.hist := rfl

/-- A superblock after one superblock was stored. -/
theorem sb_setSb (k j : Nat) (b : Superblock) : (c.setSb k b).sb j = if k = j then b else c.sb j := by
  unfold Cart.sb Cart.setSb Tbl.getD
  rw [Tbl.get?_set]
  split <;> rfl

/-- A superblock after one superblock was changed. -/
theorem sb_updSb (k j : Nat) (g : Superblock → Superblock) : (c.updSb k g).sb j = if k = j then g (c.sb k) else c.sb j :=
  sb_setSb c k j _

@[simp] theorem FlashChan.takeOpen_queue (h : FlashChan) (o n : Nat) : (h.takeOpen o n).queue = h.queue := rfl
@[simp] theorem FlashChan.takeOpen_openSbs (h : FlashChan) (o n : Nat) : (h.takeOpen o n).openSbs = h.openSbs := rfl
@[simp] theorem FlashChan.takeOpen_fold (h : FlashChan) (o n : Nat) : (h.takeOpen o n).fold = h.fold := rfl
@[simp] theorem FlashChan.takeOpen_seq (h : FlashChan) (o n : Nat) : (h.takeOpen o n).seq = h.seq := rfl
@[simp] theorem FlashChan.takeHeld_queue (h : FlashChan) (o n : Nat) : (h.takeHeld o n).queue = h.queue := rfl
@[simp] theorem FlashChan.takeHeld_openSbs (h : FlashChan) (o n : Nat) : (h.takeHeld o n).openSbs = h.openSbs := rfl
@[simp] theorem FlashChan.takeHeld_fold (h : FlashChan) (o n : Nat) : (h.takeHeld o n).fold = h.fold := rfl
@[simp] theorem FlashChan.takeHeld_seq (h : FlashChan) (o n : Nat) : (h.takeHeld o n).seq = h.seq := rfl

/-- Reads in flight, of a device whose slot was stored or changed. -/
@[simp] theorem Device.setSlot_reads (n : Nat) : (d.setSlot n x).flash.reads = d.flash.reads := by rw [Device.setSlot, cartPower_eq]
@[simp] theorem Device.updSlot_reads (n : Nat) (g : FlashSlot → FlashSlot) : (d.updSlot n g).flash.reads = d.flash.reads :=
  Device.setSlot_reads d _ n

/-- The end of a read takes it from those in flight and leaves the slots; nothing outside the flash unit changes. -/
theorem endRead_spec (i : Nat) (r : FlashRead) (bad : Option Nat) :
    endRead i r bad d = { d with flash := (endRead i r bad d).flash } ∧ (endRead i r bad d).flash.slots = d.flash.slots ∧
    (endRead i r bad d).flash.reads = d.flash.reads.eraseIdx i := by
  unfold endRead
  dsimp only
  split <;> exact ⟨rfl, rfl, rfl⟩

/-- The reads of a slot that fail at once leave those in flight; nothing outside the flash unit changes. -/
theorem failReads_spec (n det : Nat) :
    failReads n det d = { d with flash := (failReads n det d).flash } ∧ (failReads n det d).flash.slots = d.flash.slots ∧
    (failReads n det d).flash.reads = d.flash.reads.filter (fun r => !(r.slot == n)) := by
  unfold failReads
  refine ⟨rfl, rfl, ?_⟩
  simp only [List.partition_eq_filter_filter]
  rfl

/-- An attempt that is charged leaves the reads in flight. -/
theorem chargeRead_reads (f : Nat) (r : FlashRead) : (chargeRead d f r).flash.reads = d.flash.reads := by
  unfold chargeRead
  split
  · rfl
  · exact d.updSlot_reads _ _

/-! ### Spare records -/

theorem leBytes_length (n v : Nat) : (leBytes n v).length = n := by
  induction n generalizing v with
  | zero => rfl
  | succ n ih => simp [leBytes, ih]

theorem ofLe_leBytes (n v : Nat) : ofLe (leBytes n v) = v % 256 ^ n := by
  induction n generalizing v with
  | zero => simp [leBytes, ofLe, Nat.mod_one]
  | succ n ih =>
    simp only [leBytes, ofLe, ih, BitVec.toNat_ofNat]
    rw [show 256 ^ (n + 1) = 256 * 256 ^ n from by rw [Nat.pow_succ, Nat.mul_comm], Nat.mod_mul]

/-- A CRC-32C fits 32 bits. -/
theorem crc32c_lt (l : List Byte) : crc32c l < 2 ^ 32 := by
  have hb : ∀ c, c < 2 ^ 32 → crcBit c < 2 ^ 32 := by
    intro c h
    unfold crcBit
    split
    · exact Nat.xor_lt_two_pow (by omega) (by decide)
    · omega
  have hB : ∀ c (b : Byte), c < 2 ^ 32 → crcByte c b < 2 ^ 32 := by
    intro c b h
    unfold crcByte
    exact hb _ (hb _ (hb _ (hb _ (hb _ (hb _ (hb _ (hb _ (Nat.xor_lt_two_pow h (by have := b.isLt; omega)))))))))
  have hf : ∀ (l : List Byte) c, c < 2 ^ 32 → l.foldl crcByte c < 2 ^ 32 := by
    intro l
    induction l with
    | nil => exact fun _ h => h
    | cons b t ih => exact fun c h => ih _ (hB c b h)
  exact Nat.xor_lt_two_pow (hf l _ (by decide)) (by decide)

/-- R419: a spare record that reads as it was written passes its CRC. -/
theorem spareOk_bytes (g : Spare) : spareOk g.bytes = true := by
  unfold Spare.bytes
  dsimp only
  generalize hbd : leBytes 5 g.lpn ++ leBytes 1 (boolBit g.slc + 2 * boolBit g.filler + 4 * boolBit g.fold.isSome) ++ leBytes 2 g.nsid
    ++ leBytes 6 g.furrow.toNat ++ leBytes 1 g.temp ++ leBytes 1 0 ++ leBytes 8 g.seq ++ leBytes 4 (g.fold.getD 0)
    ++ List.replicate 32 0 = body
  have hl : body.length = 60 := by rw [← hbd]; simp [leBytes_length]
  have h4 := leBytes_length 4 (crc32c body)
  have hd : (body ++ leBytes 4 (crc32c body)).drop 60 = leBytes 4 (crc32c body) := by rw [← hl, List.drop_left]
  have ht : (body ++ leBytes 4 (crc32c body)).take 60 = body := by rw [← hl, List.take_left]
  have htk : (leBytes 4 (crc32c body)).take 4 = leBytes 4 (crc32c body) := List.take_of_length_le (Nat.le_of_eq h4)
  have hc := crc32c_lt body
  simp only [spareOk, fieldLe, sliceBytes, hd, ht, htk, h4, List.length_append, hl, Nat.sub_self, List.replicate_zero,
    List.append_nil, ofLe_leBytes, Bool.and_eq_true, beq_iff_eq]
  exact ⟨trivial, Nat.mod_eq_of_lt hc⟩

/-- R420: where every spare record reads as it was written, a page is read at mount if it is new since the checkpoint or a
fold wrote it, and if it counts. -/
theorem logged_nil (n : Nat) (k : Ckpt) (p : Nat) (g : Spare) :
    c.logged n k [] p g = ((decide (k.seqs.getD (p / 2 ^ 28) 0 ≤ g.seq) || g.fold.isSome) && c.counts n p g) := by
  simp [Cart.logged, spareOk_bytes]

end Sys2Proof.Machine
end

