-- ==== Sys2Proof/Laws/Memory.lean ====
section
/-! SUPPORT. Memory: every operation keeps the canonical form, and what is read after a write. -/
namespace Sys2Proof.Machine

/-- Memory after reset has the canonical form. -/
theorem reset_mem_wf : State.reset.dev.mem.wf = true := rfl

/-- The addresses of a memory all lie above one. -/
def Memory.above (b : Nat) (m : Memory) : Prop := ∀ c ∈ m, b < c.1

theorem Memory.wf_cons {a : Nat} {v : Byte} {t : Memory} :
    Memory.wf ((a, v) :: t) = true ↔ v ≠ memDefault ∧ t.above a ∧ t.wf = true := by
  induction t generalizing a v with
  | nil => simp [Memory.wf, Memory.above]
  | cons c t ih =>
    obtain ⟨b, w⟩ := c
    constructor
    · intro h
      simp only [Memory.wf, Bool.and_eq_true, decide_eq_true_eq, bne_iff_ne, ne_eq] at h
      obtain ⟨⟨hab, hv⟩, ht⟩ := h
      refine ⟨hv, ?_, ht⟩
      intro x hx
      rcases List.mem_cons.1 hx with rfl | hx
      · exact hab
      · exact Nat.lt_trans hab ((ih.1 ht).2.1 x hx)
    · rintro ⟨hv, ha, ht⟩
      simp only [Memory.wf, Bool.and_eq_true, decide_eq_true_eq, bne_iff_ne, ne_eq]
      exact ⟨⟨ha (b, w) List.mem_cons_self, hv⟩, ht⟩

theorem Memory.wf_filter {m : Memory} (p : Host.Cell → Bool) (h : m.wf = true) : Memory.wf (m.filter p) = true := by
  induction m with
  | nil => rfl
  | cons c t ih =>
    obtain ⟨a, v⟩ := c
    obtain ⟨hv, ha, ht⟩ := Memory.wf_cons.1 h
    rw [List.filter_cons]
    split
    · exact Memory.wf_cons.2 ⟨hv, fun x hx => ha x (List.mem_filter.1 hx).1, ih ht⟩
    · exact ih ht

theorem Memory.wf_zero {m : Memory} (a n : Nat) (h : m.wf = true) : (m.zero a n).wf = true := Memory.wf_filter _ h

theorem Memory.put_above {m : Memory} {b k : Nat} {v : Byte} (h : m.above b) (hk : b < k) : (m.put k v).above b := by
  induction m with
  | nil => intro x hx; simp [Memory.put] at hx; subst hx; exact hk
  | cons c t ih =>
    obtain ⟨a, w⟩ := c
    have ha : b < a := h (a, w) List.mem_cons_self
    have ht : Memory.above b t := fun x hx => h x (List.mem_cons_of_mem _ hx)
    intro x hx
    unfold Memory.put at hx
    split at hx
    · rcases List.mem_cons.1 hx with rfl | hx
      · exact hk
      · exact h x hx
    · split at hx
      · rcases List.mem_cons.1 hx with rfl | hx
        · exact hk
        · exact ht x hx
      · rcases List.mem_cons.1 hx with rfl | hx
        · exact ha
        · exact ih ht x hx

theorem Memory.wf_put {m : Memory} {k : Nat} {v : Byte} (hv : v ≠ memDefault) (h : m.wf = true) :
    (m.put k v).wf = true := by
  induction m with
  | nil => simp [Memory.put, Memory.wf, hv]
  | cons c t ih =>
    obtain ⟨a, w⟩ := c
    obtain ⟨hw, ha, ht⟩ := Memory.wf_cons.1 h
    unfold Memory.put
    split
    · next hk =>
      refine Memory.wf_cons.2 ⟨hv, ?_, h⟩
      intro x hx
      rcases List.mem_cons.1 hx with rfl | hx
      · exact hk
      · exact Nat.lt_trans hk (ha x hx)
    · split
      · next hk e => subst e; exact Memory.wf_cons.2 ⟨hv, ha, ht⟩
      · next hk e => exact Memory.wf_cons.2 ⟨hw, Memory.put_above ha (by omega), ih ht⟩

theorem Memory.wf_write {m : Memory} (k : Nat) (v : Byte) (h : m.wf = true) : (m.write k v).wf = true := by
  unfold Memory.write
  split
  · exact Memory.wf_zero k 1 h
  · next hv => exact Memory.wf_put hv h

theorem Memory.wf_writeBytes {m : Memory} (k : Nat) (l : List Byte) (h : m.wf = true) : (m.writeBytes k l).wf = true := by
  induction l generalizing m k with
  | nil => exact h
  | cons v t ih => exact ih (k + 1) (Memory.wf_write k v h)

theorem Memory.wf_paste {m : Memory} (a n : Nat) (cs : List (Nat × Byte)) (h : m.wf = true) : (m.paste a n cs).wf = true := by
  unfold Memory.paste
  have h0 := Memory.wf_zero a n h
  generalize Memory.zero m a n = m0 at h0
  induction cs generalizing m0 with
  | nil => exact h0
  | cons c cs ih => exact ih _ (Memory.wf_write _ _ h0)

theorem Memory.wf_copy {m : Memory} (src dst n : Nat) (h : m.wf = true) : (m.copy src dst n).wf = true :=
  Memory.wf_paste _ _ _ h

/-! ### Reads -/

theorem Memory.read_zero (m : Memory) (a n k : Nat) :
    (m.zero a n).read k = if a ≤ k ∧ k < a + n then memDefault else m.read k := by
  induction m with
  | nil => simp [Memory.zero, Memory.read]
  | cons c t ih =>
    obtain ⟨b, w⟩ := c
    unfold Memory.zero at ih ⊢
    rw [List.filter_cons]
    by_cases hb : (b < a || a + n ≤ b) = true
    · rw [if_pos hb]
      simp only [Memory.read]
      by_cases e : b = k
      · subst e
        simp only [Bool.or_eq_true, decide_eq_true_eq] at hb
        rw [if_pos rfl, if_neg (by omega), if_pos rfl]
      · rw [if_neg e, if_neg e]; exact ih
    · rw [if_neg hb, ih]
      simp only [Bool.or_eq_true, decide_eq_true_eq, not_or, Nat.not_lt, Nat.not_le] at hb
      by_cases hk : a ≤ k ∧ k < a + n
      · rw [if_pos hk, if_pos hk]
      · rw [if_neg hk, if_neg hk]
        simp only [Memory.read]
        rw [if_neg (by rintro rfl; exact hk ⟨hb.1, hb.2⟩)]

theorem Memory.read_put (m : Memory) (a k : Nat) (v : Byte) : (m.put a v).read k = if a = k then v else m.read k := by
  induction m with
  | nil => simp [Memory.put, Memory.read]
  | cons c t ih =>
    obtain ⟨b, w⟩ := c
    unfold Memory.put
    split
    · simp only [Memory.read]
    · split
      · next h e => subst e; simp only [Memory.read]; split <;> rfl
      · next h e =>
        simp only [Memory.read, ih]
        by_cases hb : b = k
        · subst hb; simp [Ne.symm e]
        · simp [hb]

/-- A byte reads back as written, and every other byte as before. -/
theorem Memory.read_write (m : Memory) (a k : Nat) (v : Byte) : (m.write a v).read k = if a = k then v else m.read k := by
  unfold Memory.write
  split
  · next h =>
    rw [Memory.read_zero]
    by_cases e : a = k
    · subst e; rw [if_pos (by omega), if_pos rfl, h]
    · rw [if_neg (by omega), if_neg e]
  · exact Memory.read_put m a k v

/-- Bytes written read back, and every other byte reads as before. -/
theorem Memory.read_writeBytes (m : Memory) (a k : Nat) (l : List Byte) :
    (m.writeBytes a l).read k = if a ≤ k ∧ k < a + l.length then l.getD (k - a) 0 else m.read k := by
  induction l generalizing m a with
  | nil => rw [Memory.writeBytes, if_neg (by simp)]
  | cons v t ih =>
    rw [Memory.writeBytes, ih, Memory.read_write]
    simp only [List.length_cons]
    by_cases h : a + 1 ≤ k ∧ k < a + 1 + t.length
    · rw [if_pos h, if_pos (by omega)]
      have : k - a = (k - (a + 1)) + 1 := by omega
      rw [this]; rfl
    · rw [if_neg h]
      by_cases e : a = k
      · subst e; rw [if_pos rfl, if_pos (by omega)]; simp
      · rw [if_neg e, if_neg (by omega)]

end Sys2Proof.Machine
end

