-- ==== Sys2Proof/Laws/Registers.lean ====
section
/-! SUPPORT. The fields of a register: what a field reads after a write of it, or of another. -/
namespace Sys2Proof.Machine

/-- A number in its three parts: below a field, the field, above it. -/
theorem parts_of (w lo n : Nat) : w = w % 2 ^ lo + (w / 2 ^ lo % 2 ^ n) * 2 ^ lo + w / 2 ^ (lo + n) * 2 ^ (lo + n) := by
  have h1 : w / 2 ^ lo / 2 ^ n = w / 2 ^ (lo + n) := by rw [Nat.div_div_eq_div_mul, ← Nat.pow_add]
  have h2 := Nat.div_add_mod w (2 ^ lo)
  have h3 := Nat.div_add_mod (w / 2 ^ lo) (2 ^ n)
  rw [h1] at h3
  have h4 : w / 2 ^ (lo + n) * 2 ^ (lo + n) = 2 ^ lo * (2 ^ n * (w / 2 ^ (lo + n))) := by
    rw [Nat.pow_add, Nat.mul_comm, Nat.mul_assoc]
  calc w = 2 ^ lo * (w / 2 ^ lo) + w % 2 ^ lo := h2.symm
    _ = 2 ^ lo * (2 ^ n * (w / 2 ^ (lo + n)) + w / 2 ^ lo % 2 ^ n) + w % 2 ^ lo := by rw [h3]
    _ = _ := by rw [Nat.mul_add, h4, Nat.mul_comm (w / 2 ^ lo % 2 ^ n)]; omega

/-- The field of a number given in its three parts, and what is below and above it. -/
theorem field_of {a x c lo n : Nat} (ha : a < 2 ^ lo) (hx : x < 2 ^ n) :
    (a + x * 2 ^ lo + c * 2 ^ (lo + n)) / 2 ^ lo % 2 ^ n = x ∧ (a + x * 2 ^ lo + c * 2 ^ (lo + n)) % 2 ^ lo = a ∧
    (a + x * 2 ^ lo + c * 2 ^ (lo + n)) / 2 ^ (lo + n) = c := by
  have e : a + x * 2 ^ lo + c * 2 ^ (lo + n) = a + 2 ^ lo * (x + 2 ^ n * c) := by
    rw [Nat.pow_add, Nat.mul_add, Nat.add_assoc, Nat.mul_comm x, Nat.mul_comm c, Nat.mul_assoc]
  have hd : (a + 2 ^ lo * (x + 2 ^ n * c)) / 2 ^ lo = x + 2 ^ n * c := by
    rw [Nat.add_mul_div_left _ _ (Nat.two_pow_pos _), Nat.div_eq_of_lt ha, Nat.zero_add]
  rw [e]
  refine ⟨?_, ?_, ?_⟩
  · rw [hd, Nat.add_mul_mod_self_left, Nat.mod_eq_of_lt hx]
  · rw [Nat.add_mul_mod_self_left, Nat.mod_eq_of_lt ha]
  · rw [Nat.pow_add, ← Nat.div_div_eq_div_mul, hd, Nat.add_mul_div_left _ _ (Nat.two_pow_pos _), Nat.div_eq_of_lt hx,
      Nat.zero_add]

theorem bits_eq (hi lo w : Nat) : bits hi lo w = w / 2 ^ lo % 2 ^ (hi - lo + 1) := by
  unfold bits; rw [Nat.shiftRight_eq_div_pow]

theorem bits_lt (hi lo w : Nat) : bits hi lo w < 2 ^ (hi - lo + 1) := by
  rw [bits_eq]; exact Nat.mod_lt _ (Nat.two_pow_pos _)

/-- A number with a field replaced, in its three parts. -/
theorem setBits_eq {hi lo : Nat} (v w : Nat) : setBits hi lo v w =
    w % 2 ^ lo + (v % 2 ^ (hi - lo + 1)) * 2 ^ lo + w / 2 ^ (lo + (hi - lo + 1)) * 2 ^ (lo + (hi - lo + 1)) := by
  have hp := parts_of w lo (hi - lo + 1)
  unfold setBits
  rw [bits_eq, Nat.shiftLeft_eq, Nat.shiftLeft_eq]
  omega

/-- A field reads, after a write of it, what was written. -/
@[simp] theorem bits_setBits (hi lo v w : Nat) : bits hi lo (setBits hi lo v w) = v % 2 ^ (hi - lo + 1) := by
  rw [setBits_eq, bits_eq]
  exact (field_of (Nat.mod_lt _ (Nat.two_pow_pos _)) (Nat.mod_lt _ (Nat.two_pow_pos _))).1

/-- A write of a field of a 32-bit register is a 32-bit number. -/
theorem setBits_lt {hi lo : Nat} (h : lo ≤ hi) (h32 : hi < 32) (v : Nat) {w : Nat} (hw : w < 2 ^ 32) :
    setBits hi lo v w < 2 ^ 32 := by
  rw [setBits_eq]
  have he : lo + (hi - lo + 1) = hi + 1 := by omega
  rw [he]
  have ha := Nat.mod_lt w (Nat.two_pow_pos lo)
  have hx := Nat.mod_lt v (Nat.two_pow_pos (hi - lo + 1))
  have hlow : w % 2 ^ lo + v % 2 ^ (hi - lo + 1) * 2 ^ lo < 2 ^ (hi + 1) := by
    have : (v % 2 ^ (hi - lo + 1) + 1) * 2 ^ lo ≤ 2 ^ (hi - lo + 1) * 2 ^ lo := Nat.mul_le_mul_right _ hx
    rw [← Nat.pow_add, Nat.add_comm (hi - lo + 1), he, Nat.add_mul, Nat.one_mul] at this
    omega
  have hc : w / 2 ^ (hi + 1) < 2 ^ (32 - (hi + 1)) := by
    rw [Nat.div_lt_iff_lt_mul (Nat.two_pow_pos _), ← Nat.pow_add]
    have : 32 - (hi + 1) + (hi + 1) = 32 := by omega
    rw [this]; exact hw
  have : (w / 2 ^ (hi + 1) + 1) * 2 ^ (hi + 1) ≤ 2 ^ (32 - (hi + 1)) * 2 ^ (hi + 1) := Nat.mul_le_mul_right _ hc
  rw [← Nat.pow_add, (by omega : 32 - (hi + 1) + (hi + 1) = 32), Nat.add_mul, Nat.one_mul] at this
  omega

/-- A field below another keeps its value. -/
theorem bits_setBits_below {hi lo a b : Nat} (hb : a < lo) (hab : b ≤ a) (v w : Nat) :
    bits a b (setBits hi lo v w) = bits a b w := by
  have key : ∀ u : Nat, bits a b u = bits a b (u % 2 ^ lo) := by
    intro u
    apply Nat.eq_of_testBit_eq
    intro i
    simp only [bits, Nat.testBit_mod_two_pow, Nat.testBit_shiftRight]
    by_cases h : i < a - b + 1
    · have : b + i < lo := by omega
      simp [h, this]
    · simp [h]
  rw [key, key w]
  congr 1
  rw [setBits_eq]
  exact (field_of (Nat.mod_lt _ (Nat.two_pow_pos _)) (Nat.mod_lt _ (Nat.two_pow_pos _))).2.1

/-- A field above another keeps its value. -/
theorem bits_setBits_above {hi lo a b : Nat} (hl : lo ≤ hi) (hb : hi < b) (v w : Nat) :
    bits a b (setBits hi lo v w) = bits a b w := by
  have key : ∀ u : Nat, bits a b u = u / 2 ^ (lo + (hi - lo + 1)) / 2 ^ (b - (hi + 1)) % 2 ^ (a - b + 1) := by
    intro u
    rw [bits_eq, Nat.div_div_eq_div_mul, ← Nat.pow_add]
    congr 3
    omega
  rw [key, key w]
  congr 2
  rw [setBits_eq]
  exact (field_of (Nat.mod_lt _ (Nat.two_pow_pos _)) (Nat.mod_lt _ (Nat.two_pow_pos _))).2.2

/-! ### In the register file -/

/-- A stored register is a 32-bit number, where its reset value is. -/
theorem reg_lt (d : Device) (k : Nat) (h : regRst (k % 2 ^ 32) < 2 ^ 32) : d.reg k < 2 ^ 32 := by
  unfold Device.reg
  split
  · exact BitVec.isLt _
  · exact h

/-- The field of a register that was written. -/
theorem fld_setFld_self (d : Device) {k hi lo : Nat} (h : lo ≤ hi) (h32 : hi < 32) (v : Nat)
    (hr : regRst (k % 2 ^ 32) < 2 ^ 32) : (d.setFld k hi lo v).fld k hi lo = v % 2 ^ (hi - lo + 1) := by
  unfold Device.fld Device.setFld
  rw [reg_setReg_self, Nat.mod_eq_of_lt (setBits_lt h h32 v (reg_lt d k hr)), bits_setBits]

/-- A field of another register. -/
theorem fld_setFld_ne (d : Device) {j k : Nat} (hi lo a b v : Nat) (h : k ≠ j) :
    (d.setFld k hi lo v).fld j a b = d.fld j a b := by
  unfold Device.fld; rw [reg_setFld_ne d hi lo v h]

/-- Another field of the register. -/
theorem fld_setFld_other (d : Device) {k hi lo a b : Nat} (h : lo ≤ hi) (h32 : hi < 32) (v : Nat) (hab : b ≤ a)
    (hr : regRst (k % 2 ^ 32) < 2 ^ 32) (hne : a < lo ∨ hi < b) :
    (d.setFld k hi lo v).fld k a b = d.fld k a b := by
  unfold Device.fld Device.setFld
  rw [reg_setReg_self, Nat.mod_eq_of_lt (setBits_lt h h32 v (reg_lt d k hr))]
  rcases hne with hne | hne
  · exact bits_setBits_below hne hab _ _
  · exact bits_setBits_above h hne _ _

end Sys2Proof.Machine
end

