-- ==== Sys2Proof/WellFormed.lean ====
section
/-! DEFINITION. Which commands are well formed: every operand in the range that the field, register, instance or reading
it stands for has. A command that is not well formed is none of the table's. -/
namespace Sys2Proof

/-- R508: an aligned offset in register space (R7). -/
def regAddr (a : Nat) : Bool := decide (a < 0x4000000) && a % 4 == 0

/-- R273: the length of a packet: a header of 32 B and at most 40,960 B of payload. -/
def packet (l : List Byte) : Bool := decide (l.length ≤ 40992)

/-- The operands of a command are in range. -/
def Instr.wf : Instr → Bool
  | .regWrite addr value => regAddr addr && decide (value < 2 ^ 32)
  | .regUnmappedAccess addr _ => regAddr addr
  | .regLoRead addr => regAddr addr
  | .regHiRead addr => regAddr addr
  | .regLoWrite addr value => regAddr addr && decide (value < 2 ^ 32)
  | .regHiWrite addr value => regAddr addr && decide (value < 2 ^ 32)
  | .furrowInEdge clk => decide (clk < 234375)
  | .refclkLoss clk => decide (clk < 234375)
  | .pllLock => true
  | .captureWindowClose => true
  | .realignDecision => true
  | .furrowBoundary temps powers seen =>
    temps.all (· < 256) && powers.all (· < 65536)
      && seen.all (fun p => p.1 < 272 && p.2 < if p.1 < 4 then 65536 else if p.1 < 144 then 2 ^ 32 else 8)
  | .sowingFreeze => true
  | .furSourceWrite source => decide (source < 2)
  | .setApply => true
  | .furCntClr => true
  | .plotLoad _ => true
  | .plotUnload _ => true
  | .plotStart _ => true
  | .bundleIssue _ ecc addr => decide (ecc < 4) && (ecc == 0 || decide (0x400000000 ≤ addr) && decide (addr < 0x800000000))
  | .plotEnd _ => true
  | .overrunCheck _ => true
  | .trowelBudget _ core => decide (core < 16)
  | .rampup _ kind arr => decide (kind < 2) && decide (arr < 8)
  | .rampdn _ kind arr => decide (kind < 2) && decide (arr < 8)
  | .rampDone _ kind arr => decide (kind < 2) && decide (arr < 8)
  | .ldw _ kind arr fmt sw sa soff => decide (kind < 2) && decide (arr < 8) && decide (fmt < 5) && decide (sw < 16) && decide (sa < 16) && decide (soff < 1024)
  | .ldwDone _ kind arr => decide (kind < 2) && decide (arr < 8)
  | .swapw _ kind arr => decide (kind < 2) && decide (arr < 8)
  | .mm _ kind arr accf fmt pack sw sa soff drow rows => decide (kind < 2) && decide (arr < 8) && decide (accf < 2) && decide (fmt < 5) && decide (pack < 16) && decide (sw < 16) && decide (sa < 16) && decide (soff < 1024) && decide (drow < 1024) && decide (1 ≤ rows) && decide (rows ≤ 1024)
  | .mmRowFinal _ => true
  | .replayPauseEnd _ => true
  | .seta _ a imm => decide (a < 16) && decide (imm < 2 ^ 48)
  | .adda _ a b simm => decide (a < 16) && decide (b < 16) && decide (simm < 2 ^ 32)
  | .lda _ a port sw sa soff => decide (a < 16) && decide (port < 16) && decide (sw < 16) && decide (sa < 16) && decide (soff < 4096)
  | .copy _ port sw sa dw da soff doff len => decide (port < 16) && decide (sw < 16) && decide (sa < 16) && decide (dw < 16) && decide (da < 16) && decide (soff < 4096) && decide (doff < 4096) && decide (1 ≤ len) && decide (len ≤ 32768)
  | .fill _ port dw da pr doff len => decide (port < 16) && decide (dw < 16) && decide (da < 16) && decide (pr < 16) && decide (doff < 4096) && decide (1 ≤ len) && decide (len ≤ 32768)
  | .rkset _ sw sa dw da soff doff => decide (sw < 16) && decide (sa < 16) && decide (dw < 16) && decide (da < 16) && decide (soff < 4096) && decide (doff < 4096)
  | .pdld _ port sw sa soff p => decide (port < 16) && decide (sw < 16) && decide (sa < 16) && decide (soff < 4096) && decide (1 ≤ p) && decide (p < 16)
  | .drain _ kind arr ofmt dw da rbase rcnt => decide (kind < 2) && decide (arr < 8) && decide (ofmt < 8) && decide (dw < 16) && decide (da < 16) && decide (rbase < 32) && decide (1 ≤ rcnt) && decide (rcnt ≤ 32)
  | .sexp _ kind arr exp => decide (kind < 2) && decide (arr < 8) && decide (exp < 256)
  | .amax _ len sfmt lanes _ => decide (1 ≤ len) && decide (len ≤ 2 ^ 24) && decide (sfmt < 5) && decide (1 ≤ lanes) && decide (lanes ≤ 32)
  | .topk _ len k sfmt lanes _ => decide (1 ≤ len) && decide (len ≤ 2 ^ 24) && decide (1 ≤ k) && decide (k ≤ 1024) && decide (sfmt < 5) && decide (1 ≤ lanes) && decide (lanes ≤ 32)
  | .merge _ len k sfmt lanes _ => decide (1 ≤ len) && decide (len ≤ 2 ^ 22) && decide (1 ≤ k) && decide (k ≤ 1024) && decide (sfmt < 5) && decide (1 ≤ lanes) && decide (lanes ≤ 32)
  | .rakeResultDone _ => true
  | .tload _ tc w a size => decide (tc < 16) && decide (w < 16) && decide (a < 16) && decide (1 ≤ size) && decide (size ≤ 256)
  | .tgo _ tc entry budget => decide (tc < 16) && decide (entry < 16) && decide (1 ≤ budget) && decide (budget < 4096)
  | .waitclk _ clk => decide (clk < 2 ^ 18)
  | .hoff _ decl w a hr => decide (decl < 8) && decide (w < 16) && decide (a < 16) && decide (hr < 16)
  | .rdfur _ a => decide (a < 16)
  | .rdclk _ a => decide (a < 16)
  | .itemLand _ _ err => match err with
    | none => true
    | some (true, ch) => decide (ch < 128)
    | some (false, a) => decide (0x400000000 ≤ a) && decide (a < 0x800000000)
  | .handoffLateItem _ => true
  | .landingCutoff => true
  | .addSubLogic _ core => decide (core < 16)
  | .mul _ core => decide (core < 16)
  | .div _ core => decide (core < 16)
  | .addi _ core => decide (core < 16)
  | .andi _ core => decide (core < 16)
  | .ori _ core => decide (core < 16)
  | .xori _ core => decide (core < 16)
  | .shiftImmediate _ core => decide (core < 16)
  | .slti _ core => decide (core < 16)
  | .li _ core => decide (core < 16)
  | .lih _ core => decide (core < 16)
  | .beq _ core => decide (core < 16)
  | .bne _ core => decide (core < 16)
  | .blt _ core => decide (core < 16)
  | .bge _ core => decide (core < 16)
  | .bltu _ core => decide (core < 16)
  | .bgeu _ core => decide (core < 16)
  | .jal _ core => decide (core < 16)
  | .jalr _ core => decide (core < 16)
  | .ldD _ core => decide (core < 16)
  | .ldW _ core => decide (core < 16)
  | .ldH _ core => decide (core < 16)
  | .ldB _ core => decide (core < 16)
  | .stD _ core => decide (core < 16)
  | .stW _ core => decide (core < 16)
  | .stH _ core => decide (core < 16)
  | .stB _ core => decide (core < 16)
  | .vld _ core => decide (core < 16)
  | .vst _ core => decide (core < 16)
  | .vst32 _ core => decide (core < 16)
  | .vectorArith _ core => decide (core < 16)
  | .vfma _ core => decide (core < 16)
  | .vexpVrcpVrsqrt _ core => decide (core < 16)
  | .vreduce _ core => decide (core < 16)
  | .vcvt _ core => decide (core < 16)
  | .vbcast _ core => decide (core < 16)
  | .vperm _ core => decide (core < 16)
  | .vext _ core => decide (core < 16)
  | .rdflg _ core => decide (core < 16)
  | .trowelRdclk _ core => decide (core < 16)
  | .ldDWide _ core => decide (core < 16)
  | .vldWide _ core => decide (core < 16)
  | .stDWide _ core => decide (core < 16)
  | .vstWide _ core => decide (core < 16)
  | .tend _ core => decide (core < 16)
  | .trowelIllegal _ core => decide (core < 16)
  | .tableCopyDone coll ctx => decide (coll < 512) && decide (ctx < 2048)
  | .engineIssue engine => decide (engine < 64)
  | .readRound => true
  | .flashPageDelivered coll ctx cls temp => decide (coll < 512) && decide (ctx < 2048) && decide (cls ≤ 4) && decide (temp < 256)
  | .lpddrReadDelivered coll ctx ecc => decide (coll < 512) && decide (ctx < 2048) && ecc.all (fun ch => decide (ch < 128))
  | .searchLand coll => decide (coll < 512)
  | .searchHarvest _ => true
  | .sieveIdxStage => true
  | .sieveIdxCancel => true
  | .sieveCntClr => true
  | .portEnable port => decide (port < 8)
  | .portDisable port => decide (port < 8)
  | .portTrainingDone port => decide (port < 8)
  | .portTrainingTimeout port => decide (port < 8)
  | .portLinkFault port _ _ => decide (port < 8)
  | .time pkt => packet pkt
  | .hello port pkt => decide (port < 8) && packet pkt
  | .heartbeat pkt => packet pkt
  | .heartbeatEval => true
  | .query pkt => packet pkt
  | .result pkt => packet pkt
  | .textReq pkt => packet pkt
  | .textData pkt => packet pkt
  | .nack pkt => packet pkt
  | .gatherReq pkt => packet pkt
  | .gatherData pkt => packet pkt
  | .tableWrite pkt => packet pkt
  | .tableAck pkt => packet pkt
  | .reservedClassPacket pkt => packet pkt
  | .fallbackSending _ => true
  | .brxServeWrite serve => decide (serve < 2)
  | .brxFanoutWrite fanout => decide (fanout < 2)
  | .brxCntClr => true
  | .brxTagStage => true
  | .brxTagCancel => true
  | .gatherRowRead _ _ ecc => ecc.all (fun ch => decide (ch < 128))
  | .gathBuildGo => true
  | .gathBatchDone => true
  | .mirrorAckTimeout => true
  | .gathTblStage => true
  | .gathTblCancel => true
  | .gathCntClr => true
  | .textVocLoad => true
  | .textVocUnload => true
  | .vocCheckDone slot => decide (slot < 8)
  | .segmentStart => true
  | .segmentDone lane => decide (lane < 8)
  | .textCntClr => true
  | .espGrmLoad => true
  | .espGrmRelease => true
  | .grammarCompileDone slot => decide (slot < 256)
  | .espMaskDone ast => decide (ast < 8192)
  | .espCntClr => true
  | .pasmTplLoad => true
  | .pasmTplRelease => true
  | .templateLoadDone slot => decide (slot < 256)
  | .assemblyStart => true
  | .assemblyDone => true
  | .pasmCntClr => true
  | .seqMdlLoad => true
  | .seqMdlRelease => true
  | .seqStageRes => true
  | .seqCancelRes => true
  | .seqGrfLoad => true
  | .seqGrfRelease => true
  | .seqCntClr => true
  | .astData0Read => true
  | .kvWaitExpiry ast => decide (ast < 8192)
  | .doorbellSqTail qp value => decide (qp < 4096) && decide (value < 2 ^ 32)
  | .doorbellCqHead qp value => decide (qp < 4096) && decide (value < 2 ^ 32)
  | .pipeline _ => true
  | .cancel qp tag target => decide (qp < 4096) && decide (tag < 2 ^ 32) && decide (target < 2 ^ 32)
  | .qpEnable qp => decide (qp < 4096)
  | .qpDisable qp mode => decide (qp < 4096) && decide (mode < 2)
  | .qpIrqArm qp irq => decide (qp < 4096) && decide (irq < 2)
  | .ctxEnable => true
  | .ctxDisable mode => decide (mode < 2)
  | .ctxReset => true
  | .ctxResume => true
  | .winCommit => true
  | .winFetch => true
  | .winCheckDone => true
  | .qmResWrite addr value => regAddr addr && decide (value < 2 ^ 32)
  | .qmCntClr => true
  | .tierCreate => true
  | .tierSeal => true
  | .tierCopy => true
  | .tierFill => true
  | .tierRelease => true
  | .tierOpDone op rep => decide (op < 64) && rep.err.all (· < 2 ^ 41) && rep.classes.all (· ≤ 4)
  | .stagedDirectWrite addr value => regAddr addr && decide (value < 2 ^ 32)
  | .cartInsert slot ident life tWriteMax _ _ =>
    decide (slot < 4) && decide (ident.serial < 2 ^ 64) && ident.table.length == 32
      && ident.table.all (fun e => e.length == 4 && e.all (· < 16)) && decide (life ≤ 1000) && decide (tWriteMax < 256)
  | .cartPull slot => decide (slot < 4)
  | .slotPowerGood slot => decide (slot < 4)
  | .authDone slot sig => decide (slot < 4) && sig.digest.length == 48
  | .authTimeout slot => decide (slot < 4)
  | .mountDone slot _ => decide (slot < 4)
  | .remove => true
  | .forceRemove => true
  | .drainDone slot => decide (slot < 4)
  | .slotReset => true
  | .slotResetOffDone slot => decide (slot < 4)
  | .health => true
  | .nsCreate => true
  | .nsDelete => true
  | .flashCntClr => true
  | .flashReadDone _ res => decide (res.temp < 256)
  | .flashProgramDone slot channel stream rep =>
    decide (slot < 4) && decide (channel < 16) && decide (stream < 3) && decide (rep.temp < 256) && rep.classes.all (· ≤ 4)
  | .flashEraseDone slot channel block _ => decide (slot < 4) && decide (channel < 16) && decide (block < 3800)
  | .foldStart slot channel => decide (slot < 4) && decide (channel < 16)
  | .foldCommit slot channel => decide (slot < 4) && decide (channel < 16)
  | .checkpoint slot => decide (slot < 4)
  | .relocationStart slot channel => decide (slot < 4) && decide (channel < 16)
  | .refreshStart slot channel block => decide (slot < 4) && decide (channel < 16) && decide (block < 3800)
  | .tempHoldEnter slot temp => decide (slot < 4) && decide (temp < 256)
  | .tempHoldExit slot temp => decide (slot < 4) && decide (temp < 256)
  | .hwr addr _ => decide (addr < 2 ^ 44)
  | .hrd tag addr len _ => decide (tag < 1024) && decide (addr < 2 ^ 44) && decide (len ≤ 4096)
  | .dcpl tag status _ => decide (tag < 512) && decide (status < 4)
  | .linkTrainingDone trained repairs spares => decide (trained < 16) && repairs.all (fun r => r.1 < 4 && r.2 < 64) && spares.all (· ≤ 4)
  | .adapterRetryLimit module _ _ => decide (module < 4)
  | .laneCheckFail module => decide (module < 4)
  | .hostRetrain module => decide (module < 4)
  | .retrainDone module lanes spares => decide (module < 4) && lanes.all (· < 64) && decide (spares ≤ 4)
  | .retrainTimeout module => decide (module < 4)
  | .devAccessTimeout _ => true
  | .hostCntClr => true
  | .funcEnable domain => decide (domain < 30)
  | .funcDisable domain mode => decide (domain < 30) && decide (mode < 2)
  | .stgArm count => decide (count < 512)
  | .stgCancel => true
  | .stgStepLimit => true
  | .domainPowered => true
  | .porstRelease straps => decide (straps < 4)
  | .bootClear => true
  | .bootData word => decide (word < 2 ^ 32)
  | .bootVerify => true
  | .verifyDone _ => true
  | .bringupStep => true
  | .memcTrainingDone failed => failed.all (· < 128)
  | .porstAssert => true
  | .supplyLoss _ => true
  | .coldReset => true
  | .warmReset => true
  | .wrstFall => true
  | .warmResetEnd => true
  | .pwrCntClr => true
  | .sleepArm => true
  | .sleepCancel => true
  | .dormantEntryLimit => true
  | .wakeAtExpiry => true
  | .wakeStep => true
  | .wakeDone => true
  | .entdaa addr => decide (addr < 128)
  | .i3cWake => true
  | .i3cColdReset => true
  | .i3cStatusRead => true
  | .i3cOtherWrite => true
  | .raiseSvn value => decide (value < 64)
  | .revoke key => decide (key < 64)
  | .fuseBurnDone => true
  | .cartReinit slot => decide (slot < 4)
  | .attestGo => true
  | .attestDone => true
  | .rngTestFail => true
  | .rngRecover => true
  | .secCntClr => true
  | .arrSowCntClr => true
  | .arrCntClr die => decide (die < 4)
  | .arrAccCntClr die => decide (die < 4)
  | .trwCntClr die => decide (die < 4)
  | .rakeCntClr die => decide (die < 4)
  | .eventRecordWrite => true
  | .evtRingHeadWrite value => decide (value < 2 ^ 32)
  | .evtEnableWrite enable => decide (enable < 2)
  | .evtIrqWrite irq => decide (irq < 2)
  | .evtCntClr => true
  | .tierCmdCheckDone => true
  | .tierReservedOp => true
  | .onfiTrainingDone slot => decide (slot < 4)
  | .vcartSwitchOpen slot => decide (slot < 4)

/-- A well-formed command. -/
def WellFormed (i : Instr) : Prop := i.wf = true

end Sys2Proof
end

