-- ==== Sys2Proof/Tests/Slice0.lean ====
section
/-! SUPPORT. Tests: ill-formed commands that the check refuses, single steps on small states, and for each statement
states and operands that meet its hypotheses. Expected values are worked out by hand from the rules that the names or the
comments cite. -/
namespace Sys2Proof.Tests
set_option Elab.async false
open Sys2Proof Sys2Proof.Machine

/-! ### States -/

/-- The device after reset, in service, PD_X_FAB ON. -/
def dev0 : Device := { State.reset.dev with power := { PowerUnit.reset with phase := .service, doms := [(16, 2), (18, 2)] } }

/-- A state in service, LOCKED in furrow 100. -/
def st0 : State := { State.reset with tb := { Timebase.reset with number := 100, st := .locked }, dev := dev0 }

/-- A change of the device. -/
def alter (s : State) (f : Device → Device) : State := { s with dev := f s.dev }

/-- A footprint that names every unit, all along. -/
def fpAll : FpEntry := ⟨126, 255, 255, 0xFFFF, 0xFFFFFFFF, true, 0xFFFF, 0xFFFF⟩

/-- A window of 64 MiB of the Central Store. -/
def win0 : Window := ⟨1, true, csBase, 0x4000000⟩

def plot0 : Plot :=
  ⟨csBase + 0x8000000, 4096, 156000, 8, 0, false, 0, 0, 0xFFFF, 0, 0, 1, [fpAll], [], List.replicate 16 win0, [], false⟩

/-- A run of that plot at machine clk 10. -/
def run0 : Run :=
  { ctx := 0, handle := 0, plot := plot0, req := 0, entry := 0, gen := none, group := 1, startOff := 0,
    wins := List.replicate 16 win0, phys := [], seed := 1, now := 10, pauses := 0, nextIssue := 0, waitClk := none, pc := 0,
    aregs := List.replicate 16 0, arrays := [], packs := [], latch := (0, 0, 0, 0), ports := [], rake := [], trowels := [],
    pend := [], banks := [], replay := none, replaysLeft := 0, satSeen := false, nonfinSeen := false, nanSeen := false,
    lastTies := 0, aborted := none, overrunChecked := false }

def withRun (r : Run) : State := alter st0 (fun d => { d with plots := { d.plots with runs := [(1, r)] } })

/-- A cartridge certificate under the root (key 0), for the element of serial 9. -/
def cert0 : CartCert := ⟨0, 5, true, true, 9⟩

/-- An identity element of that certificate, with one threshold set and its retries for every page. -/
def ident0 : CartIdent := ⟨9, [cert0], true, List.replicate 32 [1, 2, 3, 4]⟩

/-- A signature of so many bytes. -/
def sigLen (n : Nat) : CartSig := ⟨5, List.replicate n 0⟩

/-! ### Ill-formed commands: one for each check, its operand just past its range -/

theorem test_illFormed1 : ([
  .regWrite 2 0, .regWrite 0x4000000 0, .regWrite 0 (2 ^ 32), .regUnmappedAccess 2 false,
  .regUnmappedAccess 0x4000000 false, .regLoRead 2, .regLoRead 0x4000000, .regHiRead 2, .regHiRead 0x4000000,
  .regLoWrite 2 0, .regLoWrite 0x4000000 0, .regLoWrite 0 (2 ^ 32), .regHiWrite 2 0, .regHiWrite 0x4000000 0,
  .regHiWrite 0 (2 ^ 32), .furrowInEdge 234375, .refclkLoss 234375, .furrowBoundary [256] [] [],
  .furrowBoundary [] [65536] [], .furrowBoundary [] [] [(0, 65536)], .furrowBoundary [] [] [(272, 0)], .furSourceWrite 2, .bundleIssue 0 4 0x400000000, .bundleIssue 0 1 0,
  .trowelBudget 0 16, .rampup 0 2 0, .rampup 0 0 8, .rampdn 0 2 0, .rampdn 0 0 8, .rampDone 0 2 0, .rampDone 0 0 8,
  .ldw 0 2 0 0 0 0 0, .ldw 0 0 8 0 0 0 0, .ldw 0 0 0 5 0 0 0, .ldw 0 0 0 0 16 0 0, .ldw 0 0 0 0 0 16 0,
  .ldw 0 0 0 0 0 0 1024, .ldwDone 0 2 0, .ldwDone 0 0 8, .swapw 0 2 0, .swapw 0 0 8, .mm 0 2 0 0 0 0 0 0 0 0 1,
  .mm 0 0 8 0 0 0 0 0 0 0 1, .mm 0 0 0 2 0 0 0 0 0 0 1, .mm 0 0 0 0 5 0 0 0 0 0 1, .mm 0 0 0 0 0 16 0 0 0 0 1,
  .mm 0 0 0 0 0 0 16 0 0 0 1, .mm 0 0 0 0 0 0 0 16 0 0 1, .mm 0 0 0 0 0 0 0 0 1024 0 1, .mm 0 0 0 0 0 0 0 0 0 1024 1,
  .mm 0 0 0 0 0 0 0 0 0 0 0, .mm 0 0 0 0 0 0 0 0 0 0 1025, .seta 0 16 0, .seta 0 0 (2 ^ 48), .adda 0 16 0 0,
  .adda 0 0 16 0, .adda 0 0 0 (2 ^ 32), .lda 0 16 0 0 0 0, .lda 0 0 16 0 0 0, .lda 0 0 0 16 0 0, .lda 0 0 0 0 16 0,
  .lda 0 0 0 0 0 4096] : List Instr).all (fun i => !i.wf) = true := by decide +kernel


theorem test_illFormed2 : ([
  .copy 0 16 0 0 0 0 0 0 1, .copy 0 0 16 0 0 0 0 0 1, .copy 0 0 0 16 0 0 0 0 1, .copy 0 0 0 0 16 0 0 0 1,
  .copy 0 0 0 0 0 16 0 0 1, .copy 0 0 0 0 0 0 4096 0 1, .copy 0 0 0 0 0 0 0 4096 1, .copy 0 0 0 0 0 0 0 0 0,
  .copy 0 0 0 0 0 0 0 0 32769, .fill 0 16 0 0 0 0 1, .fill 0 0 16 0 0 0 1, .fill 0 0 0 16 0 0 1,
  .fill 0 0 0 0 16 0 1, .fill 0 0 0 0 0 4096 1, .fill 0 0 0 0 0 0 0, .fill 0 0 0 0 0 0 32769, .rkset 0 16 0 0 0 0 0,
  .rkset 0 0 16 0 0 0 0, .rkset 0 0 0 16 0 0 0, .rkset 0 0 0 0 16 0 0, .rkset 0 0 0 0 0 4096 0,
  .rkset 0 0 0 0 0 0 4096, .pdld 0 16 0 0 0 1, .pdld 0 0 16 0 0 1, .pdld 0 0 0 16 0 1, .pdld 0 0 0 0 4096 1,
  .pdld 0 0 0 0 0 0, .pdld 0 0 0 0 0 16, .drain 0 2 0 0 0 0 0 1, .drain 0 0 8 0 0 0 0 1, .drain 0 0 0 8 0 0 0 1,
  .drain 0 0 0 0 16 0 0 1, .drain 0 0 0 0 0 16 0 1, .drain 0 0 0 0 0 0 32 1, .drain 0 0 0 0 0 0 0 0,
  .drain 0 0 0 0 0 0 0 33, .sexp 0 2 0 0, .sexp 0 0 8 0, .sexp 0 0 0 256, .amax 0 0 0 1 false,
  .amax 0 (2 ^ 24 + 1) 0 1 false, .amax 0 1 5 1 false, .amax 0 1 0 0 false, .amax 0 1 0 33 false,
  .topk 0 0 1 0 1 false, .topk 0 (2 ^ 24 + 1) 1 0 1 false, .topk 0 1 0 0 1 false, .topk 0 1 1025 0 1 false,
  .topk 0 1 1 5 1 false, .topk 0 1 1 0 0 false, .topk 0 1 1 0 33 false, .merge 0 0 1 0 1 false,
  .merge 0 (2 ^ 22 + 1) 1 0 1 false, .merge 0 1 0 0 1 false, .merge 0 1 1025 0 1 false, .merge 0 1 1 5 1 false,
  .merge 0 1 1 0 0 false, .merge 0 1 1 0 33 false, .tload 0 16 0 0 1,
  .tload 0 0 16 0 1] : List Instr).all (fun i => !i.wf) = true := by decide +kernel


theorem test_illFormed3 : ([
  .tload 0 0 0 16 1, .tload 0 0 0 0 0, .tload 0 0 0 0 257, .tgo 0 16 0 1, .tgo 0 0 16 1, .tgo 0 0 0 0,
  .tgo 0 0 0 4096, .waitclk 0 (2 ^ 18), .hoff 0 8 0 0 0, .hoff 0 0 16 0 0, .hoff 0 0 0 16 0, .hoff 0 0 0 0 16,
  .rdfur 0 16, .rdclk 0 16, .addSubLogic 0 16, .mul 0 16, .div 0 16, .addi 0 16, .andi 0 16, .ori 0 16, .xori 0 16,
  .shiftImmediate 0 16, .slti 0 16, .li 0 16, .lih 0 16, .beq 0 16, .bne 0 16, .blt 0 16, .bge 0 16, .bltu 0 16,
  .bgeu 0 16, .jal 0 16, .jalr 0 16, .ldD 0 16, .ldW 0 16, .ldH 0 16, .ldB 0 16, .stD 0 16, .stW 0 16, .stH 0 16,
  .stB 0 16, .vld 0 16, .vst 0 16, .vst32 0 16, .vectorArith 0 16, .vfma 0 16, .vexpVrcpVrsqrt 0 16, .vreduce 0 16,
  .vcvt 0 16, .vbcast 0 16, .vperm 0 16, .vext 0 16, .rdflg 0 16, .trowelRdclk 0 16, .ldDWide 0 16, .vldWide 0 16,
  .stDWide 0 16, .vstWide 0 16, .tend 0 16,
  .trowelIllegal 0 16] : List Instr).all (fun i => !i.wf) = true := by decide +kernel


theorem test_illFormed4 : ([
  .tableCopyDone 512 0, .tableCopyDone 0 2048, .engineIssue 64, .flashPageDelivered 512 0 0 0,
  .flashPageDelivered 0 2048 0 0, .flashPageDelivered 0 0 5 0, .flashPageDelivered 0 0 0 256, .lpddrReadDelivered 512 0 none,
  .lpddrReadDelivered 0 2048 none, .lpddrReadDelivered 0 0 (some 128), .itemLand 0 0 (some (true, 128)),
  .itemLand 0 0 (some (false, 0)), .gatherRowRead true 0 (some 128), .searchLand 512, .portEnable 8, .portDisable 8, .portTrainingDone 8,
  .portTrainingTimeout 8, .portLinkFault 8 false 0, .hello 8 [], .brxServeWrite 2, .brxFanoutWrite 2,
  .vocCheckDone 8, .segmentDone 8, .grammarCompileDone 256, .espMaskDone 8192, .templateLoadDone 256,
  .kvWaitExpiry 8192, .doorbellSqTail 4096 0, .doorbellSqTail 0 (2 ^ 32), .doorbellCqHead 4096 0,
  .doorbellCqHead 0 (2 ^ 32), .cancel 4096 0 0, .cancel 0 (2 ^ 32) 0, .cancel 0 0 (2 ^ 32), .qpEnable 4096,
  .qpDisable 4096 0, .qpDisable 0 2, .qpIrqArm 4096 0, .qpIrqArm 0 2, .ctxDisable 2, .qmResWrite 2 0,
  .qmResWrite 0x4000000 0, .qmResWrite 0 (2 ^ 32), .tierOpDone 64 ⟨none, []⟩, .tierOpDone 0 ⟨some (2 ^ 41), []⟩,
  .tierOpDone 0 ⟨none, [5]⟩,
  .stagedDirectWrite 2 0, .stagedDirectWrite 0x4000000 0, .stagedDirectWrite 0 (2 ^ 32),
  .cartInsert 4 ident0 0 0 false false, .cartInsert 0 { ident0 with serial := 2 ^ 64 } 0 0 false false,
  .cartInsert 0 { ident0 with table := [] } 0 0 false false,
  .cartInsert 0 { ident0 with table := List.replicate 32 [1, 2, 3] } 0 0 false false,
  .cartInsert 0 { ident0 with table := List.replicate 32 [1, 2, 3, 16] } 0 0 false false,
  .cartInsert 0 ident0 1001 0 false false, .cartInsert 0 ident0 0 256 false false, .cartPull 4, .slotPowerGood 4,
  .authDone 4 (sigLen 48), .authDone 0 (sigLen 47), .authTimeout 4, .mountDone 4 ⟨[], [], []⟩, .drainDone 4,
  .slotResetOffDone 4, .flashReadDone 0 ⟨true, 256⟩, .flashProgramDone 4 0 0 ⟨false, 0, []⟩,
  .flashProgramDone 0 16 0 ⟨false, 0, []⟩, .flashProgramDone 0 0 3 ⟨false, 0, []⟩, .flashProgramDone 0 0 0 ⟨false, 256, []⟩,
  .flashProgramDone 0 0 0 ⟨false, 0, [5]⟩,
  .flashEraseDone 4 0 0 false] : List Instr).all (fun i => !i.wf) = true := by decide +kernel


theorem test_illFormed5 : ([
  .flashEraseDone 0 16 0 false, .flashEraseDone 0 0 3800 false, .foldStart 4 0, .foldStart 0 16, .foldCommit 4 0,
  .foldCommit 0 16, .checkpoint 4, .relocationStart 4 0, .relocationStart 0 16, .refreshStart 4 0 0,
  .refreshStart 0 16 0, .refreshStart 0 0 3800, .tempHoldEnter 4 0, .tempHoldEnter 0 256, .tempHoldExit 4 0,
  .tempHoldExit 0 256, .hwr (2 ^ 44) [], .hrd 1024 0 0 false, .hrd 0 (2 ^ 44) 0 false, .hrd 0 0 4097 false,
  .dcpl 512 0 [], .dcpl 0 4 [], .linkTrainingDone 16 [] [], .linkTrainingDone 0 [(4, 0)] [],
  .linkTrainingDone 0 [(0, 64)] [], .linkTrainingDone 0 [] [5], .adapterRetryLimit 4 0 0, .laneCheckFail 4,
  .hostRetrain 4, .retrainDone 4 [] 0, .retrainDone 0 [64] 0, .retrainDone 0 [] 5, .retrainTimeout 4, .funcEnable 30,
  .funcDisable 30 0, .funcDisable 0 2, .stgArm 512, .porstRelease 4, .bootData (2 ^ 32), .memcTrainingDone [128],
  .entdaa 128, .raiseSvn 64, .revoke 64, .cartReinit 4, .arrCntClr 4, .arrAccCntClr 4, .trwCntClr 4, .rakeCntClr 4,
  .evtRingHeadWrite (2 ^ 32), .evtEnableWrite 2, .evtIrqWrite 2, .onfiTrainingDone 4,
  .vcartSwitchOpen 4] : List Instr).all (fun i => !i.wf) = true := by decide +kernel


/-- R273: a packet of 40,993 bytes is too long for every row that takes one. -/
theorem test_longPacket (l : List Byte) (h : l.length = 40993) : (Instr.time l).wf = false ∧ (Instr.hello 0 l).wf = false ∧
    (Instr.heartbeat l).wf = false ∧ (Instr.query l).wf = false ∧ (Instr.result l).wf = false ∧ (Instr.textReq l).wf = false ∧
    (Instr.textData l).wf = false ∧ (Instr.nack l).wf = false ∧ (Instr.gatherReq l).wf = false ∧
    (Instr.gatherData l).wf = false ∧ (Instr.tableWrite l).wf = false ∧ (Instr.tableAck l).wf = false ∧
    (Instr.reservedClassPacket l).wf = false := by
  simp [Instr.wf, packet, h]

/-! ### Witnesses -/

theorem wit_StepTakesTheFrontCommand :
    ({ st0 with pending := [.pllLock, .setApply] } : State).pending = .pllLock :: [.setApply] := rfl

theorem wit_IdleStepPassesOneClk :
    st0.pending = [] ∧ st0.tb.offset + 1 < st0.tb.len ∧
    ({ st0.tb with offset := 156249 } : Timebase).len ≤ ({ st0.tb with offset := 156249 } : Timebase).offset + 1 := by decide +kernel

theorem test_settled0 : st0.settled := rfl

/-- While PORST_N is low a register write changes nothing; a cartridge may be inserted. -/
theorem wit_EveryCommandAnswersNextState :
    (alter st0 (fun d => { d with power := { d.power with porst := false } })).dev.power.porst = false ∧
    pinCommand (.regWrite 0 0) = false ∧ pinCommand (.cartPull 3) = true := ⟨rfl, rfl, rfl⟩

/-- An idle step of the settled state answers a next state. -/
theorem wit_EveryStepTakesItsEvents : st0.settled ∧ ∃ t, step st0 = .next t := ⟨rfl, _, rfl⟩

theorem wit_MemoryReadsBackWhatWasWritten : Memory.wf [(5, 1)] = true ∧ (5 < 6 ∨ 6 + 1 ≤ 5) := by decide +kernel

theorem test_reset_inv : Timebase.reset.Inv := by
  constructor <;> simp [Timebase.reset]

theorem wit_StepKeepsTimebaseInvariant : State.reset.tb.Inv ∧ ∃ t, step State.reset = .next t := ⟨test_reset_inv, _, rfl⟩

theorem wit_OnlyBoundaryAndResetChangeTheFurrow :
    startsFurrow .pllLock = false ∧ startsFurrow (.regWrite R.FUR_CTRL 0) = false ∧ ∃ t, exec .pllLock st0 = .next t :=
  ⟨rfl, by decide +kernel, _, rfl⟩

theorem wit_BoundaryNumberFollowsR37 : State.reset.dev.power.porst = true ∧ State.reset.tb.Inv := ⟨rfl, test_reset_inv⟩

/-- A furrow whose window decided that RELOCK follows. -/
def tbRelock : Timebase := { Timebase.reset with decided := some ⟨.relock, none⟩, tcNext := some 500 }

theorem wit_BoundaryNumberFollowsR37_relock :
    ((tbRelock.boundary false 0).st = .relock) ∧ tbRelock.st ≠ .relock ∧ (tbRelock.boundary false 0).srcForce = false ∧
    tbRelock.tcNext = some 500 := by decide +kernel

theorem wit_BoundaryTakesUpTheDecision :
    st0.dev.power.porst = true ∧ ({ st0.tb with decided := some ⟨.locked, none⟩ } : Timebase).decided = some ⟨.locked, none⟩ ∧
    ({ st0.tb with decided := some ⟨.unlocked, some (-78125)⟩ } : Timebase).decided = some ⟨.unlocked, some (-78125)⟩ := by decide +kernel

theorem test_inv0 : st0.tb.Inv := by
  constructor <;> simp [st0, Timebase.reset]

/-- LOCKED, missing: no candidate is held. -/
theorem wit_WindowDecidesByR35_missing :
    st0.tb.Inv ∧ st0.tb.st = .locked ∧ st0.tb.edge = none ∧ st0.tb.cand = none ∧ st0.tb.lossThis = false ∧
    ¬ (st0.tb.tcResult = .disagrees ∧ st0.tb.tcPrevBad = true) :=
  ⟨test_inv0, rfl, rfl, rfl, rfl, by simp [st0, Timebase.reset]⟩

/-- One timebase for each row of R35, at the edge of its range. -/
theorem wit_WindowDecidesByR35 :
    let tb := { st0.tb with edge := some 2 }
    let hold := { tb with st := .holdover, holdCount := 63 }
    tb.realign = false ∧ tb.decided = none ∧ tb.lossThis = false ∧ tb.tcResult ≠ .disagrees ∧ (2 : Int).natAbs ≤ 2 ∧
    2 < (-3 : Int).natAbs ∧ hold.holdCount < 64 ∧ 64 ≤ ({ hold with holdCount := 64 } : Timebase).holdCount ∧
    ((5 : Int) - 3).natAbs ≤ 2 ∧ 2 < ((6 : Int) - 3).natAbs ∧ ({ tb with lossThis := true } : Timebase).lossThis = true ∧
    ({ tb with st := .unlocked, refOkAtStart := true } : Timebase).refOkAtStart = true := by decide +kernel

theorem wit_SlipIsCountedAndRaised :
    let s := { st0 with tb := { st0.tb with edge := some 3 } }
    s.settled ∧ s.tb.realign = false ∧ s.tb.decided = none ∧ s.tb.edge = some 3 ∧ 2 < (3 : Int).natAbs ∧
    s.tb.offset ≤ 78125 ∧ s.tb.len - 78125 ≤ 78125 ∧ 78125 < s.tb.len := ⟨rfl, by decide +kernel⟩

theorem wit_EdgeIsMeasuredInItsWindow :
    let s := { st0 with tb := { st0.tb with decided := some ⟨.locked, none⟩ } }
    st0.tb.offset ≤ 78124 ∧ 78124 < st0.tb.len ∧ 78124 < st0.tb.len - 78125 ∧ st0.tb.realign = false ∧ st0.tb.edge = none ∧
    s.tb.len - 78125 ≤ 156249 ∧ s.tb.decided = some ⟨.locked, none⟩ ∧ s.settled ∧
    ({ s.tb with realign := true } : Timebase).realign = true ∧ ({ s.tb with edge := some 0 } : Timebase).edge = some 0 :=
  ⟨by decide +kernel, by decide +kernel, by decide +kernel, rfl, rfl, by decide +kernel, rfl, rfl, rfl, rfl⟩

theorem wit_TimebaseCommands :
    st0.settled ∧ st0.tb.offset ≤ 78125 ∧ 78125 < st0.tb.len ∧ st0.tb.decided = none ∧ 78125 ≤ st0.tb.len - 78125 ∧
    st0.tb.len - 78125 < 78126 ∧ ({ st0.tb with realign := true } : Timebase).realign = true ∧ st0.tb.srcForce = false ∧
    st0.tb.st ≠ .unlocked ∧ ({ st0.tb with srcForce := true, st := .unlocked } : Timebase).srcForce = true :=
  ⟨rfl, by decide +kernel⟩

theorem wit_CounterClearsClearTheirCounters :
    clearedBy (.rakeCntClr 3) ≠ none ∧ alwaysResponds .furCntClr = true ∧ st0.dev.power.phase ≠ .rom ∧ st0.settled :=
  ⟨by decide +kernel, rfl, by decide +kernel, rfl⟩

/-- A read of a rake that a clear counts, at a clk that has passed, and one that is still to come. -/
theorem wit_CounterClears_rake :
    let r := { run0 with pend := [(0, 34, .rakeCount 32), (20, 34, .rakeCount 32)] }
    (withRun r).dev.run? 1 = some r ∧ r.clkAt st0.tb.offset = 0 ∧ r.readBy 0 (0, 34, .rakeCount 32) = 32 ∧
    (20, 34, .rakeCount 32) ∈ r.pend ∧ r.readBy 0 (20, 34, .rakeCount 32) = 0 := by decide +kernel

theorem wit_RomPhaseDiscardsWrites :
    romDiscards .tierCreate = true ∧ State.reset.dev.power.phase = .rom ∧ State.reset.settled ∧
    State.reset.dev.responds R.TIER_CMD_W0 = false ∧ State.reset.dev.responds R.SIEVE_IDX_APPLY_LO = false ∧
    isLo R.SIEVE_IDX_APPLY_LO = true ∧ State.reset.dev.responds (R.SIEVE_IDX_APPLY_LO + 4) = false ∧
    isHi (R.SIEVE_IDX_APPLY_LO + 4) = true ∧ stagedReg R.STORE_PAGE_OWNER = true ∧
    State.reset.dev.responds R.STORE_PAGE_OWNER = false := by
  refine ⟨rfl, rfl, rfl, ?_, ?_, ?_, ?_, ?_, ?_, ?_⟩ <;> decide +kernel

theorem wit_RegisterWriteStoresItsFields :
    ∃ r, regDesc R.PWR_CFG_LIMIT = some r ∧ plainReg st0.dev R.PWR_CFG_LIMIT = true ∧ 0xFFFFFFFF < 2 ^ 32 ∧
    regKey st0.dev r R.PWR_CFG_LIMIT ∉ eventRegs :=
  ⟨(regDesc R.PWR_CFG_LIMIT).getD ⟨0, 1, 4, .cold, .none, []⟩, by decide +kernel⟩

theorem wit_PairsReadAndWriteAsOneValue :
    ∃ r q, regDesc R.PWR_STG_AT_LO = some q ∧ regDesc (R.PWR_STG_AT_LO + 4) = some r ∧ q.hasRw = true ∧
    isLo R.PWR_STG_AT_LO = true ∧ isHi (R.PWR_STG_AT_LO + 4) = true ∧ isLo (R.PWR_STG_AT_LO + 4) = false ∧
    stagedReg (R.PWR_STG_AT_LO + 4) = false ∧ st0.dev.responds (R.PWR_STG_AT_LO + 4) = true ∧
    locked st0.dev (R.PWR_STG_AT_LO + 4) = false ∧ rangeOk st0.dev r (R.PWR_STG_AT_LO + 4) 0xFFFF (some 0xFFFFFFFF) = true ∧
    regKey st0.dev r (R.PWR_STG_AT_LO + 4) ≠ regKey st0.dev q R.PWR_STG_AT_LO ∧
    regKey st0.dev r (R.PWR_STG_AT_LO + 4) ∉ eventRegs ∧ regKey st0.dev q R.PWR_STG_AT_LO ∉ eventRegs :=
  ⟨(regDesc (R.PWR_STG_AT_LO + 4)).getD ⟨0, 1, 4, .cold, .none, []⟩,
   (regDesc R.PWR_STG_AT_LO).getD ⟨0, 1, 4, .cold, .none, []⟩, by decide +kernel⟩

theorem wit_UnmappedAccessRaisesHostEvent : st0.settled ∧ regDesc 0x3FFFFFC = none ∧ st0.dev.responds 0x3FFFFFC = true :=
  ⟨rfl, by decide +kernel⟩

theorem wit_StagedDirectWriteFormsList :
    stagedReg R.STORE_PAGE_OWNER = true ∧ st0.dev.power.phase = .service ∧ bits 31 30 0x40000000 < 2 ∧
    st0.dev.port.pendLo = none ∧ st0.dev.power.staging = none ∧ st0.settled := ⟨by decide +kernel, rfl, by decide +kernel, rfl, rfl, rfl⟩

/-- An array in a state, its paths free from clk 10 on. -/
def arrAt (st : ArrSt) : ArrayState := { freshArray with st := st, wFree := 10, sFree := 10, dFree := 10, rampDue := 58 }

def runArr (st : ArrSt) : Run := run0.setArr (arrKey 1 7) (arrAt st)

theorem test_issues (r : Run) (ha : r.aborted = none) (hb : r.replay = none) (hl : r.elapsed < r.plot.length) :
    (withRun r).dev.issues 1 r := ⟨by simp [withRun, alter, Device.run?, Tbl.get?], ha, hb, hl⟩

theorem wit_ArrayControlInstructions :
    (withRun (runArr .up)).dev.issues 1 (runArr .up) ∧ (runArr .up).namesArray 1 7 = true ∧
    ((runArr .up).arr (arrKey 1 7)).st = .up ∧ ((runArr .up).arr (arrKey 1 7)).wFree ≤ (runArr .up).now ∧
    ((runArr .up).arr (arrKey 1 7)).sFree ≤ (runArr .up).now ∧ ((runArr .up).arr (arrKey 1 7)).dFree ≤ (runArr .up).now ∧
    (∀ l, l ∈ ((runArr .up).arr (arrKey 1 7)).ldws → l.issue ≠ ((runArr .up).arr (arrKey 1 7)).ldwLast) ∧ ((runArr .down).arr (arrKey 1 7)).st = .down :=
  ⟨test_issues _ rfl rfl (by decide +kernel), by decide +kernel⟩

theorem wit_ArrayDataInstructions :
    ldwExc 1 7 4 15 15 1023 (withRun (runArr .up)).dev (runArr .up) = [] ∧
    (let r := run0.setArr (arrKey 1 7) { arrAt .up with active := ⟨some 0, []⟩ }
     mmExc ⟨5, 1, 7, 0, 0, 0, 15, 15, 0, 0, 32⟩ (withRun r).dev r = []) ∧
    (let r := run0.setArr (arrKey 1 7) { arrAt .up with rows := (List.range 32).map (fun i => (i, [])) }
     drainExc 1 7 0 15 15 0 1 (withRun r).dev r = []) := by decide +kernel

theorem wit_RampsAndWeightLoadsComplete :
    (withRun (runArr .rampUp)).dev.run? 1 = some (runArr .rampUp) ∧ ((runArr .rampUp).arr (arrKey 1 7)).rampDue = 58 ∧
    ((runArr .rampUp).arr (arrKey 1 7)).st = .rampUp ∧ ((runArr .rampDown).arr (arrKey 1 7)).st = .rampDown ∧
    (∃ r, ((withRun (runArr .rampUp)).dev.runUpTo 1 58 0).run? 1 = some r ∧ (r.arr (arrKey 1 7)).rampDue = 58 ∧
      (r.arr (arrKey 1 7)).st = .rampUp) :=
  ⟨by decide +kernel, by decide +kernel, by decide +kernel, by decide +kernel,
   (((withRun (runArr .rampUp)).dev.runUpTo 1 58 0).run? 1).getD run0, by decide +kernel⟩

/-- Array 7 with an LDW whose tile is read, due at clk 20. -/
def runLdw : Run := run0.setArr (arrKey 1 7) { arrAt .up with ldws := [⟨0, 20, 0, [127]⟩] }

theorem wit_RampsAndWeightLoadsComplete_load :
    (withRun runLdw).dev.run? 1 = some runLdw ∧ runLdw.replay = none ∧
    (runLdw.arr (arrKey 1 7)).nextLdw = some ⟨0, 20, 0, [127]⟩ ∧
    ∃ r, ((withRun runLdw).dev.runUpTo 1 20 0).run? 1 = some r ∧ (r.arr (arrKey 1 7)).nextLdw = some ⟨0, 20, 0, [127]⟩ :=
  ⟨by decide +kernel, rfl, by decide +kernel, (((withRun runLdw).dev.runUpTo 1 20 0).run? 1).getD run0, by decide +kernel⟩

/-- An MM of one INT8 row on decode array 7, which adds to a stored row: its weight 127 in row 0, column 0. -/
def mm0 (acts : List Byte) : MmOp :=
  ⟨0, 0, 30, 1, 0, true, 0, 0, 1, 0, ⟨some 0, [127]⟩, none, [(0, [acts])], false⟩

def runMm (acts : List Byte) (left : Nat) : Run :=
  { run0.setArr (arrKey 1 7) { arrAt .up with ops := [mm0 acts], rows := [(0, [⟨8388607, 0⟩])] } with replaysLeft := left }

def colsMm (acts : List Byte) : List ColWork :=
  rowPass 1 (arrKey 1 7) 1 (((runMm acts 1).arr (arrKey 1 7)).rowDraw (((runMm acts 1).arr (arrKey 1 7)).rowsBefore 0 0) 0) (mm0 acts) ((mm0 acts).acts.getD 0 []) (fun _ => true)
    (startCols 1 (mm0 acts) (some [⟨8388607, 0⟩]))

theorem wit_RowIsWrittenReplayedOrSaturated (acts : List Byte) (left : Nat) :
    (withRun (runMm acts left)).dev.run? 1 = some (runMm acts left) ∧ nextFinal (runMm acts left) = some (arrKey 1 7, mm0 acts, 30) ∧
    (∃ r, ((withRun (runMm acts left)).dev.runUpTo 1 30 0).run? 1 = some r ∧ r.aborted = none ∧ r.replay = none ∧
      nextFinal r = some (arrKey 1 7, mm0 acts, 30) ∧ r.replaysLeft = left) :=
  ⟨rfl, rfl, _, rfl, rfl, rfl, rfl, rfl⟩

/-- A pass keeps the exponents. -/
theorem test_rowPass_e {kind key seed : Nat} {draws : Nat → Nat → Nat} {m : MmOp} {acts : List (List Byte)} {cols : List ColWork} {c : ColWork}
    (h : c ∈ rowPass kind key seed draws m acts (fun _ => true) cols) : ∃ b, b ∈ cols ∧ c.e = b.e := by
  unfold rowPass at h
  obtain ⟨i, hi, rfl⟩ := List.mem_mapIdx.1 h
  exact ⟨cols[i], List.getElem_mem hi, rfl⟩

/-- The sum that nothing joins is the stored value. -/
theorem test_columnSum_none (d key seed j : Nat) (draws : Nat → Nat) (tile : WTile) (add : Bool) (c : ColWork) (hb : inRange24 c.base = true)
    (he : c.e = 0) : (columnSum 0 d key seed draws tile [] 0 j add c).ovf = false := by
  have hs : ∀ l : List Nat, l.foldl (fun (acc : PartSum) i =>
      let t := cellTerm 0 d tile [] 0 i j
      addPart acc (alignTerm t.v t.e c.e (draw seed (unitId key i j) (draws i)))) ⟨0, false, none⟩ = ⟨0, false, none⟩ := by
    intro l
    induction l with
    | nil => rfl
    | cons i l ih =>
      rw [List.foldl_cons]
      have : cellTerm 0 d tile [] 0 i j = zeroTerm := by simp [cellTerm]
      rw [this, he]
      rw [he] at ih
      exact ih
  unfold columnSum
  dsimp only
  rw [hs]
  cases add
  · rfl
  · simp [addPart, hb]

/-- The MM with a packing descriptor that leaves every group of columns unused. -/
def mmIdle : MmOp := { mm0 [] with pack := some (List.replicate 128 255) }

theorem wit_RowIsWritten_cols (draws : Nat → Nat → Nat) : ∀ c, c ∈ rowPass 1 (arrKey 1 7) 1 draws mmIdle [] (fun _ => true)
    (startCols 1 mmIdle (some [⟨8388607, 0⟩])) → c.ovf = false := by
  intro c h
  unfold rowPass at h
  obtain ⟨j, hj, rfl⟩ := List.mem_mapIdx.1 h
  have hlen : j < 128 := by simpa [startCols, arrD] using hj
  have hg : packGroup (List.replicate 128 255) (j / 32) = 15 := by
    have : ∀ g, g < 4 → packGroup (List.replicate 128 255) g = 15 := by decide +kernel
    exact this _ (by omega)
  have hr : columnRow 1 mmIdle.fmt mmIdle.pack [] j = ([], 0) := by
    unfold columnRow mmIdle
    simp only [hg]
    rfl
  simp only [if_true, hr]
  apply test_columnSum_none
  · have : ∀ b, b ∈ startCols 1 mmIdle (some [⟨8388607, 0⟩]) → inRange24 b.base = true := by decide +kernel
    exact this _ (List.getElem_mem hj)
  · have : ∀ b, b ∈ startCols 1 mmIdle (some [⟨8388607, 0⟩]) → b.e = 0 := by decide +kernel
    exact this _ (List.getElem_mem hj)

theorem wit_RowOverflows_cols :
    (∃ c, c ∈ colsMm [127] ∧ c.ovf = true) ∧ (∀ c, c ∈ colsMm [127] → c.ovf = true → c.e ≤ 123) := by
  constructor
  · have h : ((colsMm [127])[0]?.map (fun c => c.ovf)) = some true := by decide +kernel
    obtain ⟨c, hc, ho⟩ := Option.map_eq_some_iff.1 h
    exact ⟨c, List.mem_of_getElem? hc, ho⟩
  · intro c hc _
    obtain ⟨b, hb, he⟩ := test_rowPass_e hc
    have : ∀ b, b ∈ startCols 1 (mm0 [127]) (some [⟨8388607, 0⟩]) → b.e ≤ 123 := by decide +kernel
    rw [he]; exact this b hb

theorem wit_ReplayPauseRaisesExponents :
    let r := { runMm [127] 1 with replay := some ⟨arrKey 1 7, 0, 0, []⟩ }
    (withRun r).dev.run? 1 = some r ∧ r.replay = some ⟨arrKey 1 7, 0, 0, []⟩ ∧
      (r.arr (arrKey 1 7)).ops.find? (fun m => m.issue == 0) = some (mm0 [127]) :=
  ⟨rfl, rfl, rfl⟩

/-- The columns that the pass of a replay forms, of the only column `c` of a row held with `left` replays in reserve. -/
def replayCols (c : ColWork) (left : Nat) : List ColWork :=
  let r := { runMm [127] left with replay := some ⟨arrKey 1 7, 0, 0, [c]⟩ }
  rowPass 1 (arrKey 1 7) r.seed ((r.arr (arrKey 1 7)).passDraw r.now) (mm0 [127]) ((mm0 [127]).acts.getD 0 []) (fun c => c.ovf)
    (raiseCols r.seed (arrKey 1 7) true (r.arr (arrKey 1 7)).footDraws [c])

/-- R199, R200: 127 × 127 joins 8,388,607, which no longer overflows at exponent 4; a greater sum does, which may rise
again, or not at exponent 127 + 4. -/
theorem wit_ReplayPause_cases :
    (replayCols ⟨8388607, 0, 0, true, some true⟩ 1).map (fun c => (c.ovf, c.e)) = [(false, 4)] ∧
    (replayCols ⟨2 ^ 40, 0, 0, true, some true⟩ 1).map (fun c => (c.ovf, c.e)) = [(true, 4)] ∧
    (replayCols ⟨2 ^ 40, 120, 0, true, some true⟩ 1).map (fun c => (c.ovf, c.e)) = [(true, 124)] := by decide +kernel

theorem wit_AddressRegisterInstructions :
    (withRun run0).dev.issues 1 run0 ∧ 15 < 16 ∧ 2 ^ 48 - 1 < 2 ^ 48 ∧
    (ldaOp 15 15 15 15 4095).chk (withRun run0).dev run0 = [] := ⟨test_issues _ rfl rfl (by decide +kernel), by decide +kernel⟩

theorem wit_StoreMoveInstructions :
    (copyOp 15 15 15 14 15 0 4095 32768).chk (withRun run0).dev run0 = [] ∧
    (fillOp 15 14 15 0 4095 32768).chk (withRun run0).dev run0 = [] ∧
    (pdldOp 15 15 15 4095 15).chk (withRun run0).dev run0 = [] ∧
    (rksetOp 15 15 14 15 4095 4095).chk (withRun run0).dev run0 = [] ∧ run0.elapsed < 11 := by decide +kernel

def rakeSlot0 : RakeSlot := ⟨2, 1024, 1024, 0, 32, true⟩

theorem wit_RakeInstructionsOccupyTheRake :
    rakeExc rakeSlot0 (withRun run0).dev run0 = [] ∧
    rakeExc ⟨1, 1, 1, 0, 1, false⟩ (withRun run0).dev run0 = [] ∧
    rakeExc ⟨3, 1024, 1024, 0, 32, true⟩ (withRun run0).dev run0 = [] := by decide +kernel

theorem wit_RakeResultIsWritten :
    let o : RakeOp := ⟨1, 1, 1, 0, 1, false, csBase, csBase + 64, 11, 30, [(0, [5])], []⟩
    let r0 := { run0 with rake := [o] }
    (withRun r0).dev.run? 1 = some r0 ∧ r0.replay = none ∧ r0.nextRake = some o ∧ r0.plot.die < 4 ∧
    r0.rake.filter (fun x => x.occEnd == o.occEnd) = [o] ∧
    ∃ r, ((withRun r0).dev.runUpTo 1 o.due 17).run? 1 = some r ∧ r.nextRake = some o :=
  ⟨rfl, rfl, rfl, by decide +kernel, rfl, _, rfl, rfl⟩

/-- R117: the shorter operation that was issued later is complete first. -/
theorem wit_RakeResult_order :
    let o (a due : Nat) : RakeOp := ⟨1, 1, 1, 0, 1, false, csBase, csBase + 64, a, due, [(0, [5])], []⟩
    { run0 with rake := [o 40 70, o 41 50] }.nextRake = some (o 41 50) ∧
    { run0 with rake := [o 40 50, o 41 50] }.nextRake = some (o 40 50) := by decide +kernel

theorem wit_TrowelDispatchInstructions :
    tloadExc 15 15 15 256 (withRun run0).dev run0 = [] ∧ tgoExc 15 15 4095 (withRun run0).dev run0 = [] := by decide +kernel

theorem wit_FailedCheckAbortsThePlot :
    slotCheck (.rampdn 1 1 7) = some (1, rampdnExc 1 7) ∧ (withRun run0).dev.issues 1 run0 ∧
    firstExc (rampdnExc 1 7 (withRun run0).dev run0) = some 0x5C ∧ ((withRun run0).dev.ctx 0).st ≠ .resetting :=
  ⟨rfl, test_issues _ rfl rfl (by decide +kernel), by decide +kernel⟩

theorem wit_ScalarArithmeticByR127 :
    (63 : W64).toNat < 64 ∧ (1 : W64) ≠ 0 ∧
    ¬ ((2 ^ 63 + 1 : W64).toInt = -(2 ^ 63) ∧ (-1 : W64).toInt = -1) := by decide +kernel

/-- Core 15, at word 0 of its program, which holds `w`, readable from clk 20 on. -/
def coreOf (w : Nat) : Trowel :=
  { freshTrowel with
    running := true, clk := 20, budgetDue := 84,
    ibuf := (List.range 8).map (fun k => (k, (leBytes 8 w).getD k 0)) }

def runCore (w : Nat) : Run := run0.setCore 15 (coreOf w)

theorem coreIssues_of {w op : Nat} {reads : Nat → List Nat} (h : trowLegal 0 w && ((runCore w).core 15).fetch == w &&
    fOpc w == op && ((runCore w).core 15).issueAt (reads w) == 20 && decide (20 < (runCore w).trowelLimit ((runCore w).core 15)) = true)
    : ∃ d r x, CoreIssues (withRun (runCore w)) 1 15 op reads d r x w 20 := by
  simp only [Bool.and_eq_true, beq_iff_eq, decide_eq_true_eq] at h
  obtain ⟨⟨⟨⟨h1, h2⟩, h3⟩, h4⟩, h5⟩ := h
  refine ⟨_, _, _, ⟨⟨runCore w, rfl, rfl, rfl, rfl, h1, h2.symm, ?_, h5⟩, h3, rfl, rfl, rfl, rfl⟩⟩
  exact h4.symm

theorem wit_ScalarInstructionsWriteTheirResult :
    scalarRow (.addSubLogic 1 15) ≠ none ∧ ∃ d r x, CoreIssues (withRun (runCore (2 + 31 <<< 7 + 31 <<< 12 + 31 <<< 17 + 13 <<< 22)))
      1 15 0x01 readsAB d r x (2 + 31 <<< 7 + 31 <<< 12 + 31 <<< 17 + 13 <<< 22) 20 :=
  ⟨by simp [scalarRow], coreIssues_of (by decide +kernel)⟩

/-- LI, a T64 instruction: its immediate in the second word. -/
theorem wit_ScalarInstructions_wide :
    ∃ d r x, CoreIssues (withRun (runCore (1 + 0x0C <<< 1 + 31 <<< 7 + 0xFFFFFFFF <<< 32))) 1 15 0x0C (fun _ => []) d r x
      (1 + 0x0C <<< 1 + 31 <<< 7 + 0xFFFFFFFF <<< 32) 20 := coreIssues_of (by decide +kernel)

theorem wit_VectorInstructionsWriteTheirResult :
    vectorRow (.vfma 1 15) ≠ none ∧
    (∃ d r x, CoreIssues (withRun (runCore (0x25 <<< 1 + 31 <<< 7 + 31 <<< 12 + 31 <<< 17 + 2 <<< 22))) 1 15 0x25
      (fun w => vKey (fD w) :: readsVV w) d r x (0x25 <<< 1 + 31 <<< 7 + 31 <<< 12 + 31 <<< 17 + 2 <<< 22) 20) ∧
    (∃ d r x, CoreIssues (withRun (runCore (0x27 <<< 1 + 31 <<< 7 + 3 <<< 22 + 2 <<< 24))) 1 15 0x27 readsV d r x
      (0x27 <<< 1 + 31 <<< 7 + 3 <<< 22 + 2 <<< 24) 20) ∧
    (∃ d r x, CoreIssues (withRun (runCore (0x2C <<< 1 + 31 <<< 7))) 1 15 0x2C (fun _ => [flagsKey]) d r x
      (0x2C <<< 1 + 31 <<< 7) 20) :=
  ⟨by simp [vectorRow], coreIssues_of (by decide +kernel), coreIssues_of (by decide +kernel), coreIssues_of (by decide +kernel)⟩

theorem wit_BranchesAndJumpsMoveThePc :
    branchRow (.bgeu 1 15) ≠ none ∧
    (∃ d r x, CoreIssues (withRun (runCore (0x15 <<< 1 + 31 <<< 7 + 1023 <<< 22))) 1 15 0x15 readsAB d r x
      (0x15 <<< 1 + 31 <<< 7 + 1023 <<< 22) 20) ∧
    (∃ d r x, CoreIssues (withRun (runCore (0x16 <<< 1 + 0x4000 <<< 17))) 1 15 0x16 (fun _ => []) d r x
      (0x16 <<< 1 + 0x4000 <<< 17) 20) ∧
    (∃ d r x, CoreIssues (withRun (runCore (0x17 <<< 1 + 0x3FFF <<< 17))) 1 15 0x17 readsA d r x
      (0x17 <<< 1 + 0x3FFF <<< 17) 20) :=
  ⟨by simp [branchRow], coreIssues_of (by decide +kernel), coreIssues_of (by decide +kernel), coreIssues_of (by decide +kernel)⟩

/-- The same, where the access of the instruction passes its checks. -/
theorem coreIssues_access {w op z : Nat} {wr : Bool} {reads : Nat → List Nat} (h : trowLegal 0 w && ((runCore w).core 15).fetch == w &&
    fOpc w == op && ((runCore w).core 15).issueAt (reads w) == 20 && decide (20 < (runCore w).trowelLimit ((runCore w).core 15)) = true)
    (ha : accExc 15 z wr ((withRun (runCore w)).dev.runTo 1 20) ((((withRun (runCore w)).dev.runTo 1 20).run? 1).getD run0)
      (((((withRun (runCore w)).dev.runTo 1 20).run? 1).getD run0).core 15) w = []) :
    ∃ d r x, CoreIssues (withRun (runCore w)) 1 15 op reads d r x w 20 ∧ accExc 15 z wr d r x w = [] := by
  simp only [Bool.and_eq_true, beq_iff_eq, decide_eq_true_eq] at h
  obtain ⟨⟨⟨⟨h1, h2⟩, h3⟩, h4⟩, h5⟩ := h
  exact ⟨_, _, _, ⟨⟨runCore w, rfl, rfl, rfl, rfl, h1, h2.symm, h4.symm, h5⟩, h3, rfl, rfl, rfl, rfl⟩, ha⟩

theorem wit_TrowelLoadsAndStores :
    loadRow (.vld 1 15) ≠ none ∧ storeRow (.stB 1 15) ≠ none ∧
    (∃ d r x, CoreIssues (withRun (runCore (0x20 <<< 1 + 31 <<< 7 + 15 <<< 18))) 1 15 0x20 readsA d r x
      (0x20 <<< 1 + 31 <<< 7 + 15 <<< 18) 20 ∧ accExc 15 64 false d r x (0x20 <<< 1 + 31 <<< 7 + 15 <<< 18) = []) ∧
    (∃ d r x, CoreIssues (withRun (runCore (0x1F <<< 1 + 31 <<< 7 + 15 <<< 18))) 1 15 0x1F
      (fun w => [fA w, if false then vKey (bits 11 7 w) else bits 11 7 w]) d r x (0x1F <<< 1 + 31 <<< 7 + 15 <<< 18) 20 ∧
      accExc 15 1 true d r x (0x1F <<< 1 + 31 <<< 7 + 15 <<< 18) = []) :=
  ⟨by simp [loadRow], by simp [storeRow], coreIssues_access (by decide +kernel) (by decide +kernel),
   coreIssues_access (by decide +kernel) (by decide +kernel)⟩

theorem wit_TrowelProgramEnds :
    (∃ d r x, CoreIssues (withRun (runCore (0x3F <<< 1))) 1 15 0x3F (fun _ => []) d r x (0x3F <<< 1) 20) ∧
    (let r := runCore 0
     (withRun r).dev.run? 1 = some r ∧ (r.core 15).running = true ∧ trowLegal (r.core 15).pc (r.core 15).fetch = false ∧
     (r.core 15).clk < r.trowelLimit (r.core 15) ∧
     (∃ r1, ((withRun r).dev.runTo 1 (r.core 15).clk).run? 1 = some r1 ∧ r1.aborted = none) ∧
     ∃ r1, ((withRun r).dev.runTo 1 (r.trowelLimit (r.core 15))).run? 1 = some r1 ∧ r1.aborted = none) :=
  ⟨coreIssues_of (by decide +kernel), by decide +kernel, by decide +kernel, by decide +kernel, by decide +kernel,
   ⟨_, rfl, rfl⟩, ⟨_, rfl, rfl⟩⟩

/-! Plots, runs, handoffs -/

/-- A request record of opcode `op` of queue pair 0. -/
def req0 (op : Nat) : Request :=
  { blankRequest dev0 0 (BitVec.ofNat 8 op :: List.replicate 255 0) 100 with userSegs := true }

def withReq (q : Request) : State := alter st0 (fun d => { d with qm := { d.qm with reqs := [(1, q)] } })

theorem wit_PlotLoadAndUnload :
    let s := withReq (req0 1)
    let u := alter (withReq (req0 2)) (fun d => { d with plots := { d.plots with dir := [(0, plot0)] } })
    s.dev.req? 1 = some (req0 1) ∧ fieldLe (req0 1).bytes 0 1 = 1 ∧ (req0 1).ready = none ∧
    (∃ det, loadCheck s.dev 0 ((s.dev.ctx 0).win 0) 0 = some det) ∧
    fieldLe (req0 2).bytes 0 1 = 2 ∧ u.dev.plots.dir.get? 0 = some plot0 ∧ u.dev.plotInUse 0 = false ∧
    (∀ x, x ∈ u.dev.plots.dir → x.1 ≠ 0 → x.2.unloading = true → u.dev.plotInUse x.1 = true) ∧
    (alter u (fun d => { d with plots := { d.plots with runs := [(1, run0)] } })).dev.plotInUse 0 = true :=
  ⟨rfl, by decide +kernel, rfl, ⟨(loadCheck dev0 0 noWindow 0).getD 0, by decide +kernel⟩, by decide +kernel⟩

/-- `n` bytes, all 0 but for fields: offset, size, value. -/
def image (n : Nat) (fs : List (Nat × Nat × Nat)) : List Byte :=
  fs.foldl (fun l f => l.take f.1 ++ leBytes f.2.1 f.2.2 ++ l.drop (f.1 + f.2.1)) (List.replicate n 0)

/-- Memory that is 0 but for fields: address, size, value. -/
def memOf (fs : List (Nat × Nat × Nat)) : Memory := fs.foldl (fun m f => m.writeBytes f.1 (leBytes f.2.1 f.2.2)) []

/-- An active context with a window in every slot. -/
def ctx0 : Context := ⟨.active, false, false, (List.range 16).map (fun w => (w, win0)), [], []⟩

/-- The least plot image that R62 accepts: one band, one bundle. -/
def planImage : List (Nat × Nat × Nat) :=
  [(0, 2, 1), (2, 2, 256), (4, 4, 1250), (8, 4, 1), (0xC, 1, 3), (0xD, 1, 1), (0x14, 2, 1), (0x24, 4, 256), (0x28, 4, 320),
   (0x2C, 4, 320), (256, 32, 1 <<< 249)]

theorem wit_PlotLoad_accepted :
    let d := { dev0 with mem := memOf (planImage.map (fun f => (csBase + f.1, f.2))), qm := { dev0.qm with ctxs := [(0, ctx0)] } }
    loadCheck d 0 ((d.ctx 0).win 0) 0 = none ∧ (d.ctx 0).st ≠ .resetting := by decide +kernel

theorem test_risingReqs : risingKeys (withReq (req0 1)).dev.qm.reqs := by simp [risingKeys, withReq, alter]

/-- A plot placed at band 124. -/
def placed0 : Placed := ⟨0, 0, 1, 0, none, 1, 3, 124, [[], [7], [], [], []], 1, [5], false⟩

def ctxIs (st : CtxSt) (d : Device) : Device := { d with qm := { d.qm with ctxs := [(0, { ctx0 with st := st })] } }

theorem wit_RunsStartAndEnd_start :
    let s := alter st0 (fun d => ctxIs .active { d with plots := { d.plots with dir := [(0, plot0)], sown := [placed0] } })
    s.dev.plots.sown[0]? = some placed0 ∧ s.dev.plots.dir.get? (65536 * 0 + 0) = some plot0 ∧ placed0.idle = false ∧
    ({ placed0 with idle := true } : Placed).idle = true := by decide +kernel

theorem wit_RunsStartAndEnd_overrun :
    (∃ r, (((withRun run0).dev.runUpTo 1 (run0.plot.length - 48 - run0.pauses) 40).run? 1 = some r) ∧ r.aborted = none ∧
      r.arrays.all (fun p => p.2.settled) = true) ∧
    let up := run0.setArr (arrKey 1 7) (arrAt .up)
    (withRun up).dev.run? 1 = some up ∧ up.aborted = none ∧ up.replay = none ∧ up.overrunChecked = false ∧
    ∃ r, (((withRun up).dev.runUpTo 1 (up.plot.length - 48 - up.pauses) 40).run? 1 = some r) ∧ r.aborted = none ∧
      r.arrays.all (fun p => p.2.settled) = false :=
  ⟨⟨_, rfl, rfl, rfl⟩, rfl, rfl, rfl, rfl, ⟨_, rfl, rfl, rfl⟩⟩

theorem wit_RunsStartAndEnd_end :
    let r := { run0 with overrunChecked := true, req := 1 }
    let q := { req0 0x10 with stages := [⟨0, 0, 1, [], 0, 1, 0⟩] }
    let s := alter (withReq q) (fun d => { d with plots := { d.plots with runs := [(1, r)], dir := [(0, plot0)] } })
    risingKeys s.dev.plots.runs ∧ s.dev.run? 1 = some r ∧ r.aborted = none ∧ r.replay = none ∧ r.pend = [] ∧ r.rake = [] ∧
    (∀ p, p ∈ r.trowels → p.2.running = false) ∧ (∀ p, p ∈ r.arrays → p.2.ops = []) ∧ r.gen = none ∧ s.dev.req? r.req = some q ∧ q.cancel = none ∧
    (∀ x, x ∈ q.stages → x.type = 0) ∧ (∀ x, x ∈ s.dev.plots.dir → x.2.unloading = false) :=
  ⟨by simp [risingKeys, alter, withReq], by decide +kernel⟩

/-- The device and the run at the issue of a bundle `w`. -/
def bundleDev (w : Nat) : Device :=
  { (withRun run0).dev with mem := memOf [(plot0.base + plot0.bundleOff, 32, w)] }

/-- An empty bundle; a sync slot with an unused operation; a HOFF to a handle that is not loaded, from an address of A0. -/
theorem wit_BundleTakesEffectWhole :
    run0.plot.bundles = 8 ∧ (bundleDev 0).run? 1 = some run0 ∧ run0.issueClk + run0.pauses < run0.plot.length ∧
    (let d := ((bundleDev 0).catchUp (run0.startOff + run0.issueClk + run0.pauses) (some 1)).runTo 1 run0.issueClk
     let b := decodeBundle (run0.plot.bundle d.mem 0)
     b.legal = true ∧ (∀ o, o ∈ b.slots → o.chk d run0 = []) ∧ d.ev.raised = []) ∧
    (let d := ((bundleDev 0xF00000).catchUp (run0.startOff + run0.issueClk + run0.pauses) (some 1)).runTo 1 run0.issueClk
     (decodeBundle (run0.plot.bundle d.mem 0)).legal = false) ∧
    (let d := ((bundleDev 0x200000).catchUp (run0.startOff + run0.issueClk + run0.pauses) (some 1)).runTo 1 run0.issueClk
     let b := decodeBundle (run0.plot.bundle d.mem 0)
     b.legal = true ∧ firstExc ((b.slots).flatMap (fun o => o.chk d run0)) ≠ none) := by decide +kernel

/-- The request of a run whose bundle cannot be read, and another one. -/
theorem wit_BundleTakesEffectWhole_unread :
    let s := alter (withReq (req0 0x10)) (fun d => { d with
      plots := { d.plots with runs := [(1, { run0 with req := 1 })] }, qm := { d.qm with reqs := [(1, req0 0x10), (2, req0 0x10)] } })
    let d := (s.dev.catchUp (run0.startOff + run0.issueClk + run0.pauses) (some 1)).runTo 1 run0.issueClk
    d.ev.raised = [] ∧ d.run? 1 = some { run0 with req := 1 } ∧ 1 ∈ d.reqsOf 1 none ∧ d.req? 1 = some (req0 0x10) ∧
    2 ∉ d.reqsOf 1 none ∧ d.req? 2 = some (req0 0x10) := by decide +kernel

/-- A declaration of TIER items of 64 B, and its consumer. -/
def decl0 : HoDecl := ⟨3, 15, false, 1024, 0x1000, 64, 2⟩

def handoff0 (kind : Nat) : Handoff :=
  { id := 7, kind := kind, ctx := 0, req := 1, gen := none, handle := 0, bind := none, decl := 0, issue := 99, deadline := 110,
    addr := csBase + 0x1000, stride := 64, itemsMax := 2, early := false, expected := 2, landedItems := [], flags := 0,
    detail := [], flagDetails := [], noWork := false, cutoff := false, closeAt := none, pinned := [],
    srcRanges := [(csBase + 0x2000, 64), (csBase + 0x2040, 64)], desc := [], texts := [], res := none, reqs := [] }

def withHo (h : Handoff) : State := alter st0 (fun d => { d with plots := { d.plots with handoffs := [(7, h)] } })

theorem wit_Handoffs_hoff :
    let r := { run0 with req := 1 }
    let s := alter (withReq (req0 0x10)) (fun d => ctxIs .active { d with plots := { d.plots with
      runs := [(1, r)], dir := [(0, { plot0 with decls := [decl0] })] } })
    s.dev.issues 1 r ∧ hoffExc 0 15 0 1 s.dev r = [] ∧ (s.dev.reqsOf r.req r.gen).head? = some 1 ∧
    s.dev.req? 1 = some (req0 0x10) ∧ consumerDecl s.dev r 1 0 = some decl0 :=
  ⟨⟨rfl, rfl, rfl, by decide +kernel⟩, by decide +kernel⟩

theorem wit_Handoffs_itemLand :
    let s := alter (withHo (handoff0 3)) (fun d => { d with store := { d.store with deliv := [(7, (2, 0))] } })
    let d := s.dev.catchUp s.tb.offset none
    d.handoff? 7 = some (handoff0 3) ∧ (tierItemData d (handoff0 3) 1).isSome = true ∧
    d.inImage none (handoff0 3).addr (handoff0 3).len = false ∧
    (∀ p, p ∈ d.plots.handoffs → p.1 ≠ 7 → overlaps (handoff0 3).addr (handoff0 3).len p.2.addr p.2.len = false) := by
  decide +kernel

theorem wit_Handoffs_cutoff :
    let h := { handoff0 3 with cutoff := true }
    (withHo h).settled ∧ (withHo h).dev.handoff? 7 = some h ∧ (withHo h).dev.handoffsOk ∧
    (withHo (handoff0 3)).dev.flash.failDetail.get? 7 = none ∧ furLe (handoff0 3).closes 101 = false ∧
    furLe { handoff0 3 with deadline := 101 }.closes 101 = true :=
  ⟨rfl, rfl, ⟨by simp [risingKeys, withHo, alter], by decide +kernel⟩, rfl, by decide +kernel, by decide +kernel⟩

theorem wit_SowingFreezesOnce :
    st0.dev.plots.frozen = none ∧ st0.settled ∧
    (alter st0 (fun d => { d with plots := { d.plots with frozen := some [] } })).dev.plots.frozen ≠ none :=
  ⟨rfl, rfl, by decide +kernel⟩

/-! The sieve -/

/-- A context of engine 0 of a search of an IVF index (R239), at its first list. -/
def sctx0 (st : SctxSt) : SieveCtx := ⟨0, 31, st, false, [], 0, 0, 0, 0, 0, [(0, 0)], 0, 0, [], [], 0, none, .zero⟩

/-- A search of the handoff 7 on collector 511: `m` is the TYPE of its index (1 a graph, 2 lists), K = 1. -/
def search0 (m : Nat) (x : SieveCtx) : Search :=
  { handoff := some 7, shard := none, item := 1, owner := 0, issue := 99, deadline := 101, slot := 0,
    desc := image 0x60 [(8, 2, 1), (0xC, 1, 1), (0x34, 4, 2)], header := image 4096 [(2, 1, m), (5, 1, 1)],
    hdrBase := csBase, data := 0, tombBase := none, tableBase := csBase, extraProbes := [], bitmap := csBase, ctxs := [x],
    started := true, extra := false, coll := [], lookups := 0, looked := 0, codes := 0, reads := 0, nanSeen := false, media := none }

def withSearch (se : Search) : State :=
  alter (withHo (handoff0 0)) (fun d => { d with mem := memOf [(csBase + 0x1000 + 8, 4, 1)], sieve := { d.sieve with searches := [(511, se)] } })

theorem wit_SieveContextsWork_copied :
    let x := sctx0 .copying
    let s := withSearch (search0 2 x)
    s.dev.search? 511 = some (search0 2 x) ∧ (search0 2 x).ctxs[0]? = some x ∧ x.st = .copying ∧
    (search0 2 x).spent = false ∧ (search0 2 x).coll.length ≤ (search0 2 x).k ∧ (search0 2 x).graph = false ∧
    x.probes = (0, 0) :: [] ∧ x.group < s.dev.mem.readLe ((search0 2 x).hdrBase + 0x1000 + 16 * 0 + 8) 4 ∧
    x.groups < ((search0 2 x).dsc 0x34 4 + (search0 2 x).dsc 0xC 1 - 1) / (search0 2 x).dsc 0xC 1 := by decide +kernel

/-- The same search with a record of one unit and one read a furrow. -/
def searchS (se : Search) : State :=
  alter (withSearch se) (fun d => { d with
    power := { d.power with doms := [(20, 2)] },
    plots := { d.plots with handoffs := [(7, { handoff0 0 with res := some ⟨0, 0, 0, 0, 8, 1, 1, 15, 1, 1, true⟩ })] } })

theorem wit_SieveContextsWork_issue :
    let s := searchS (search0 2 (sctx0 .ready))
    s.dev.engineOn 0 = true ∧ ∃ y se, y ∈ s.dev.engCtxs 0 ∧ s.dev.search? y.1 = some se ∧ canIssue s.dev se y.2.2 = true := by
  refine ⟨by decide +kernel, (511, 0, sctx0 .ready), search0 2 (sctx0 .ready), ?_, ?_, ?_⟩ <;> decide +kernel

theorem wit_SieveContextsWork_round :
    let x := sctx0 .asked
    let s := searchS (search0 1 x)
    roundPoint s.tb s.dev = some 0 ∧ roundPoint { s.tb with offset := 4096 } s.dev = some 78125 ∧
    roundPoint { s.tb with offset := 82221 } s.dev = none ∧
    s.dev.sieve.searches = [(511, search0 1 x)] ∧ (search0 1 x).ctxs = [x] ∧ x.st = .asked ∧
    s.dev.sieve.chanReads.getD (s.dev.walkChannel (search0 1 x) x) 0 < 21 ∧
    s.dev.readFits (search0 1 x) (s.dev.walkChannel (search0 1 x) x) = true := by decide +kernel

theorem wit_SieveContextsWork_delivered :
    let x := sctx0 .reading
    (search0 1 x).ctxs[0]? = some x ∧ (search0 1 x).spent = false ∧ (search0 1 x).graph = true ∧ (search0 2 x).graph = false ∧
    { search0 2 x with extra := true }.extra = true ∧ (search0 1 x).coll.length ≤ (search0 1 x).k ∧ x.look = none ∧ x.stream = [] := by
  decide +kernel

/-- A lookup of a filter bitmap in ALLOW mode that passes (bit 0) or not (bit 1), and the whole list was scored. -/
theorem wit_SieveContextsWork_looked :
    let x (v : Nat) : SieveCtx := { sctx0 .reading with look := some ⟨v, 0x3F800000, 1⟩ }
    let se (v : Nat) : Search := { search0 2 (x v) with
      extra := true, desc := image 0x60 [(8, 2, 1), (0xC, 1, 1), (0x34, 4, 2), (0x42, 1, 1)] }
    let s := alter st0 (fun d => { d with mem := memOf [(csBase, 1, 1)] })
    (se 0).spent = false ∧ (se 0).entriesLeft (x 0) = 0 ∧
    bit 0 (s.dev.mem.read ((se 0).lookAddr ⟨0, 0, 1⟩)).toNat = ((se 0).dsc 0x42 1 == 1) ∧
    bit 1 (s.dev.mem.read ((se 1).lookAddr ⟨1, 0, 1⟩)).toNat ≠ ((se 1).dsc 0x42 1 == 1) := by decide +kernel

theorem wit_SearchesLandOrAreHarvested :
    let se := search0 2 (sctx0 .stopped)
    let s := withSearch se
    s.dev.search? 511 = some se ∧ se.allStopped = true ∧ se.handoff = some 7 ∧ s.dev.handoff? 7 = some (handoff0 0) ∧
    se.item < (handoff0 0).itemsMax ∧ se.item ∉ (handoff0 0).landedItems ∧ s.dev.sieve.tally.get? 7 = none ∧ s.settled ∧
    s.dev.sieve.searches.filter (fun p => harvestDue s.tb false p.2) = [(511, se)] ∧
    s.dev.sieve.waiting.filter (harvestDue s.tb false) = [] ∧ bit 0 (se.dsc 1 1) = false ∧
    bit 0 ({ se with desc := image 0x60 [(1, 1, 1)] }.dsc 1 1) = true := by
  refine ⟨rfl, ?_, rfl, rfl, ?_, ?_, rfl, rfl, ?_, ?_, ?_, ?_⟩ <;> decide +kernel

/-- From reset every APPLY register reads 0; a number of 1 furrow from now on is to come. -/
theorem wit_SwitchesAreStagedAndCancelled :
    let p := alter st0 (fun d => { d with regs := [(R.BRX_APPLY_LO, 101), (R.SIEVE_IDX_APPLY_LO, 101)] })
    st0.dev.power.phase ≠ .rom ∧ furLt st0.tb.number (st0.dev.furReg R.BRX_APPLY_LO R.BRX_APPLY_HI) = false ∧ st0.settled ∧
    furLt p.tb.number (p.dev.furReg R.BRX_APPLY_LO R.BRX_APPLY_HI) = true ∧
    furLt p.tb.number (p.dev.furReg (idxReg R.SIEVE_IDX_APPLY_LO 0) (idxReg R.SIEVE_IDX_APPLY_HI 0)) = true ∧
    ({ p with tb := { p.tb with number := 0xFFFFFFFFFFFF } } : State).tb.number + 1 = 0 ∧
    furLt 0xFFFFFFFFFFFF (p.dev.furReg (tblReg R.GATH_TBL_APPLY_LO 0) (tblReg R.GATH_TBL_APPLY_HI 0)) = true ∧
    furLt 0xFFFFFFFFFFFF (p.dev.furReg (mdlReg R.SEQ_MDL_APPLY_LO 0) (mdlReg R.SEQ_MDL_APPLY_HI 0)) = true ∧
    (alter st0 (fun d => { d with seq := { d.seq with models := [(0, ⟨.ready, [], [], [], 1⟩)] } })).dev.mdl? 0 ≠ none := by
  refine ⟨?_, ?_, rfl, ?_, ?_, ?_, ?_, ?_, ?_⟩ <;> decide +kernel

/-! The Bruxia port -/

def withPort (p : BrxPort) : State := alter st0 (fun d => { d with brx := { d.brx with ports := [(7, p)] } })

/-- R274's CRC in a form that evaluates byte by byte. -/
def crcF : Nat → List Byte → Nat
  | c, [] => c
  | 0, b :: t => crcF (crcByte 0 b) t
  | n + 1, b :: t => crcF (crcByte (n + 1) b) t

theorem crcF_eq (l : List Byte) : ∀ c, crcF c l = l.foldl crcByte c := by
  induction l with
  | nil => intro c; cases c <;> rfl
  | cons b t ih =>
    intro c
    rw [List.foldl_cons, ← ih]
    cases c <;> rfl

/-- A packet of furrow 100 from an identity. -/
def pktFrom (src cls tag : Nat) (payload : List Byte) : List Byte :=
  let h (crc : Nat) : List Byte :=
    leBytes 1 cls ++ [0] ++ leBytes 2 src ++ [0, 0, 0, 0] ++ leBytes 4 payload.length ++ leBytes 4 tag ++ leBytes 4 crc
      ++ [0, 0, 0, 0, 100, 0, 0, 0, 0, 0, 0, 0]
  h (Nat.xor (crcF 0xFFFFFFFF (h 0 ++ payload)) 0xFFFFFFFF) ++ payload

def pkt0 (cls tag : Nat) (payload : List Byte) : List Byte := pktFrom 0 cls tag payload

theorem wit_PortsHeartbeatsAndFencing_ports :
    st0.dev.power.phase ≠ .rom ∧ st0.dev.fld R.BRX_PORT_CTRL 7 7 = 0 ∧
    (alter st0 (fun d => { d with regs := [(R.BRX_PORT_CTRL, 128)] })).dev.fld R.BRX_PORT_CTRL 7 7 = 1 ∧
    (withPort ⟨.training, none, none⟩).settled ∧ ((withPort ⟨.training, none, none⟩).dev.port' 7).st = .training ∧
    ((withPort ⟨.up, none, none⟩).dev.port' 7).st = .up := by
  refine ⟨?_, ?_, ?_, rfl, ?_, ?_⟩ <;> decide +kernel

theorem takes_of {s : State} {c : Nat} {p : List Byte} (hf : s.dev.fabOn = true) (h : (pktClass p == c && (p.length == 32 + fieldLe p 8 4 &&
    fieldLe p 0x10 4 == Nat.xor (crcF 0xFFFFFFFF (pktNoCrc p)) 0xFFFFFFFF) && furNear (pktFurrow p) s.tb.number &&
    s.tb.st != .unlocked) = true) : s.takes c p := by
  simp only [Bool.and_eq_true, beq_iff_eq, bne_iff_ne, crcF_eq] at h
  refine ⟨hf, h.1.1.1, ?_, fun _ => h.1.2, fun _ => h.2⟩
  simp only [pktCrcOk, crc32c, h.1.1.2.1, h.1.1.2.2, beq_self_eq_true, Bool.and_self]

theorem wit_takes : st0.takes 1 (pkt0 1 0 [1, 0, 0, 0, 0, 0, 0, 0]) ∧ st0.takes 2 (pkt0 2 0 [1]) ∧ st0.takes 2 (pkt0 2 0 [2]) :=
  ⟨takes_of (by decide +kernel) (by decide +kernel), takes_of (by decide +kernel) (by decide +kernel), takes_of (by decide +kernel) (by decide +kernel)⟩

theorem wit_PortsHeartbeatsAndFencing_hello :
    let s := withPort ⟨.hello, some 99, none⟩
    (s.dev.port' 7).st = .hello ∧ fieldLe (pktPayload (pkt0 2 0 [1])) 0 1 = 1 ∧
    fieldLe (pktPayload (pkt0 2 0 [2])) 0 1 ≠ 1 ∧ (s.dev.port' 7).lastHello = some 99 ∧
    (99 : W48) + 1 = s.tb.number ∧ ((withPort ⟨.hello, none, none⟩).dev.port' 7).lastHello = none := by decide +kernel

theorem wit_PortsHeartbeatsAndFencing_beat :
    let pkt := pkt0 3 0 (List.replicate 40 0)
    st0.takes 3 pkt ∧ furLt (pktFurrow pkt) st0.tb.number = false ∧ st0.dev.brx.evaluated = false ∧
    (st0.dev.brx.beats.getD (pktSrc pkt % 16384) []).length < 3 ∧ st0.tb.srcForce = false :=
  ⟨takes_of (by decide +kernel) (by decide +kernel), by decide +kernel⟩

theorem wit_PortsHeartbeatsAndFencing_eval :
    let d := { dev0 with brx := { dev0.brx with beats := [(0, [⟨100, 5, false, false, true⟩])] } }
    majority dev0 100 (planeOf dev0.identity) = none ∧ majority d 100 (planeOf d.identity) = some 5 ∧ st0.tb.st ≠ .unlocked ∧
    BitVec.ofNat 64 (d.reg64 R.BRX_DIGEST_LO) ≠ 5 := by decide +kernel

/-- A packet of furrow 103 is one too far, of 102 not; class 14 hex is reserved. -/
theorem wit_PacketsAreDroppedByR275 :
    let far := pkt0 8 0 [0]
    packetRow (.nack far) = some (8, far) ∧ pktClass far = 8 ∧ st0.settled ∧ pktCrcOk far = true ∧ pktCrcOk (far.set 32 1) = false ∧
    furNear (pktFurrow far) 103 = false ∧ furNear (pktFurrow far) 102 = true ∧ lockedClass 8 = true ∧
    ¬ (1 ≤ pktClass (pkt0 0x14 0 []) ∧ pktClass (pkt0 0x14 0 []) ≤ 8) ∧
    ¬ (0x10 ≤ pktClass (pkt0 0x14 0 []) ∧ pktClass (pkt0 0x14 0 []) ≤ 0x13) := by
  refine ⟨rfl, ?_, rfl, ?_, ?_, ?_, ?_, ?_, ?_, ?_⟩ <;> decide +kernel

/-- PD_X_FAB is ON in the device of these states, and OFF in another. -/
theorem wit_fabOn : st0.dev.fabOn = true ∧
    (alter st0 (fun d => { d with power := { d.power with doms := [(16, 2)] } })).dev.fabOn = false := by decide +kernel

theorem wit_noTextJobs : st0.dev.noTextJobs := by intro p h; cases h

/-! Fabric and gather -/

/-- An object of the Central Store. -/
def obj0 (kind off size : Nat) (st : ObjState) : Obj := ⟨1, kind, none, st, csBase + off, size, 0, 0, [], 0, []⟩

/-- A module that serves: all domains ON, port 7 UP, identity 0 in a plane of one, context 0 as the service context, index
slot 0 with version 5 of object 1 (one list), text object 2, gather table 0 with version 5 of object 3 (4 rows of 1 value). -/
def devS : Device :=
  { dev0 with
    regs := [(R.BRX_CTRL, 1), (R.BRX_CFG, 1), (R.BRX_TEXT, 2), (idxReg R.SIEVE_IDX_CUR 0, 1), (idxReg R.SIEVE_IDX_CUR_VER 0, 5),
      (idxReg R.SIEVE_IDX_CFG 0, 1024), (tblReg R.GATH_TBL_CFG 0, BitVec.ofNat 32 (3 <<< 30)), (tblReg R.GATH_TBL_ROWS_LO 0, 4),
      (tblReg R.GATH_TBL_CUR 0, 3), (tblReg R.GATH_TBL_CUR_VER 0, 5), (inst R.QM_CTX_CTRL 0, BitVec.ofNat 32 (7 <<< 25))]
    power := { dev0.power with doms := (List.range 30).map (fun n => (n, 2)) }
    brx := { dev0.brx with fenced := false, ports := [(7, ⟨.up, none, none⟩)], included := [0] }
    qm := { dev0.qm with ctxs := [(0, ctx0)] }
    sieve := { dev0.sieve with cfgMem := [(1, image 32 [(2, 1, 2), (5, 1, 1), (0x18, 4, 1)])] }
    store := { dev0.store with objects := [(1, obj0 2 0x6000000 0x10000 .sealed), (2, obj0 5 0x6100000 0x10000 .sealed),
      (3, obj0 3 0x6200000 0x10000 .sealed), (4, obj0 0 0x6300000 0x10000 .building)] } }

def stS : State := { st0 with dev := devS }

theorem wit_FabricAndGatherWork_nack :
    let s := alter stS (fun d => { d with brx := { d.brx with fenced := true } })
    let q := pkt0 4 0 (image 0x340 [(0x40, 1, 1)])
    s.settled ∧ s.takes 4 q ∧ s.takes 6 (pkt0 6 0 []) ∧ s.takes 0x10 (pkt0 0x10 0 []) ∧ s.dev.noTextJobs ∧
    packetRow (.query q) = some (4, q) ∧
    bit (indexOf s.dev.identity % 8) (fieldLe (pktPayload q) (0x40 + indexOf s.dev.identity / 8) 1) = true ∧
    s.dev.selfFenced = true ∧ stS.dev.serving = true ∧ s.dev.upPorts ≠ [] := by
  refine ⟨rfl, takes_of (by decide +kernel) ?_, takes_of (by decide +kernel) ?_, takes_of (by decide +kernel) ?_, wit_noTextJobs, rfl, ?_, rfl, ?_, ?_⟩ <;> decide +kernel

/-- A QUERY of K 16, class 2, deadline 110, one context, one probe of list 0 with a budget of 1. -/
def queryPkt : List Byte :=
  pkt0 4 9 (image (0x340 + 512 + 8) [(0, 4, 5), (4, 2, 16), (7, 1, 2), (8, 8, 110), (0x10, 1, 1), (0x14, 2, 1), (0x18, 4, 1),
    (0x40, 1, 1)])

/-- What the taking of the QUERY starts from. -/
def queryDev : Device :=
  (devS.inc R.BRX_RX_PKTS).bgWrite none (devS.serviceWin.base) (sliceBytes (pktPayload queryPkt) 0x340 520)

theorem wit_FabricAndGatherWork_query :
    let d := devS.inc R.BRX_RX_PKTS
    let f := fieldLe (pktPayload queryPkt)
    stS.takes 4 queryPkt ∧ bit 0 (f 0x40 1) = true ∧ nackFirst d true = none ∧ d.idxVersion d.corpusSlot (f 0 4) = some (1, 0) ∧
    hdrM (d.slotHdr 0 1) = 1 ∧ servicePlace d 520 = some 0 ∧
    sieveCheck queryDev 0 (some (queryDev.slotHdr 0 1)) true (shardDesc d (pktPayload queryPkt) 0 1) (16 * f 4 2) 1 = none ∧
    (admitShard st0.tb (f 7 1) (BitVec.ofNat 48 (f 8 8)) (ivfUnits 1 (f 0x18 4) (f 0x14 2) (f 0x16 2) (4 * f 4 2)) (f 0x10 1)
      queryDev).isSome = true ∧ tooLate st0.tb (BitVec.ofNat 48 (f 8 8)) = false := by
  refine ⟨takes_of (by decide +kernel) ?_, ?_, ?_, ?_, ?_, ?_, ?_, ?_, ?_⟩ <;> decide +kernel

def textPkt : List Byte := pkt0 6 9 (image 24 [(0, 4, 5), (4, 8, 110)])

theorem wit_FabricAndGatherWork_textReq :
    let d := devS.inc R.BRX_RX_PKTS
    stS.takes 6 textPkt ∧ nackFirst d (d.idxVersion d.corpusSlot (fieldLe (pktPayload textPkt) 0 4)).isSome = none ∧
    (d.textObj (d.corpusText (fieldLe (pktPayload textPkt) 0 4))).isSome = true ∧
    tooLate st0.tb (BitVec.ofNat 48 (fieldLe (pktPayload textPkt) 4 8)) = false := by
  refine ⟨takes_of (by decide +kernel) ?_, ?_, ?_, ?_⟩ <;> decide +kernel

/-- One row, number 3, the last of the table. -/
def gatherPkt : List Byte := pkt0 0x10 9 (image 36 [(1, 1, 3), (2, 1, 2), (4, 4, 1), (8, 4, 5), (16, 8, 110), (28, 8, 3)])

theorem wit_FabricAndGatherWork_gatherReq :
    let d := devS.inc R.BRX_RX_PKTS
    let f := fieldLe (pktPayload gatherPkt)
    let rows := (List.range (f 4 4)).map (fun i => (f (24 + 12 * i) 4, f (28 + 12 * i) 8))
    stS.takes 0x10 gatherPkt ∧ nackFirst d true = none ∧ d.tblVersion (f 0 1) (f 8 4) = some 3 ∧ d.tblPlane (f 0 1) = true ∧
    d.tblPublic (f 0 1) = true ∧ f 1 1 ≤ 3 ∧ (∀ r, r ∈ rows → d.rowLocal (f 0 1) r.2 = true ∧ r.2 < d.tblRows (f 0 1)) ∧
    (admitShard st0.tb (f 2 1) (BitVec.ofNat 48 (f 16 8)) ((f 4 4 * d.rowWork (f 0 1) + 63) / 64) 0 d).isSome = true ∧
    tooLate st0.tb (BitVec.ofNat 48 (f 16 8)) = false := by
  refine ⟨takes_of (by decide +kernel) ?_, ?_, ?_, ?_, ?_, ?_, ?_, ?_, ?_⟩ <;> decide +kernel

/-- A gather job of two rows. -/
def job0 : ShardJob := ⟨2, 0, 9, 2, 110, 100, 5, (0, 0), 3, 0, 3, 0, [(0, 3), (1, 2)], false, 1, 0⟩

theorem wit_FabricAndGatherWork_rowServed :
    (alter stS (fun d => { d with brx := { d.brx with jobs := [(4, job0)] } })).dev.brx.jobs.get? 4 = some job0 ∧
    furLt st0.tb.number job0.start = false ∧ job0.work + devS.rowWork job0.table ≤ 64 * job0.units ∧
    shardOpen st0.tb job0.deadline = true ∧ devS.upPorts ≠ [] ∧ st0.tb.st ≠ .unlocked ∧
    devS.chanFits (devS.rowAddr job0.obj job0.table 3) (devS.rowWork job0.table) = true := by decide +kernel

/-- What the handoff 7 asked of the module of index 0 in plane 0: items 0 and 1. -/
def unit0 : RemoteUnit := ⟨0, [(0, 5), (1, 6)], [0], [], false, [], false, []⟩

def remote0 (kind cls : Nat) : Remote :=
  ⟨kind, cls, 5, 1, false, true, [unit0], [0, 0, 0], [], 0, 3, 3, [(0, 3)], 0, 0, 0⟩

def withRemote (r : Remote) : State :=
  alter (withHo { handoff0 4 with res := some ⟨4, 0, 0, 0, 8, 1, 0, 0, 0, 0, true⟩ }) (fun d => { d with brx := { d.brx with
    fenced := false, remotes := [(7, r)] } })

theorem wit_FabricAndGatherWork_rowLocal :
    let h := { handoff0 4 with res := some ⟨4, 0, 0, 0, 8, 1, 0, 0, 0, 0, true⟩ }
    let s := withRemote (remote0 2 1)
    s.dev.handoff? 7 = some h ∧ s.dev.remote? 7 = some (remote0 2 1) ∧
    (remote0 2 1).work + s.dev.rowWork (remote0 2 1).table ≤ 64 * 1 ∧
    s.dev.chanFits (s.dev.rowAddr 3 (remote0 2 1).table 3) (s.dev.rowWork (remote0 2 1).table) = true ∧ h.cutoff = false ∧ h.noWork = false ∧ 0 < h.itemsMax ∧
    0 ∉ h.landedItems := by decide +kernel

/-- A reply to the handoff 7: item or shard 0, status 1 of a gather. -/
def reply0 (cls : Nat) : List Byte := pkt0 cls 7 (if cls = 0x11 then image 80 [(0, 4, 1)] else image 64 [])

theorem wit_FabricAndGatherWork_replies :
    let h := { handoff0 4 with res := some ⟨4, 0, 0, 0, 8, 1, 0, 0, 0, 0, true⟩ }
    (∀ p, p ∈ [(5, 0), (7, 1), (8, 0), (0x11, 2)] → replyUnit ((withRemote (remote0 p.2 0)).dev.inc R.BRX_RX_PKTS) (reply0 p.1) =
      some (h, remote0 p.2 0, unit0)) ∧
    pktTag (reply0 5) = 7 ∧ st0.takes 5 (reply0 5) ∧ st0.takes 7 (reply0 7) ∧ st0.takes 8 (reply0 8) ∧ st0.takes 0x11 (reply0 0x11) ∧
    fieldLe (pktPayload (reply0 5)) 4 2 = unit0.idx ∧ fieldLe (pktPayload (reply0 7)) 0 4 = 0 ∧
    (fieldLe (pktPayload (reply0 0x11)) 0 4 = 1 ∧ fieldLe (pktPayload (reply0 0x11)) 8 4 = 0) ∧ (0, 5) ∈ unit0.items ∧ 0 ∉ unit0.got ∧
    0 < h.itemsMax ∧ 0 ∉ h.landedItems := by
  refine ⟨?_, ?_, takes_of (by decide +kernel) ?_, takes_of (by decide +kernel) ?_, takes_of (by decide +kernel) ?_, takes_of (by decide +kernel) ?_, ?_, ?_, ?_, ?_, ?_, ?_, ?_⟩ <;> decide +kernel

theorem wit_FabricAndGatherWork_noYield : ∀ p, p ∈ [5, 7, 0x11] → unit0.yields st0.tb (reply0 p) 0 = false := by decide +kernel

/-- The same unit, once the module of plane 1 has replied at clk `n`. -/
def unitB (n : Nat) : RemoteUnit :=
  { unit0 with planes := [0, 1], replied := true, got := [0], came := [⟨0, st0.tb.number, n, 1, false, false, []⟩] }

theorem wit_FabricAndGatherWork_hedged :
    let h := { handoff0 4 with res := some ⟨4, 0, 0, 0, 8, 1, 0, 0, 0, 0, true⟩ }
    ∀ n, n ∈ [st0.tb.offset, st0.tb.offset + 1] →
      replyUnit ((withRemote { remote0 0 0 with units := [unitB n] }).dev.inc R.BRX_RX_PKTS) (reply0 5) =
        some (h, { remote0 0 0 with units := [unitB n] }, unitB n) ∧ (unitB n).replied = true ∧
      ((unitB n).yields st0.tb (reply0 5) 0 = true ↔ n = st0.tb.offset) := by decide +kernel

theorem wit_FabricAndGatherWork_fallback :
    let s := withRemote (remote0 1 1)
    (remote0 1 1).cls ≠ 0 ∧ (remote0 1 1).fallback ≠ 0 ∧ (remote0 1 1).fell = false ∧ (remote0 1 1).started = true ∧
    s.tb.number = furAdd (handoff0 4).issue (remote0 1 1).fallback ∧ s.tb.st ≠ .unlocked ∧ s.dev.selfFenced = false := by
  decide +kernel

/-! Build batches -/

/-- A batch of no records from offset 0 of object 1 to offset 0 of object 4, and one of another table. -/
theorem wit_BuildBatches_go :
    let s := alter stS (fun d => { d with regs := (R.GATH_BUILD_W0 + 4 * 1, BitVec.ofNat 32 (1 + 4 <<< 16)) :: d.regs })
    let bad := alter stS (fun d => { d with regs := (R.GATH_BUILD_W0, 64) :: d.regs })
    let w := buildWord s.dev
    s.dev.power.phase ≠ .rom ∧ w 0 < 64 ∧ bits 15 0 (w 1) = 1 ∧ bits 31 16 (w 1) = 4 ∧ (w 2 + 2 ^ 32 * w 3) % 8 = 0 ∧ w 5 % 64 = 0 ∧
    (s.dev.obj? 1).map (·.st) = some .sealed ∧ (s.dev.obj? 4).map (·.st) = some .building ∧
    w 2 + 2 ^ 32 * w 3 + w 4 * (8 + s.dev.tblStride (w 0)) ≤ 0x10000 ∧ w 5 + (16 + 8 * w 4) ≤ 0x10000 ∧
    s.dev.gath.batches.length < 16 ∧ 63 < buildWord bad.dev 0 := by decide +kernel

def batch0 (out : List MirrorPkt) (applied : Bool) : Batch := ⟨7, 0, 1, 4, 0, 0, 1, applied, 1, [], 0, 0, out⟩

/-- A mirror peer's identity is 8,192, whose acknowledgement has the tag of the batch: of two records one was taken. -/
def ackPkt : List Byte := pktFrom 8192 0x13 7 (image 8 [(0, 4, 1), (4, 4, 1)])

/-- A batch of one record finds the capacity of a furrow in which nothing is reserved. -/
theorem wit_BuildBatches_fits : stS.dev.batchFits st0.tb.number.toNat (batch0 [] false) ((batch0 [] false).count - stS.dev.gath.moved) = true := by
  decide +kernel

theorem wit_BuildBatches_mirror :
    (batch0 [] false).applied = false ∧ dev0.tblMirrored 0 = false ∧ (batch0 [⟨[3], 98⟩] true).out ≠ [] ∧
    (∀ p, p ∈ (batch0 [⟨[3], 98⟩] true).out → furLt st0.tb.number (furAdd p.at_ 2) = false) ∧ st0.takes 0x13 ackPkt ∧
    pktSrc ackPkt = dev0.mirrorPeer ∧ pktTag ackPkt = (batch0 [⟨[3], 98⟩] true).seq ∧
    fieldLe (pktPayload ackPkt) 0 4 + fieldLe (pktPayload ackPkt) 4 4 = (⟨[3, 2], 98⟩ : MirrorPkt).rows.length ∧
    (batch0 [⟨[3, 2], 98⟩] true).out = ⟨[3, 2], 98⟩ :: [] ∧
    (batch0 [⟨[3, 2], 98⟩, ⟨[1], 99⟩] true).out = ⟨[3, 2], 98⟩ :: [⟨[1], 99⟩] := by
  refine ⟨?_, ?_, ?_, ?_, takes_of (by decide +kernel) ?_, ?_, ?_, ?_, rfl, rfl⟩ <;> decide +kernel

def writePkt (id : Nat) : List Byte := pktFrom id 0x12 7 (image 16 [])

theorem wit_BuildBatches_write :
    st0.takes 0x12 (writePkt 8192) ∧ pktSrc (writePkt 8192) = dev0.mirrorPeer ∧ st0.takes 0x12 (writePkt 8193) ∧
    pktSrc (writePkt 8193) ≠ dev0.mirrorPeer := by
  refine ⟨takes_of (by decide +kernel) ?_, ?_, takes_of (by decide +kernel) ?_, ?_⟩ <;> decide +kernel

/-! Text, grammars, templates, sequences -/

theorem Except_ok {α β : Type} {e : Except α β} (h : e.toBool = true) : ∃ x, e = .ok x := by
  cases e with
  | error r => cases h
  | ok x => exact ⟨x, rfl⟩

theorem Except_error {α β : Type} {e : Except α β} (h : e.toBool = false) : ∃ r, e = .error r := by
  cases e with
  | error r => exact ⟨r, rfl⟩
  | ok x => cases h

/-- An object of the LPDDR5X devices that context 0 owns, SEALED, its KIND DATA. -/
def objL (off : Nat) : Obj := ⟨2, 0, some 0, .sealed, lpBase + off, 128, 0, 0, [], 0, []⟩

/-- Object 1: a vocabulary of the one token A (R316, R317); object 2: an automaton of one state that accepts and one transition
(R335); object 3: a template that ends at once (R340); object 4: no such image. -/
def devT : Device :=
  { dev0 with
    regs := [(inst R.TEXT_VOC_OBJ 0, 1), (inst R.ESP_GRM_OBJ 0, 2), (inst R.PASM_TPL_OBJ 0, 3), (grfReg R.SEQ_GRF_CFG 0, 5)]
    power := { dev0.power with doms := [(22, 2)] }
    mem := memOf [(lpBase, 2, 1), (lpBase + 4, 4, 1), (lpBase + 8, 4, 1), (lpBase + 12, 4, 1), (lpBase + 0x10, 4, 0xFFFFFFFF),
      (lpBase + 64, 8, 0x1FFFFF <<< 43 + 0x1FFFFF <<< 22 + 0x41 <<< 14), (lpBase + 72, 4, 1 <<< 29 + 0x41),
      (lpBase + 4096, 2, 1), (lpBase + 4096 + 4, 4, 1), (lpBase + 4096 + 8, 4, 1), (lpBase + 4096 + 64, 8, 1 <<< 40),
      (lpBase + 8192, 2, 1), (lpBase + 8192 + 4, 4, 1)]
    store := { dev0.store with objects := [(1, objL 0), (2, objL 4096), (3, objL 8192), (4, objL 12288),
      (5, { obj0 6 0x100000 4096 .sealed with owner := some 0 })] } }

def stT : State := { st0 with dev := devT }

/-- The vocabulary slot as its load began, and a READY one of one token. -/
def vocNew : VocSlot := ⟨.loading, some 0, 1, 0, 65536, false, 0, 0, 0, none, 0, 0, 0⟩
def vocReady : VocSlot := ⟨.ready, some 0, 1, 0, 65536, true, 1, 1, 1, none, 0, 0, 0⟩

def withVoc (v : VocSlot) : State := alter stT (fun d => { d with text := { d.text with vocs := [(0, v)] } })

theorem wit_Slots_vocabulary :
    stT.dev.power.phase ≠ .rom ∧ stT.settled ∧ stT.dev.fld R.TEXT_VOC_SEL 2 0 = 0 ∧ stT.dev.voc? 0 = none ∧
    dataSource stT.dev 1 (ownerOf 0) = none ∧ dataSource stT.dev 9 (ownerOf 0) = some 2 ∧ (withVoc vocReady).dev.voc? 0 = some vocReady ∧
    (withVoc vocNew).dev.voc? 0 = some vocNew ∧ stT.dev.obj? 1 = some (objL 0) :=
  ⟨by decide +kernel, rfl, by decide +kernel⟩

theorem wit_Slots_vocabularyCheck :
    (∃ v', vocCheck (withVoc vocNew).dev 0 vocNew = .ok v') ∧
    ∃ r, vocCheck (withVoc { vocNew with obj := 4 }).dev 0 { vocNew with obj := 4 } = .error r :=
  ⟨Except_ok (by decide +kernel), Except_error (by decide +kernel)⟩

/-- A grammar slot as its load began; `allow` for an ALLOW list. -/
def gram0 (allow : Bool) (obj : Nat) : Gram := ⟨.loading, allow, some 0, 0, obj, 0, false⟩

def withGram (g : Gram) : State := alter (withVoc vocReady) (fun d => { d with esp := { d.esp with grams := [(0, g)] } })

theorem wit_Slots_grammar :
    stT.dev.fld R.ESP_GRM_SEL 7 0 = 0 ∧ stT.dev.gram? 0 = none ∧ dataSource stT.dev 2 (ownerOf 0) = none ∧
    vocReady.owner = ownerOf 0 ∧ (withGram { gram0 false 2 with st := .ready }).dev.gram? 0 = some { gram0 false 2 with st := .ready } ∧
    (withGram (gram0 true 2)).dev.gram? 0 = some (gram0 true 2) ∧ (vocReady.tokens + 7) / 8 ≤ (objL 4096).size ∧
    autoOk devT.mem (objL 12288).base 128 = false ∧ autoOk devT.mem (objL 4096).base 128 = true := by decide +kernel

theorem wit_Slots_grammarCompiled :
    let d := (withGram (gram0 false 2)).dev
    tooDependent (readAuto d.mem (objL 4096).base) (d.vocArrays vocReady) vocReady.tokens = none ∧
    (createCompiled st0.tb (some 0) (compiledImage (readAuto d.mem (objL 4096).base) (d.vocArrays vocReady) vocReady.tokens) d).isSome = true := by
  decide +kernel

def tpl0 (obj : Nat) : Template := ⟨.loading, some 0, obj, 8, 0, 0, [], [], false⟩

def withTpl (x : Template) : State := alter (withVoc vocReady) (fun d => { d with pasm := { d.pasm with tpls := [(0, x)] } })

theorem wit_Slots_template :
    stT.dev.fld R.PASM_TPL_SEL 7 0 = 0 ∧ stT.dev.tpl? 0 = none ∧ dataSource stT.dev 3 (ownerOf 0) = none ∧
    (withTpl { tpl0 3 with st := .ready }).dev.tpl? 0 = some { tpl0 3 with st := .ready } ∧
    (withTpl (tpl0 3)).dev.tpl? 0 = some (tpl0 3) := by decide +kernel

theorem wit_Slots_templateCheck :
    (∃ y, tplCheck (withTpl (tpl0 3)).dev (tpl0 3) = .ok y) ∧ ∃ r, tplCheck (withTpl (tpl0 4)).dev (tpl0 4) = .error r :=
  ⟨Except_ok (by decide +kernel), Except_error (by decide +kernel)⟩

/-- A model slot (R347 to R349) that may be loaded: chain object 6 of the handles 0 (prefill) and 1 (decode), area 7, pool 8. -/
def devM : Device :=
  { dev0 with
    regs := [(mdlReg R.SEQ_MDL_CHAIN 0, BitVec.ofNat 32 (6 + 1 <<< 16 + 1 <<< 24)), (mdlReg R.SEQ_MDL_AREA 0, 7), (mdlReg R.SEQ_MDL_POOL_LO 0, 8)]
    mem := memOf [(csBase + 4, 4, 1)]
    plots := { dev0.plots with dir := [(0, plot0), (1, { plot0 with decode := true })] }
    qm := { dev0.qm with ctxs := [(0, ctx0)] }
    store := { dev0.store with objects := [(6, obj0 0 0 4096 .sealed), (7, { obj0 0 0x1000 4096 .shareObject with owner := some 0 }),
      (8, { obj0 2 0x10000 65536 .shareObject with owner := some 0 })] } }

theorem wit_Slots_model :
    devM.fld R.SEQ_MDL_SEL 7 0 = 0 ∧ (∃ x, mdlCheck devM 0 = .ok x) ∧ (∃ r, mdlCheck dev0 0 = .error r) ∧
    ({ devM with seq := { devM.seq with models := [(0, ⟨.ready, [], [], [], 0⟩)] } } : Device).mdl? 0 = some ⟨.ready, [], [], [], 0⟩ :=
  ⟨by decide +kernel, Except_ok (by decide +kernel), Except_error (by decide +kernel), rfl⟩

theorem wit_Slots_graft :
    let o := { obj0 6 0x100000 4096 .sealed with owner := some 0 }
    devT.fld R.SEQ_GRF_SEL 11 0 = 0 ∧ devT.seq.grafts.get? 0 = none ∧ devT.obj? (devT.grfObj 0) = some o ∧ o.tier = 1 ∧ o.kind = 6 ∧
    o.owner = devT.grfOwner 0 ∧ ({ devT.seq with grafts := [(0, .ready)] } : SeqUnit).grafts.get? 0 = some .ready := by decide +kernel

/-- A PIPELINE request, and a segment of it to tokenize. -/
def withText (f : Device → Device) : State :=
  alter (withVoc vocReady) (fun d => f { d with qm := { d.qm with reqs := [(1, req0 0)], ctxs := [(0, ctx0)] } })

theorem wit_TextAndSequences_segments :
    let j : SegJob := ⟨1, 0, none⟩
    let s := withText (fun d => { d with text := { d.text with queue := [j] } })
    let u := withText (fun d => { d with text := { d.text with lanes := [(7, j)] } })
    s.dev.domOn 22 = true ∧ s.dev.text.lanes.leastFree 0 8 = some 0 ∧ sortBy (segBefore s.dev) s.dev.text.queue = j :: [] ∧
    u.dev.text.lanes.get? 7 = some j ∧ u.dev.req? 1 = some (req0 0) ∧ u.dev.voc? (req0 0).vocab = some vocReady := by decide +kernel

theorem wit_TextAndSequences_assembly :
    let q := { req0 0 with stages := [⟨2, 0, 1, [], 0, 0, 0⟩] }
    let s := withText (fun d => { d with pasm := { d.pasm with queue := [(1, 0)], tpls := [(0, tpl0 3)] } })
    let u := alter s (fun d => { d with pasm := { d.pasm with cur := some (1, 0) }, qm := { d.qm with reqs := [(1, q)] } })
    s.dev.pasm.cur = none ∧ s.dev.domOn 22 = true ∧ s.dev.pasm.queue = [(1, 0)] ∧ u.dev.pasm.cur = some (1, 0) ∧
    u.dev.req? 1 = some q ∧ q.stages[0]? = some ⟨2, 0, 1, [], 0, 0, 0⟩ ∧ u.dev.tpl? q.template = some (tpl0 3) := by decide +kernel

/-- An entry of the Active Sequence Table. -/
def ent0 : SeqEnt :=
  { st := 2, req := 1, model := 0, part := 0, graft := none, g := 0, prompt := 1, emitted := 0, maxNew := 4, position := 1,
    entryFurrow := 90, blocks := [], deferred := 0, lastToken := 0, record := 0, wait := 2, kvWait := true, streamed := false,
    masked := true, input := 0, stage := none, stepAt := none, tok := none, ends := none, autoSt := 0, autoStack := [],
    maskDue := true, pendBytes := [], held := [], out := [] }

theorem wit_TextAndSequences_masks :
    let q := { req0 0 with bytes := image 256 [(0x18, 2, 0xFFFF)] }
    let s := withText (fun d => { d with
      esp := { d.esp with engines := [(15, ⟨8191, 99⟩)] }, seq := { d.seq with ast := [(8191, ent0)] }, qm := { d.qm with reqs := [(1, q)] } })
    s.dev.esp.engines.find? (fun p => p.2.ast == 8191) = some (15, ⟨8191, 99⟩) ∧ s.dev.esp.queue = [] ∧ s.dev.ent? 8191 = some ent0 ∧
    s.dev.req? ent0.req = some q ∧ s.dev.voc? (s.dev.mdlVocab ent0.model) = some vocReady ∧
    (List.range vocReady.tokens).any (s.dev.seqMask q vocReady ent0.autoSt ent0.autoStack).1 = true ∧ ent0.kvWait = true ∧
    max 1 (s.dev.fld R.SEQ_CTRL 15 8) < ({ ent0 with wait := 1 + max 1 (s.dev.fld R.SEQ_CTRL 15 8) } : SeqEnt).wait ∧
    ent0.stage = none := by decide +kernel

theorem wit_TextAndSequences_rising : risingKeys (alter st0 (fun d => { d with seq := { d.seq with ast := [(8191, ent0)] } })).dev.seq.ast := by
  simp [risingKeys, alter]

/-! Queues, contexts, windows -/

/-- Queue pair 0, ACTIVE, a ring of 16 and an empty completion queue. -/
def qp0 : QueuePair := { offQp with st := .active, sqTail := 65535, sqHead := 65535, cqTail := 3, cqHead := 2 }

def withQp (x : QueuePair) : State := alter st0 (fun d => { d with qm := { d.qm with qps := [(0, x)], ctxs := [(0, ctx0)] } })

/-- Indexes wrap at 65,536: a tail of 0 is one past 65,535. -/
theorem wit_QueuePairCommands_doorbells :
    let s := withQp qp0
    s.settled ∧ (s.dev.qp 0).st = .active ∧ (s.dev.ctx (s.dev.qpCtx 0)).st ≠ .resetting ∧ ¬ 65536 ≤ 65535 ∧
    2 ^ s.dev.sqLog 0 < idxDiff 65534 (s.dev.qp 0).sqTail ∧ idxDiff 0 (s.dev.qp 0).sqTail ≤ 2 ^ s.dev.sqLog 0 ∧
    idxDiff 0 (s.dev.qp 0).sqHead ≤ 2 ^ s.dev.sqLog 0 ∧ 0 ≠ (s.dev.qp 0).sqTail ∧
    idxDiff 3 (s.dev.qp 0).cqHead ≤ idxDiff (s.dev.qp 0).cqTail (s.dev.qp 0).cqHead ∧ s.dev.qpIrq 0 = false ∧
    (∀ p, p ∈ s.dev.qm.reqs → p.2.qp = 0 → p.2.textOut = []) ∧ (st0.dev.qp 4095).st = .disabled :=
  ⟨rfl, by decide +kernel⟩

theorem wit_QueuePairCommands_rest :
    (withReq (req0 0)).dev.req? 1 = some (req0 0) ∧ (req0 0).isPipeline = true ∧ (req0 0).begun = false ∧ (req0 0).cancel = none ∧
    st0.dev.power.phase ≠ .rom ∧ qp0.fetched = [] ∧ ({ qp0 with cqTail := 2 } : QueuePair).cqTail = qp0.cqHead := by decide +kernel

/-- A descriptor of TAG 7 that waits. -/
def desc7 : Desc := ⟨List.replicate 4 0 ++ 7 :: List.replicate 251 0, 100, 100⟩

/-- The three targets of a CANCEL (R398). -/
theorem wit_QueuePairCommands_cancel :
    (alter (withReq (req0 2)) (fun d => { d with qm := { d.qm with qps := [(0, qp0)] } })).dev.tagged 0 0 = some 1 ∧
    (withQp { qp0 with fetched := [desc7] }).dev.tagged 0 7 = none ∧
    [desc7].find? (fun f => fieldLe f.bytes 4 4 == 7) = some desc7 ∧
    (withQp qp0).dev.tagged 0 7 = none ∧ qp0.fetched.find? (fun f => fieldLe f.bytes 4 4 == 7) = none := by decide +kernel

theorem test_reg_unwritten {d : Device} (h : d.regs = []) (k : Nat) : d.reg k = regRst (k % 2 ^ 32) := by
  unfold Device.reg
  rw [h]
  rfl

theorem test_classes_reset : bit 0 (Tbl.getD ([] : Tbl Nat) 0 (bits 27 25 (regRst R.QM_CTX_CTRL))) = false := by decide +kernel

/-- After reset no context is granted class 0. -/
theorem test_decodeSum_reset (c dec classes : Nat) (h : bit 0 classes = false) : st0.dev.decodeSum c dec classes = 0 := by
  have hc : ∀ x, bit 0 (st0.dev.classesAccepted x) = false := by
    intro x
    have hk : inst R.QM_CTX_CTRL x % 2 ^ 32 = R.QM_CTX_CTRL := by simp only [inst, R.QM_CTX_CTRL]; omega
    have hq : st0.dev.qm.stagedClasses = [] := rfl
    unfold Device.classesAccepted Device.classes Device.fld
    rw [hq, test_reg_unwritten rfl, hk]
    exact test_classes_reset
  have hz : ∀ x, (if x == c then (if bit 0 classes then dec else 0)
      else if bit 0 (st0.dev.classesAccepted x) then bits 11 0 (st0.dev.resAccepted x) else 0) = 0 := by
    intro x
    rw [hc x, h]
    split <;> rfl
  unfold Device.decodeSum
  simp only [hz]
  generalize List.range 1024 = l
  induction l with
  | nil => rfl
  | cons a t ih => simp [ih]

theorem wit_ContextAndWindowCommands_reserve : resReason st0.dev 0 0 = 0 := by
  have h : st0.dev.decodeSum 0 (bits 11 0 0) (st0.dev.classesAccepted 0) = 0 := test_decodeSum_reset _ _ _ (by decide +kernel)
  unfold resReason
  rw [h]
  decide +kernel

theorem wit_ContextAndWindowCommands :
    let s (st : CtxSt) := alter st0 (ctxIs st)
    st0.dev.power.phase ≠ .rom ∧ (st0.dev.ctx st0.dev.ctxSel).st = .off ∧ ((s .active).dev.ctx 0).st = .active ∧
    (s .active).dev.liveQps 0 = [] ∧ ((s .faulted).dev.ctx 0).st = .faulted ∧ (((s .active).dev.ctx 0).win 0).tier < 4 ∧
    (((s .active).dev.ctx 0).win 0).base < 2 ^ 44 ∧ (((s .active).dev.ctx 0).win 0).size < 2 ^ 44 ∧
    winCheck (s .active).dev 0 ⟨0, false, 0, 0⟩ = 0 ∧ winCheck (s .active).dev 0 ⟨1, false, csBase, 4095⟩ ≠ 0 ∧
    classesOk st0.dev 0 6 = true ∧ c0Reason st0.dev R.QM_C0_PREFILL (c0Bits R.QM_C0_PREFILL 0) = 0 ∧
    c0Reason st0.dev R.QM_C0_UNITS (c0Bits R.QM_C0_UNITS 81920) = 0 ∧ c0Reason st0.dev R.QM_C0_DEPTH (c0Bits R.QM_C0_DEPTH 240) = 0 ∧
    c0Reason st0.dev R.QM_C0_SIEVE (c0Bits R.QM_C0_SIEVE (21 <<< 8 + 32)) = 0 := by decide +kernel

/-! The tier mover -/

/-- The random number generator in order (SEC_STATUS.RNG_OK). -/
def rngDev (d : Device) : Device := { d with regs := (R.SEC_STATUS, BitVec.ofNat 32 (1 <<< 30)) :: d.regs }

/-- The command words of the tier mover. -/
def withWords (ws : List Nat) (d : Device) : Device :=
  { d with regs := (ws.zipIdx.map (fun p => (R.TIER_CMD_W0 + 4 * p.2, BitVec.ofNat 32 p.1))) ++ d.regs }

/-- Object 1 SEALED, object 4 BUILDING, both in LPDDR5X. -/
def devO : Device :=
  { dev0 with store := { dev0.store with objects := [(1, objL 4096), (4, { objL 8192 with st := .building })] } }

/-- CREATE of 64 B of LPDDR5X at its start; SEAL of 4; COPY of nothing from 1 to 4; FILL of 1; RELEASE of 4; no operation. -/
theorem wit_TierCommands :
    let create := withWords [1 <<< 24, 2, 64, 0, lpBase % 2 ^ 32, lpBase / 2 ^ 32] devO
    let copy := withWords [3 <<< 24, 1 + 4 <<< 16] devO
    let fill := withWords [4 <<< 24, 1] devO
    devO.power.phase ≠ .rom ∧ devO.store.cmdResult = none ∧ devO.store.ops.length < 64 ∧
    cmdOp create = 1 ∧ (tierCreate st0.tb create.dropPend).1 = 0 ∧
    cmdOp (withWords [2 <<< 24, 4] devO) = 2 ∧ cmdReserved (withWords [2 <<< 24, 4] devO) 2 = false ∧ bits 15 0 4 = 4 ∧
    devO.obj? 4 = some { objL 8192 with st := .building } ∧ cmdOp copy = 3 ∧ (tierCopy st0.tb copy.dropPend).1 = 0 ∧
    cmdOp fill = 4 ∧ (tierFill st0.tb fill.dropPend).1 = 0 ∧ cmdOp (withWords [5 <<< 24, 4] devO) = 5 ∧
    cmdReserved (withWords [5 <<< 24, 4] devO) 5 = false ∧ cmdOp devO = 0 ∧ 5 < cmdOp (withWords [255 <<< 24] devO) := by
  decide +kernel

theorem wit_TierCommands_busy :
    let s := alter st0 (fun d => { d with store := { d.store with cmdResult := some (255, 65535) } })
    s.settled ∧ s.dev.power.phase ≠ .rom ∧ s.dev.store.cmdResult ≠ none ∧ s.dev.store.cmdResult = some (255, 65535) :=
  ⟨rfl, by decide +kernel⟩

/-- A COPY and a FILL under way. -/
theorem wit_TierCommands_ends :
    let s := { st0 with dev := { devO with store := { devO.store with ops := [⟨3, 4, 1, 0, 64, 64, false, 0, []⟩, ⟨4, 4, 1, 0, 0, 128, false, 0, []⟩] } } }
    let d := s.dev.catchUp s.tb.offset none
    d.store = s.dev.store ∧ s.dev.store.ops[0]? = some ⟨3, 4, 1, 0, 64, 64, false, 0, []⟩ ∧
    s.dev.store.ops[1]? = some ⟨4, 4, 1, 0, 0, 128, false, 0, []⟩ ∧ (∀ x, x ∈ s.dev.store.ops → d.opFits s.tb.number.toNat x (d.opLines x) = true) ∧ d.obj? 1 = some (objL 4096) ∧
    d.obj? 4 = some { objL 8192 with st := .building } ∧ d.ev.raised = [] := by decide +kernel

/-! Cartridges and flash -/

def withSlot (n : Nat) (x : FlashSlot) : State := alter st0 (fun d => { d with flash := { d.flash with slots := [(n, x)] } })

def cart0 : Cart := newCart ident0 100 70 false false

/-- A slot in a state, with a blank or an own cartridge. -/
def slot0 (st : SlotState) (blank : Bool) : FlashSlot := { emptySlot with st := st, cart := some (newCart ident0 100 70 false blank) }

theorem wit_CartridgeSlots_states (st : SlotState) (blank : Bool) :
    (withSlot 3 (slot0 st blank)).settled ∧ slot0 st blank = (withSlot 3 (slot0 st blank)).dev.slot 3 ∧
    (slot0 st blank).st = st ∧ (slot0 st blank).cart = some (newCart ident0 100 70 false blank) ∧ (slot0 st blank).tempHold = false ∧
    { slot0 st blank with tempHold := true }.tempHold = true ∧ (st0.dev.slot 3).st = .empty ∧ (st0.dev.slot 3).cart = none :=
  ⟨rfl, rfl, rfl, rfl, rfl, rfl, rfl, rfl⟩

theorem wit_CartridgeSlots_checks :
    (slot0 .authenticating true).authDone = false ∧ { slot0 .authenticating true with authDone := true }.authDone = true ∧
    (slot0 .authenticating true).supplied = true ∧ (slot0 .mounting false).supplied = true ∧ (rngDev dev0).rngOk = true ∧
    (newCart ident0 100 70 false false).sysKey = some 0 ∧ (newCart ident0 100 70 false true).sysKey = none ∧
    ((newCart ident0 100 70 true false).sysKey ≠ none ∧ (newCart ident0 100 70 true false).sysForeign = true) ∧
    (slot0 .powering true).st.power ≠ 0 ∧ toSigned 8 70 < toSigned 8 71 ∧ ¬ toSigned 8 70 < toSigned 8 70 ∧ toSigned 8 65 + 5 ≤ toSigned 8 70 ∧
    { slot0 .mounting true with vcartOpen := true }.supplied = false ∧
    st0.dev.slotSel = 0 ∧ (withSlot 0 (slot0 .ready false)).dev.inTransit = false := by decide +kernel

/-- R409: the values of a cartridge count once it is authenticated, and not before. -/
theorem wit_CartridgeSlots_temperature :
    (slot0 .ready false).authentic = some cart0 ∧ (slot0 .detected false).authentic = none ∧ (slot0 .failed false).authentic = none ∧
    { slot0 .authenticating false with authDone := true }.authentic = some cart0 := ⟨rfl, rfl, rfl, rfl⟩

/-- A challenge was sent, and the element answers it with its own key, or with another; or its chain does not end at the root, or
its parameter data is not valid. -/
theorem wit_CartridgeSlots_answers (ch : List Byte) :
    let x := { slot0 .authenticating true with challenge := some ch }
    let c := newCart ident0 100 70 false true
    let sig (k : Nat) : CartSig := ⟨k, sha384 (ch ++ leBytes 8 9)⟩
    let with_ (i : CartIdent) : Cart := newCart i 100 70 false true
    x.challenge = some ch ∧ x.cart = some c ∧ c.ident.chain = [cert0] ∧ c.authReason ch (sig 5) = 0 ∧ c.authReason ch (sig 6) = 3 ∧
    (with_ { ident0 with chain := [{ cert0 with signer := 7 }] }).authReason ch (sig 5) = 2 ∧
    (with_ { ident0 with chain := [{ cert0 with signer := 7 }, ⟨0, 7, true, false, 0⟩] }).authReason ch (sig 5) = 0 ∧
    (with_ { ident0 with paramsOk := false }).authReason ch (sig 5) = 4 := by
  simp [slot0, newCart, ident0, cert0, Cart.authReason, Cart.chainOk, Cart.sigOk, Cart.authDigest]

/-- A mount whose last checkpoint has a segment that cannot be read takes the older one, and fails where there is none; a drain with
nothing left, and one with a map that no checkpoint holds. -/
theorem wit_CartridgeSlots_ends :
    let k (n : Nat) : Ckpt := ⟨[(n, n)], []⟩
    let x := slot0 .draining false
    cart0.readableCkpt [] = some ⟨[], []⟩ ∧
    { cart0 with ckpts := [k 1, k 2] }.readableCkpt [] = some (k 1) ∧
    { cart0 with ckpts := [k 1, k 2] }.readableCkpt [(0, [])] = some (k 2) ∧
    { cart0 with ckpts := [k 1] }.readableCkpt [(0, [])] = none ∧
    (withSlot 3 x).dev.drained 3 = true ∧ (withSlot 3 { x with map := [(5, 7)] }).dev.drained 3 = false ∧
    (withSlot 3 { x with map := [(5, 7)], force := true }).dev.drained 3 = true ∧ cart0.dir = [] ∧ x.dirty = [] := by decide +kernel

/-- A READY slot 0 whose cartridge is given. -/
def withCart (c : Cart) (f : FlashSlot → FlashSlot) : State := withSlot 0 (f { slot0 .ready false with cart := some c })

/-- NS_CREATE and NS_DELETE of namespace 5 in slot 0. -/
theorem wit_FlashMediaWork_namespaces :
    let s := alter (withCart cart0 id) (fun d => { d with regs := [(R.FLASH_NS_SEL, 5), (inst R.FLASH_NS_CFG 5, BitVec.ofNat 32 (1 <<< 24))] })
    let c := { cart0 with nss := [(5, ⟨some 0, 1, 8, 1, []⟩)] }
    let u := alter (withCart c id) (fun d => { d with regs := [(R.FLASH_NS_SEL, 5)] })
    s.dev.power.phase ≠ .rom ∧ (rngDev s.dev).rngOk = true ∧ (rngDev s.dev).nsSel = 5 ∧ s.dev.nsSel = 5 ∧ s.dev.nsSlots 5 = [] ∧ bits 27 24 (s.dev.reg (inst R.FLASH_NS_CFG 5)) = 1 ∧
    slotList 1 = [0] ∧ (s.dev.slot 0).st = .ready ∧ (s.dev.slot 0).readOnly = false ∧ u.dev.nsSel = 5 ∧
    (u.dev.nsSlots 5).head? = some 0 ∧ u.dev.nsOn 5 0 = some ⟨some 0, 1, 8, 1, []⟩ ∧ u.dev.store.objects = [] ∧ c.dir = [] := by decide +kernel

/-- A read of shard text; `p` is the page that it takes, which was written in furrow 0 at 0 °C. -/
theorem wit_FlashMediaWork_read :
    let r (src : ReadSrc) (n : Nat) : FlashRead := ⟨0, 7, .textReq 1 2, src, n, []⟩
    let c := { cart0 with pages := [(9, ⟨7, 0, true, false, none, 0, 0, 0, 0, 0⟩)] }
    let s (q : FlashRead) := alter (withCart c id) (fun d => { d with flash := { d.flash with reads := [q] } })
    let ok (q : FlashRead) : Prop := (s q).dev.flash.reads[0]? = some q ∧ readAllowed (s q).dev 100 q = true
    (s (r .zero 0)).settled ∧ (s (r .zero 0)).tb.number.toNat = 100 ∧ ok (r .zero 0) ∧ ok (r .offline 0) ∧ ok (r .keyless 0) ∧
    ok (r (.page 9) 0) ∧ ok (r (.page 9) 3) ∧ ((s (r (.page 9) 3)).dev.slot 0).supplied = true ∧
    ((withCart c (fun x => { x with vcartOpen := true })).dev.slot 0).vcartOpen = true ∧
    c.readSets 9 25 (s (r .zero 0)).tb = [1, 2, 3, 4] ∧ st0.dev.brx.jobs = [] := by
  refine ⟨rfl, ?_, ?_, ?_, ?_, ?_, ?_, ?_, ?_, ?_, ?_⟩ <;> decide +kernel

/-- A text item of the handoff 7 with a page that cannot be read. -/
theorem wit_FlashMediaWork_readText :
    let r : FlashRead := ⟨0, 7, .text 7 1, .offline, 0, []⟩
    let s := alter (withCart cart0 id) (fun d => { d with flash := { d.flash with reads := [r] } })
    s.settled ∧ s.dev.flash.reads[0]? = some r ∧ readAllowed s.dev 100 r = true ∧ r.user = .text 7 1 := ⟨rfl, by decide +kernel⟩

/-- Channel 15 writes superblock 57,000 in SLC and moves a page in 57,001 in TLC, of which two pages are left unused. -/
theorem wit_FlashMediaWork_program :
    let g (src : Option Nat) : ProgPage := ⟨15, 5, 1, false, 2, src, false, []⟩
    let h : FlashChan := { freshChan with openSbs := [(0, [57000]), (2, [57001])], queue := [(0, [g none]), (2, [g (some 9)])] }
    let c := { cart0 with sbs := [(57000, { freshSb with slc := true, st := .openSb })] }
    let x := { slot0 .ready false with cart := some c, map := [(15, 9)], chans := [(15, h)] }
    let d := (withSlot 0 x).dev
    x = d.slot 0 ∧ x.cart = some c ∧ h = x.chan 15 ∧ x.tempHold = false ∧ x.vcartOpen = false ∧ x.waiting 15 0 = [g none] ∧
    x.waiting 15 2 = [g (some 9)] ∧ streamSb d 0 15 0 c = some (true, 57000) ∧ streamSb d 0 15 2 c = some (false, 57001) ∧
    wordlineNeed 1 [g none] [3] - h.paid.getD 0 0 ≤ d.streamLeft st0.tb.number.toNat 0 15 0 ∧
    wordlineNeed 3 [g (some 9)] [3] - h.paid.getD 2 0 ≤ d.streamLeft st0.tb.number.toNat 0 15 2 ∧
    ∀ j, ([3] : List Nat).getD j 0 < 4 := by
  refine ⟨rfl, rfl, rfl, rfl, rfl, rfl, rfl, ?_, ?_, ?_, ?_, ?_⟩
  iterate 4 decide +kernel
  intro j
  rcases j with _ | j <;> simp

theorem wit_FlashMediaWork_erase :
    let c := { cart0 with sbs := [(57000 + 3799, { freshSb with st := .erase })] }
    let u := { cart0 with sbs := [(0, { freshSb with st := .full, refresh := true })] }
    3800 * 15 + 3799 = 57000 + 3799 ∧ (c.sb (57000 + 3799)).st = .erase ∧ (slot0 .ready false).validIn (57000 + 3799) = [] ∧
    (withCart c id).dev.readsOut 0 (fun p => sbOfPhys p == 57000 + 3799) = false ∧ (u.sb 0).st = .full ∧
    refreshDue (withCart u id).dev 0 0 u st0.tb = true ∧ ({ cart0 with sbs := [(0, { freshSb with st := .erase })] } : Cart).sb 0 =
      { freshSb with st := .erase } ∧ { slot0 .ready false with map := [(0, 9)] }.validIn 0 = [(0, 9)] ∧
    freshChan.moving = none := by decide +kernel

/-- R425: an open superblock that no fold fills is refreshed too. -/
theorem wit_FlashMediaWork_refreshOpen :
    let c := { cart0 with sbs := [(0, { freshSb with st := .openSb, refresh := true })] }
    (c.sb 0).st = .openSb ∧ (slot0 .ready false).foldTarget 0 = false ∧ refreshDue (withCart c id).dev 0 0 c st0.tb = true := by
  decide +kernel

/-- Superblocks 1 to 3 of channel 0 are full of SLC pages. -/
def cartF : Cart := { cart0 with sbs := (List.range 3).map (fun i => (i + 1, { freshSb with slc := true, st := .full })) }

/-- The first superblock of a region is the least worn one where it is free and has no wear. -/
theorem test_leastWorn (c : Cart) (ch lo hi : Nat) (h : lo < hi) (hf : (c.sb (3800 * ch + lo)).st = .free)
    (hw : (c.sb (3800 * ch + lo)).wear = 0) : c.leastWorn ch lo hi = some (3800 * ch + lo) := by
  have hk : ∀ l : List Nat, l.foldl (fun (b : Option Nat) i =>
      if (c.sb (3800 * ch + lo + i)).st != .free then b
      else match b with
        | none => some (3800 * ch + lo + i)
        | some j => if (c.sb (3800 * ch + lo + i)).wear < (c.sb j).wear then some (3800 * ch + lo + i) else some j)
      (some (3800 * ch + lo)) = some (3800 * ch + lo) := by
    intro l
    induction l with
    | nil => rfl
    | cons a t ih =>
      rw [List.foldl_cons]
      simp only [hw, Nat.not_lt_zero, if_false, ite_self]
      exact ih
  obtain ⟨n, hn⟩ : ∃ n, hi - lo = n + 1 := ⟨hi - lo - 1, by omega⟩
  unfold Cart.leastWorn
  simp only [hn, List.range_succ_eq_map, List.foldl_cons, Nat.add_zero, hf, bne_self_eq_false, Bool.false_eq_true, if_false]
  exact hk _

theorem wit_FlashMediaWork_fold :
    (withCart cartF id).dev.slot 0 = { slot0 .ready false with cart := some cartF } ∧ freshChan.fold = none ∧
    foldDue st0.tb (withCart cartF id).dev 0 0 cartF freshChan = true ∧
    cartF.leastWorn 0 ((withCart cartF id).dev.slcRegion 0) 3800 = some 0 ∧
    (let h := { freshChan with fold := some ⟨0, [5], [1, 2, 3], [(0, 9, 11)]⟩ }
      let x := { slot0 .ready false with cart := some cartF, chans := [(0, h)] }
      x.chan 0 = h ∧ x.waiting 0 1 = [] ∧ h.openSbs.getD 1 [] = [] ∧ x.validIn 1 = [] ∧ (cartF.sb 1).st = .full ∧
        x.foldTarget 1 = false ∧ ([(0, 9, 11)].map (·.1)).Nodup) :=
  ⟨rfl, rfl, by decide +kernel, test_leastWorn cartF 0 0 3800 (by decide) (by decide +kernel) (by decide +kernel), by decide +kernel⟩

/-- A checkpoint is due: none was begun since the mount; the map has nothing to write, or the entry of LPN 17. -/
theorem wit_FlashMediaWork_checkpoint :
    let x := slot0 .ready false
    let y := { x with map := [(17, 9)] }
    x.ckpt = none ∧ x.ckptDue st0.tb = true ∧ x.dirty = [] ∧ y.ckptDue st0.tb = true ∧ y.dirty = [37400] := by decide +kernel

/-- `n` superblocks of channel 0 are full. -/
def cartFull (n : Nat) : Cart := { cart0 with sbs := (List.range n).map (fun i => (i, { freshSb with st := .full })) }

theorem test_chanSbs (n : Nat) (h : n ≤ 3800) : (cartFull n).chanSbs 0 = (cartFull n).sbs := by
  apply List.filter_eq_self.2
  intro p hp
  obtain ⟨i, hi, rfl⟩ := List.mem_map.1 hp
  simp only [List.mem_range] at hi
  simp only [beq_iff_eq]
  omega

theorem test_freeCount (n : Nat) (h : n ≤ 3800) : (cartFull n).freeCount 0 0 = 3800 - n := by
  have hf : ((cartFull n).chanSbs 0).filter (fun p => p.2.st != .free && decide (0 ≤ p.1 % 3800)) = (cartFull n).sbs := by
    rw [test_chanSbs n h]
    apply List.filter_eq_self.2
    intro p hp
    obtain ⟨i, hi, rfl⟩ := List.mem_map.1 hp
    simp
  unfold Cart.freeCount
  rw [hf]
  simp [cartFull, cart0, newCart]

theorem test_cartFull_first (n : Nat) (h : 0 < n) : (0, { freshSb with st := .full }) ∈ (cartFull n).sbs :=
  List.mem_map.2 ⟨0, List.mem_range.2 h, rfl⟩

/-- Relocation begins at 95 free superblocks. -/
theorem wit_FlashMediaWork_relocation :
    (cartFull 3705).freeCount 0 0 < 96 ∧ ∃ p, p ∈ (cartFull 3705).chanSbs 0 ∧ p.2.st = .full ∧ 0 ≤ p.1 % 3800 := by
  refine ⟨by rw [test_freeCount _ (by decide)]; decide, (0, { freshSb with st := .full }), ?_, rfl, Nat.zero_le _⟩
  rw [test_chanSbs _ (by decide)]
  exact test_cartFull_first _ (by decide)

/-! The host port and the event ring -/

/-- The link UP over module 3. -/
def linked (d : Device) : Device := { d with host := { d.host with mods := [(3, ⟨.up, [], 2⟩)] } }

def stL : State := alter st0 linked

/-- What each address reaches, at the ends of its window; no burst crosses 4 KiB. -/
theorem wit_HostPort_reach :
    st0.dev.linkUp = false ∧ stL.dev.linkUp = true ∧ stL.settled ∧ reach 0x3FFFFFC 4 = .register ∧ reach 0x3FFFFFE 4 = .refused ∧
    0x4FFF000 = 0x4000000 + 4096 * 4095 ∧ reach 0x4FFFFFC 4 = .doorbell ∧ reach csBase 64 = .central ∧
    reach (csBase + csSize - 64) 64 = .central ∧ reach csBase 65 = .refused ∧ reach (csBase + 4096 - 64) 128 = .refused ∧
    reach lpBase 4096 = .lpddr ∧ reach (lpEnd - 64) 64 = .lpddr ∧ reach lpEnd 64 = .refused := by
  refine ⟨?_, ?_, rfl, ?_, ?_, ?_, ?_, ?_, ?_, ?_, ?_, ?_, ?_, ?_⟩ <;> decide +kernel

theorem wit_HostPort_central :
    let share := alter stL (fun d => { d with store := { d.store with pages := [(0, .share 0)] } })
    let d := share.dev.catchUp share.tb.offset none
    isShare (d.page (pageOf csBase)) = true ∧ d.inImage none csBase 64 = false ∧ d.plots.handoffs = [] ∧
    isShare ((stL.dev.catchUp stL.tb.offset none).page (pageOf csBase)) = false ∧ (stL.dev.catchUp stL.tb.offset none).ev.raised = [] := by
  decide +kernel

theorem wit_HostPort_lpddr :
    let d := { linked dev0 with store := { dev0.store with objects := [(1, objL 0), (4, { objL 4096 with st := .building })] } }
    d.objAt (lpBase + 4096) = some (4, { objL 4096 with st := .building }) ∧ within (lpBase + 4096) 64 (objL 4096).base (objL 4096).span = true ∧
    d.batchTarget 4 = false ∧ d.objAt (lpBase + 8192) = none ∧ d.objAt lpBase = some (1, objL 0) ∧ (objL 0).st ≠ .building := by
  decide +kernel

/-- R442: 4 KiB of a channel that is not reserved are free; where a host access waits, or the channel's 640 units are used up,
they are not. -/
theorem wit_HostPort_lpFree :
    stL.dev.lpFree st0.tb lpBase 4096 = true ∧
    (alter stL (fun d => { d with host := { d.host with lpWait := [.write lpBase []] } })).dev.lpFree st0.tb lpBase 64 = false ∧
    (alter stL (fun d => { d with store := { d.store with bgUnits := [(lpChannel lpBase, 64 * 640)] } })).dev.lpFree st0.tb lpBase 64 = false := by
  decide +kernel

theorem wit_HostPort_register :
    (∃ r, regDesc R.PWR_CFG_LIMIT = some r) ∧ reach R.PWR_CFG_LIMIT 4 = .register ∧ isLo R.PWR_CFG_LIMIT = false ∧
    isHi R.PWR_CFG_LIMIT = false ∧ R.PWR_CFG_LIMIT ≠ R.SEQ_AST_DATA0 ∧ stL.dev.responds R.PWR_CFG_LIMIT = true :=
  ⟨⟨(regDesc R.PWR_CFG_LIMIT).getD ⟨0, 1, 4, .cold, .none, []⟩, by decide +kernel⟩, by decide +kernel⟩

theorem wit_HostPort_dcpl :
    let x := { qp0 with sqTail := 0, bells := [(0, 100, 101)] }
    let s := alter (withQp x) (fun d => linked { d with host := { d.host with drds := [(5, (0, 65535))] } })
    s.settled ∧ s.dev.linkUp = true ∧ s.dev.host.drds.get? 5 = some (0, 65535) ∧
    bellsFrom (2 ^ s.dev.sqLog 0) (s.dev.qp 0).sqHead (s.dev.qp 0).bells ≠ [] ∧ (s.dev.qp 0).st = .active :=
  ⟨rfl, by decide +kernel⟩

theorem wit_HostPort_timeout :
    let s := alter (withQp qp0) (fun d => { d with host := { d.host with waiting := [(0, .drd 1 0 256), (4096, .dwr 0 [])] } })
    s.settled ∧ s.dev.host.waiting[0]? = some (0, .drd 1 0 256) ∧ s.dev.host.waiting[1]? = some (4096, .dwr 0 []) ∧ 4096 ≤ 4096 ∧
    (s.dev.qp 0).st = .active := ⟨rfl, by decide +kernel⟩

theorem wit_HostPort_modules (st : ModSt) :
    let s := alter st0 (fun d => { d with host := { d.host with mods := [(3, ⟨st, [], 0⟩)] }, power := { d.power with doms := [(17, 2)] } })
    s.settled ∧ (s.dev.module 3).st = st ∧ s.dev.domOn 17 = true := ⟨rfl, rfl, by cases st <;> decide +kernel⟩

theorem wit_HostPort_enabled : st0.dev.modDisabled 3 = false := by decide +kernel

/-- A record that waits, for a ring of one record with nothing in it. -/
def rec0 : EventRec := ⟨⟨0x0D01, 4, none, []⟩, 100, 5, 1, false, false⟩

theorem wit_EventRing :
    let d := { linked dev0 with regs := [(R.EVT_CTRL, BitVec.ofNat 32 (1 <<< 31))], ev := { dev0.ev with buffer := [rec0] } }
    let f := { linked dev0 with regs := [(R.EVT_RING_TAIL, 1), (R.EVT_RING_HEAD, 0xFFFFFFFF)] }
    d.ev.raised = [] ∧ d.ev.buffer = rec0 :: [] ∧ d.evtEnabled = true ∧ d.linkUp = true ∧ d.ringHeld < d.ringSize ∧ f.ringHeld = 2 ∧
    (0 + 2 ^ 32 - f.reg R.EVT_RING_HEAD) % 2 ^ 32 ≤ f.ringHeld ∧ f.ringHeld < (2 + 2 ^ 32 - f.reg R.EVT_RING_HEAD) % 2 ^ 32 := by
  decide +kernel

/-! Power, start-up, sleep, security -/

def inPhase (p : Phase) (f : PowerUnit → PowerUnit) : State := alter st0 (fun d => { d with power := f { d.power with phase := p } })

/-- A list of one entry, which switches a set of wordlines, armed for the next furrow; for this one it is too late. -/
theorem wit_Power_staging :
    let d (at_ : W32) := { dev0 with regs := [(R.PWR_STG_AT_LO, at_), (R.PWR_STG_W0, BitVec.ofNat 32 (1 <<< 30)), (R.PWR_STG_W0 + 8, 1)] }
    switchable 22 = true ∧ armReason st0.tb (d 101) 1 = 0 ∧ armReason st0.tb (d 100) 1 ≠ 0 ∧
    dev0.cfgLimit ≤ ({ entries := [], at_ := 100, step := 0, tried := dev0.cfgLimit } : Staging).tried := by decide +kernel

theorem wit_Power_start :
    (inPhase .rom id).dev.power.phase = .rom ∧ (inPhase .rom id).dev.power.verify = none ∧ 8388604 + 4 ≤ 8388608 ∧
    (inPhase .bringup (fun p => { p with verFur := some 0, furs := 3 })).dev.power.furs = 3 ∧
    (inPhase .bringup (fun p => { p with memFur := some 0, furs := 8 })).dev.power.memFur = some 0 ∧
    (inPhase .bringup (fun p => { p with doms := [(19, 1)] })).dev.power.doms.getD 19 0 ≠ 0 ∧
    (inPhase .bringup id).dev.power.memFur = none ∧ (withSlot 3 (slot0 .empty true)).dev.slot 3 = slot0 .empty true := by decide +kernel

/-- SHA-384 of the empty message. -/
theorem test_sha384_empty : (sha384 []).map BitVec.toNat =
    [0x38, 0xB0, 0x60, 0xA7, 0x51, 0xAC, 0x96, 0x38, 0x4C, 0xD9, 0x32, 0x7E, 0xB1, 0xB1, 0xE3, 0x6A, 0x21, 0xFD, 0xB7, 0x11, 0x14, 0xBE, 0x07, 0x43,
     0x4C, 0x0C, 0xC7, 0xBF, 0x63, 0xF6, 0xE1, 0xDA, 0x27, 0x4E, 0xDE, 0xBF, 0xE7, 0x6F, 0x65, 0xFB, 0xD5, 0x1A, 0xD2, 0xF1, 0x48, 0x98, 0xB9, 0x5B] := by
  decide +kernel

/-- An image with an empty body, and one whose hash is not that of its body. -/
theorem wit_Power_verify :
    let p := { PowerUnit.reset with verify := some 1, imageLen := 512, image := (sha384 []).zipIdx.map (fun x => (0x40 + x.2, x.1)) }
    p.verify = some 1 ∧ bodyHashOk p = true ∧ bodyHashOk { p with image := [] } = false := by decide +kernel

theorem wit_Power_sleep :
    let z := alter (inPhase .dormant id) (fun d => { d with regs := [(R.PWR_SLEEP_CTRL, 4)] })
    let w := inPhase .waking (fun p => { p with wakeFur := some 0, furs := 32, onAtEntry := [3, 17], doms := [(3, 3)] })
    (inPhase .service (fun p => { p with sleepPend := true })).dev.power.sleepPend = true ∧
    dev0.cfgLimit ≤ (inPhase .service (fun p => { p with sleepTried := dev0.cfgLimit })).dev.power.sleepTried ∧
    z.dev.power.phase = .dormant ∧ z.dev.fld R.PWR_SLEEP_CTRL 2 2 = 1 ∧
    furLe (BitVec.ofNat 48 (z.dev.reg64 R.PWR_WAKE_AT_LO)) z.tb.number = true ∧ w.dev.power.phase = .waking ∧
    w.dev.power.wakeFur = some 0 ∧ 0 + 32 ≤ w.dev.power.furs ∧ 3 ∈ storeDoms ∧ 3 ∈ w.dev.power.onAtEntry ∧ w.dev.power.doms.getD 3 0 = 3 ∧
    127 < 128 := by decide +kernel

theorem wit_ResetsAndSecurity :
    ({ PowerUnit.reset with porst := false } : PowerUnit).porst = false ∧ st0.dev.power.porst = true ∧ st0.dev.power.phase = .service ∧
    st0.dev.power.warm = none ∧ st0.settled ∧ (inPhase .service (fun p => { p with warm := some 0, furs := 9 })).dev.power.warm = some 0 ∧
    0 + 9 ≤ (inPhase .service (fun p => { p with warm := some 0, furs := 9 })).dev.power.furs ∧ 63 < 64 ∧ 3 < 4 ∧
    st0.dev.sec.fuse = none ∧ SecUnit.reset.svnMin < 63 ∧ 63 ≤ ({ SecUnit.reset with runSvn := 63 } : SecUnit).runSvn ∧
    SecUnit.reset.runSvn < 63 ∧ 3 ≠ SecUnit.reset.runKey ∧ (∃ j, j < 4 ∧ j ≠ 3 ∧ bit j SecUnit.reset.revoked = false) ∧
    (∀ j, j < 4 → j ≠ 3 → bit j ({ SecUnit.reset with revoked := 7 } : SecUnit).revoked = true) ∧
    ({ SecUnit.reset with fuse := some (1, 63) } : SecUnit).fuse = some (1, 63) ∧
    ((withSlot 3 { slot0 .failed false with unwrapFail := true }).dev.slot 3).unwrapFail = true ∧ st0.dev.rngOk = false ∧
    (rngDev dev0).rngOk = true ∧ st0.dev.sec.attest = none ∧ ({ SecUnit.reset with attest := some [] } : SecUnit).attest = some [] := by
  refine ⟨rfl, rfl, rfl, rfl, rfl, rfl, ?_, ?_, ?_, rfl, ?_, ?_, ?_, ?_, ⟨0, ?_⟩, ?_, rfl, rfl, ?_, ?_, rfl, rfl⟩ <;> decide +kernel

/-- A warm reset written while the module sleeps; PORST_N low. -/
theorem wit_ResetsAndSecurity_phases :
    (inPhase .dormant id).dev.power.warm = none ∧ (inPhase .dormant id).dev.power.phase ≠ .service ∧
    (inPhase .rom (fun p => { p with porst := false })).dev.power.porst = false := ⟨rfl, by decide +kernel, rfl⟩

/-! ### Single steps -/

/-- A check of the state that a command answers. -/
def after (c : Instr) (s : State) (p : State → Bool) : Bool := match exec c s with
  | .next t => p t
  | _ => false

def stepped (s : State) (p : State → Bool) : Bool := match step s with
  | .next t => p t
  | _ => false

/-- Two commands: the first is taken, the second waits. -/
theorem test_step_front : stepped { st0 with pending := [.pllLock, .landingCutoff] } (fun t =>
    t.tb.pllLocked && t.pending == [.landingCutoff] && t.tb.offset == 0) = true := by decide +kernel

/-- R39: an edge 3 clk late in LOCKED is a slip; R35: HOLDOVER follows. -/
theorem test_slip : after .captureWindowClose { st0 with tb := { st0.tb with edge := some 3 } } (fun t =>
    t.dev.reg R.FUR_SLIP_COUNT == 1 && t.tb.decided == some ⟨.holdover, none⟩) = true := by decide +kernel

/-- R28: the number 0 follows the greatest one. -/
theorem test_furrow_wrap : furLt 0xFFFFFFFFFFFF 0 = true ∧ furLt 0 0xFFFFFFFFFFFF = false := by decide +kernel

/-- R10: a write of a _LO half is held, and stored with the _HI half. -/
theorem test_pair : after (.regLoWrite R.PWR_WAKE_AT_LO 7) st0 (fun t => t.dev.reg R.PWR_WAKE_AT_LO == 0 &&
    after (.regHiWrite (R.PWR_WAKE_AT_LO + 4) 1) t (fun u => u.dev.reg64 R.PWR_WAKE_AT_LO == 2 ^ 32 + 7)) = true := by decide +kernel

/-- R113: SIMM is sign-extended, and the sum is modulo 2 to the 64. -/
theorem test_adda : after (.adda 1 15 2 0xFFFFFFFF) (withRun run0) (fun t =>
    ((t.dev.runTo 1 11).run? 1).map (fun r => r.areg 15) == some (2 ^ 64 - 1)) = true := by decide +kernel

/-- R113: FILL repeats bits 31:0 of the address register over a unit of 64 B. -/
theorem test_fill : after (.fill 1 15 0 0 1 0 1) (withRun { run0 with aregs := (List.replicate 16 0).set 1 0xFFFFFFFF44332211 }) (fun t =>
    let m := (t.dev.runTo 1 200).mem
    m.readLe csBase 8 == 0x4433221144332211 && m.readLe (csBase + 56) 8 == 0x4433221144332211 && m.read (csBase + 64) == 0) = true := by
  decide +kernel

/-- R127: `x` and `y` in s1 and s2, the result in s3. -/
def coreXY (w : Nat) (x y : W64) : State :=
  withRun (run0.setCore 15 { coreOf w with s := [(1, x), (2, y)] })

def s3 (t : State) : Option Nat := (t.dev.run? 1).map (fun r => (r.core 15).sreg 3)

/-- sra of -8 by 1; maxu of -1 and 1: all ones. -/
theorem test_sra_maxu : after (.addSubLogic 1 15) (coreXY (1 <<< 1 + 3 <<< 7 + 1 <<< 12 + 2 <<< 17 + 7 <<< 22) (-8) 1) (fun t => s3 t == some (2 ^ 64 - 4)) = true ∧
    after (.addSubLogic 1 15) (coreXY (1 <<< 1 + 3 <<< 7 + 1 <<< 12 + 2 <<< 17 + 13 <<< 22) (-1) 1) (fun t => s3 t == some (2 ^ 64 - 1)) = true := by
  decide +kernel

/-- mulhu and mulh of all ones by 2. -/
theorem test_mul : after (.mul 1 15) (coreXY (2 <<< 1 + 3 <<< 7 + 1 <<< 12 + 2 <<< 17 + 2 <<< 22) (-1) 2) (fun t => s3 t == some 1) = true ∧
    after (.mul 1 15) (coreXY (2 <<< 1 + 3 <<< 7 + 1 <<< 12 + 2 <<< 17 + 1 <<< 22) (-1) 2) (fun t => s3 t == some (2 ^ 64 - 1)) = true := by
  decide +kernel

/-- div and rem by 0: all ones, and the dividend. -/
theorem test_div_zero : after (.div 1 15) (coreXY (3 <<< 1 + 3 <<< 7 + 1 <<< 12 + 2 <<< 17) 7 0) (fun t => s3 t == some (2 ^ 64 - 1)) = true ∧
    after (.div 1 15) (coreXY (3 <<< 1 + 3 <<< 7 + 1 <<< 12 + 2 <<< 17 + 2 <<< 22) 7 0) (fun t => s3 t == some 7) = true := by decide +kernel

/-- addi of -1 (IMM15 is bits 31:17) to 5; slti. -/
theorem test_immediates : after (.addi 1 15) (coreXY (4 <<< 1 + 3 <<< 7 + 1 <<< 12 + 0x7FFF <<< 17) 5 0) (fun t => s3 t == some 4) = true ∧
    after (.slti 1 15) (coreXY (9 <<< 1 + 3 <<< 7 + 1 <<< 12 + 0x7FFF <<< 17) (-2) 0) (fun t => s3 t == some 1) = true ∧
    after (.shiftImmediate 1 15) (coreXY (8 <<< 1 + 3 <<< 7 + 1 <<< 12 + (2 <<< 6 + 63) <<< 17) (-2) 0) (fun t => s3 t == some (2 ^ 64 - 1)) = true := by
  decide +kernel

/-- jal: the next pc in s3 (R124: in words), the pc 2 words back of word 4. -/
theorem test_jal :
    let code := (List.range 4).map (fun k => (16 + k, (leBytes 4 (0x16 <<< 1 + 3 <<< 7 + 0x7FFE <<< 17)).getD k 0))
    after (.jal 1 15) (withRun (run0.setCore 15 { coreOf 0 with pc := 4, ibuf := code })) (fun t =>
      s3 t == some 5 && (t.dev.run? 1).map (fun r => (r.core 15).pc) == some 2) = true := by decide +kernel

/-- FP16 1.5 is FP32 1.5; 65504 + 65504 in FP16 overflows to infinity; RNE of 2049 to FP16 is 2048. -/
theorem test_fp : (convertFp fp16 fp32 0x3E00).1 = 0x3FC00000 ∧ (fp16.add 0x7BFF 0x7BFF).1 = 0x7C00 ∧
    (convertFp fp32 fp16 0x45001000).1 = 0x6800 := by decide +kernel

/-- CRC-32C of the digits 1 to 9. -/
theorem test_crc32c : crc32c (image 9 [(0, 8, 0x3837363534333231), (8, 1, 0x39)]) = 0xE3069283 := by decide +kernel

/-- R441: an HRD of two registers at once is refused, and counted. -/
theorem test_hrd_refused : after (.hrd 5 0x10000 8 false) stL (fun t =>
    t.dev.out == [.hcpl 5 1 []] && t.dev.reg R.HOST_REFUSED == 1) = true := by decide +kernel

/-- R381: a submission tail that moves back. -/
theorem test_doorbell_back : after (.doorbellSqTail 0 65534) (withQp qp0) (fun t =>
    (t.dev.qp 0).st == .error && (t.dev.qp 0).lastErr == 1) = true := by decide +kernel

/-- R160: CREATE takes the lowest free ID; an LPDDR5X object begins BUILDING. -/
theorem test_tier_create : after .tierCreate (alter st0 (fun _ => withWords [1 <<< 24, 2, 64, 0, lpBase % 2 ^ 32, lpBase / 2 ^ 32] devO)) (fun t =>
    t.dev.store.cmdResult == some (0, 2) && (t.dev.obj? 2).map (·.st) == some .building) = true := by decide +kernel

/-- R466: the words of the image lie one after the other, little-endian. -/
theorem test_boot_data : after (.bootData 0x44332211) (inPhase .rom (fun p => { p with imageLen := 4 })) (fun t =>
    t.dev.power.imageLen == 8 && t.dev.power.image.readLe 4 4 == 0x44332211) = true := by decide +kernel

/-- R412: a cartridge in an empty slot. -/
theorem test_cart_insert : after (.cartInsert 3 ident0 100 70 false true) st0 (fun t =>
    (t.dev.slot 3).st == .detected && ((t.dev.slot 3).cart.map (·.serial)) == some 9) = true := by decide +kernel

/-- R430: page 9 of superblock 0 holds LPN 0 of the sealed object 16; page 2,057 is of a fold that did not commit, so it does not
count, and superblock 1 is queued for erase. -/
def cartM (commits : List (Nat × Nat × List Nat)) : Cart :=
  { cart0 with
    pages := [(9, ⟨0, 5, true, false, none, 0, 0, 0, 1, 0⟩), (2057, ⟨0, 5, false, false, some 3, 0, 0, 1, 1, 0⟩)],
    nss := [(5, ⟨none, 1, 100, 1, []⟩)], dir := [(16, { objL 0 with tier := 3, base := 1, size := 16384, ns := 5 })],
    sbs := [(0, { freshSb with slc := true, st := .full }), (1, { freshSb with st := .openSb })], commits := commits }

theorem test_mount_fold : let map (l : List (Nat × Nat × List Nat)) := (cartM l).rebuild 0 ⟨[], []⟩ []
    map [] = [(0, 9)] ∧ (((cartM []).recoverSbs (map [])).sb 1).st = .erase ∧ map [(0, 3, [0])] = [(0, 2057)] ∧
    (((cartM [(0, 3, [0])]).recoverSbs (map [(0, 3, [0])])).sb 0).st = .erase := by
  simp only [Cart.rebuild, logged_nil]
  decide +kernel

/-- R137, R494: a bank conflict at clk 5 of a run, met by a later command, is counted, aborts the run, and raises
STORE_BANK_CONFLICT at its own clk. -/
theorem test_conflict_aborts :
    let r := { run0 with pend := [(5, 40, .conflict 3)] }
    let (d, r') := advanceIn 1 9 (withRun r).dev r
    (d.reg R.STORE_CONFLICTS == 1 && r'.aborted == some 0x63 && r'.now == 5 &&
      d.ev.stamps.any (fun p => p.1.code == 0x302 && p.2 == (r.startOff + 5).toNat)) = true := by decide +kernel

/-- An empty queue: one clk passes, up to the last of the furrow (log entry 1). -/
theorem test_step_idle : stepped st0 (fun t => t.tb.offset == 1 && t.dev == st0.dev) = true ∧
    stepped { st0 with tb := { st0.tb with offset := 156249 } } (fun t => t.tb.offset == 156249) = true := by decide +kernel

end Sys2Proof.Tests
end

section
/-! PROOFS of register space (R8 to R10): an access to an offset that belongs to no register. -/
namespace Sys2Proof.Machine

/-! ### What an unmapped access does to the device, apart from its event -/

/-- R8: the device after an access to no register, before the event is raised: the access is counted, and a read leaves 0 in
the port's read data. -/
def Device.countUnmapped (d : Device) (write : Bool) : Device :=
  if write then d.inc R.HOST_UNMAPPED else (d.inc R.HOST_UNMAPPED).setRdata 0

@[simp] theorem Device.countUnmapped_ev (d : Device) (write : Bool) : (d.countUnmapped write).ev = d.ev := by
  cases write <;> rfl

/-- Only the counter HOST_UNMAPPED changes in the register file. -/
theorem reg_countUnmapped_ne (d : Device) (write : Bool) {k : Nat} (h : k ≠ R.HOST_UNMAPPED) :
    (d.countUnmapped write).reg k = d.reg k := by
  cases write <;> exact reg_incBy_ne d 1 h.symm

/-- Of the parts of the device only the port and the register file change; a pending _LO write is part of the port. -/
theorem DevPart.same_countUnmapped {p : DevPart} (d : Device) (write : Bool) (hport : p ≠ .port) (hregs : p ≠ .regs) :
    p.same d (d.dropPend.countUnmapped write) := by
  cases p with
  | port => exact absurd rfl hport
  | regs => exact absurd rfl hregs
  | _ => cases write <;> rfl

/-- An event raised is of the event buffer alone. -/
theorem DevPart.same_raise {p : DevPart} {a b : Device} (code : Nat) (pay : List (Nat × Nat)) (hev : p ≠ .ev)
    (h : p.same a b) : p.same a (b.raise code pay) := by
  cases p with
  | ev => exact absurd rfl hev
  | _ => exact h

/-! ### The command -/

/-- R8: a read of an offset of a block that responds, at which no register stands. -/
theorem regRead_unmapped {s : State} {a : Nat} (hnone : regDesc a = none) (hresp : s.dev.responds a = true)
    (hl : s.dev.power.porst = true) :
    regRead a s = s.onAon (fun _ d => (d.countUnmapped false).raise 0x0D07 [(4, a)]) := by
  have hr : s.dev.dropPend.responds a = true := hresp
  rw [s.onAon_of _ hl, regRead, s.live_of _ hl]
  simp only [regReadPart, hr, hnone]
  rfl

/-- R8: a write of such an offset. -/
theorem regWrite_unmapped {s : State} {a : Nat} (v : Nat) (hnone : regDesc a = none) (hresp : s.dev.responds a = true)
    (hl : s.dev.power.porst = true) :
    regWrite a v s = s.onAon (fun _ d => (d.countUnmapped true).raise 0x0D07 [(4, a)]) := by
  have hr : s.dev.dropPend.responds a = true := hresp
  rw [s.onAon_of _ hl, regWrite, s.live_of _ hl]
  simp only [regWritePart, hr, hnone]
  rfl

/-- An unmapped access, a read or a write, counts itself and raises its event. -/
theorem exec_regUnmappedAccess {s : State} {a : Nat} (write : Bool) (hnone : regDesc a = none)
    (hresp : s.dev.responds a = true) (hl : s.dev.power.porst = true) :
    exec (.regUnmappedAccess a write) s =
      .next (s.onAon (fun _ d => (d.countUnmapped write).raise 0x0D07 [(4, a)])) := by
  change execRegUnmappedAccess a write s = _
  rw [execRegUnmappedAccess, hnone]
  cases write with
  | false => exact congrArg _ (regRead_unmapped hnone hresp hl)
  | true => exact congrArg _ (regWrite_unmapped 0 hnone hresp hl)

/-- Settles O20: the access is an effect on the port and one counter, followed by one event. -/
theorem unmappedAccessRaisesHostEvent : Obligations.UnmappedAccessRaisesHostEvent := by
  intro s a write hset hnone hresp hl
  refine ⟨_, exec_regUnmappedAccess write hnone hresp hl, ?frame, ?event, ?rdata⟩
  case frame =>
    refine frame_onAon hl (fun k hk => ?_) (fun p hp hregs hev => ?_)
    · rw [reg_raise, reg_countUnmapped_ne _ _ (List.ne_of_not_mem_cons hk), reg_dropPend]
    · exact DevPart.same_raise _ _ hev (DevPart.same_countUnmapped s.dev write (List.ne_of_not_mem_cons hp) hregs)
  case event =>
    exact raised_of_one _ (s.dev.dropPend.countUnmapped write) (Device.countUnmapped_ev _ _) hset
      (congrArg State.dev (s.onAon_of _ hl))
  case rdata =>
    rintro rfl
    rw [s.onAon_of _ hl]
    simp [Device.countUnmapped, Device.setRdata]

end Sys2Proof.Machine
end

section
/-! PROOFS of the furrow timebase (R34 to R42): the number at a boundary, and the slip of a window that closes. -/
namespace Sys2Proof.Machine

/-! ### What a boundary does to the timebase -/

/-- A timebase is another one but for the number that waits to be loaded (R30). -/
def Timebase.SameButSet (a b : Timebase) : Prop := ∃ p, b = { a with setPending := p }

theorem Timebase.SameButSet.refl (a : Timebase) : a.SameButSet a := ⟨a.setPending, rfl⟩

theorem Timebase.SameButSet.trans {a b c : Timebase} (hab : a.SameButSet b) (hbc : b.SameButSet c) : a.SameButSet c := by
  obtain ⟨p, rfl⟩ := hab
  obtain ⟨q, rfl⟩ := hbc
  exact ⟨q, rfl⟩

/-- Of the timebase, a staging list changes what its SET_APPLY changes, and nothing else (R460). -/
theorem stagingBoundary_tb (s : State) : s.tb.SameButSet (stagingBoundary s).tb := by
  unfold stagingBoundary
  split
  · exact .refl _
  · dsimp only
    split
    · exact .refl _
    · split
      · exact ⟨_, rfl⟩
      · exact .refl _
      · exact .refl _

theorem stagedFor_tb (due : Bool → W48 → Due) (s : State) (f : W48) : s.tb.SameButSet (stagedFor due s f).tb := by
  simp only [stagedFor, State.onPart_tb]
  split
  · exact stagingBoundary_tb s
  · exact .refl _

theorem stagedFor_foldl_tb (due : Bool → W48 → Due) (fs : List W48) (s : State) :
    s.tb.SameButSet (fs.foldl (stagedFor due) s).tb := by
  induction fs generalizing s with
  | nil => exact .refl _
  | cons f fs ih => exact (stagedFor_tb due s f).trans (ih _)

/-- R42: steps 2 to 5 leave the timebase that step 1 made, but for a SET_APPLY of a staging list. -/
theorem furrowSteps_tb (due : Bool → W48 → Due) (s : State) : s.tb.SameButSet (furrowSteps due s).tb := by
  simpa only [furrowSteps, boundaryTwo, State.onPart_tb] using
    stagedFor_foldl_tb due _ ((s.onPart boundaryUnits).onPart objectBoundary)

/-- R42: a boundary leaves the timebase that its step 1 makes, of the registers as they stand when the memories and lanes have
reported, but for a SET_APPLY of a staging list. -/
theorem boundary_tb (temps powers : List Nat) (seen : List (Nat × Nat)) (s : State) :
    (s.tb.boundary (seen.foldl observe s.dev).furSource (seen.foldl observe s.dev).furSet).SameButSet
      (boundary temps powers seen s).tb := by
  simp only [boundary, State.onPart_tb]
  split
  · exact furrowSteps_tb _ (boundaryOne { s with dev := seen.foldl observe s.dev })
  · exact .refl _

/-- FURROW_BOUNDARY out of reset. -/
theorem exec_furrowBoundary {s : State} (temps powers : List Nat) (seen : List (Nat × Nat))
    (hl : s.dev.power.porst = true) :
    exec (.furrowBoundary temps powers seen) s = .next (boundary temps powers seen s).flushed := by
  change execFurrowBoundary temps powers seen s = _
  rw [execFurrowBoundary, s.live_of _ hl]

/-! ### The state that a boundary begins -/

section
variable {tb : Timebase}

/-- R35, R41: after an UNLOCKED furrow comes UNLOCKED or RELOCK, decided or not. -/
theorem Timebase.Inv.decision_of_unlocked (h : tb.Inv) (hu : tb.st = .unlocked) :
    tb.decision.st = .unlocked ∨ tb.decision.st = .relock := by
  unfold Timebase.decision
  cases hd : tb.decided with
  | none => exact .inl hu
  | some d => exact (h.moves d hd).1 hu

/-- R35: RELOCK never follows LOCKED or HOLDOVER. -/
theorem Timebase.Inv.decision_of_steady (h : tb.Inv) (hs : tb.st = .locked ∨ tb.st = .holdover) :
    tb.decision.st ≠ .relock := by
  unfold Timebase.decision
  cases hd : tb.decided with
  | none =>
    intro hr
    change tb.st = .relock at hr
    rcases hs with hs | hs <;> exact absurd (hs.symm.trans hr) (by decide)
  | some d => exact (h.moves d hd).2 hs

/-- What the decision's state is not, and UNLOCKED is not, the boundary does not begin. -/
theorem Timebase.beginState_ne {st : TbState} (change : Bool) (hu : st ≠ .unlocked) (hd : tb.decision.st ≠ st) :
    tb.beginState change ≠ st := by
  unfold Timebase.beginState
  split
  · exact hu.symm
  · exact hd

/-! ### The number of the furrow that begins (R37) -/

theorem Timebase.adopts_of_no_relock (host : Bool) (h : tb.beginState (host != tb.srcForce) ≠ .relock) :
    tb.adopts host = none := by
  simp [Timebase.adopts, h]

/-- The first furrow of RELOCK in FABRIC mode adopts the number of the time code. -/
theorem Timebase.beginNumber_of_relock (furSet : W48) {v : W48} (hr : tb.beginState (false != tb.srcForce) = .relock)
    (hs : tb.st ≠ .relock) (hv : tb.tcNext = some v) : tb.beginNumber false furSet = v := by
  have ha : tb.adopts false = some v := by simp [Timebase.adopts, -Bool.false_bne, hr, hs, hv]
  simp [Timebase.beginNumber, ha]

/-- With no number to load and none to adopt, the furrow takes the next number (R28). -/
theorem Timebase.beginNumber_succ (host : Bool) (furSet : W48) (hp : tb.setPending = false)
    (ha : tb.adopts host = none) : tb.beginNumber host furSet = tb.number + 1 := by
  simp [Timebase.beginNumber, hp, ha]

/-- A boundary out of LOCKED or HOLDOVER: no number waits, for the host sets one only while UNLOCKED (R30), and no RELOCK
begins. -/
theorem Timebase.Inv.beginNumber_from_steady (h : tb.Inv) (host : Bool) (furSet : W48)
    (hs : tb.st = .locked ∨ tb.st = .holdover) : tb.beginNumber host furSet = tb.number + 1 := by
  have hp : tb.setPending = false := Bool.eq_false_iff.mpr fun hp => by
    rw [h.setting hp] at hs
    simp at hs
  exact Timebase.beginNumber_succ host furSet hp
    (Timebase.adopts_of_no_relock host (Timebase.beginState_ne _ (by decide) (h.decision_of_steady hs)))

/-- A boundary into LOCKED or HOLDOVER: such a furrow does not follow an UNLOCKED one, in which alone a number may wait. -/
theorem Timebase.Inv.beginNumber_into_steady (h : tb.Inv) (host : Bool) (furSet : W48) {st : TbState}
    (hs : st = .locked ∨ st = .holdover) (hb : tb.beginState (host != tb.srcForce) = st) :
    tb.beginNumber host furSet = tb.number + 1 := by
  have hu : st ≠ .unlocked := by rcases hs with rfl | rfl <;> decide
  have hr : st ≠ .relock := by rcases hs with rfl | rfl <;> decide
  have hp : tb.setPending = false := Bool.eq_false_iff.mpr fun hp => by
    have hd : tb.decision.st ≠ st := by
      rcases h.decision_of_unlocked (h.setting hp) with hd | hd
      · exact hd ▸ hu.symm
      · exact hd ▸ hr.symm
    exact Timebase.beginState_ne _ hu hd hb
  exact Timebase.beginNumber_succ host furSet hp (Timebase.adopts_of_no_relock host (hb ▸ hr))

end

/-- Settles O10: step 1 of R42 gives the number. The invariant keeps a loaded number and an adopted one out of LOCKED and
HOLDOVER, on either side of the boundary. -/
theorem boundaryNumberFollowsR37 : Obligations.BoundaryNumberFollowsR37 := by
  intro s temps powers seen _ hinv hl
  obtain ⟨p, htb⟩ := boundary_tb temps powers seen s
  refine ⟨_, exec_furrowBoundary temps powers seen hl, ?_⟩
  dsimp only
  rw [State.flushed_tb, htb]
  generalize (seen.foldl observe s.dev).furSource = host
  refine ⟨?steady, ?adopted⟩
  case steady =>
    rintro (hs | hs | hb | hb)
    · exact hinv.beginNumber_from_steady host _ (.inl hs)
    · exact hinv.beginNumber_from_steady host _ (.inr hs)
    · exact hinv.beginNumber_into_steady host _ (.inl rfl) hb
    · exact hinv.beginNumber_into_steady host _ (.inr rfl) hb
  case adopted =>
    intro hr hs hfabric v hv
    obtain rfl : host = false := hfabric
    exact Timebase.beginNumber_of_relock _ hr hs hv

/-! ### A slip (R39) -/

/-- FUR_SLIP, with the phase error. -/
def slipReq (e : Int) : EventReq := ⟨0x0101, 4, none, [(4, ofSigned 32 e)]⟩

/-- FUR_REALIGN, with the phase error of the realignment (R40). -/
def realignReq (e : Int) : EventReq := ⟨0x0106, 4, none, [(4, ofSigned 32 e)]⟩

theorem windowResult_slip {e : Int} (he : 2 < e.natAbs) : windowResult (some e) = .slip e := by
  simp [windowResult, he]

/-- R39, R40: a window that closes with a slip counts it and raises FUR_SLIP, followed by FUR_REALIGN where the slip
confirms a candidate. -/
theorem closeWindowDev_slip {tb : Timebase} (d : Device) {e : Int} (hedge : tb.edge = some e) (he : 2 < e.natAbs) :
    closeWindowDev tb d = (d.inc R.FUR_SLIP_COUNT).raiseReq (slipReq e) ∨
    ∃ f, closeWindowDev tb d = ((d.inc R.FUR_SLIP_COUNT).raiseReq (slipReq e)).raiseReq (realignReq f) := by
  rw [closeWindowDev, hedge, windowResult_slip he]
  cases (decideState tb).realign with
  | none => exact .inl rfl
  | some f => exact .inr ⟨f, rfl⟩

/-- What the closing of such a window leaves when its events are taken, at whatever point of the furrow it closes. -/
theorem raised_and_counted_of_slip {s t : State} (tb : Timebase) {e : Int} (hset : s.settled) (hedge : tb.edge = some e)
    (he : 2 < e.natAbs) (ht : t.dev = (closeWindowDev tb s.dev).flush tb) :
    s.raised (slipReq e) t ∧
      t.dev.reg R.FUR_SLIP_COUNT = min (s.dev.reg R.FUR_SLIP_COUNT + 1) 0xFFFFFFFF := by
  have hcount : ∀ d : Device, d.reg R.FUR_SLIP_COUNT = (s.dev.inc R.FUR_SLIP_COUNT).reg R.FUR_SLIP_COUNT →
      (d.flush tb).reg R.FUR_SLIP_COUNT = min (s.dev.reg R.FUR_SLIP_COUNT + 1) 0xFFFFFFFF := fun d hd => by
    rw [reg_flush tb d (by decide), hd]
    exact reg_incBy_self s.dev _ 1
  rcases closeWindowDev_slip s.dev hedge he with hd | ⟨f, hd⟩
  · rw [hd] at ht
    exact ⟨raised_of_one (s := { s with tb := tb }) _ (s.dev.inc R.FUR_SLIP_COUNT) rfl hset ht, ht ▸ hcount _ rfl⟩
  · rw [hd] at ht
    exact ⟨raised_of_two (s := { s with tb := tb }) _ (realignReq f) (s.dev.inc R.FUR_SLIP_COUNT) rfl hset
        (by simp [slipReq, realignReq]) rfl ht,
      ht ▸ hcount _ rfl⟩

/-! ### The commands that close a window (R32) -/

section
variable {s : State}

/-- The decision of a furrow that is no realignment furrow is the closing of its window, at the decision's clk or where the
timebase has already passed it. -/
theorem State.passDecision_of_window (hr : s.tb.realign = false) (hd : s.tb.decided = none) :
    s.passDecision =
      { s with
        tb := (s.tb.goto s.tb.decisionClk).closeWindow
        dev := (closeWindowDev (s.tb.goto s.tb.decisionClk) s.dev).flush (s.tb.goto s.tb.decisionClk) } := by
  have hg : (s.tb.goto s.tb.decisionClk).realign = false := hr
  simp [State.passDecision, hd, hg]

/-- The first edge of a window, and an edge that none evaluates, leaves the device. -/
theorem edgeAt_dev (hedge : s.tb.edge = none) (o : Nat) : (edgeAt s o).dev = s.dev := by
  unfold edgeAt
  cases Timebase.edgeError { s.tb with offset := o } o with
  | none => rfl
  | some e => simp [edgeOn, hedge]

/-- CAPTURE_WINDOW_CLOSE in a furrow that is no realignment furrow. -/
theorem exec_captureWindowClose (hl : s.dev.power.porst = true) (hr : s.tb.realign = false) :
    exec .captureWindowClose s = .next s.passDecision := by
  change execCaptureWindowClose s = _
  rw [execCaptureWindowClose, s.live_of _ hl, hr]
  rfl

/-- FURROW_IN_EDGE at or after the decision's clk: the decision is taken first, and the edge is of the next window. -/
theorem exec_furrowInEdge_late (hl : s.dev.power.porst = true) (hr : s.tb.realign = false) {clk : Nat}
    (hnow : s.tb.offset ≤ clk) (hlate : s.tb.len - 78125 ≤ clk) (hlen : clk < s.tb.len) :
    exec (.furrowInEdge clk) s = .next (edgeAt s.passDecision clk) := by
  have hdec : s.tb.decisionClk ≤ clk := hlate
  change execFurrowInEdge clk s = _
  rw [execFurrowInEdge, s.live_of _ hl, if_pos ⟨hnow, hlen⟩, if_pos ⟨hdec, by simp [hr]⟩]

end

/-- Settles O13: both commands leave the device that the closing of the window makes; an edge that closes the window is the
first of the next one and raises nothing of its own. -/
theorem slipIsCountedAndRaised : Obligations.SlipIsCountedAndRaised := by
  intro s c e hset hr hd hedge he hc hl
  have hpass := State.passDecision_of_window hr hd
  have hslip {t : State} (ht : t.dev = s.passDecision.dev) :=
    raised_and_counted_of_slip (s.tb.goto s.tb.decisionClk) hset hedge he (ht.trans (congrArg State.dev hpass))
  rcases hc with rfl | ⟨clk, rfl, hnow, hlate, hlen⟩
  · exact ⟨_, exec_captureWindowClose hl hr, hslip rfl⟩
  · have hnone : s.passDecision.tb.edge = none := by rw [hpass]; rfl
    exact ⟨_, exec_furrowInEdge_late hl hr hnow hlate hlen, hslip (edgeAt_dev hnone clk)⟩

end Sys2Proof.Machine
end

section
/-! PROOFS of what every command leaves: the queue, the furrow, its events taken, and nothing of a device in reset. -/
namespace Sys2Proof.Machine

/-! ### What a command within a furrow does to the timebase -/

/-- A timebase is of the same furrow as another, and within its invariant where that one is. -/
structure Timebase.Within (a b : Timebase) : Prop where
  number : b.number = a.number
  st : b.st = a.st
  len : b.len = a.len
  realign : b.realign = a.realign
  srcForce : b.srcForce = a.srcForce
  holdCount : b.holdCount = a.holdCount
  inv : a.Inv → b.Inv

/-- The invariant of a timebase is kept in another, perhaps of another furrow. -/
def Timebase.Keeps (a b : Timebase) : Prop := a.Inv → b.Inv

theorem Timebase.Within.refl (a : Timebase) : a.Within a := ⟨rfl, rfl, rfl, rfl, rfl, rfl, id⟩

theorem Timebase.Within.trans {a b c : Timebase} (h : a.Within b) (g : b.Within c) : a.Within c :=
  ⟨g.number.trans h.number, g.st.trans h.st, g.len.trans h.len, g.realign.trans h.realign, g.srcForce.trans h.srcForce,
    g.holdCount.trans h.holdCount, g.inv ∘ h.inv⟩

theorem Timebase.Within.of_eq {a b : Timebase} (h : b = a) : a.Within b := h ▸ .refl a

section
variable (tb : Timebase)

/-- A furrow holds the capture window that ends it (R32), a realignment furrow too (R40). -/
theorem Timebase.Inv.window_le_len {tb : Timebase} (h : tb.Inv) : 78125 ≤ tb.len := by
  cases hr : tb.realign with
  | false => rw [h.normal hr]; decide
  | true => exact (h.shifted hr).1

/-- The point of the timebase moved within the furrow. -/
theorem Timebase.within_offset {o : Nat} (ho : tb.Inv → o < tb.len) : tb.Within { tb with offset := o } :=
  ⟨rfl, rfl, rfl, rfl, rfl, rfl, fun h => { h with inside := ho h }⟩

theorem Timebase.within_goto {n : Nat} (hn : tb.Inv → n < tb.len) : tb.Within (tb.goto n) :=
  tb.within_offset fun h => Nat.max_lt.mpr ⟨h.inside, hn h⟩

/-- R526: a point of a furrow of normal length lies in a realignment furrow too, from the end of the shortest on. -/
theorem Timebase.Inv.point_lt {tb : Timebase} (h : tb.Inv) {n : Nat} (hn : n < 156250) : tb.point n < tb.len := by
  unfold Timebase.point furrowLen
  cases hr : tb.realign with
  | false => simpa [h.normal hr] using hn
  | true =>
    have := h.window_le_len
    simp only [if_true]
    omega

/-! ### The decision of a furrow (R35, R41) -/

theorem phaseOk_of_near {e : Int} (h : e.natAbs ≤ 2) : phaseOk e := by
  unfold phaseOk; omega

theorem windowResult_eq_slip {o : Option Int} {e : Int} (h : windowResult o = .slip e) : o = some e := by
  unfold windowResult at h
  split at h
  · cases h
  · split at h
    · cases h
    · cases h; rfl

/-- R35: the decisions that the rows of a state allow. -/
inductive Timebase.Allows : Decision → Prop
  | unlock : Timebase.Allows (stay .unlocked)
  | realign (e : Int) (he : tb.edge = some e) : Timebase.Allows ⟨.unlocked, some e⟩
  | steady (st : TbState) (hs : tb.st = .locked ∨ tb.st = .holdover) (hst : st ≠ .relock) : Timebase.Allows (stay st)
  | begins (hs : tb.st = .unlocked) : Timebase.Allows (stay .relock)
  | relocks (st : TbState) (hs : tb.st = .relock) : Timebase.Allows (stay st)

/-- The decision of a window that closes is one that the furrow's state allows. -/
theorem Timebase.allows_decideState : tb.Allows (decideState tb) := by
  unfold decideState
  dsimp only
  split
  · exact .unlock
  split
  · exact .unlock
  split
  case h_1 hs => split <;> exact .steady _ (.inl hs) (by decide)
  case h_2 hs =>
    split
    · exact .steady _ (.inr hs) (by decide)
    · next e hw =>
      split
      · exact .realign e (windowResult_eq_slip hw)
      · split <;> exact .steady _ (.inr hs) (by decide)
    · split <;> exact .steady _ (.inr hs) (by decide)
  case h_3 hs =>
    split
    · next e he =>
      split
      · split
        · exact .begins hs
        · exact .realign e he
      · exact .unlock
    · exact .unlock
  case h_4 hs =>
    split
    · split
      · split <;> exact .relocks _ hs
      · exact .unlock
    all_goals exact .unlock

theorem Timebase.Allows.realign_eq {tb : Timebase} {d : Decision} (h : tb.Allows d) {e : Int} (he : d.realign = some e) :
    tb.edge = some e := by
  cases h with
  | realign f hf => cases he; exact hf
  | _ => cases he

theorem Timebase.Allows.moves {tb : Timebase} {d : Decision} (h : tb.Allows d) :
    (tb.st = .unlocked → d.st = .unlocked ∨ d.st = .relock) ∧ (tb.st = .locked ∨ tb.st = .holdover → d.st ≠ .relock) := by
  cases h with
  | unlock => exact ⟨fun _ => .inl rfl, fun _ => by simp [stay]⟩
  | realign e _ => exact ⟨fun _ => .inl rfl, fun _ => by simp⟩
  | steady st hs hst => exact ⟨fun hu => by simp [hu] at hs, fun _ => hst⟩
  | begins hs => exact ⟨fun _ => .inr rfl, fun hl => by simp [hs] at hl⟩
  | relocks st hs => exact ⟨fun hu => by simp [hs] at hu, fun hl => by simp [hs] at hl⟩

/-- R32, R35: the closing of the window of a furrow that is no realignment furrow. -/
theorem Timebase.within_closeWindow (hr : tb.realign = false) : tb.Within tb.closeWindow := by
  refine ⟨rfl, rfl, rfl, rfl, rfl, rfl, fun h => ?_⟩
  have ha := tb.allows_decideState
  exact { h with
    relock := by
      change nextRelock tb _ ≤ 4
      unfold nextRelock
      split
      · omega
      · exact h.relock
    edge := fun e he => by cases he
    decided := fun d hd e he => by cases hd; exact ⟨h.edge e (ha.realign_eq he), hr⟩
    cand := fun hd => by cases hd
    moves := fun d hd => by cases hd; exact ha.moves }

/-- R41: the decision of a realignment furrow, which is UNLOCKED. -/
theorem Timebase.within_realignDecide (hr : tb.realign = true) : tb.Within tb.realignDecide := by
  refine ⟨rfl, rfl, rfl, rfl, rfl, rfl, fun h => ?_⟩
  have hu := (h.shifted hr).2.2
  exact { h with
    decided := fun d hd e he => by cases hd; cases he
    cand := fun hd => by cases hd
    moves := fun d hd => by
      cases hd
      refine ⟨fun _ => ?_, fun hl => ?_⟩
      · unfold stay
        dsimp only
        split <;> simp
      · change tb.st = _ ∨ tb.st = _ at hl
        simp [hu] at hl }

/-- R27: the loss of REFCLK is no matter of the furrow's invariant. -/
theorem Timebase.within_refLoss : tb.Within tb.refLoss := ⟨rfl, rfl, rfl, rfl, rfl, rfl, fun h => { h with }⟩

/-- R30: a number may wait while UNLOCKED. -/
theorem Timebase.within_setPending {p : Bool} (hp : p = true → tb.setPending = true ∨ tb.st = .unlocked) :
    tb.Within { tb with setPending := p } :=
  ⟨rfl, rfl, rfl, rfl, rfl, rfl, fun h => { h with setting := fun hs => (hp hs).elim h.setting id }⟩

/-- R40, R42: the boundary begins a furrow within the invariant. -/
theorem Timebase.keeps_boundary (host : Bool) (furSet : W48) : tb.Keeps (tb.boundary host furSet) := by
  intro h
  have hlen : 78125 ≤ tb.beginLen ∧ tb.beginLen < 234375 ∧ (tb.decision.realign = none → tb.beginLen = 156250) := by
    unfold Timebase.beginLen Timebase.decision furrowLen
    cases hd : tb.decided with
    | none => simp [stay]
    | some d =>
      cases he : d.realign with
      | none => simp [he]
      | some e =>
        obtain ⟨hlo, hhi⟩ := (h.decided d hd e he).1
        simp only [Option.getD_some, he]
        exact ⟨by omega, by omega, nofun⟩
  exact {
    inside := by change 0 < tb.beginLen; omega
    normal := fun hr => hlen.2.2 (by simpa [Timebase.boundary] using hr)
    shifted := fun hr => ⟨hlen.1, hlen.2.1, by
      change tb.decision.realign.isSome = true at hr
      simp [Timebase.boundary, Timebase.beginState, hr]⟩
    hold := by
      simp only [Timebase.boundary]
      split <;> omega
    relock := by
      simp only [Timebase.boundary]
      split <;> omega
    setting := fun hs => by cases hs
    edge := fun e he => by
      simp only [Timebase.boundary] at he
      split at he
      · cases he
      · exact h.edge e he
    decided := fun d hd => by cases hd
    cand := fun _ hs => by simp only [Timebase.boundary] at hs ⊢; simp [hs]
    moves := fun d hd => by cases hd }

end

/-- The timebase after a cold reset is within its invariant. -/
theorem inv_reset : State.reset.tb.Inv where
  inside := by decide
  normal := fun _ => rfl
  shifted := fun h => by cases h
  hold := by decide
  relock := by decide
  setting := fun h => by cases h
  edge := fun e h => by cases h
  decided := fun d h => by cases h
  cand := fun _ _ => rfl
  moves := fun d h => by cases h

/-! ### What a command leaves -/

/-- What a command leaves: the timebase in a relation to the one it found, the queue, and no event that was not taken. -/
structure State.Leaves (R : Timebase → Timebase → Prop) (s t : State) : Prop where
  tb : R s.tb t.tb
  pending : t.pending = s.pending
  settled : s.settled → t.settled

theorem State.Leaves.keeps {s t : State} (h : s.Leaves Timebase.Within t) : s.Leaves Timebase.Keeps t :=
  ⟨h.tb.inv, h.pending, h.settled⟩

section
variable {Rel : Timebase → Timebase → Prop} (s : State)

theorem State.settled_flushed : s.flushed.settled := Device.flush_raised _ _

/-- Nothing done is nothing changed. -/
theorem State.leaves_refl : s.Leaves Timebase.Within s := ⟨.refl _, rfl, id⟩

/-- A command that a device in reset does not take (R514). -/
theorem State.leaves_live {g : State → State} (hr : s.Leaves Rel s) (hg : s.Leaves Rel (g s)) : s.Leaves Rel (s.live g) := by
  unfold State.live
  split
  · exact hg
  · exact hr

theorem State.leaves_onPins (f : Timebase → Device → Device) : s.Leaves Timebase.Within (s.onPins f) :=
  ⟨.refl _, rfl, fun _ => Device.flush_raised _ _⟩

theorem State.leaves_onDev (f : Timebase → Device → Device) : s.Leaves Timebase.Within (s.onDev f) :=
  s.leaves_live s.leaves_refl (s.leaves_onPins f)

theorem State.leaves_onAon (f : Timebase → Device → Device) : s.Leaves Timebase.Within (s.onAon f) :=
  s.leaves_live s.leaves_refl ⟨.refl _, rfl, fun _ => Device.flush_raised _ _⟩

theorem State.leaves_onReg (f : Timebase → Device → Device) : s.Leaves Timebase.Within (s.onReg f) := by
  unfold State.onReg
  split
  · exact s.leaves_live s.leaves_refl ⟨.refl _, rfl, id⟩
  · exact s.leaves_onAon f

/-- A command at a point of the furrow (R526). -/
theorem State.leaves_atPoint {n : Nat} (f : Timebase → Device → Device) (hn : s.tb.Inv → n < s.tb.len) :
    s.Leaves Timebase.Within (s.atPoint n f) :=
  s.leaves_live s.leaves_refl ⟨s.tb.within_goto hn, rfl, fun _ => Device.flush_raised _ _⟩

/-- A command whose events are taken at its end. -/
theorem State.leaves_flushed {t : State} (htb : Rel s.tb t.tb) (hq : t.pending = s.pending) : s.Leaves Rel t.flushed :=
  ⟨htb, hq, fun _ => t.settled_flushed⟩

/-! ### The commands of the timebase -/

/-- The decision, where the furrow has not decided (R35, R41). -/
theorem State.leaves_passDecision : s.Leaves Timebase.Within s.passDecision := by
  unfold State.passDecision
  split
  · exact s.leaves_refl
  · have hgo : s.tb.Within (s.tb.goto s.tb.decisionClk) := s.tb.within_goto fun h => by
      have := h.window_le_len
      unfold Timebase.decisionClk
      omega
    dsimp only
    split
    · next hr => exact ⟨hgo.trans (Timebase.within_realignDecide _ hr), rfl, id⟩
    · next hr =>
      exact ⟨hgo.trans (Timebase.within_closeWindow _ (by simpa using hr)), rfl, fun _ => Device.flush_raised _ _⟩

/-- R32: the phase error of an edge lies in the window, of its own boundary or of the next. -/
theorem Timebase.Inv.phaseOk_edgeError {tb : Timebase} (h : tb.Inv) {o : Nat} (ho : o < tb.len) {e : Int}
    (he : tb.edgeError o = some e) : phaseOk e := by
  have hw := h.window_le_len
  unfold Timebase.edgeError Timebase.decisionClk at he
  unfold phaseOk
  split at he
  · split at he
    · cases he
    · cases he; omega
  · split at he
    · cases he
    · next hr =>
      have := h.normal (by simpa using hr)
      cases he
      omega

theorem State.leaves_edgeAt {o : Nat} (ho : o < s.tb.len) : s.Leaves Timebase.Within (edgeAt s o) := by
  have hoff := s.tb.within_offset (o := o) fun _ => ho
  unfold edgeAt
  generalize he : Timebase.edgeError { s.tb with offset := o } o = err
  generalize { s.tb with offset := o } = tb at hoff he
  cases err with
  | none => exact ⟨hoff, rfl, id⟩
  | some e =>
    unfold edgeOn
    dsimp only
    split
    · exact ⟨hoff, rfl, fun _ => Device.flush_raised _ _⟩
    · refine ⟨hoff.trans ⟨rfl, rfl, rfl, rfl, rfl, rfl, fun h => { h with edge := fun f hf => ?_ }⟩, rfl, id⟩
      cases hf
      exact h.phaseOk_edgeError (hoff.len ▸ ho) he

/-! ### Register space and host accesses -/

/-- A read moves the timebase by no more than FUR_OFFSET_CAP (R48). -/
theorem regReadPart_within (a : Nat) :
    s.tb.Within (regReadPart a s).tb ∧ (regReadPart a s).pending = s.pending := by
  unfold regReadPart
  dsimp only
  split
  · exact ⟨.refl _, rfl⟩
  · split
    · exact ⟨.refl _, rfl⟩
    · split
      · exact ⟨⟨rfl, rfl, rfl, rfl, rfl, rfl, fun h => { h with }⟩, rfl⟩
      · exact ⟨.refl _, rfl⟩

theorem State.leaves_regRead (a : Nat) : s.Leaves Timebase.Within (regRead a s) :=
  s.leaves_live s.leaves_refl (s.leaves_flushed (regReadPart_within s a).1 (regReadPart_within s a).2)

/-- R30: SET_APPLY. -/
theorem setApply_cases : (setApply s).pending = s.pending ∧ ((setApply s).tb = s.tb ∨
    s.tb.srcForce = true ∧ s.tb.st = .unlocked ∧ (setApply s).tb = { s.tb with setPending := true }) := by
  unfold setApply
  split
  · next h => exact ⟨rfl, .inr (by simpa using h)⟩
  · exact ⟨rfl, .inl rfl⟩

/-- What a register write does to the timebase: nothing, SET_APPLY (R30), or, of PWR_CTRL alone, a cold reset (R477). -/
theorem regWritePart_cases (a v : Nat) : (regWritePart a v s).pending = s.pending ∧ ((regWritePart a v s).tb = s.tb ∨
    (s.tb.srcForce = true ∧ s.tb.st = .unlocked ∧ (regWritePart a v s).tb = { s.tb with setPending := true }) ∨
    ((regDesc a).isSome ∧ a = R.PWR_CTRL ∧ (regWritePart a v s).tb = State.reset.tb)) := by
  unfold regWritePart
  dsimp only
  split
  · exact ⟨rfl, .inl rfl⟩
  split
  · exact ⟨rfl, .inl rfl⟩
  next r hr =>
  split
  · exact ⟨rfl, .inl rfl⟩
  split
  · next h =>
    simp only [Bool.and_eq_true, beq_iff_eq] at h
    exact ⟨rfl, .inr (.inr ⟨by simp [hr], h.1.1, rfl⟩)⟩
  split
  · split
    · obtain ⟨hq, h⟩ := setApply_cases (State.onPart { s with dev := s.dev.dropPend }
        (fun _ d => act 7 (v % 2 ^ 32) (fun d => d.clear furCounters) (furSourceWrite (bits 0 0 (v % 2 ^ 32)) d)))
      exact ⟨hq, h.imp id .inl⟩
    · exact ⟨rfl, .inl rfl⟩
  · exact ⟨rfl, .inl rfl⟩

theorem regWritePart_keeps (a v : Nat) : s.tb.Keeps (regWritePart a v s).tb := by
  intro h
  rcases (regWritePart_cases s a v).2 with e | ⟨-, hu, e⟩ | ⟨-, -, e⟩ <;> rw [e]
  · exact h
  · exact (s.tb.within_setPending fun _ => .inr hu).inv h
  · exact inv_reset

/-- A register write that is none of PWR_CTRL, or of no register, begins no furrow. -/
theorem regWritePart_within {a : Nat} (v : Nat) (ha : regDesc a = none ∨ a ≠ R.PWR_CTRL) :
    s.tb.Within (regWritePart a v s).tb := by
  rcases (regWritePart_cases s a v).2 with e | ⟨-, hu, e⟩ | ⟨hd, hc, -⟩
  · exact .of_eq e
  · exact e ▸ s.tb.within_setPending fun _ => .inr hu
  · rcases ha with hn | hne
    · simp [hn] at hd
    · exact absurd hc hne

theorem State.leaves_regWrite (a v : Nat) : s.Leaves Timebase.Keeps (regWrite a v s) :=
  s.leaves_live s.leaves_refl.keeps (s.leaves_flushed (regWritePart_keeps s a v) (regWritePart_cases s a v).1)

theorem State.leaves_regWrite_ne {a : Nat} (v : Nat) (ha : regDesc a = none ∨ a ≠ R.PWR_CTRL) :
    s.Leaves Timebase.Within (regWrite a v s) :=
  s.leaves_live s.leaves_refl (s.leaves_flushed (regWritePart_within s v ha) (regWritePart_cases s a v).1)

theorem hostWrite_keeps (a : Nat) (data : List Byte) :
    s.tb.Keeps (hostWrite a data s).tb ∧ (hostWrite a data s).pending = s.pending := by
  unfold hostWrite
  split
  · exact ⟨regWritePart_keeps s a _, (regWritePart_cases s a _).1⟩
  all_goals exact ⟨id, rfl⟩

theorem hostRead_within (tag a n : Nat) (err : Bool) :
    s.tb.Within (hostRead tag a n err s).tb ∧ (hostRead tag a n err s).pending = s.pending := by
  unfold hostRead
  split
  · exact regReadPart_within s a
  all_goals exact ⟨.refl _, rfl⟩

/-! ### The boundary (R42) and the end of Dormant (R473) -/

/-- What the entries of a staging list leave of the timebase that the boundary takes up: a number may wait while UNLOCKED
(R30), and a source of HOST is in force only where the state is the one it was; a cold reset among them leaves neither. -/
def Timebase.StagedFrom (a b : Timebase) : Prop :=
  (b.setPending = true → a.setPending = true ∨ a.st = .unlocked) ∧ (b.srcForce = true → b.st = a.st)

theorem Timebase.StagedFrom.refl (a : Timebase) : a.StagedFrom a := ⟨.inl, fun _ => rfl⟩

theorem regWritePart_stagedFrom {a : Timebase} (k v : Nat) (h : a.StagedFrom s.tb) :
    a.StagedFrom (regWritePart k v s).tb := by
  rcases (regWritePart_cases s k v).2 with e | ⟨hs, hu, e⟩ | ⟨-, -, e⟩ <;> rw [e]
  · exact h
  · exact ⟨fun _ => .inr (h.2 hs ▸ hu), h.2⟩
  · exact ⟨nofun, nofun⟩

theorem applyEntry_stagedFrom {a : Timebase} (e : StgEntry) (lo : Option Nat) {s t : State} (h : a.StagedFrom s.tb)
    (ht : applyEntry e lo s = .ok t) : a.StagedFrom t.tb := by
  have hdev : ∀ o : Option Device, ofDevice s o = .ok t → t.tb = s.tb := fun o ho => by
    cases o with
    | none => cases ho
    | some d => cases ho; rfl
  have hpage : ∀ x : Except Bool Device, ofPages s x = .ok t → t.tb = s.tb := fun x hx => by
    cases x with
    | error f => cases hx
    | ok d => cases hx; rfl
  have hdom : ∀ v, domTarget v s = .ok t → t.tb = s.tb := fun v hv => by
    unfold domTarget at hv
    dsimp only at hv
    repeat' split at hv
    all_goals cases hv
    rfl
  unfold applyEntry at ht
  dsimp only at ht
  split at ht
  · exact hpage _ ht ▸ h
  split at ht
  · cases ht; exact h
  split at ht
  · exact hdev _ ht ▸ h
  split at ht
  · split at ht
    · cases ht; exact h
    · exact hpage _ ht ▸ h
  split at ht
  · exact hdev _ ht ▸ h
  split at ht
  · exact hdom _ ht ▸ h
  · split at ht
    · cases ht
    · cases ht; exact regWritePart_stagedFrom s _ _ h

theorem applyEntries_stagedFrom {a : Timebase} (es : List StgEntry) (lo : Option Nat) {s t : State} (h : a.StagedFrom s.tb)
    (ht : applyEntries es lo s = .ok t) : a.StagedFrom t.tb := by
  induction es generalizing lo s with
  | nil => cases ht; exact h
  | cons e es ih =>
    unfold applyEntries at ht
    split at ht
    · next s' hs => exact ih _ (applyEntry_stagedFrom e lo h hs) ht
    · next hn => exact absurd ht (hn t)

/-- R460 to R462: an attempt of the staging list acts on the timebase by SET_APPLY alone. -/
theorem stagingBoundary_within : s.tb.Within (stagingBoundary s).tb ∧ (stagingBoundary s).pending = s.pending := by
  unfold stagingBoundary
  split
  · exact ⟨.refl _, rfl⟩
  dsimp only
  split
  · exact ⟨.refl _, rfl⟩
  split
  · next t ht =>
    exact ⟨s.tb.within_setPending (applyEntries_stagedFrom _ _ (.refl _) ht).1, rfl⟩
  all_goals exact ⟨.refl _, rfl⟩

theorem stagedFor_within (due : Bool → W48 → Due) (f : W48) :
    s.tb.Within (stagedFor due s f).tb ∧ (stagedFor due s f).pending = s.pending := by
  unfold stagedFor
  dsimp only [State.onPart_tb, State.onPart_pending]
  split
  · exact stagingBoundary_within s
  · exact ⟨.refl _, rfl⟩

theorem stagedFor_foldl_within (due : Bool → W48 → Due) (fs : List W48) (s : State) :
    s.tb.Within (fs.foldl (stagedFor due) s).tb ∧ (fs.foldl (stagedFor due) s).pending = s.pending := by
  induction fs generalizing s with
  | nil => exact ⟨.refl _, rfl⟩
  | cons f fs ih =>
    obtain ⟨hw, hq⟩ := stagedFor_within s due f
    obtain ⟨iw, iq⟩ := ih (stagedFor due s f)
    exact ⟨hw.trans iw, iq.trans hq⟩

/-- R42: steps 2 to 5 begin no furrow. -/
theorem furrowSteps_within (due : Bool → W48 → Due) :
    s.tb.Within (furrowSteps due s).tb ∧ (furrowSteps due s).pending = s.pending := by
  simpa only [furrowSteps, boundaryTwo, State.onPart_tb, State.onPart_pending] using
    stagedFor_foldl_within due _ ((s.onPart boundaryUnits).onPart objectBoundary)

/-- The same, of a state that is another one but for its device. -/
theorem furrowSteps_within_of {s u : State} (due : Bool → W48 → Due) (htb : u.tb = s.tb) (hq : u.pending = s.pending) :
    s.tb.Within (furrowSteps due u).tb ∧ (furrowSteps due u).pending = s.pending := by
  rw [← htb, ← hq]
  exact furrowSteps_within u due

theorem boundaryOne_keeps : s.tb.Keeps (boundaryOne s).tb ∧ (boundaryOne s).pending = s.pending :=
  ⟨s.tb.keeps_boundary _ _, rfl⟩

theorem boundary_keeps (temps powers : List Nat) (seen : List (Nat × Nat)) :
    s.tb.Keeps (boundary temps powers seen s).tb ∧ (boundary temps powers seen s).pending = s.pending := by
  obtain ⟨hone, hq⟩ := boundaryOne_keeps { s with dev := seen.foldl observe s.dev }
  unfold boundary
  simp only [State.onPart_tb, State.onPart_pending]
  generalize boundaryOne { s with dev := seen.foldl observe s.dev } = u at hone hq
  split
  · obtain ⟨hw, hq'⟩ := furrowSteps_within u u.tb.due
    exact ⟨hw.inv ∘ hone, hq'.trans hq⟩
  · exact ⟨hone, hq⟩

theorem wakeDone_within : s.tb.Within (wakeDone s).tb ∧ (wakeDone s).pending = s.pending := by
  unfold wakeDone
  split
  · split
    · exact furrowSteps_within_of _ (State.onPart_tb _ _) (State.onPart_pending _ _)
    · exact ⟨.refl _, rfl⟩
  · exact ⟨.refl _, rfl⟩

theorem State.leaves_wakeDone : s.Leaves Timebase.Within (s.live fun s => (wakeDone s).flushed) := by
  obtain ⟨hw, hq⟩ := wakeDone_within s
  have hl := s.leaves_flushed hw hq
  exact s.leaves_live s.leaves_refl hl

/-- R468: a cold reset. -/
theorem State.leaves_coldReset (high vstby : Bool) (straps : Nat) :
    s.Leaves Timebase.Keeps (coldReset high vstby straps s) :=
  ⟨fun _ => inv_reset, rfl, fun _ => rfl⟩

end
end Sys2Proof.Machine
end

section
/-! PROOFS about every command and every step (R42, R499, R514): each answers a next state and leaves the queue, takes its events,
keeps the invariant of the timebase, and, but for a boundary and a cold reset, stays in its furrow. -/
namespace Sys2Proof.Machine

/-! ### Every command -/

/-- The commands that are writes of registers of the blocks that always respond (R454), but for those of the timebase. -/
def aonWrite : Instr → Bool
  | .furSourceWrite _ | .furCntClr | .evtRingHeadWrite _ | .evtEnableWrite _ | .evtIrqWrite _ | .evtCntClr | .hostRetrain _
  | .hostCntClr | .funcEnable _ | .funcDisable _ _ | .stgArm _ | .stgCancel | .bootClear | .bootData _ | .bootVerify
  | .sleepArm | .sleepCancel | .pwrCntClr | .warmReset | .raiseSvn _ | .revoke _ | .cartReinit _ | .attestGo | .secCntClr => true
  | _ => false

/-- The commands that act on the timebase, on any register, or as the module's pins. -/
def actsByItself : Instr → Bool
  | .regWrite .. | .regUnmappedAccess .. | .regLoRead _ | .regHiRead _ | .regLoWrite .. | .regHiWrite .. | .stagedDirectWrite ..
  | .hwr .. | .hrd .. | .astData0Read | .furrowInEdge _ | .refclkLoss _ | .pllLock | .captureWindowClose | .realignDecision
  | .furrowBoundary .. | .setApply | .time _ | .sowingFreeze | .heartbeatEval | .searchHarvest _ | .landingCutoff | .readRound
  | .wakeDone | .cartInsert .. | .cartPull _ | .porstRelease _ | .porstAssert | .supplyLoss _ | .coldReset | .i3cColdReset => true
  | _ => false

/-- R454: a write of a register of another block, by the command named for it. -/
theorem exec_onReg {c : Instr} (h : romDiscards c = true) : ∃ f, ∀ s, exec c s = .next (s.onReg f) := by
  cases c <;> first | contradiction | exact ⟨_, fun _ => rfl⟩

theorem exec_onAon {c : Instr} (h : aonWrite c = true) : ∃ f, ∀ s, exec c s = .next (s.onAon f) := by
  cases c <;> first | contradiction | exact ⟨_, fun _ => rfl⟩

/-- Every other command is an effect on the device. -/
theorem exec_onDev {c : Instr} (hr : romDiscards c = false) (ha : aonWrite c = false) (h : actsByItself c = false) :
    ∃ f, ∀ s, exec c s = .next (s.onDev f) := by
  cases c <;> first | contradiction | exact ⟨_, fun _ => rfl⟩

theorem isLo_pwrCtrl : isLo R.PWR_CTRL = false := by decide
theorem isHi_pwrCtrl : isHi R.PWR_CTRL = false := by decide
theorem stagedReg_pwrCtrl : stagedReg R.PWR_CTRL = false := by decide

/-- A register that another register is not, by what a check says of the two. -/
theorem ne_of_check {f : Nat → Bool} {a b : Nat} (ha : f a = true) (hb : f b = false) : a ≠ b := by
  rintro rfl
  simp [ha] at hb

/-- R34: the commands of the timebase and of registers that begin no furrow. -/
theorem exec_within_of_actsByItself {c : Instr} (s : State) (ho : actsByItself c = true) (hc : startsFurrow c = false) :
    ∃ t, exec c s = .next t ∧ s.Leaves Timebase.Within t := by
  cases c with
  | furrowBoundary | porstRelease | porstAssert | supplyLoss | coldReset | i3cColdReset | hwr => cases hc
  | regWrite a v => exact ⟨_, rfl, s.leaves_regWrite_ne v (.inr (by simpa [startsFurrow] using hc))⟩
  | regUnmappedAccess a write =>
    refine ⟨_, rfl, ?_⟩
    split
    · exact s.leaves_refl
    · next hn =>
      split
      · exact s.leaves_regWrite_ne 0 (.inl (by simpa using hn))
      · exact s.leaves_regRead a
  | regLoRead a | regHiRead a =>
    refine ⟨_, rfl, ?_⟩
    split
    · exact s.leaves_regRead a
    · exact s.leaves_refl
  | regLoWrite a v =>
    refine ⟨_, rfl, ?_⟩
    split
    · next ha => exact s.leaves_regWrite_ne v (.inr (ne_of_check ha isLo_pwrCtrl))
    · exact s.leaves_refl
  | regHiWrite a v =>
    refine ⟨_, rfl, ?_⟩
    split
    · next ha => exact s.leaves_regWrite_ne v (.inr (ne_of_check ha isHi_pwrCtrl))
    · exact s.leaves_refl
  | stagedDirectWrite a v =>
    refine ⟨_, rfl, ?_⟩
    split
    · next ha =>
      exact s.leaves_regWrite_ne v (.inr (ne_of_check (f := fun a => stagedReg a || a == R.STORE_SET_WIDE_LO) ha
        (by rw [stagedReg_pwrCtrl]; rfl)))
    · exact s.leaves_refl
  | hrd tag a n err =>
    refine ⟨_, rfl, s.leaves_live s.leaves_refl ?_⟩
    split
    · exact s.leaves_flushed (hostRead_within s tag a n err).1 (hostRead_within s tag a n err).2
    · exact s.leaves_refl
  | astData0Read =>
    refine ⟨_, rfl, ?_⟩
    split
    · exact s.leaves_live s.leaves_refl ⟨.refl _, rfl, id⟩
    · exact s.leaves_onAon _
  | furrowInEdge clk =>
    refine ⟨_, rfl, s.leaves_live s.leaves_refl ?_⟩
    split
    · next h =>
      split
      · have hp := s.leaves_passDecision
        have he := s.passDecision.leaves_edgeAt (o := clk) (hp.tb.len ▸ h.2)
        exact ⟨hp.tb.trans he.tb, he.pending.trans hp.pending, he.settled ∘ hp.settled⟩
      · exact s.leaves_edgeAt h.2
    · exact s.leaves_refl
  | refclkLoss clk =>
    refine ⟨_, rfl, s.leaves_live s.leaves_refl ?_⟩
    split
    · next h => exact ⟨(s.tb.within_offset fun _ => h.2).trans (Timebase.within_refLoss _), rfl, fun _ => Device.flush_raised _ _⟩
    · exact s.leaves_refl
  | pllLock =>
    exact ⟨_, rfl, s.leaves_live s.leaves_refl ⟨⟨rfl, rfl, rfl, rfl, rfl, rfl, fun h => { h with }⟩, rfl, id⟩⟩
  | captureWindowClose =>
    refine ⟨_, rfl, s.leaves_live s.leaves_refl ?_⟩
    split
    · exact s.leaves_refl
    · exact s.leaves_passDecision
  | realignDecision =>
    refine ⟨_, rfl, s.leaves_live s.leaves_refl ?_⟩
    split
    · exact s.leaves_passDecision
    · exact s.leaves_refl
  | setApply =>
    refine ⟨_, rfl, s.leaves_live s.leaves_refl ?_⟩
    obtain ⟨hq, h⟩ := setApply_cases { s with dev := s.dev.dropPend }
    refine s.leaves_flushed ?_ hq
    rcases h with h | ⟨-, hu, h⟩
    · exact .of_eq h
    · exact h ▸ s.tb.within_setPending fun _ => .inr hu
  | time pkt =>
    refine ⟨_, rfl, s.leaves_live s.leaves_refl ?_⟩
    have hp := s.leaves_onPins (brxReceive 1 pkt (fun _ d => d))
    dsimp only
    split
    · exact ⟨hp.tb.trans ⟨rfl, rfl, rfl, rfl, rfl, rfl, fun h => { h with }⟩, hp.pending, hp.settled⟩
    · exact hp
  | sowingFreeze => exact ⟨_, rfl, s.leaves_atPoint _ fun h => h.point_lt (by decide)⟩
  | heartbeatEval => exact ⟨_, rfl, s.leaves_atPoint _ fun h => h.point_lt (by decide)⟩
  | searchHarvest shard => exact ⟨_, rfl, s.leaves_atPoint _ fun h => h.point_lt (by split <;> decide)⟩
  | landingCutoff =>
    exact ⟨_, rfl, s.leaves_atPoint _ fun h => by have := h.window_le_len; omega⟩
  | readRound =>
    refine ⟨_, rfl, ?_⟩
    split
    · next n hn =>
      refine s.leaves_atPoint _ fun h => ?_
      have := h.inside
      unfold roundPoint at hn
      repeat' split at hn
      all_goals simp_all
      omega
    · exact s.leaves_refl
  | wakeDone =>
    exact ⟨_, rfl, s.leaves_wakeDone⟩
  | cartInsert | cartPull => exact ⟨_, rfl, s.leaves_onPins _⟩
  | _ => cases ho

/-- R34: a command that begins no furrow leaves the furrow and the queue. -/
theorem exec_within (c : Instr) (s : State) (hc : startsFurrow c = false) :
    ∃ t, exec c s = .next t ∧ s.Leaves Timebase.Within t := by
  cases ho : actsByItself c with
  | true => exact exec_within_of_actsByItself s ho hc
  | false =>
    cases hr : romDiscards c with
    | true =>
      obtain ⟨f, hf⟩ := exec_onReg hr
      exact ⟨_, hf s, s.leaves_onReg f⟩
    | false =>
      cases ha : aonWrite c with
      | true =>
        obtain ⟨f, hf⟩ := exec_onAon ha
        exact ⟨_, hf s, s.leaves_onAon f⟩
      | false =>
        obtain ⟨f, hf⟩ := exec_onDev hr ha ho
        exact ⟨_, hf s, s.leaves_onDev f⟩

/-- Every command keeps the invariant of the timebase, leaves the queue, and takes its events. -/
theorem exec_keeps (c : Instr) (s : State) : ∃ t, exec c s = .next t ∧ s.Leaves Timebase.Keeps t := by
  cases hc : startsFurrow c with
  | false => exact (exec_within c s hc).imp fun t h => ⟨h.1, h.2.keeps⟩
  | true =>
    cases c with
    | regWrite a v => exact ⟨_, rfl, s.leaves_regWrite a v⟩
    | hwr a data =>
      refine ⟨_, rfl, s.leaves_live s.leaves_refl.keeps ?_⟩
      split
      · exact s.leaves_flushed (hostWrite_keeps s a data).1 (hostWrite_keeps s a data).2
      · exact s.leaves_refl.keeps
    | furrowBoundary temps powers seen =>
      exact ⟨_, rfl, s.leaves_live s.leaves_refl.keeps
        (s.leaves_flushed (boundary_keeps s temps powers seen).1 (boundary_keeps s temps powers seen).2)⟩
    | porstAssert | supplyLoss => exact ⟨_, rfl, s.leaves_coldReset ..⟩
    | coldReset | i3cColdReset => exact ⟨_, rfl, s.leaves_live s.leaves_refl.keeps (s.leaves_coldReset ..)⟩
    | porstRelease straps =>
      refine ⟨_, rfl, ?_⟩
      split
      · exact s.leaves_refl.keeps
      · exact s.leaves_coldReset ..
    | _ => cases hc

/-! ### A device in reset (R514) -/

section
variable (s : State) (f : Timebase → Device → Device) (h : s.dev.power.porst = false)
include h

theorem State.onDev_off : s.onDev f = s := s.live_off _ h

theorem State.onAon_off : s.onAon f = s := s.live_off _ h

theorem State.onReg_off : s.onReg f = s := by
  unfold State.onReg
  split
  · exact s.live_off _ h
  · exact s.onAon_off f h

end

/-- While PORST_N is low no command but those of the supplies and pins changes anything. -/
theorem exec_off {c : Instr} {s : State} (h : s.dev.power.porst = false) (hp : pinCommand c = false) : exec c s = .next s := by
  cases ho : actsByItself c with
  | false =>
    cases hr : romDiscards c with
    | true =>
      obtain ⟨f, hf⟩ := exec_onReg hr
      rw [hf, s.onReg_off f h]
    | false =>
      cases ha : aonWrite c with
      | true =>
        obtain ⟨f, hf⟩ := exec_onAon ha
        rw [hf, s.onAon_off f h]
      | false =>
        obtain ⟨f, hf⟩ := exec_onDev hr ha ho
        rw [hf, s.onDev_off f h]
  | true =>
    have hlive : ∀ g, Host.Outcome.next (φ := Fault) (ρ := Refusal) (s.live g) = .next s := fun g => congrArg _ (s.live_off g h)
    cases c with
    | cartInsert | cartPull | porstRelease | porstAssert | supplyLoss => cases hp
    | regWrite | hwr | hrd | furrowInEdge | refclkLoss | pllLock | captureWindowClose | realignDecision | furrowBoundary
      | setApply | time | sowingFreeze | heartbeatEval | searchHarvest | landingCutoff | wakeDone | coldReset | i3cColdReset =>
      exact hlive _
    | regUnmappedAccess a write =>
      refine congrArg Host.Outcome.next (?_ : (_ : State) = s)
      split
      · rfl
      · split <;> exact s.live_off _ h
    | regLoRead a | regHiRead a | regLoWrite a v | regHiWrite a v | stagedDirectWrite a v =>
      refine congrArg Host.Outcome.next (?_ : (_ : State) = s)
      split
      · exact s.live_off _ h
      · rfl
    | astData0Read =>
      refine congrArg Host.Outcome.next (?_ : (_ : State) = s)
      split <;> exact s.live_off _ h
    | readRound =>
      refine congrArg Host.Outcome.next (?_ : (_ : State) = s)
      split
      · exact s.live_off _ h
      · rfl
    | _ => cases ho

/-! ### The statements -/

/-- Settles O8: a step is the command at the front of the queue, or one clk of the furrow. -/
theorem stepKeepsTimebaseInvariant : Obligations.StepKeepsTimebaseInvariant := by
  intro s t hinv hstep
  unfold step at hstep
  split at hstep
  · cases hstep
    unfold State.tick
    split
    · next h => exact (s.tb.within_offset fun _ => h).inv hinv
    · exact hinv
  · next c rest _ =>
    obtain ⟨u, hu, hk⟩ := exec_keeps c { s with pending := rest }
    cases hu.symm.trans hstep
    exact hk.tb hinv

/-- Settles O9: every other command leaves a timebase of the same furrow. -/
theorem onlyBoundaryAndResetChangeTheFurrow : Obligations.OnlyBoundaryAndResetChangeTheFurrow := by
  intro c s t hexec hc
  obtain ⟨u, hu, hw⟩ := exec_within c s hc
  cases hu.symm.trans hexec
  exact ⟨hw.tb.number, hw.tb.st, hw.tb.len, hw.tb.realign, hw.tb.srcForce, hw.tb.holdCount⟩

/-- Settles O3. -/
theorem everyCommandAnswersNextState : Obligations.EveryCommandAnswersNextState :=
  ⟨fun c s => (exec_keeps c s).imp fun _ h => ⟨h.1, h.2.pending⟩, fun _ s h hp => ⟨s, exec_off h hp, rfl⟩⟩

/-- Settles O4. -/
theorem everyStepTakesItsEvents : Obligations.EveryStepTakesItsEvents := by
  intro s t hs hstep
  unfold step at hstep
  split at hstep
  · cases hstep
    unfold State.tick
    split <;> exact hs
  · next c rest _ =>
    obtain ⟨u, hu, hk⟩ := exec_keeps c { s with pending := rest }
    cases hu.symm.trans hstep
    exact hk.settled hs

/-- Settles O1: the definition of a step. -/
theorem stepTakesTheFrontCommand : Obligations.StepTakesTheFrontCommand := by
  intro s c rest h
  rw [step, h]

/-- Settles O2: a clk passes where it is not the furrow's last. -/
theorem idleStepPassesOneClk : Obligations.IdleStepPassesOneClk := by
  intro s h
  have hstep : step s = .next s.tick := by rw [step, h]
  refine ⟨fun hlt => ?_, fun hle => ?_⟩
  · rw [hstep, State.tick, if_pos hlt]
  · rw [hstep, State.tick, if_neg (by omega)]

/-- Settles O7. -/
theorem resetTimebaseInvariant : Obligations.ResetTimebaseInvariant := inv_reset

/-- Settles O5: the parts of the state after reset; of the domains, each is decided. -/
theorem resetIsUnlockedAndEmpty : Obligations.ResetIsUnlockedAndEmpty :=
  ⟨rfl, rfl, rfl, rfl, by decide, fun _ => rfl, rfl, rfl, rfl⟩

end Sys2Proof.Machine
end

section
/-! PROOFS of frames: which parts and registers of the device an effect may change, step by step of the effect. -/
namespace Sys2Proof.Machine

/-! ### Reset values and keys -/

theorem regIndex_rst_lt : ∀ r ∈ regIndex, r.rst < 2 ^ 32 := by decide +kernel

/-- Every reset value is a word. -/
theorem regRst_lt (a : Nat) : regRst a < 2 ^ 32 := by
  unfold regRst
  split
  · next r h => exact regIndex_rst_lt r (List.mem_of_find?_eq_some h)
  · decide

/-- A field that was written holds what fits of the value. -/
theorem fld_setFld (d : Device) (k : Nat) {hi lo : Nat} (h : lo ≤ hi) (h32 : hi < 32) (v : Nat) :
    (d.setFld k hi lo v).fld k hi lo = v % 2 ^ (hi - lo + 1) := fld_setFld_self d h h32 v (regRst_lt _)

/-- Registers of different offsets stand under different keys, whichever is selected. -/
theorem inst_ne {a b : Nat} (n : Nat) (h : a % 2 ^ 32 ≠ b % 2 ^ 32) : inst a n ≠ b := by
  rintro rfl
  exact h (by simp [inst])

/-! ### The parts of the device -/

/-- A device with one part taken from another. -/
def DevPart.put (b a : Device) : DevPart → Device
  | .regs => { a with regs := b.regs }
  | .port => { a with port := b.port }
  | .ev => { a with ev := b.ev }
  | .out => { a with out := b.out }
  | .mem => { a with mem := b.mem }
  | .store => { a with store := b.store }
  | .plots => { a with plots := b.plots }
  | .qm => { a with qm := b.qm }
  | .host => { a with host := b.host }
  | .flash => { a with flash := b.flash }
  | .power => { a with power := b.power }
  | .sec => { a with sec := b.sec }
  | .sieve => { a with sieve := b.sieve }
  | .brx => { a with brx := b.brx }
  | .gath => { a with gath := b.gath }
  | .text => { a with text := b.text }
  | .esp => { a with esp := b.esp }
  | .pasm => { a with pasm := b.pasm }
  | .seq => { a with seq := b.seq }
  | .free => { a with freeCount := b.freeCount }

/-- A device with some parts taken from another. -/
def Device.merge (ps : List DevPart) (b a : Device) : Device := ps.foldl (DevPart.put b) a

theorem DevPart.same_refl (p : DevPart) (a : Device) : p.same a a := by cases p <;> rfl

theorem DevPart.same_trans {p : DevPart} {a b c : Device} (h : p.same a b) (g : p.same b c) : p.same a c := by
  cases p <;> exact Eq.trans g h

theorem DevPart.same_put {p q : DevPart} (h : p ≠ q) (b a : Device) : p.same a (q.put b a) := by
  cases q <;> cases p <;> first | exact absurd rfl h | rfl

theorem DevPart.same_merge {p : DevPart} {ps : List DevPart} (h : p ∉ ps) (b a : Device) : p.same a (Device.merge ps b a) := by
  induction ps generalizing a with
  | nil => exact p.same_refl a
  | cons q ps ih =>
    exact DevPart.same_trans (DevPart.same_put (List.ne_of_not_mem_cons h) b a) (ih (List.not_mem_of_not_mem_cons h) _)

/-! ### What an effect on the device may change -/

/-- Of a device only the parts `ps`, the registers `ks` and the event buffer may differ in another. -/
structure Device.Only (ps : List DevPart) (ks : List Nat) (a b : Device) : Prop where
  regs : ∀ k, k ∉ ks → k ∉ eventRegs → b.reg k = a.reg k
  parts : ∀ p : DevPart, p ∉ ps → p ≠ .regs → p ≠ .ev → p.same a b

section
variable {ps : List DevPart} {ks : List Nat} {a b c : Device}

/-- The parts `qs`, where the register file and the event buffer are among those that may differ. -/
theorem Device.Only.of_merge (qs : List DevPart) (h : b = Device.merge (.regs :: .ev :: qs) b a) (hq : qs ⊆ ps)
    (hk : ∀ k, k ∉ ks → k ∉ eventRegs → b.reg k = a.reg k) : Device.Only ps ks a b where
  regs := hk
  parts p hp hr he := by
    rw [h]
    exact DevPart.same_merge (by simpa [hr, he] using fun hm => hp (hq hm)) b a

/-- No register changes. -/
theorem Device.Only.of_regs (qs : List DevPart) (h : b = Device.merge (.regs :: .ev :: qs) b a) (hq : qs ⊆ ps)
    (hr : b.regs = a.regs) : Device.Only ps ks a b :=
  .of_merge qs h hq fun k _ _ => by simp only [Device.reg, hr]

theorem Device.Only.refl (a : Device) : Device.Only ps ks a a := ⟨fun _ _ _ => rfl, fun p _ _ _ => p.same_refl a⟩

theorem Device.Only.trans (h : Device.Only ps ks a b) (g : Device.Only ps ks b c) : Device.Only ps ks a c :=
  ⟨fun k hk he => (g.regs k hk he).trans (h.regs k hk he),
    fun p hp hr he => DevPart.same_trans (h.parts p hp hr he) (g.parts p hp hr he)⟩

theorem Device.Only.mono {qs : List DevPart} {js : List Nat} (h : Device.Only ps ks a b) (hp : ps ⊆ qs) (hk : ks ⊆ js) :
    Device.Only qs js a b :=
  ⟨fun k hn => h.regs k fun hm => hn (hk hm), fun p hn => h.parts p fun hm => hn (hp hm)⟩

/-- A part that is not among those. -/
theorem Device.Only.part (h : Device.Only ps ks a b) (p : DevPart) (hp : p ∉ ps) (hr : p ≠ .regs := by decide)
    (he : p ≠ .ev := by decide) : p.same a b := h.parts p hp hr he

theorem Device.Only.setReg (h : Device.Only ps ks a b) {k : Nat} (v : Nat) (hk : k ∈ ks) : Device.Only ps ks a (b.setReg k v) :=
  h.trans (.of_merge [] rfl (List.nil_subset _) fun _ hj _ => reg_setReg_ne b v fun e => hj (e ▸ hk))

theorem Device.Only.setFld (h : Device.Only ps ks a b) {k : Nat} (hi lo v : Nat) (hk : k ∈ ks) :
    Device.Only ps ks a (b.setFld k hi lo v) := h.setReg _ hk

theorem Device.Only.incBy (h : Device.Only ps ks a b) {k : Nat} (n : Nat) (hk : k ∈ ks) : Device.Only ps ks a (b.incBy k n) :=
  h.setReg _ hk

theorem Device.Only.inc (h : Device.Only ps ks a b) {k : Nat} (hk : k ∈ ks) : Device.Only ps ks a (b.inc k) := h.incBy 1 hk

theorem Device.Only.raiseReq (h : Device.Only ps ks a b) (r : EventReq) : Device.Only ps ks a (b.raiseReq r) :=
  h.trans (.of_regs [] rfl (List.nil_subset _) rfl)

theorem Device.Only.raise (h : Device.Only ps ks a b) (code : Nat) (pay : List (Nat × Nat)) : Device.Only ps ks a (b.raise code pay) :=
  h.raiseReq _

theorem Device.Only.raiseCtx (h : Device.Only ps ks a b) (code x : Nat) (pay : List (Nat × Nat)) :
    Device.Only ps ks a (b.raiseCtx code x pay) := h.raiseReq _

theorem Device.Only.flush (h : Device.Only ps ks a b) (tb : Timebase) : Device.Only ps ks a (b.flush tb) :=
  ⟨fun k hk he => (reg_flush tb b he).trans (h.regs k hk he),
    fun p hp hr he => DevPart.same_flush tb hr he (h.parts p hp hr he)⟩

theorem Device.Only.dropPend (h : Device.Only ps ks a b) (hp : DevPart.port ∈ ps) : Device.Only ps ks a b.dropPend :=
  h.trans (.of_regs [.port] rfl (by simpa using hp) rfl)

theorem Device.Only.foldl {α : Type} {f : Device → α → Device} (hf : ∀ e x, Device.Only ps ks e (f e x)) (l : List α)
    (h : Device.Only ps ks a b) : Device.Only ps ks a (l.foldl f b) := by
  induction l generalizing b with
  | nil => exact h
  | cons x l ih => exact ih (h.trans (hf b x))

end

section
variable {s : State} {ps : List DevPart} {ks : List Nat} {f : Timebase → Device → Device} (hl : s.dev.power.porst = true)
include hl

/-- A command on the device has the frame of its effect. -/
theorem frame_of_onDev (h : Device.Only ps ks s.dev (f s.tb s.dev)) : s.frame ps ks (s.onDev f) := by
  rw [s.onDev_of f hl]
  exact ⟨rfl, rfl, (h.flush s.tb).regs, (h.flush s.tb).parts⟩

/-- A register write has the frame of its effect, of which the port is part, for a pending _LO write is discarded (R10). -/
theorem frame_of_onAon (hp : .port ∈ ps) (h : Device.Only ps ks s.dev.dropPend (f s.tb s.dev.dropPend)) : s.frame ps ks (s.onAon f) := by
  rw [s.onAon_of f hl]
  have h' := (((Device.Only.refl s.dev).dropPend hp).trans h).flush s.tb
  exact ⟨rfl, rfl, h'.regs, h'.parts⟩

/-- A register write of a block that responds (R454). -/
theorem frame_of_onReg (hph : s.dev.power.phase ≠ .rom) (hp : .port ∈ ps)
    (h : Device.Only ps ks s.dev.dropPend (f s.tb s.dev.dropPend)) : s.frame ps ks (s.onReg f) := by
  rw [s.onReg_of_ne f hph]
  exact frame_of_onAon hl hp h

end

end Sys2Proof.Machine
end

section
/-! PROOFS of memory, and of the furrow timebase (R27 to R42): what a boundary takes up, what a window decides by R35, its edges,
and the other commands. -/
namespace Sys2Proof.Machine

/-! ### Memory -/

/-- Bytes written are read back as one list. -/
theorem Memory.readBytes_writeBytes (m : Memory) (a : Nat) (bs : List Byte) : (m.writeBytes a bs).readBytes a bs.length = bs := by
  refine List.ext_getElem (by simp [Memory.readBytes]) fun i hi hi' => ?_
  have hin : a ≤ a + i ∧ a + i < a + bs.length := by omega
  simp only [Memory.readBytes, List.getElem_map, List.getElem_range, Memory.read_writeBytes, if_pos hin, Nat.add_sub_cancel_left]
  simp [hi']

/-- Settles O6: what was written, what was not, and the form of the list. -/
theorem memoryReadsBackWhatWasWritten : Obligations.MemoryReadsBackWhatWasWritten := by
  intro m a bs hwf
  refine ⟨Memory.wf_writeBytes a bs hwf, m.readBytes_writeBytes a bs, fun b hb => ?_⟩
  rw [Memory.read_writeBytes, if_neg (by omega)]

/-! ### What the boundary takes up -/

/-- The registers of the timebase that a boundary takes up. -/
def furTaken : List Nat := [R.FUR_CTRL, R.FUR_SET_LO, R.FUR_SET_HI]

/-- What memories and lanes report is of no register of the timebase. -/
theorem reg_observe_fur (d : Device) (o : Nat × Nat) {k : Nat} (hk : k ∈ furTaken) : (observe d o).reg k = d.reg k := by
  have hlow : k % 2 ^ 32 = k ∧ k < R.STORE_ECC_CORR := by
    simp only [furTaken, List.mem_cons, List.not_mem_nil, or_false] at hk
    rcases hk with rfl | rfl | rfl <;> decide
  have hinst : ∀ a n, a ∈ [R.BRX_PORT_FEC_CORR, R.MEMC_CH_INFO] → inst a n ≠ k := fun a n ha => inst_ne n <| by
    rw [hlow.1]
    simp only [List.mem_cons, List.not_mem_nil, or_false] at ha
    rcases ha with rfl | rfl <;> exact Nat.ne_of_gt (Nat.lt_trans hlow.2 (by decide))
  have hfold : ∀ (l : List Nat) (key : Nat → Nat) (e : Device), (∀ j, key j ≠ k) →
      (l.foldl (fun d j => d.setFld (key j) 18 16 o.2) e).reg k = e.reg k := by
    intro l key e hne
    induction l generalizing e with
    | nil => rfl
    | cons j l ih => rw [List.foldl_cons, ih, reg_setFld_ne _ _ _ _ (hne j)]
  unfold observe
  dsimp only
  split
  · rfl
  · split
    · exact reg_incBy_ne _ _ (by omega)
    · split
      · exact reg_incBy_ne _ _ (hinst _ _ (by simp))
      · split
        · rw [reg_setFld_ne _ _ _ _ (hinst _ _ (by simp)), reg_incBy_ne _ _ (Nat.ne_of_gt (Nat.lt_trans hlow.2 (by decide)))]
        · exact hfold _ _ _ fun j => hinst _ _ (by simp)

theorem reg_observed_fur (seen : List (Nat × Nat)) (d : Device) {k : Nat} (hk : k ∈ furTaken) :
    (seen.foldl observe d).reg k = d.reg k := by
  induction seen generalizing d with
  | nil => rfl
  | cons o l ih => rw [List.foldl_cons, ih, reg_observe_fur d o hk]

/-- R31: what a boundary takes for the source is FUR_CTRL.SOURCE as it stood. -/
theorem furSource_observed (seen : List (Nat × Nat)) (d : Device) : (seen.foldl observe d).furSource = (d.fld R.FUR_CTRL 0 0 == 1) := by
  simp only [Device.furSource, Device.fld, reg_observed_fur seen d (k := R.FUR_CTRL) (by decide)]

/-- R30: what it takes for FUR_SET. -/
theorem furSet_observed (seen : List (Nat × Nat)) (d : Device) :
    (seen.foldl observe d).furSet = BitVec.ofNat 48 (d.reg R.FUR_SET_LO + 2 ^ 32 * d.reg R.FUR_SET_HI) := by
  simp only [Device.furSet, Device.reg64]
  rw [reg_observed_fur seen d (k := R.FUR_SET_LO) (by decide), reg_observed_fur seen d (k := R.FUR_SET_LO + 4) (by decide), Nat.mul_comm]

section
variable {tb : Timebase} (host : Bool) (furSet : W48)

/-- R30: a number that the host set is loaded where HOST is in force. -/
theorem Timebase.beginNumber_set (hp : tb.setPending = true) : tb.beginNumber true furSet = furSet := by
  simp [Timebase.beginNumber, hp]

theorem Timebase.adopts_host : tb.adopts true = none := by simp [Timebase.adopts]

theorem Timebase.adopts_of_no_code (h : tb.tcNext = none) : tb.adopts host = none := by
  unfold Timebase.adopts
  split
  · exact h
  · rfl

/-- R40: the length of the furrow of a realignment. -/
theorem Timebase.beginLen_realign {e : Int} (h : tb.decision.realign = some e) : (tb.beginLen : Int) = max 0 (156250 + e) := by
  rw [Timebase.beginLen, h]
  simp only [furrowLen, Int.toNat_eq_max]
  omega

end

/-- Settles O11: step 1 of the boundary, with the decision taken. -/
theorem boundaryTakesUpTheDecision : Obligations.BoundaryTakesUpTheDecision := by
  intro s d temps powers seen _ hd hl
  refine ⟨_, exec_furrowBoundary temps powers seen hl, ?_⟩
  obtain ⟨p, htb⟩ := boundary_tb temps powers seen s
  have hdec : s.tb.decision = d := by simp [Timebase.decision, hd]
  rw [State.flushed_pending, State.flushed_tb, htb, furSource_observed, furSet_observed]
  generalize (s.dev.fld R.FUR_CTRL 0 0 == 1) = host
  refine ⟨(boundary_keeps s temps powers seen).2, rfl, rfl, rfl, rfl, fun hr => ⟨?_, ?_, ?_⟩, fun e hr => ⟨?_, ?_, ?_, ?_, ?_⟩, fun h => ?_, fun hp hh => ?_,
    fun hh hp => ?_, fun hc hp => ?_⟩
  · simp [Timebase.boundary, hdec, hr]
  · simp [Timebase.boundary, Timebase.beginLen, hdec, hr, furrowLen]
  · simp only [Timebase.boundary, Timebase.beginState, hdec, hr]
    by_cases hs : host = s.tb.srcForce <;> simp [hs]
  · simp [Timebase.boundary, hdec, hr]
  · exact Timebase.beginLen_realign (hdec ▸ hr)
  · simp [Timebase.boundary, Timebase.beginState, hdec, hr]
  · simp [Timebase.boundary, Timebase.beginState, hdec, hr]
  · simp [Timebase.boundary, Timebase.beginState, hdec, hr]
  · have hs : s.tb.beginState (host != s.tb.srcForce) = .holdover := h
    simp only [Timebase.boundary, hs, beq_self_eq_true, if_true]
  · obtain rfl : host = true := hh
    exact Timebase.beginNumber_set _ hp
  · obtain rfl : host = true := hh
    exact Timebase.beginNumber_succ _ _ hp Timebase.adopts_host
  · exact Timebase.beginNumber_succ _ _ hp (Timebase.adopts_of_no_code host hc)

/-! ### What a window decides (R35) -/

/-- A closing window counts and raises. -/
theorem only_closeWindowDev (tb : Timebase) (d : Device) : Device.Only [] [R.FUR_SLIP_COUNT, R.FUR_MISS_COUNT] d (closeWindowDev tb d) := by
  have hwin : Device.Only [] [R.FUR_SLIP_COUNT, R.FUR_MISS_COUNT] d (match windowResult tb.edge with
      | .onTime _ => d
      | .slip e => (d.inc R.FUR_SLIP_COUNT).raise 0x0101 [(4, ofSigned 32 e)]
      | .missing => (d.inc R.FUR_MISS_COUNT).raise 0x0102 []) := by
    split
    · exact .refl d
    · exact ((Device.Only.refl d).inc (by simp)).raise _ _
    · exact ((Device.Only.refl d).inc (by simp)).raise _ _
  unfold closeWindowDev
  dsimp only
  split
  · exact hwin.raise _ _
  · exact hwin

section
variable {tb : Timebase}

theorem windowResult_onTime {e : Int} (he : e.natAbs ≤ 2) : windowResult (some e) = .onTime e := by simp [windowResult, he]

/-- R27: a loss of the reference. -/
theorem decideState_of_loss (h : tb.lossThis = true) : decideState tb = stay .unlocked := by simp [decideState, h]

/-- R29: two time codes that disagree. -/
theorem decideState_of_disagreement (hl : tb.lossThis = false) (hs : tb.st = .locked ∨ tb.st = .holdover)
    (ht : tb.tcResult = .disagrees) (hp : tb.tcPrevBad = true) : decideState tb = stay .unlocked := by
  rcases hs with hs | hs <;> simp [decideState, hl, hs, ht, hp]

variable (hl : tb.lossThis = false)
include hl

section
variable (ht : ¬ (tb.tcResult = .disagrees ∧ tb.tcPrevBad = true))
include ht

/-- R35, the rows of LOCKED. -/
theorem decideState_locked (hs : tb.st = .locked) : decideState tb =
    match windowResult tb.edge with
    | .onTime _ => stay .locked
    | .slip _ | .missing => stay .holdover := by
  have hb : (tb.tcResult == .disagrees && tb.tcPrevBad) = false := by simpa using ht
  simp only [decideState, hl, hs, Bool.and_assoc, hb]
  rfl

/-- R35, the rows of HOLDOVER. -/
theorem decideState_holdover (hs : tb.st = .holdover) : decideState tb =
    match windowResult tb.edge with
    | .onTime _ => stay .locked
    | .slip e => if near tb.cand e then ⟨.unlocked, some e⟩ else if 64 ≤ tb.holdCount then stay .unlocked else stay .holdover
    | .missing => if 64 ≤ tb.holdCount then stay .unlocked else stay .holdover := by
  have hb : (tb.tcResult == .disagrees && tb.tcPrevBad) = false := by simpa using ht
  simp only [decideState, hl, hs, Bool.and_assoc, hb]
  rfl

end

/-- R35, the rows of UNLOCKED: a furrow is aligned by two edges that lie together. -/
theorem decideState_unlocked (hs : tb.st = .unlocked) : decideState tb =
    match tb.edge with
    | some e =>
      if tb.refOkAtStart && near tb.prevEdge e && (tb.srcForce || tb.tcResult != .absent) then
        if e.natAbs ≤ 2 then stay .relock else ⟨.unlocked, some e⟩
      else stay .unlocked
    | none => stay .unlocked := by
  simp only [decideState, hl, hs, Timebase.refPresent, Bool.not_false, Bool.and_true]
  rfl

/-- R35, R38, the rows of RELOCK. -/
theorem decideState_relock (hs : tb.st = .relock) : decideState tb =
    match windowResult tb.edge with
    | .onTime _ =>
      if tb.srcForce || tb.tcResult == .agrees then if 3 ≤ tb.relockCount then stay .locked else stay .relock
      else stay .unlocked
    | .slip _ | .missing => stay .unlocked := by
  simp only [decideState, hl, hs]
  rfl

end

/-- An edge lies near the position held, or it does not. -/
theorem near_some {c e : Int} : near (some c) e = true ↔ (e - c).natAbs ≤ 2 := by simp [near]

theorem not_near {o : Option Int} {e : Int} (h : ∀ c, o = some c → 2 < (e - c).natAbs) : near o e = false := by
  cases o with
  | none => rfl
  | some c => simpa [near] using h c rfl

/-- Settles O12: the window's closing, row by row of R35. -/
theorem windowDecidesByR35 : Obligations.WindowDecidesByR35 := by
  intro s hr hd hl
  refine ⟨_, exec_captureWindowClose hl hr, decideState s.tb, ?_⟩
  rw [State.passDecision_of_window hr hd]
  have hdev := (only_closeWindowDev (s.tb.goto s.tb.decisionClk) s.dev).flush (s.tb.goto s.tb.decisionClk)
  refine ⟨rfl, rfl, rfl, rfl, rfl, rfl, rfl, rfl, fun k => hdev.regs k, fun p => hdev.parts p (by simp), decideState_of_loss,
    fun hloss => ⟨fun ⟨hs, ht, hp⟩ => decideState_of_disagreement hloss hs ht hp, fun ht => ?steady, ?unlocked, ?notAligned,
      ?relock, ?notRelocked⟩⟩
  case steady =>
    have hlocked := decideState_locked hloss ht
    have hhold := decideState_holdover hloss ht
    have hcand : ∀ o, nextCand s.tb (decideState s.tb) = o → nextCand (s.tb.goto s.tb.decisionClk) (decideState s.tb) = o := fun _ => id
    refine ⟨fun hs e he h2 => ?_, fun hs e he h2 => ?_, fun hs he hi => ?_, fun hs e he h2 => ?_, fun hs e c he h2 hc hn => ?_,
      fun hs e he h2 hc hn => ?_, fun hs he hn => ?_, fun hs he hn => ?_, fun hs e he h2 hc hn => ?_⟩
    · simp [hlocked hs, he, windowResult_onTime h2, stay]
    · have hr := windowResult_slip h2
      exact ⟨by simp [hlocked hs, he, hr, stay], hcand _ (by simp [nextCand, hlocked hs, he, hr, stay])⟩
    · have hc := hi.cand hd (by simp [hs])
      exact ⟨by simp [hlocked hs, he, windowResult, stay], hcand _ (by simp [nextCand, hlocked hs, he, windowResult, stay, hc])⟩
    · have hr := windowResult_onTime h2
      exact ⟨by simp [hhold hs, he, hr, stay], hcand _ (by simp [nextCand, hhold hs, he, hr, stay])⟩
    · simp [hhold hs, he, windowResult_slip h2, hc, near_some.mpr hn]
    · have hr := windowResult_slip h2
      have hst : decideState s.tb = stay .holdover := by simp [hhold hs, he, hr, not_near hc, Nat.not_le.mpr hn]
      exact ⟨hst, hcand _ (by simp [nextCand, hst, he, hr, stay])⟩
    · have hst : decideState s.tb = stay .holdover := by simp [hhold hs, he, windowResult, Nat.not_le.mpr hn]
      exact ⟨hst, hcand _ (by simp [nextCand, hst, he, windowResult, stay])⟩
    · simp [hhold hs, he, windowResult, hn, stay]
    · simp [hhold hs, he, windowResult_slip h2, not_near hc, hn, stay]
  case unlocked =>
    intro hs e b he hb hn hok hsrc
    have hsrc' : (s.tb.srcForce || s.tb.tcResult != .absent) = true := by simpa using hsrc
    simp only [decideState_unlocked hloss hs, he, hb, near_some.mpr hn, hok, hsrc']
    rfl
  case notAligned =>
    rintro hs (hn | hok | ⟨hsrc, hc⟩)
    all_goals
      rw [decideState_unlocked hloss hs]
      cases he : s.tb.edge with
      | none => rfl
      | some e => ?_
    · simp [not_near (hn e · he), stay]
    · simp [hok, stay]
    · simp [hsrc, hc, stay]
  case relock =>
    intro hs e he h2 hsrc
    have hsrc' : (s.tb.srcForce || s.tb.tcResult == .agrees) = true := by simpa using hsrc
    have hst : decideState s.tb = if 3 ≤ s.tb.relockCount then stay .locked else stay .relock := by
      simp only [decideState_relock hloss hs, he, windowResult_onTime h2, hsrc', if_true]
    refine ⟨?_, hst⟩
    change nextRelock s.tb (decideState s.tb) = _
    rw [hst]
    split <;> simp [nextRelock, hs, stay]
  case notRelocked =>
    rintro hs (he | ⟨e, he, h2⟩ | ⟨hsrc, hc⟩) <;> rw [decideState_relock hloss hs]
    · simp [he, windowResult, stay]
    · simp [he, windowResult_slip h2, stay]
    · split
      · simp [hsrc, hc, stay]
      · rfl
      · rfl

/-! ### Edges (R32, R33) -/

section
variable {s : State} {clk : Nat}

/-- A decision already taken is not taken again. -/
theorem State.passDecision_of_decided {d : Decision} (hd : s.tb.decided = some d) : s.passDecision = s := by
  simp [State.passDecision, hd]

/-- FURROW_IN_EDGE before the decision's clk. -/
theorem exec_furrowInEdge_early (hl : s.dev.power.porst = true) (hnow : s.tb.offset ≤ clk) (hlen : clk < s.tb.len)
    (h : clk < s.tb.len - 78125) : exec (.furrowInEdge clk) s = .next (edgeAt s clk) := by
  change execFurrowInEdge clk s = _
  rw [execFurrowInEdge, s.live_of _ hl, if_pos ⟨hnow, hlen⟩, if_neg fun hc => Nat.not_le.mpr h hc.1]

/-- FURROW_IN_EDGE in a furrow that has decided. -/
theorem exec_furrowInEdge_decided (hl : s.dev.power.porst = true) (hnow : s.tb.offset ≤ clk) (hlen : clk < s.tb.len)
    {d : Decision} (hd : s.tb.decided = some d) : exec (.furrowInEdge clk) s = .next (edgeAt s clk) := by
  change execFurrowInEdge clk s = _
  rw [execFurrowInEdge, s.live_of _ hl, if_pos ⟨hnow, hlen⟩, State.passDecision_of_decided hd, ite_self]

/-- R32: the error of an edge in the window of the furrow's own boundary. -/
theorem edgeError_early (h : clk < s.tb.len - 78125) :
    Timebase.edgeError { s.tb with offset := clk } clk = if s.tb.realign then none else some (clk : Int) :=
  if_neg (Nat.not_le.mpr h)

/-- R32: the error of an edge in the window of the next boundary, which is evaluated unless a realignment was decided (R41). -/
theorem edgeError_late (h : s.tb.len - 78125 ≤ clk) {d : Decision} (hd : s.tb.decided = some d) (hr : d.realign = none) :
    Timebase.edgeError { s.tb with offset := clk } clk = some ((clk : Int) - s.tb.len) := by
  refine (if_pos h).trans ?_
  simp [hd, hr]

/-- The first edge of a window is measured. -/
theorem edgeAt_first {e : Int} (he : Timebase.edgeError { s.tb with offset := clk } clk = some e) (hedge : s.tb.edge = none) :
    edgeAt s clk = { s with tb := { s.tb with offset := clk, edge := some e, phaseValid := true, lastErr := e } } := by
  rw [edgeAt, he, edgeOn]
  simp [hedge]

/-- R33: a further edge is spurious. -/
theorem edgeAt_spurious {e f : Int} (he : Timebase.edgeError { s.tb with offset := clk } clk = some e) (hedge : s.tb.edge = some f) :
    edgeAt s clk = { s with
      tb := { s.tb with offset := clk }
      dev := (s.dev.raiseReq ⟨0x0103, 4, none, []⟩).flush { s.tb with offset := clk } } := by
  rw [edgeAt, he, edgeOn]
  simp only [hedge]
  rfl

end

/-- Settles O14: an edge before the decision's clk is of the furrow's own window, one after it of the next window. -/
theorem edgeIsMeasuredInItsWindow : Obligations.EdgeIsMeasuredInItsWindow := by
  intro s clk hnow hlen
  refine ⟨fun h hr hedge hl => ?_, fun h hr hl => ?_, fun h d hd hr hedge hl => ?_, fun hset h e hedge hl => ?_⟩
  · refine ⟨_, exec_furrowInEdge_early hl hnow hlen h, edgeAt_first ?_ hedge⟩
    rw [edgeError_early h, hr]
    rfl
  · refine ⟨_, exec_furrowInEdge_early hl hnow hlen h, ?_⟩
    rw [edgeAt, edgeError_early h, hr]
    rfl
  · exact ⟨_, exec_furrowInEdge_decided hl hnow hlen hd, edgeAt_first (edgeError_late h hd hr) hedge⟩
  · have hex : exec (.furrowInEdge clk) s = .next (edgeAt s clk) ∧
        ∃ f, Timebase.edgeError { s.tb with offset := clk } clk = some f := by
      rcases h with ⟨h, hr⟩ | ⟨h, d, hd, hr⟩
      · exact ⟨exec_furrowInEdge_early hl hnow hlen h, _, by rw [edgeError_early h, hr]; rfl⟩
      · exact ⟨exec_furrowInEdge_decided hl hnow hlen hd, _, edgeError_late h hd hr⟩
    obtain ⟨hex, f, hf⟩ := hex
    rw [edgeAt_spurious hf hedge] at hex
    have hdev : Device.Only [] [] s.dev _ :=
      ((Device.Only.refl s.dev).raiseReq ⟨0x0103, 4, none, []⟩).flush { s.tb with offset := clk }
    exact ⟨_, hex, raised_of_one (s := { s with tb := { s.tb with offset := clk } }) _ s.dev rfl hset rfl, rfl, rfl, hdev.regs,
      fun p => hdev.parts p (by simp)⟩

/-! ### The other commands -/

/-- R27: a loss by the decision's clk is of this furrow, unless it has decided. -/
theorem Timebase.refLoss_early {tb : Timebase} (hd : tb.decided = none) (h : tb.offset ≤ tb.decisionClk) :
    tb.refLoss = { tb with refclkOk := false, pllLocked := false, lossThis := true } := by
  simp [Timebase.refLoss, hd, Nat.not_lt.mpr h]

/-- R27: a loss after it is of the next. -/
theorem Timebase.refLoss_late {tb : Timebase} (h : tb.decisionClk < tb.offset) :
    tb.refLoss = { tb with refclkOk := false, pllLocked := false, lossNext := true } := by
  simp [Timebase.refLoss, h]

section
variable {s : State}

/-- REFCLK_LOSS in the furrow (R27). -/
theorem exec_refclkLoss (hl : s.dev.power.porst = true) {clk : Nat} (hnow : s.tb.offset ≤ clk) (hlen : clk < s.tb.len) :
    exec (.refclkLoss clk) s = .next { s with
      tb := { s.tb with offset := clk }.refLoss
      dev := (s.dev.raiseReq ⟨0x010A, 4, none, []⟩).flush { s.tb with offset := clk }.refLoss } := by
  change execRefclkLoss clk s = _
  rw [execRefclkLoss, s.live_of _ hl, if_pos ⟨hnow, hlen⟩]
  rfl

/-- REALIGN_DECISION in a realignment furrow that has not decided (R41). -/
theorem exec_realignDecision (hl : s.dev.power.porst = true) (hr : s.tb.realign = true) (hd : s.tb.decided = none) :
    exec .realignDecision s = .next { s with tb := (s.tb.goto s.tb.decisionClk).realignDecide } := by
  have hg : (s.tb.goto s.tb.decisionClk).realign = true := hr
  change execRealignDecision s = _
  rw [execRealignDecision, s.live_of _ hl, if_pos hr]
  simp [State.passDecision, hd, hg]

/-- SET_APPLY in HOST mode while UNLOCKED (R30). -/
theorem exec_setApply_accepted (hl : s.dev.power.porst = true) (hs : s.tb.srcForce = true) (hu : s.tb.st = .unlocked) :
    exec .setApply s = .next (State.flushed { s with tb := { s.tb with setPending := true }, dev := s.dev.dropPend }) := by
  change execSetApply s = _
  rw [execSetApply, s.live_of _ hl]
  simp [setApply, hs, hu]

/-- SET_APPLY otherwise: refused. -/
theorem exec_setApply_refused (hl : s.dev.power.porst = true) (h : s.tb.srcForce = false ∨ s.tb.st ≠ .unlocked) :
    exec .setApply s = .next { s with dev := (s.dev.dropPend.raiseReq ⟨0x010B, 4, none, []⟩).flush s.tb } := by
  change execSetApply s = _
  have hn : (s.tb.srcForce && s.tb.st == .unlocked) = false := by
    rcases h with h | h <;> simp [h]
  rw [execSetApply, s.live_of _ hl]
  simp only [setApply, hn]
  rfl

end

/-- Settles O15: each command's effect, with the event it raises. -/
theorem timebaseCommands : Obligations.TimebaseCommands := by
  refine ⟨fun s clk hset hnow hlen hl => ?loss, fun s hl => ?lock, fun s hr hd hl => ?realign, fun s v hv hl => ?source,
    fun s hs hu hl => ?apply, fun s hset h hl => ?refuse⟩
  case loss =>
    refine ⟨_, exec_refclkLoss hl hnow hlen, ?_, rfl, fun k _ he => reg_flush _ _ he, rfl, rfl, rfl, rfl, fun hd hc => ?_,
      fun hc => ?_⟩
    · exact raised_of_one (s := { s with tb := { s.tb with offset := clk }.refLoss }) _ s.dev rfl hset rfl
    · rw [Timebase.refLoss_early (tb := { s.tb with offset := clk }) hd hc]
      exact ⟨rfl, rfl⟩
    · rw [Timebase.refLoss_late (tb := { s.tb with offset := clk }) hc]
      exact ⟨rfl, rfl⟩
  case lock => exact ⟨_, congrArg Host.Outcome.next (s.live_of _ hl), rfl⟩
  case realign =>
    refine ⟨_, exec_realignDecision hl hr hd, rfl, rfl, rfl, ?_⟩
    simp [Timebase.realignDecide, Timebase.goto, stay]
  case source =>
    refine ⟨_, rfl, frame_of_onAon hl (by simp) ((Device.Only.refl _).setFld _ _ _ (by simp)), ?_⟩
    rw [s.onAon_of _ hl]
    change ((s.dev.dropPend.setFld R.FUR_CTRL 0 0 v).flush s.tb).fld R.FUR_CTRL 0 0 = v
    rw [Device.fld, reg_flush _ _ (by decide)]
    exact (fld_setFld _ _ (by decide) (by decide) v).trans (Nat.mod_eq_of_lt hv)
  case apply =>
    refine ⟨_, exec_setApply_accepted hl hs hu, rfl, rfl, fun k _ he => reg_flush _ _ he⟩
  case refuse =>
    have hdev : Device.Only [.port] [] s.dev _ :=
      (((Device.Only.refl s.dev).dropPend (by simp)).raiseReq ⟨0x010B, 4, none, []⟩).flush s.tb
    exact ⟨_, exec_setApply_refused hl h, raised_of_one _ s.dev.dropPend rfl hset rfl, rfl, rfl, hdev.regs, hdev.parts⟩

end Sys2Proof.Machine
end

section
/-! PROOFS of register space (R9, R10, R454, R463), and the refutation of the statement of the counters (R185). -/
namespace Sys2Proof.Machine

/-! ### The counters: a table that lists two runs under one key -/

/-- A run whose plot is of a die, with a decode array that is up. -/
def runOfDie (die : Nat) : Run :=
  { Tests.run0 with plot := { Tests.plot0 with die := die }, arrays := [(arrKey 1 7, { freshArray with st := .up })] }

/-- Two runs are listed under key 1: one of die 1, which a look-up finds, and behind it one of die 0. -/
def twoRunsOneKey : State :=
  { Tests.st0 with dev := { Tests.dev0 with plots := { Tests.dev0.plots with runs := [(1, runOfDie 1), (1, runOfDie 0)] } } }

/-- Refutes O16: no clause asks that a table lists a key once. ARR_CNT_CLR of die 0 finds the entry of a run of die 0, and counts the run
that its key names, which is of die 1: a counter of die 1 changes. -/
theorem not_counterClearsClearTheirCounters : ¬ Obligations.CounterClearsClearTheirCounters := by
  rintro ⟨-, -, hclear, -⟩
  obtain ⟨t, ht, ⟨-, -, hregs, -⟩, -⟩ := hclear 0 twoRunsOneKey (by decide) (by decide) rfl
  obtain rfl := Host.Outcome.next.inj ht
  exact absurd (hregs (dieReg R.ARR_D_UP_LO 1) (by decide) (by decide)) (by decide +kernel)

/-! ### Writes that are discarded -/

section
variable {s : State}

/-- A write of register space, in terms of its effect within a command. -/
theorem regWrite_of (a v : Nat) (hl : s.dev.power.porst = true) : regWrite a v s = (regWritePart a v s).flushed := s.live_of _ hl

theorem regRead_of (a : Nat) (hl : s.dev.power.porst = true) : regRead a s = (regReadPart a s).flushed := s.live_of _ hl

/-- R454: a register that does not respond takes no write; a pending _LO write is discarded (R10). -/
theorem regWrite_unresponsive {a : Nat} (v : Nat) (hset : s.settled) (hl : s.dev.power.porst = true)
    (hresp : s.dev.responds a = false) : regWrite a v s = { s with dev := s.dev.dropPend } := by
  have hr : s.dev.dropPend.responds a = false := hresp
  rw [regWrite_of a v hl]
  simp only [regWritePart, hr]
  exact congrArg (fun d => ({ s with dev := d } : State)) (flush_of_settled s.tb s.dev.dropPend hset)

/-- The same, by the command named for the register. -/
theorem onReg_rom (f : Timebase → Device → Device) (hl : s.dev.power.porst = true) (hph : s.dev.power.phase = .rom) :
    s.onReg f = { s with dev := s.dev.dropPend } := by
  unfold State.onReg
  rw [if_pos (by simp [hph]), s.live_of _ hl]

end

/-- Settles O17: a command named for a register is a write of one that does not respond; the others write the register they name. -/
theorem romPhaseDiscardsWrites : Obligations.RomPhaseDiscardsWrites := by
  refine ⟨fun c s hr hph hl => ?named, fun c s a v hset hph hresp hc hl => ?written⟩
  case named =>
    obtain ⟨f, hf⟩ := exec_onReg hr
    exact ⟨_, hf s, onReg_rom f hl hph⟩
  case written =>
    have hw := regWrite_unresponsive v hset hl hresp
    rcases hc with rfl | ⟨rfl, ha⟩ | ⟨rfl, ha⟩ | ⟨rfl, ha⟩
    · exact ⟨_, rfl, hw⟩
    · exact ⟨_, rfl, (if_pos ha).trans hw⟩
    · exact ⟨_, rfl, (if_pos ha).trans hw⟩
    · exact ⟨_, rfl, (if_pos (by simp [ha])).trans hw⟩

/-! ### What a write of a unit's register does -/

/-- R10: the pending _LO write that a write of its _HI takes. -/
def State.pendingLo (s : State) (a : Nat) : Option W32 := match s.dev.port.pendLo with
  | some (b, w) => if isHi a && b + 4 == a then some w else none
  | none => none

/-- A write of a register that is no _LO, and that no unit but its own takes, is a command on the device. -/
theorem regWrite_onAon {s : State} {a v : Nat} {r : RegDesc} (hl : s.dev.power.porst = true) (hd : regDesc a = some r)
    (hresp : s.dev.responds a = true) (hlo : isLo a = false) (hpwr : a ≠ R.PWR_CTRL) (hfur : a ≠ R.FUR_CTRL) (hv : v < 2 ^ 32) :
    regWrite a v s = s.onAon (fun tb d => writeReg r a v (s.pendingLo a) tb d) := by
  have hr : s.dev.dropPend.responds a = true := hresp
  rw [s.onAon_of _ hl, regWrite_of a v hl]
  simp only [regWritePart, hr, hd, hlo, beq_eq_false_iff_ne.mpr hpwr, beq_eq_false_iff_ne.mpr hfur, Nat.mod_eq_of_lt hv]
  rfl

/-! ### The fields of a register -/

/-- The fields of a register lie in its word, and no two have a bit in common. -/
theorem regIndex_fields : ∀ r ∈ regIndex, r.fields.Pairwise (fun f g => f.hi < g.lo ∨ g.hi < f.lo) ∧
    ∀ f ∈ r.fields, f.lo ≤ f.hi ∧ f.hi < 32 := by decide +kernel

theorem mem_regIndex {a : Nat} {r : RegDesc} (h : regDesc a = some r) : r ∈ regIndex := List.mem_of_find?_eq_some h

/-- R9, R525: what a field holds after a write. -/
theorem bits_storeField_self (f : Field) (v old : Nat) :
    bits f.hi f.lo (storeField v old f) = fieldAfter f v (bits f.hi f.lo old) := by
  have hx := bits_lt f.hi f.lo v
  have ho := bits_lt f.hi f.lo old
  unfold storeField fieldAfter
  cases f.acc with
  | rw =>
    by_cases h : f.least ≤ bits f.hi f.lo v ∧ bits f.hi f.lo v ≤ f.most
    · simp [h, Nat.mod_eq_of_lt hx]
    · have hn : ¬ (f.least ≤ bits f.hi f.lo v && bits f.hi f.lo v ≤ f.most) = true := by simpa using h
      simp only [if_neg hn, if_neg h]
  | w1c => simp [Nat.mod_eq_of_lt (Nat.lt_of_le_of_lt (Nat.sub_le _ _) ho)]
  | w1s => simp [Nat.mod_eq_of_lt (Nat.or_lt_two_pow ho hx)]
  | ro | wo => rfl

/-- A field changes no other one, and leaves a word. -/
theorem bits_storeField_other {f g : Field} (hf : f.lo ≤ f.hi) (hg : g.lo ≤ g.hi) (hne : g.hi < f.lo ∨ f.hi < g.lo) (v old : Nat) :
    bits g.hi g.lo (storeField v old f) = bits g.hi g.lo old := by
  have hset : ∀ x, bits g.hi g.lo (setBits f.hi f.lo x old) = bits g.hi g.lo old := fun x => by
    rcases hne with hne | hne
    · exact bits_setBits_below hne hg x old
    · exact bits_setBits_above hf hne x old
  unfold storeField
  cases f.acc with
  | rw =>
    dsimp only
    split
    · exact hset _
    · rfl
  | w1c | w1s => exact hset _
  | ro | wo => rfl

theorem storeField_lt {f : Field} (hf : f.lo ≤ f.hi) (h32 : f.hi < 32) (v : Nat) {old : Nat} (ho : old < 2 ^ 32) :
    storeField v old f < 2 ^ 32 := by
  unfold storeField
  cases f.acc with
  | rw =>
    dsimp only
    split
    · exact setBits_lt hf h32 _ ho
    · exact ho
  | w1c | w1s => exact setBits_lt hf h32 _ ho
  | ro | wo => exact ho

section
variable {l : List Field} (hb : ∀ f ∈ l, f.lo ≤ f.hi ∧ f.hi < 32) (v : Nat)
include hb

theorem foldl_storeField_lt {old : Nat} (ho : old < 2 ^ 32) : l.foldl (storeField v) old < 2 ^ 32 := by
  induction l generalizing old with
  | nil => exact ho
  | cons f l ih =>
    obtain ⟨hf, hl⟩ := List.forall_mem_cons.mp hb
    exact ih hl (storeField_lt hf.1 hf.2 v ho)

theorem bits_foldl_storeField_other {g : Field} (hg : g.lo ≤ g.hi) (hne : ∀ f ∈ l, g.hi < f.lo ∨ f.hi < g.lo) (old : Nat) :
    bits g.hi g.lo (l.foldl (storeField v) old) = bits g.hi g.lo old := by
  induction l generalizing old with
  | nil => rfl
  | cons f l ih =>
    obtain ⟨hf, hl⟩ := List.forall_mem_cons.mp hb
    obtain ⟨hnf, hnl⟩ := List.forall_mem_cons.mp hne
    exact (ih hl hnl _).trans (bits_storeField_other hf.1 hg hnf v old)

/-- The fields that a write of a register leaves. -/
theorem bits_foldl_storeField (hp : l.Pairwise fun f g => f.hi < g.lo ∨ g.hi < f.lo) {f : Field} (hf : f ∈ l) (old : Nat) :
    bits f.hi f.lo (l.foldl (storeField v) old) = fieldAfter f v (bits f.hi f.lo old) := by
  induction l generalizing old with
  | nil => cases hf
  | cons g l ih =>
    obtain ⟨hg, hl⟩ := List.forall_mem_cons.mp hb
    obtain ⟨hgl, hpl⟩ := List.pairwise_cons.mp hp
    rcases List.mem_cons.mp hf with rfl | hf
    · exact (bits_foldl_storeField_other hl v hg.1 hgl _).trans (bits_storeField_self f v old)
    · have hfb := hl f hf
      exact (ih hl hpl hf _).trans (congrArg _ (bits_storeField_other hg.1 hfb.1 (hgl f hf).symm v old))

end

/-- A field of a register after a write of the register. -/
theorem fld_storeReg {r : RegDesc} {a : Nat} (hd : regDesc a = some r) (v : Nat) (d : Device) {f : Field} (hf : f ∈ r.fields) :
    (storeReg r a v d).fld (regKey d r a) f.hi f.lo = fieldAfter f v (d.fld (regKey d r a) f.hi f.lo) := by
  obtain ⟨hp, hb⟩ := regIndex_fields r (mem_regIndex hd)
  have hlt : storeFields r (d.reg (regKey d r a)) v < 2 ^ 32 := foldl_storeField_lt hb v (reg_lt d _ (regRst_lt _))
  rw [Device.fld, storeReg, reg_setReg_self, Nat.mod_eq_of_lt hlt]
  exact bits_foldl_storeField hb v hp hf _

/-! ### Registers that command nothing -/

/-- Which register commands a unit does not depend on the value written. -/
theorem commandA_isNone (a v : Nat) : (commandA a v).isNone = (commandA a 0).isNone := by
  simp only [commandA, apply_ite Option.isNone, Option.isNone_some, Option.isNone_none]

theorem commandB_isNone (a v : Nat) : (commandB a v).isNone = (commandB a 0).isNone := by
  simp only [commandB, apply_ite Option.isNone, Option.isNone_some, Option.isNone_none]

/-- Which register clears counters does not depend on the clk. -/
theorem clearsAt_isNone (tb : Timebase) (a : Nat) : (clearsAt tb a).isNone = (clearsAt Timebase.reset a).isNone := by
  simp only [clearsAt, apply_ite Option.isNone, Option.isNone_some]
  cases dieAt R.ARR_CTRL a <;> cases dieAt R.ARR_ACC_CTRL a <;> cases dieAt R.RAKE_CTRL a <;> cases dieAt R.TRW_CTRL a <;>
    simp only [Option.isNone_some, Option.isNone_none]

theorem regDesc_evtStatus : ∃ r, regDesc R.EVT_STATUS = some r ∧ r.sel = .none :=
  ⟨(regDesc R.EVT_STATUS).getD ⟨0, 1, 4, .cold, .none, []⟩, by decide +kernel⟩

/-- EVT_STATUS is one register, and of the event buffer. -/
theorem ne_evtStatus {d : Device} {r : RegDesc} {a : Nat} (hd : regDesc a = some r) (hk : regKey d r a ∉ eventRegs) : a ≠ R.EVT_STATUS := by
  rintro rfl
  obtain ⟨q, hq, hs⟩ := regDesc_evtStatus
  obtain rfl := Option.some.inj (hd.symm.trans hq)
  exact hk (by simp [regKey, hs, eventRegs])

/-- A write of a plain register stores it. -/
theorem writeReg_plain {d : Device} {r : RegDesc} {a : Nat} (hp : plainReg d a = true) (he : a ≠ R.EVT_STATUS) (v : Nat)
    (lo : Option W32) (tb : Timebase) : writeReg r a v lo tb d = storeReg r a v d := by
  simp only [plainReg, Bool.and_eq_true, Bool.not_eq_true', bne_iff_ne] at hp
  obtain ⟨⟨⟨⟨⟨⟨⟨⟨⟨-, -⟩, hhi⟩, hst⟩, -⟩, -⟩, hA⟩, hB⟩, hclr⟩, hlk⟩ := hp
  have hA' := Option.isNone_iff_eq_none.mp ((commandA_isNone a v).trans hA)
  have hB' := Option.isNone_iff_eq_none.mp ((commandB_isNone a v).trans hB)
  have hC' := Option.isNone_iff_eq_none.mp ((clearsAt_isNone tb a).trans hclr)
  have he' : (a == R.EVT_STATUS) = false := beq_eq_false_iff_ne.mpr he
  simp only [writeReg, hst, hA', hB', hC', he', hhi, hlk]
  rfl

/-- Settles O18: the write is a store of the register's fields. -/
theorem registerWriteStoresItsFields : Obligations.RegisterWriteStoresItsFields := by
  intro s a v r hd hp hv hk hl
  have hp' := hp
  simp only [plainReg, Bool.and_eq_true, Bool.not_eq_true', bne_iff_ne] at hp'
  obtain ⟨⟨⟨⟨⟨⟨⟨⟨⟨hresp, hlo⟩, -⟩, -⟩, hpwr⟩, hfur⟩, -⟩, -⟩, -⟩, -⟩ := hp'
  have hplain : plainReg s.dev.dropPend a = true := hp
  have hkey : regKey s.dev.dropPend r a = regKey s.dev r a := rfl
  have hw : writeReg r a v (s.pendingLo a) s.tb s.dev.dropPend = storeReg r a v s.dev.dropPend :=
    writeReg_plain hplain (ne_evtStatus hd hk) v _ _
  refine ⟨_, congrArg Host.Outcome.next (regWrite_onAon hl hd hresp hlo hpwr hfur hv), frame_of_onAon hl (by simp) ?_, ?_, ?_⟩
  · rw [hw]
    exact (Device.Only.refl _).setReg _ (by simp [hkey])
  · rw [s.onAon_of _ hl, hw]
    exact congrArg RegPort.pendLo (Device.flush_port ..)
  · intro f hf
    rw [s.onAon_of _ hl, hw]
    exact (congrArg (bits f.hi f.lo) (reg_flush _ _ hk)).trans (fld_storeReg hd v s.dev.dropPend hf)

/-! ### Staged registers (R463) -/

/-- The selection that a direct write of a staged register keeps. -/
def stagedSel (d : Device) (a : Nat) : Option Nat :=
  if a = R.STORE_PAGE_OWNER then some (d.fld R.STORE_PAGE_SEL 12 0) else if a = R.FLASH_SLOT_CFG then some d.slotSel else none

theorem stagedReg_cases {a : Nat} (h : stagedReg a = true) :
    a = R.PWR_DOM_TARGET ∨ a = R.STORE_SET_WIDE_HI ∨ a = R.STORE_PAGE_OWNER ∨ a = R.FLASH_SLOT_CFG := by
  simp only [stagedReg, Bool.or_eq_true, beq_iff_eq, or_assoc] at h
  exact h

/-- A direct write in service, with no pending write of the other half, forms a list of one entry. -/
theorem stagedWrite_eq {a v : Nat} {d : Device} (tb : Timebase) (hs : stagedReg a = true) (hph : d.power.phase = .service)
    (ho : a = R.STORE_PAGE_OWNER → bits 31 30 v < 2) : stagedWrite a v none tb d = directList [⟨a, v, 0, stagedSel d a⟩] tb d := by
  rcases stagedReg_cases hs with rfl | rfl | rfl | rfl
  · have hsel : stagedSel d R.PWR_DOM_TARGET = none := rfl
    simp [stagedWrite, hph, hsel]
  · rfl
  · have hsel : stagedSel d R.STORE_PAGE_OWNER = some (d.fld R.STORE_PAGE_SEL 12 0) := rfl
    have hdom : R.STORE_PAGE_OWNER ≠ R.PWR_DOM_TARGET := by decide
    have hwide : R.STORE_PAGE_OWNER ≠ R.STORE_SET_WIDE_HI := by decide
    simp [stagedWrite, hsel, hdom, hwide, Nat.not_le.mpr (ho rfl)]
  · rfl

/-- The staged registers are of the index, no _LO registers, and none of the timebase or of a reset. -/
theorem stagedReg_plain {a : Nat} (h : stagedReg a = true) : (regDesc a).isSome = true ∧ isLo a = false ∧ a ≠ R.PWR_CTRL ∧ a ≠ R.FUR_CTRL := by
  rcases stagedReg_cases h with rfl | rfl | rfl | rfl <;> decide +kernel

/-- STAGED_DIRECT_WRITE in service. -/
theorem exec_stagedDirectWrite {s : State} {a v : Nat} (hl : s.dev.power.porst = true) (hs : stagedReg a = true)
    (hph : s.dev.power.phase = .service) (hv : v < 2 ^ 32) (ho : a = R.STORE_PAGE_OWNER → bits 31 30 v < 2)
    (hpend : s.dev.port.pendLo = none) :
    exec (.stagedDirectWrite a v) s = .next (s.onAon (fun _ _ => directList [⟨a, v, 0, stagedSel s.dev a⟩] s.tb s.dev.dropPend)) := by
  obtain ⟨hd, hlo, hpwr, hfur⟩ := stagedReg_plain hs
  obtain ⟨r, hd⟩ := Option.isSome_iff_exists.mp hd
  have hresp : s.dev.responds a = true := by simp [Device.responds, hph]
  have hlo' : s.pendingLo a = none := by rw [State.pendingLo, hpend]
  change execStagedDirectWrite a v s = _
  rw [execStagedDirectWrite, if_pos (by simp [hs]), regWrite_onAon hl hd hresp hlo hpwr hfur hv, hlo', s.onAon_of _ hl, s.onAon_of _ hl,
    writeReg, if_pos hs, stagedWrite_eq (d := s.dev.dropPend) _ hs hph ho]
  rfl

/-- Settles O21: the one-entry list, or its refusal. -/
theorem stagedDirectWriteFormsList : Obligations.StagedDirectWriteFormsList := by
  intro s a v hs hph hv ho hpend
  refine ⟨fun hfree hl => ?free, fun hset harmed hl => ?armed⟩
  case free =>
    have hlist : directList [⟨a, v, 0, stagedSel s.dev a⟩] s.tb s.dev.dropPend =
        armList [⟨a, v, 0, stagedSel s.dev a⟩] (s.tb.number + 1) s.dev.dropPend := if_neg (by simp [hfree])
    refine ⟨_, exec_stagedDirectWrite hl hs hph hv ho hpend, ?_⟩
    rw [hlist]
    refine ⟨frame_of_onAon hl (by simp) (.of_merge [.power] rfl (by simp) fun k hk _ => reg_setReg_ne _ _ ?_), ?_⟩
    · exact Ne.symm (by simpa using hk)
    · rw [s.onAon_of _ hl]
      exact Device.flush_power ..
  case armed =>
    have hlist : directList [⟨a, v, 0, stagedSel s.dev a⟩] s.tb s.dev.dropPend = s.dev.dropPend.raiseReq ⟨0x0E08, 4, none, []⟩ :=
      if_pos (Option.isSome_iff_ne_none.mpr harmed)
    refine ⟨_, exec_stagedDirectWrite hl hs hph hv ho hpend, ?_⟩
    rw [hlist]
    exact ⟨frame_of_onAon hl (by simp) ((Device.Only.refl _).raiseReq _),
      raised_of_one _ s.dev.dropPend rfl hset (congrArg State.dev (s.onAon_of _ hl))⟩

/-! ### Reads see no register port -/

/-- A device with another register port. -/
def Device.withPort (d : Device) (p : RegPort) : Device := { d with port := p }

section
variable (d : Device) (p : RegPort)

theorem foldl_withPort {α : Type} {f : Device → α → Device} (hf : ∀ e x, f (e.withPort p) x = (f e x).withPort p) (l : List α) (d : Device) :
    l.foldl f (d.withPort p) = (l.foldl f d).withPort p := by
  induction l generalizing d with
  | nil => rfl
  | cons x l ih => rw [List.foldl_cons, List.foldl_cons, hf, ih]

theorem setReg64_withPort (k v : Nat) : (d.withPort p).setReg64 k v = (d.setReg64 k v).withPort p := rfl

theorem inc64_withPort (k n : Nat) : (d.withPort p).inc64 k n = (d.inc64 k n).withPort p := by
  have hreg : (d.withPort p).reg64 k = d.reg64 k := rfl
  rw [Device.inc64, hreg, setReg64_withPort, Device.inc64]

theorem setRun_withPort (i : Nat) (r : Run) : (d.withPort p).setRun i r = (d.setRun i r).withPort p := rfl

theorem run?_withPort (i : Nat) : (d.withPort p).run? i = d.run? i := rfl

theorem stoppedCount_withPort (o : Nat) (x : Stopped) : Stopped.count o (d.withPort p) x = (Stopped.count o d x).withPort p := by
  simp only [Stopped.count, inc64_withPort, ← apply_ite (fun e : Device => e.withPort p)]

theorem settleStopped_withPort (q : Stopped → Bool) (o : Nat) : (d.withPort p).settleStopped q o = (d.settleStopped q o).withPort p := by
  have hfold := foldl_withPort p (fun e => stoppedCount_withPort e p o) (d.plots.stopped.filter q) d
  have hplots : (d.withPort p).plots = d.plots := rfl
  unfold Device.settleStopped
  rw [hplots, hfold]
  rfl

theorem settleArray_withPort (key e t : Nat) (r : Run) :
    settleArray key e t (d.withPort p) r = ((settleArray key e t d r).1.withPort p, (settleArray key e t d r).2) := by
  simp only [settleArray, inc64_withPort]

theorem settleArrays_withPort (e t : Nat) (r : Run) :
    settleArrays e t (d.withPort p) r = ((settleArrays e t d r).1.withPort p, (settleArrays e t d r).2) := by
  unfold settleArrays
  generalize r.arrays = l
  induction l generalizing d r with
  | nil => rfl
  | cons x l ih => rw [List.foldl_cons, List.foldl_cons, settleArray_withPort, ih]

theorem settleCounts_withPort (die o : Nat) : (d.withPort p).settleCounts die o = (d.settleCounts die o).withPort p := by
  unfold Device.settleCounts
  rw [settleStopped_withPort]
  refine foldl_withPort p (fun e x => ?_) _ _
  simp only [run?_withPort]
  cases e.run? x.1 with
  | none => rfl
  | some r => simp only [settleArrays_withPort, setRun_withPort]

theorem settleElems_withPort (die o : Nat) : (d.withPort p).settleElems die o = (d.settleElems die o).withPort p := by
  have hplots : (d.withPort p).plots = d.plots := rfl
  unfold Device.settleElems
  rw [hplots]
  refine foldl_withPort p (fun e x => ?_) _ _
  simp only [run?_withPort]
  cases e.run? x.1 with
  | none => rfl
  | some r =>
    dsimp only
    rw [inc64_withPort, setRun_withPort]

theorem arrCounts_withPort (tb : Timebase) (a : Nat) : arrCounts tb (d.withPort p) a = arrCounts tb d a := by
  unfold arrCounts
  simp only [settleCounts_withPort, settleElems_withPort, settleStopped_withPort]
  rfl

theorem viewOf_withPort (tb : Timebase) (k : Nat) : viewOf tb (d.withPort p) k = viewOf tb d k := by
  unfold viewOf
  simp only [arrCounts_withPort]
  rfl

end

/-- What a register reads now does not depend on a pending _LO write. -/
theorem currentAt_dropPend (tb : Timebase) (d : Device) (a : Nat) : currentAt tb d.dropPend a = currentAt tb d a := by
  have hview := viewOf_withPort d { d.port with pendLo := none } tb
  unfold currentAt current
  cases regDesc a with
  | none => rfl
  | some r => exact congrArg (fun o => readable r (Option.getD o _)) (hview _)

/-! ### Pairs (R10) -/

theorem isLo_sequenceData : isLo R.SEQ_AST_DATA0 = false := by decide +kernel
theorem isHi_sequenceData : isHi R.SEQ_AST_DATA0 = false := by decide +kernel
theorem isLo_furCount : isLo R.FUR_COUNT_LO = true := by decide +kernel

section
variable {s : State} {a : Nat} {r : RegDesc} (hl : s.dev.power.porst = true) (hd : regDesc a = some r) (hresp : s.dev.responds a = true)
include hl hd hresp

/-- R10, R48: the timebase that a read leaves: a read of FUR_COUNT_LO captures the offset. -/
def Timebase.capture (tb : Timebase) (a : Nat) : Timebase := if a = R.FUR_COUNT_LO then { tb with offsetCap := tb.offset } else tb

/-- A read of a register. -/
theorem regRead_eq : regRead a s = State.flushed { s with
    tb := s.tb.capture a, dev := readReg (s.tb.capture a) r a s.dev.dropPend } := by
  have hr : s.dev.dropPend.responds a = true := hresp
  rw [regRead_of a hl]
  simp only [regReadPart, hr, hd, Timebase.capture, beq_iff_eq]
  by_cases h : a = R.FUR_COUNT_LO <;> simp only [h, if_true, if_false] <;> rfl

/-- A read of a _LO register captures the upper half. -/
theorem regRead_lo (hlo : isLo a = true) : regRead a s = State.flushed { s with
    tb := s.tb.capture a
    dev := (s.dev.dropPend.setCapture a (currentAt (s.tb.capture a) s.dev (a + 4))).setRdata (currentAt (s.tb.capture a) s.dev a) } := by
  have hne : (a == R.SEQ_AST_DATA0) = false := beq_eq_false_iff_ne.mpr (ne_of_check hlo isLo_sequenceData)
  have hcur : current (s.tb.capture a) s.dev.dropPend r a = currentAt (s.tb.capture a) s.dev a := by
    rw [← currentAt_dropPend, currentAt, hd]
  rw [regRead_eq hl hd hresp]
  simp only [readReg, hne, hlo, currentAt_dropPend, hcur]
  rfl

/-- A read of a _HI register returns what its _LO captured, and consumes it. -/
theorem regRead_hi_captured (hhi : isHi a = true) (hlo : isLo a = false) {v : W32} (hcap : s.dev.port.captures.get? (a - 4) = some v) :
    regRead a s = State.flushed { s with dev := { s.dev.dropPend with
      port := { s.dev.dropPend.port with captures := s.dev.port.captures.del (a - 4), rdata := v } } } := by
  have hne : (a == R.SEQ_AST_DATA0) = false := beq_eq_false_iff_ne.mpr (ne_of_check hhi isHi_sequenceData)
  have htb : s.tb.capture a = s.tb := if_neg (by rintro rfl; simp [isLo_furCount] at hlo)
  have hport : s.dev.dropPend.port.captures.get? (a - 4) = some v := hcap
  rw [regRead_eq hl hd hresp, htb]
  simp only [readReg, hne, hlo, hhi, hport, if_true, Bool.false_eq_true, if_false]
  rfl

/-- With nothing captured it returns the upper half as it stands. -/
theorem regRead_hi_uncaptured (hhi : isHi a = true) (hlo : isLo a = false) (hcap : s.dev.port.captures.get? (a - 4) = none) :
    regRead a s = State.flushed { s with dev := s.dev.dropPend.setRdata (currentAt s.tb s.dev a) } := by
  have hne : (a == R.SEQ_AST_DATA0) = false := beq_eq_false_iff_ne.mpr (ne_of_check hhi isHi_sequenceData)
  have htb : s.tb.capture a = s.tb := if_neg (by rintro rfl; simp [isLo_furCount] at hlo)
  have hcur : current s.tb s.dev.dropPend r a = currentAt s.tb s.dev a := by rw [← currentAt_dropPend, currentAt, hd]
  have hport : s.dev.dropPend.port.captures.get? (a - 4) = none := hcap
  rw [regRead_eq hl hd hresp, htb]
  simp only [readReg, hne, hlo, hhi, hcur, hport, if_true, Bool.false_eq_true, if_false]

/-- A write of an RW _LO register is held. -/
theorem regWrite_lo {v : Nat} (hrw : r.hasRw = true) (hlo : isLo a = true) (hv : v < 2 ^ 32) :
    regWrite a v s = State.flushed { s with dev := holdLo a v s.dev.dropPend } := by
  have hr : s.dev.dropPend.responds a = true := hresp
  rw [regWrite_of a v hl]
  simp only [regWritePart, hr, hd, hlo, hrw, Nat.mod_eq_of_lt hv]
  rfl

end

/-! A _HI register commands nothing. -/

/-- The _HI registers of the pairs of single blocks. -/
def hiSingles : List Nat :=
  (loRegs.filter (·.2.1 ≤ 4)).flatMap fun x => (List.range x.2.1).map fun k => x.1 + k * x.2.2 + 4

/-- A _HI register is one of those, or of a queue pair. -/
theorem isHi_cases {a : Nat} (h : isHi a = true) : a ∈ hiSingles ∨ ∃ q < 4096, ∃ b ∈ [R.QM_QP_SQ_BASE_LO, R.QM_QP_CQ_BASE_LO], a = b + 64 * q + 4 := by
  simp only [isHi, isLo, Bool.and_eq_true, decide_eq_true_eq, List.any_eq_true, beq_iff_eq] at h
  obtain ⟨h4, x, hx, ⟨hle, hmod⟩, hdiv⟩ := h
  have ha : a = x.1 + (a - 4 - x.1) / x.2.2 * x.2.2 + 4 := by
    have := Nat.div_mul_cancel (Nat.dvd_of_mod_eq_zero hmod)
    omega
  by_cases hc : x.2.1 ≤ 4
  · exact .inl (List.mem_flatMap.mpr ⟨x, List.mem_filter.mpr ⟨hx, by simpa using hc⟩,
      List.mem_map.mpr ⟨_, List.mem_range.mpr hdiv, ha.symm⟩⟩)
  · have hq : ∀ y ∈ loRegs, ¬ y.2.1 ≤ 4 → y.2 = (4096, 64) ∧ y.1 ∈ [R.QM_QP_SQ_BASE_LO, R.QM_QP_CQ_BASE_LO] := by decide +kernel
    obtain ⟨h2, h1⟩ := hq x hx hc
    rw [h2] at ha hdiv
    exact .inr ⟨_, hdiv, x.1, h1, by omega⟩

/-- No unit takes a write of the register: it is stored. -/
def storedHi (a : Nat) : Bool :=
  (commandA a 0).isNone && (commandB a 0).isNone && (clearsAt Timebase.reset a).isNone && a != R.PWR_CTRL && a != R.FUR_CTRL &&
    a != R.EVT_STATUS

theorem storedHi_singles : ∀ a ∈ hiSingles, storedHi a = true := by decide +kernel

/-- A register of a queue pair, but its CTRL, is stored. -/
theorem storedHi_queuePair {a : Nat} (hlo : R.QM_QP_CTRL ≤ a) (hhi : a < R.QM_CTX_SEL) (hctrl : (a - R.QM_QP_CTRL) % 64 ≠ 0) :
    storedHi a = true := by
  have hne : ∀ c, c < R.QM_QP_CTRL ∨ R.QM_CTX_SEL ≤ c → a ≠ c := by omega
  have hbeq : ∀ c, c < R.QM_QP_CTRL ∨ R.QM_CTX_SEL ≤ c → (a == c) = false := fun c h => beq_eq_false_iff_ne.mpr (hne c h)
  have hdie : ∀ b, (∀ n < 4, dieReg b n < R.QM_QP_CTRL ∨ R.QM_CTX_SEL ≤ dieReg b n) → dieAt b a = none := fun b h =>
    List.find?_eq_none.mpr fun n hn => by simpa using hne _ (h n (List.mem_range.mp hn))
  have hqp : ((a - R.QM_QP_CTRL) % 64 == 0) = false := beq_eq_false_iff_ne.mpr hctrl
  have hc0 : decide (R.QM_C0_PREFILL ≤ a) = false := decide_eq_false (Nat.not_le.mpr (Nat.lt_of_lt_of_le hhi (by decide)))
  have hA : commandA a 0 = none := by
    simp (disch := decide) only [commandA, hbeq, hqp, hc0, Bool.and_false, Bool.false_and, Bool.false_eq_true, if_false]
  have hB : commandB a 0 = none := by simp (disch := decide) only [commandB, hbeq, Bool.false_eq_true, if_false]
  have hC : clearsAt Timebase.reset a = none := by simp (disch := decide) only [clearsAt, hbeq, hdie, Bool.false_eq_true, if_false]
  simp (disch := decide) only [storedHi, hA, hB, hC, bne, hbeq, Option.isNone_none, Bool.not_false, Bool.and_true]

theorem storedHi_of_isHi {a : Nat} (h : isHi a = true) : storedHi a = true := by
  rcases isHi_cases h with h | ⟨q, hq, b, hb, rfl⟩
  · exact storedHi_singles a h
  · simp only [List.mem_cons, List.not_mem_nil, or_false] at hb
    rcases hb with rfl | rfl <;> refine storedHi_queuePair ?_ ?_ ?_ <;>
      simp only [R.QM_QP_SQ_BASE_LO, R.QM_QP_CQ_BASE_LO, R.QM_QP_CTRL, R.QM_CTX_SEL] <;> omega

/-! The key of a register, while a register that selects none is written. -/

/-- The registers that select which of several is meant. -/
def selRegs : List Nat :=
  [R.QM_CTX_SEL, R.QM_WIN_SEL, R.SEQ_MDL_SEL, R.SEQ_GRF_SEL, R.SIEVE_IDX_SEL, R.FLASH_SLOT_SEL, R.FLASH_NS_SEL, R.MEMC_CH_SEL,
    R.GATH_TBL_SEL, R.TEXT_VOC_SEL, R.ESP_GRM_SEL, R.PASM_TPL_SEL, R.BRX_PORT_SEL, R.HOST_MOD_SEL, R.PWR_STG_SEL, R.EVT_TEL_SEL]

theorem regKey_setReg {k : Nat} (hk : k ∉ selRegs) (d : Device) (v : Nat) (r : RegDesc) (a : Nat) :
    regKey (d.setReg k v) r a = regKey d r a := by
  have hfld : ∀ j ∈ selRegs, ∀ hi lo, (d.setReg k v).fld j hi lo = d.fld j hi lo := fun j hj hi lo =>
    congrArg (bits hi lo) (reg_setReg_ne d v fun e => hk (e ▸ hj))
  simp only [selRegs, List.forall_mem_cons] at hfld
  obtain ⟨h1, h2, h3, h4, h5, h6, h7, h8, h9, h10, h11, h12, h13, h14, h15, h16, -⟩ := hfld
  simp only [regKey, Device.ctxSel, Device.winSel, Device.slotSel, Device.nsSel, Device.telSel, h1, h2, h3, h4, h5, h6, h7, h8, h9,
    h10, h11, h12, h13, h14, h15, h16]

theorem regKey_mod (d : Device) (r : RegDesc) (a : Nat) : regKey d r a % 2 ^ 32 = a % 2 ^ 32 := by
  unfold regKey
  split <;> simp [inst, winReg]

/-- A _LO register selects none. -/
theorem regKey_lo_notMem_selRegs {d : Device} {q : RegDesc} {a : Nat} (h : isLo a = true) : regKey d q a ∉ selRegs := by
  have hsel : ∀ k ∈ selRegs, isLo k = false ∧ k < 2 ^ 32 := by decide +kernel
  have hlt : a < 2 ^ 32 := by
    have hloRegs : ∀ x ∈ loRegs, 0 < x.2.2 ∧ x.1 + x.2.1 * x.2.2 < 2 ^ 32 := by decide +kernel
    simp only [isLo, List.any_eq_true, Bool.and_eq_true, decide_eq_true_eq] at h
    obtain ⟨x, hx, ⟨-, -⟩, hdiv⟩ := h
    obtain ⟨hpos, hx⟩ := hloRegs x hx
    have := (Nat.div_lt_iff_lt_mul hpos).mp hdiv
    omega
  intro hk
  obtain ⟨hn, hk32⟩ := hsel _ hk
  have hmod := regKey_mod d q a
  rw [Nat.mod_eq_of_lt hk32, Nat.mod_eq_of_lt hlt] at hmod
  rw [hmod, h] at hn
  exact absurd hn (by decide)

/-- A write of a _HI register with its _LO pending stores both halves. -/
theorem writeReg_hi {d : Device} {r q : RegDesc} {a : Nat} (hq : regDesc (a - 4) = some q) (hhi : isHi a = true)
    (hst : stagedReg a = false) (hlk : locked d a = false) {v : Nat} {w : W32} (hr : rangeOk d r a v (some w) = true) (tb : Timebase) :
    writeReg r a v (some w) tb d = storeReg r a v (storeReg q (a - 4) w.toNat d) := by
  have hs := storedHi_of_isHi hhi
  simp only [storedHi, Bool.and_eq_true, bne_iff_ne] at hs
  obtain ⟨⟨⟨⟨⟨hA, hB⟩, hclr⟩, -⟩, -⟩, he⟩ := hs
  have hA' := Option.isNone_iff_eq_none.mp ((commandA_isNone a v).trans hA)
  have hB' := Option.isNone_iff_eq_none.mp ((commandB_isNone a v).trans hB)
  have hC' := Option.isNone_iff_eq_none.mp ((clearsAt_isNone tb a).trans hclr)
  have he' : (a == R.EVT_STATUS) = false := beq_eq_false_iff_ne.mpr he
  simp only [writeReg, hst, hA', hB', hC', he', hhi, storePair, hlk, hr, hq, Bool.false_and, Bool.false_eq_true, if_false]
  rfl

/-- Settles O19: the two reads and the two writes of a pair. -/
theorem pairsReadAndWriteAsOneValue : Obligations.PairsReadAndWriteAsOneValue := by
  refine ⟨fun s a r hd hlo hresp hl => ?readLo, fun s a r hd hhi hlo hresp hl => ?readHi, fun s a v r hd hrw hlo hresp hv hl => ?writeLo,
    fun s a v w r q hd hq hhi hlo hst hresp hlk hv hpend hrange hkeys hkr hkq hl => ?writeHi⟩
  case readLo =>
    have hdev : Device.Only [.port] [] s.dev (Device.flush (s.tb.capture a)
        ((s.dev.dropPend.setCapture a (currentAt (s.tb.capture a) s.dev (a + 4))).setRdata (currentAt (s.tb.capture a) s.dev a))) :=
      Device.Only.flush (by exact .of_regs [.port] rfl (List.Subset.refl _) rfl) _
    refine ⟨_, congrArg Host.Outcome.next ((if_pos hlo).trans (regRead_lo hl hd hresp hlo)), hdev.regs, rfl,
      fun p hr he hp => hdev.parts p (by simpa using hp) hr he, rfl, ?_⟩
    rw [State.flushed_dev, Device.flush_port]
    exact ⟨rfl, rfl, Tbl.get?_set_self .., fun b hb => Tbl.get?_set_ne _ _ (Ne.symm hb)⟩
  case readHi =>
    cases hcap : s.dev.port.captures.get? (a - 4) with
    | some x =>
      have hdev : Device.Only [.port] [] s.dev (Device.flush s.tb { s.dev.dropPend with
          port := { s.dev.dropPend.port with captures := s.dev.port.captures.del (a - 4), rdata := x } }) :=
        Device.Only.flush (by exact .of_regs [.port] rfl (List.Subset.refl _) rfl) _
      refine ⟨_, congrArg Host.Outcome.next ((if_pos hhi).trans (regRead_hi_captured hl hd hresp hhi hlo hcap)),
        ⟨rfl, rfl, hdev.regs, hdev.parts⟩, ?_⟩
      rw [State.flushed_dev, Device.flush_port]
      exact ⟨rfl, fun y hy => ⟨Option.some.inj hy, rfl⟩, fun hn => (nomatch hn)⟩
    | none =>
      have hdev : Device.Only [.port] [] s.dev (Device.flush s.tb (s.dev.dropPend.setRdata (currentAt s.tb s.dev a))) :=
        Device.Only.flush (by exact .of_regs [.port] rfl (List.Subset.refl _) rfl) _
      refine ⟨_, congrArg Host.Outcome.next ((if_pos hhi).trans (regRead_hi_uncaptured hl hd hresp hhi hlo hcap)),
        ⟨rfl, rfl, hdev.regs, hdev.parts⟩, ?_⟩
      rw [State.flushed_dev, Device.flush_port]
      exact ⟨rfl, fun y hy => (nomatch hy), fun _ => ⟨rfl, rfl⟩⟩
  case writeLo =>
    have hdev : Device.Only [.port] [] s.dev (Device.flush s.tb (holdLo a v s.dev.dropPend)) :=
      Device.Only.flush (by exact .of_regs [.port] rfl (List.Subset.refl _) rfl) _
    exact ⟨_, congrArg Host.Outcome.next ((if_pos hlo).trans (regWrite_lo hl hd hresp hrw hlo hv)),
      ⟨rfl, rfl, hdev.regs, hdev.parts⟩, Device.flush_port ..⟩
  case writeHi =>
    have hs := storedHi_of_isHi hhi
    simp only [storedHi, Bool.and_eq_true, bne_iff_ne] at hs
    obtain ⟨⟨⟨-, hpwr⟩, hfur⟩, -⟩ := hs
    have h4 : a - 4 + 4 = a := by
      simp only [isHi, Bool.and_eq_true, decide_eq_true_eq] at hhi
      omega
    have hlo4 : isLo (a - 4) = true := by
      simp only [isHi, Bool.and_eq_true] at hhi
      exact hhi.2
    have hpl : s.pendingLo a = some w := by simp [State.pendingLo, hpend, hhi, h4]
    have hw : writeReg r a v (s.pendingLo a) s.tb s.dev.dropPend = storeReg r a v (storeReg q (a - 4) w.toNat s.dev.dropPend) := by
      rw [hpl]
      exact writeReg_hi (d := s.dev.dropPend) hq hhi hst hlk hrange s.tb
    have hkey : regKey (storeReg q (a - 4) w.toNat s.dev.dropPend) r a = regKey s.dev r a :=
      regKey_setReg (regKey_lo_notMem_selRegs hlo4) ..
    have hstore : storeReg r a v (storeReg q (a - 4) w.toNat s.dev.dropPend) =
        (s.dev.dropPend.setReg (regKey s.dev q (a - 4)) (storeFields q (s.dev.reg (regKey s.dev q (a - 4))) w.toNat)).setReg
          (regKey s.dev r a) (storeFields r (s.dev.reg (regKey s.dev r a)) v) := by
      rw [storeReg, hkey, storeReg, reg_setReg_ne (k := regKey s.dev.dropPend q (a - 4)) _ _ hkeys.symm]
      rfl
    refine ⟨_, congrArg Host.Outcome.next ((if_pos hhi).trans (regWrite_onAon hl hd hresp hlo hpwr hfur hv)), frame_of_onAon hl (by simp) ?_, ?_⟩
    · rw [hw, hstore]
      exact ((Device.Only.refl _).setReg _ (by simp)).setReg _ (by simp)
    · rw [s.onAon_of _ hl, hw, hstore]
      refine ⟨Device.flush_port .., ?_, ?_⟩
      · exact (reg_flush _ _ hkr).trans (reg_setReg_self ..)
      · exact (reg_flush _ _ hkq).trans ((reg_setReg_ne _ _ hkeys).trans (reg_setReg_self ..))

end Sys2Proof.Machine
end

section
/-! PROOFS of the slots of a plot run: what an instruction adds to what is in flight, and the frame of one that passes its checks. -/
namespace Sys2Proof.Machine

/-! ### Operations in flight -/

theorem mem_insertPend {x y : Nat × Nat × Pend} (l : List (Nat × Nat × Pend)) : y ∈ insertPend x l ↔ y = x ∨ y ∈ l := by
  induction l with
  | nil => simp [insertPend]
  | cons z l ih =>
    unfold insertPend
    split
    · simp only [List.mem_cons, ih]
      exact or_left_comm
    · simp only [List.mem_cons]

/-- A run that differs from another in what is in flight, which only grew, and in the bank occupancy. -/
structure Run.Adds (r r' : Run) : Prop where
  eq : r' = { r with pend := r'.pend, banks := r'.banks }
  keeps : ∀ p, p ∈ r.pend → p ∈ r'.pend

section
variable {r r' q : Run}

theorem Run.Adds.refl (r : Run) : r.Adds r := ⟨rfl, fun _ => id⟩

theorem Run.Adds.trans (h : r.Adds r') (g : r'.Adds q) : r.Adds q := by
  refine ⟨?_, fun p hp => g.keeps p (h.keeps p hp)⟩
  have hq := g.eq
  rw [h.eq] at hq
  exact hq

theorem Run.mem_at (r : Run) (clk order : Nat) (p : Pend) : (clk, order, p) ∈ (r.at clk order p).pend :=
  (mem_insertPend _).mpr (.inl rfl)

theorem Run.adds_at (r : Run) (clk order : Nat) (p : Pend) : r.Adds (r.at clk order p) :=
  ⟨rfl, fun _ hp => (mem_insertPend _).mpr (.inr hp)⟩

/-- Steps that add to what is in flight, one after the other. -/
theorem Run.adds_foldl {α : Type} {g : Run → α → Run} (hg : ∀ (r : Run) (x : α), r.Adds (g r x)) (l : List α) (r : Run) : r.Adds (l.foldl g r) := by
  induction l generalizing r with
  | nil => exact .refl r
  | cons x l ih => exact (hg r x).trans (ih _)

/-- What each of the steps adds is in flight at their end. -/
theorem Run.mem_foldl {α : Type} {g : Run → α → Run} (hg : ∀ (r : Run) (x : α), r.Adds (g r x)) {y : Nat × Nat × Pend} {x : α}
    (hy : ∀ r, y ∈ (g r x).pend) {l : List α} (hx : x ∈ l) (r : Run) : y ∈ (l.foldl g r).pend := by
  induction l generalizing r with
  | nil => cases hx
  | cons z l ih =>
    rcases List.mem_cons.mp hx with rfl | hx
    · exact (Run.adds_foldl hg l _).keeps y (hy r)
    · exact ih hx _

/-- Effects put in their places, one for each of a list. -/
theorem Run.adds_ats {clk order : Nat → Nat} {p : Nat → Pend} (l : List Nat) (r : Run) :
    r.Adds (l.foldl (fun q k => q.at (clk k) (order k) (p k)) r) := Run.adds_foldl (fun q _ => q.adds_at _ _ _) l r

theorem Run.mem_ats {clk order : Nat → Nat} {p : Nat → Pend} {n k : Nat} (hk : k < n) (r : Run) :
    (clk k, order k, p k) ∈ ((List.range n).foldl (fun q k => q.at (clk k) (order k) (p k)) r).pend :=
  Run.mem_foldl (g := fun q k => q.at (clk k) (order k) (p k)) (fun q _ => q.adds_at _ _ _) (x := k) (fun q => q.mem_at _ _ _)
    (List.mem_range.mpr hk) r

theorem Run.adds_occupy (r : Run) (acc : List (Nat × Nat)) : r.Adds (r.occupy acc) := by
  unfold Run.occupy
  have hbanks : r.Adds { r with banks := (acc.foldl addOcc (r.banks.filter (fun p => r.now ≤ p.1), [])).1 } := ⟨rfl, fun _ => id⟩
  exact hbanks.trans (Run.adds_foldl (fun r p => r.adds_at _ _ _) _ _)

theorem Run.Adds.onlyFlight (h : r.Adds r') : r.onlyFlight r' := by
  refine ⟨?_, h.keeps⟩
  have he := h.eq
  rw [he]

/-- A run that holds a store port, and adds. -/
theorem Run.Adds.onlyFlight_port {p n : Nat} (h : (r.holdPort p n).Adds r') :
    r.onlyFlight r' ∧ r'.ports.getD p 0 = r.now + n := by
  have he := h.eq
  refine ⟨⟨?_, h.keeps⟩, ?_⟩
  · rw [he]
    rfl
  · rw [he]
    simp [Run.holdPort, Tbl.getD_set]

end

/-! ### A slot instruction that passes its checks -/

theorem firstExc_nil : firstExc [] = none := by decide

/-- A run is stored among the runs alone. -/
theorem Device.Only.setRun {ps : List DevPart} {ks : List Nat} {a b : Device} (h : Device.Only ps ks a b) (i : Nat) (r : Run)
    (hp : DevPart.plots ∈ ps) : Device.Only ps ks a (b.setRun i r) :=
  h.trans (.of_regs [.plots] rfl (by simpa using hp) rfl)

section
variable {s : State} {i : Nat} {ks : List Nat} {e : Device} {r' : Run} {f : Timebase → Device → Device}
  (hl : s.dev.power.porst = true) (hf : f s.tb s.dev = e.setRun i r') (he : Device.Only [] ks s.dev e)
include hl hf he

/-- The frame of an effect that stores one run. -/
theorem oneRun_of_setRun : s.oneRun i ks (s.onDev f) := by
  have hplots : e.plots = s.dev.plots := he.part .plots (by simp)
  rw [s.onDev_of f hl, hf]
  have hdev : Device.Only [.plots] ks s.dev ((e.setRun i r').flush s.tb) :=
    ((he.mono (List.nil_subset _) (List.Subset.refl _)).setRun i r' (by simp)).flush _
  refine ⟨⟨rfl, rfl, hdev.regs, hdev.parts⟩, ?_, fun j hj => ?_⟩
  · rw [Device.flush_plots, ← hplots]
    rfl
  · simp only [Device.run?, Device.flush_plots]
    rw [← hplots]
    exact Tbl.get?_set_ne _ _ hj.symm

omit he in
theorem run?_of_setRun : (s.onDev f).dev.run? i = some r' := by
  rw [s.onDev_of f hl, hf]
  simp only [Device.run?, Device.flush_plots]
  exact Tbl.get?_set_self _ _ _

omit he in
theorem reg_of_setRun {k : Nat} (hk : k ∉ eventRegs) : (s.onDev f).dev.reg k = e.reg k := by
  rw [s.onDev_of f hl, hf]
  exact reg_flush _ _ hk

end

/-- A slot instruction that passes its checks stores the run that its action makes. -/
theorem slotOp_passes {i slot : Nat} {chk : Device → Run → List Nat} {act : Device → Run → Device × Run} {d : Device} {r : Run}
    (h : d.issues i r) (hc : chk d r = []) : slotOp i slot chk act d = (act d r).1.setRun i (act d r).2 :=
  slotOp_acts h (by rw [hc, firstExc_nil])

end Sys2Proof.Machine
end

section
/-! PROOFS of the slot instructions (R104 to R121, R176 to R188): arrays, store moves, address registers, the rake and the dispatch. -/
namespace Sys2Proof.Machine

/-- A slot instruction whose checks pass ends: of the device its action changes the listed registers, and it stores the run. -/
theorem ends_of_slot {c : Instr} {s : State} {i slot : Nat} {chk : Device → Run → List Nat} {act : Timebase → Device → Run → Device × Run}
    {r : Run} {ks : List Nat} {P : State → Prop} (hexec : exec c s = .next (s.onDev fun tb d => slotOp i slot chk (act tb) d))
    (hi : s.dev.issues i r) (hc : chk s.dev r = []) (hd : Device.Only [] ks s.dev (act s.tb s.dev r).1)
    (hP : ∀ t, s.oneRun i ks t → t.dev.run? i = some (act s.tb s.dev r).2 →
      (∀ k, k ∉ eventRegs → t.dev.reg k = (act s.tb s.dev r).1.reg k) → P t) : Ends c s P := fun hl =>
  have hop := slotOp_passes (slot := slot) (act := act s.tb) hi hc
  ⟨_, hexec, hP _ (oneRun_of_setRun hl hop hd) (run?_of_setRun hl hop) fun _ hk => reg_of_setRun hl hop hk⟩

/-- The same for an action that leaves the device. -/
theorem ends_of_slot_run {c : Instr} {s : State} {i slot : Nat} {chk : Device → Run → List Nat}
    {act : Timebase → Device → Run → Device × Run} {r : Run} {P : State → Prop}
    (hexec : exec c s = .next (s.onDev fun tb d => slotOp i slot chk (act tb) d))
    (hi : s.dev.issues i r) (hc : chk s.dev r = []) (hd : (act s.tb s.dev r).1 = s.dev)
    (hP : ∀ t, s.oneRun i [] t → t.dev.run? i = some (act s.tb s.dev r).2 → P t) : Ends c s P :=
  ends_of_slot hexec hi hc (by rw [hd]; exact .refl _) fun t ht hr _ => hP t ht hr

/-! ### The control of arrays -/

theorem arr_setArr (r : Run) (key k : Nat) (x : ArrayState) : (r.setArr key x).arr k = if key = k then x else r.arr k :=
  Tbl.getD_set ..

theorem whenB_false (n : Nat) {b : Bool} (h : b = false) : whenB b n = [] := by rw [h]; rfl

/-- An array that the band names meets the checks that every array instruction makes. -/
theorem arrExc_named {r : Run} {k a : Nat} (hk : k < 2) (ha : a < 8) (hn : r.namesArray k a = true) : arrExc r k a = [] := by
  rw [arrExc, whenB_false _ (by simp; omega), whenB_false _ (by simp [hn])]
  rfl

/-- Settles O22: the checks pass, and the action is one array's change. -/
theorem arrayControlInstructions : Obligations.ArrayControlInstructions := by
  intro s i k a r hi hk ha hn
  have harr := arrExc_named hk ha hn
  refine ⟨fun hst => ?rampup, fun hst hw hs hd => ?rampdn, fun hst hw hs hl => ?swapw, fun e he => ?sexp⟩
  case rampup =>
    have hc : rampupExc k a s.dev r = [] := by rw [rampupExc, harr, whenB_false _ (by simp [hst])]; rfl
    exact ends_of_slot (act := fun _ => rampupAct k a) rfl hi hc ((Device.Only.refl _).inc (by simp [])) fun t ht hr hreg =>
      ⟨ht, hr, fun hev => (hreg _ hev).trans (reg_incBy_self ..)⟩
  case rampdn =>
    have hc : rampdnExc k a s.dev r = [] := by
      rw [rampdnExc, harr, whenB_false _ (by simp [hst, ArrayState.idle, hw, hs, hd])]
      rfl
    exact ends_of_slot_run (act := fun _ => rampdnAct k a) rfl hi hc rfl fun t ht hr => ⟨ht, hr⟩
  case swapw =>
    have hc : swapwExc k a s.dev r = [] := by
      rw [swapwExc, harr, whenB_false _ (by simpa [hst, hw, hs] using hl)]
      rfl
    exact ends_of_slot_run (act := fun _ => swapwAct k a) rfl hi hc rfl fun t ht hr => ⟨ht, hr⟩
  case sexp =>
    exact ends_of_slot_run (act := fun _ => sexpAct k a e) rfl hi harr rfl fun t ht hr =>
      ⟨ht, _, hr, (r.adds_at ..).onlyFlight, r.mem_at ..⟩

/-! ### Address registers and store moves -/

/-- Settles O27: each adds the write of its address register. -/
theorem addressRegisterInstructions : Obligations.AddressRegisterInstructions := by
  intro s i r hi
  refine ⟨fun a imm ha hv => ?seta, fun a b n ha hb => ?adda, fun a ha => ?rdfur, fun a ha => ?rdclk, fun a p sw sa so hc => ?lda⟩
  case seta =>
    exact ends_of_slot_run (chk := (setaOp a imm).chk) (act := (setaOp a imm).act) rfl hi (whenB_false _ (by simp; omega)) rfl
      fun t ht hr => ⟨ht, _, hr, (r.adds_at ..).onlyFlight, r.mem_at ..⟩
  case adda =>
    exact ends_of_slot_run (chk := (addaOp a b n).chk) (act := (addaOp a b n).act) rfl hi (whenB_false _ (by simp; omega)) rfl
      fun t ht hr => ⟨ht, _, hr, (r.adds_at ..).onlyFlight, r.mem_at ..⟩
  case rdfur =>
    exact ends_of_slot_run (chk := (rdfurOp a).chk) (act := (rdfurOp a).act) rfl hi (whenB_false _ (by simp; omega)) rfl
      fun t ht hr => ⟨ht, _, hr, (r.adds_at ..).onlyFlight, r.mem_at ..⟩
  case rdclk =>
    exact ends_of_slot_run (chk := (rdclkOp a).chk) (act := (rdclkOp a).act) rfl hi (whenB_false _ (by simp; omega)) rfl
      fun t ht hr => ⟨ht, _, hr, (r.adds_at ..).onlyFlight, r.mem_at ..⟩
  case lda =>
    refine ends_of_slot_run (chk := (ldaOp a p sw sa so).chk) (act := (ldaOp a p sw sa so).act) rfl hi hc rfl fun t ht hr => ?_
    exact ⟨ht, _, hr, and_assoc.mp ⟨Run.Adds.onlyFlight_port ((Run.adds_at _ _ _ _).trans (Run.adds_occupy _ _)),
      (Run.adds_occupy _ _).keeps _ (Run.mem_at ..)⟩⟩

/-- Settles O28: each adds its reads or writes; the copy and the fill, one for each unit. -/
theorem storeMoveInstructions : Obligations.StoreMoveInstructions := by
  intro s i r hi
  refine ⟨fun p sw sa dw da so d n hc => ?copy, fun p dw da pr d n hc => ?fill, fun p sw sa so q hc => ?pdld,
    fun sw sa dw da so d hc => ?rkset, fun c hc hlt => ?waitclk⟩
  case copy =>
    refine ends_of_slot_run (chk := (copyOp p sw sa dw da so d n).chk) (act := (copyOp p sw sa dw da so d n).act) rfl hi hc rfl
      fun t ht hr => ?_
    refine ⟨ht, _, hr, and_assoc.mp ⟨Run.Adds.onlyFlight_port (((Run.adds_ats _ _).trans
      (Run.adds_occupy _ _)).trans (Run.adds_occupy _ _)), fun k hk => ?_⟩⟩
    exact (Run.adds_occupy _ _).keeps _ ((Run.adds_occupy _ _).keeps _
      (Run.mem_ats hk _))
  case fill =>
    refine ends_of_slot_run (chk := (fillOp p dw da pr d n).chk) (act := (fillOp p dw da pr d n).act) rfl hi hc rfl
      fun t ht hr => ?_
    refine ⟨ht, _, hr, and_assoc.mp ⟨Run.Adds.onlyFlight_port ((Run.adds_ats _ _).trans
      (Run.adds_occupy _ _)), fun k hk => ?_⟩⟩
    exact (Run.adds_occupy _ _).keeps _
      (Run.mem_ats hk _)
  case pdld =>
    refine ends_of_slot_run (chk := (pdldOp p sw sa so q).chk) (act := (pdldOp p sw sa so q).act) rfl hi hc rfl fun t ht hr => ?_
    exact ⟨ht, _, hr, and_assoc.mp ⟨Run.Adds.onlyFlight_port ((Run.adds_at _ _ _ _).trans (Run.adds_occupy _ _)),
      (Run.adds_occupy _ _).keeps _ (Run.mem_at ..)⟩⟩
  case rkset =>
    exact ends_of_slot_run (chk := (rksetOp sw sa dw da so d).chk) (act := (rksetOp sw sa dw da so d).act) rfl hi hc rfl
      fun t ht hr => ⟨ht, _, hr, (r.adds_at ..).onlyFlight, r.mem_at ..⟩
  case waitclk =>
    have hpass : (waitclkOp c).chk s.dev r = [] := by
      change whenB _ _ ++ whenB _ _ = []
      rw [whenB_false _ (by simpa using hc), whenB_false _ (by simpa using hlt)]
      rfl
    exact ends_of_slot_run (chk := (waitclkOp c).chk) (act := (waitclkOp c).act) rfl hi hpass rfl fun t ht hr => ⟨ht, hr⟩

end Sys2Proof.Machine
end

section
/-! PROOFS of the slot instructions that move data: LDW, MM, DRAIN, the rake, and the dispatch of trowel programs. -/
namespace Sys2Proof.Machine

/-! ### Counters of a die -/

theorem Device.Only.inc64 {ps : List DevPart} {ks : List Nat} {a b : Device} (h : Device.Only ps ks a b) {k : Nat} (n : Nat)
    (hlo : k ∈ ks) (hhi : k + 4 ∈ ks) : Device.Only ps ks a (b.inc64 k n) := (h.setReg _ hlo).setReg _ hhi

theorem dieReg_add_four (a die : Nat) : dieReg a die + 4 = dieReg (a + 4) die := Nat.add_right_comm ..

/-- The halves of a counter of busy or up clks. -/
theorem mem_clkRegs {a : Nat} (ha : a ∈ [R.ARR_P_BUSY_LO, R.ARR_D_BUSY_LO, R.ARR_P_UP_LO, R.ARR_D_UP_LO]) (die : Nat) :
    dieReg a die ∈ clkRegs die ∧ dieReg a die + 4 ∈ clkRegs die := by
  rw [dieReg_add_four]
  have hmem : ∀ b ∈ [R.ARR_P_BUSY_LO, R.ARR_P_BUSY_HI, R.ARR_D_BUSY_LO, R.ARR_D_BUSY_HI, R.ARR_P_UP_LO, R.ARR_P_UP_HI,
    R.ARR_D_UP_LO, R.ARR_D_UP_HI], dieReg b die ∈ clkRegs die := fun b hb => List.mem_map_of_mem hb
  have hboth : ∀ b ∈ [R.ARR_P_BUSY_LO, R.ARR_D_BUSY_LO, R.ARR_P_UP_LO, R.ARR_D_UP_LO],
      b ∈ [R.ARR_P_BUSY_LO, R.ARR_P_BUSY_HI, R.ARR_D_BUSY_LO, R.ARR_D_BUSY_HI, R.ARR_P_UP_LO, R.ARR_P_UP_HI, R.ARR_D_UP_LO,
        R.ARR_D_UP_HI] ∧ b + 4 ∈ [R.ARR_P_BUSY_LO, R.ARR_P_BUSY_HI, R.ARR_D_BUSY_LO, R.ARR_D_BUSY_HI, R.ARR_P_UP_LO,
        R.ARR_P_UP_HI, R.ARR_D_UP_LO, R.ARR_D_UP_HI] := by decide
  exact ⟨hmem _ (hboth a ha).1, hmem _ (hboth a ha).2⟩

/-- R185: the counting of an array's clks is of the counters of its die. -/
theorem only_settleArray (key e t : Nat) (d : Device) (r : Run) : Device.Only [] (clkRegs r.plot.die) d (settleArray key e t d r).1 := by
  have hreg : ∀ (pf dc : Nat), pf ∈ [R.ARR_P_BUSY_LO, R.ARR_D_BUSY_LO, R.ARR_P_UP_LO, R.ARR_D_UP_LO] →
      dc ∈ [R.ARR_P_BUSY_LO, R.ARR_D_BUSY_LO, R.ARR_P_UP_LO, R.ARR_D_UP_LO] →
      dieReg (if key / 8 == 0 then pf else dc) r.plot.die ∈ clkRegs r.plot.die ∧
        dieReg (if key / 8 == 0 then pf else dc) r.plot.die + 4 ∈ clkRegs r.plot.die := fun pf dc hp hd => by
    split
    · exact mem_clkRegs hp _
    · exact mem_clkRegs hd _
  have hbusy := hreg R.ARR_P_BUSY_LO R.ARR_D_BUSY_LO (by decide) (by decide)
  have hup := hreg R.ARR_P_UP_LO R.ARR_D_UP_LO (by decide) (by decide)
  exact ((Device.Only.refl d).inc64 _ hbusy.1 hbusy.2).inc64 _ hup.1 hup.2

/-! ### One array -/

/-- A run in which one array changed, and what is in flight grew. -/
theorem Run.Adds.onlyArr {r b r' : Run} {key : Nat} {x : ArrayState} (h : b.Adds r') (hb : b = { r with arrays := b.arrays })
    (hx : b.arr key = x) (hne : ∀ k, k ≠ key → b.arr k = r.arr k) : r.onlyArr key r' ∧ r'.arr key = x := by
  have he := h.eq
  have harr : r'.arrays = b.arrays := by rw [he]
  refine ⟨⟨?_, fun k hk => ?_, ?_⟩, ?_⟩
  · rw [hb] at he
    rw [he]
  · exact (congrArg (fun a : Tbl ArrayState => a.getD k freshArray) harr).trans (hne k hk)
  · have hp : r.pend = b.pend := by rw [hb]
    rw [hp]
    exact h.keeps
  · exact (congrArg (fun a : Tbl ArrayState => a.getD key freshArray) harr).trans hx

/-- The same, of an array that was stored. -/
theorem Run.Adds.onlyArr_set {r r' : Run} {key : Nat} {x : ArrayState} (h : (r.setArr key x).Adds r') :
    r.onlyArr key r' ∧ r'.arr key = x :=
  h.onlyArr rfl ((arr_setArr ..).trans (if_pos rfl)) fun k hk => (arr_setArr r key k x).trans (if_neg hk.symm)

/-- R176, R188: the MM that an instruction issues. -/
def mmIssued (z : ArrSlot) (r : Run) : MmOp where
  issue := r.now
  issuedAt := r.elapsed
  final0 := r.now + r.lat z.sw + rowClks z.fmt + 2 * arrD z.kind
  step := rowClks z.fmt
  fmt := z.fmt
  add := z.accf == 1
  e0 := (r.arr (arrKey z.kind z.arr)).pendExp.getD (defaultE0 z.fmt)
  drow := z.drow
  rows := z.rows
  next := 0
  tile := (r.arr (arrKey z.kind z.arr)).active
  pack := if z.pack == 0 then none else some (r.packs.getD z.pack [])
  acts := []
  nonfin := false

/-- The array that streams it: its clks counted so far (R185), the stream, and the pending exponent that an OVERWRITE takes. -/
def mmArray (z : ArrSlot) (r : Run) : ArrayState :=
  { ((r.arr (arrKey z.kind z.arr)).settle r.elapsed r.now).2.2 with
    sFree := r.now + z.rows * rowClks z.fmt, busyFrom := some r.elapsed,
    ops := (r.arr (arrKey z.kind z.arr)).ops ++ [mmIssued z r],
    streamed := (r.arr (arrKey z.kind z.arr)).streamed ++ [⟨r.now, (mmIssued z r).arrival z.kind 0, rowClks z.fmt, z.rows⟩],
    pendExp := if z.accf == 1 then (r.arr (arrKey z.kind z.arr)).pendExp else none }

/-- R185: the run with an array's clks counted. -/
def Run.settled (r : Run) (key : Nat) : Run := r.setArr key ((r.arr key).settle r.elapsed r.now).2.2

/-- The run after an MM was issued: one array changed, and a read is in flight for each row. -/
theorem mmAct_run (z : ArrSlot) (d : Device) (r : Run) :
    (r.onlyArr (arrKey z.kind z.arr) (mmAct z d r).2 ∧ (mmAct z d r).2.arr (arrKey z.kind z.arr) = mmArray z r) ∧
    ∀ j, j < z.rows → (r.now + j * rowClks z.fmt, 32, .mmRead (arrKey z.kind z.arr) r.now j
      (((mmStreams r z).map (fun t => (r.addr z.sw t.1, t.2.1, t.2.2))).map (fun q => (q.1 + j * q.2.1, q.2.2)))) ∈ (mmAct z d r).2.pend := by
  have harr : (r.settled (arrKey z.kind z.arr)).arr (arrKey z.kind z.arr) =
      ((r.arr (arrKey z.kind z.arr)).settle r.elapsed r.now).2.2 := (arr_setArr ..).trans (if_pos rfl)
  have hrun : ∃ acc, (mmAct z d r).2 = ((List.range z.rows).foldl (fun q t =>
      q.at (r.now + t * rowClks z.fmt) 32 (.mmRead (arrKey z.kind z.arr) r.now t
        (((mmStreams r z).map (fun t => (r.addr z.sw t.1, t.2.1, t.2.2))).map (fun q => (q.1 + t * q.2.1, q.2.2)))))
      ((r.settled (arrKey z.kind z.arr)).setArr (arrKey z.kind z.arr) (mmArray z r))).occupy acc := by
    unfold Run.settled at harr
    unfold mmAct
    simp only [settleArray, harr]
    exact ⟨_, rfl⟩
  obtain ⟨acc, hrun⟩ := hrun
  rw [hrun]
  refine ⟨Run.Adds.onlyArr ((Run.adds_ats _ _).trans (Run.adds_occupy _ _)) rfl ?_ fun j hj => ?_, fun j hj =>
    (Run.adds_occupy _ _).keeps _ (Run.mem_ats hj _)⟩
  · exact (arr_setArr ..).trans (if_pos rfl)
  · exact ((arr_setArr ..).trans (if_neg hj.symm)).trans ((arr_setArr ..).trans (if_neg hj.symm))

/-- The first row of an MM meets its first cells one clk before its data have come through the array (R176). -/
theorem arrival_mmIssued (z : ArrSlot) (r : Run) : (mmIssued z r).arrival z.kind 0 = r.now + r.lat z.sw + rowClks z.fmt - 1 := by
  simp only [MmOp.arrival, mmIssued]
  omega

/-- Settles O23: the action stores the array and adds the reads, one for each clk or row. -/
theorem arrayDataInstructions : Obligations.ArrayDataInstructions := by
  refine ⟨fun s i k a f sw sa so r hi hc => ?ldw, fun s i k a acc f pk sw sa so dr n r hi hc => ?mm,
    fun s i k a o dw da rb rc r hi hc => ?drain⟩
  case ldw =>
    refine ends_of_slot_run (act := fun _ => ldwAct k a f sw sa so) rfl hi hc rfl fun t ht hr => ⟨ht, _, hr, ?_⟩
    refine and_assoc.mp ⟨Run.Adds.onlyArr_set ((Run.adds_ats _ _).trans (Run.adds_occupy _ _)), fun j hj => ?_⟩
    exact (Run.adds_occupy _ _).keeps _ (Run.mem_ats hj _)
  case mm =>
    refine ends_of_slot (act := fun _ => mmAct ⟨5, k, a, acc, f, pk, sw, sa, so, dr, n⟩) rfl hi hc (only_settleArray ..)
      fun t ht hr _ => ⟨ht, _, mmIssued ⟨5, k, a, acc, f, pk, sw, sa, so, dr, n⟩ r, hr, ?_⟩
    obtain ⟨⟨honly, harr⟩, hreads⟩ := mmAct_run ⟨5, k, a, acc, f, pk, sw, sa, so, dr, n⟩ s.dev r
    refine ⟨honly, rfl, rfl, rfl, rfl, rfl, rfl, rfl, rfl, rfl, rfl, rfl, ?_, fun hpk j hj => ?_⟩
    · rw [harr, mmArray, arrival_mmIssued]
      simp only [beq_iff_eq]
    · subst hpk
      exact hreads j hj
  case drain =>
    refine ends_of_slot_run (act := fun _ => drainAct k a o dw da rb rc) rfl hi hc rfl fun t ht hr => ⟨ht, _, hr, ?_⟩
    refine and_assoc.mp ⟨Run.Adds.onlyArr_set ((Run.adds_ats _ _).trans (Run.adds_occupy _ _)), fun j hj => ?_⟩
    exact (Run.adds_occupy _ _).keeps _ (Run.mem_ats hj _)

/-! ### The rake -/

/-- An effect that is added under a condition. -/
theorem Run.adds_ite {r r' : Run} {p : Prop} [Decidable p] (h : p → r.Adds r') : r.Adds (if p then r' else r) := by
  split
  · exact h ‹_›
  · exact .refl r

theorem Run.Adds.keeps₂ {r r' : Run} (h : r.Adds r') {x y : Nat × Nat × Pend} (hm : x ∈ r.pend ∧ y ∈ r.pend) :
    x ∈ r'.pend ∧ y ∈ r'.pend := ⟨h.keeps _ hm.1, h.keeps _ hm.2⟩

/-- Reads of a pass, each with its count: element blocks, one a clk. -/
theorem Run.adds_rakeReads {clk : Nat → Nat} {p q : Nat → Pend} (l : List Nat) (r : Run) :
    r.Adds (l.foldl (fun x c => (x.at (clk c) 32 (p c)).at (clk c) 34 (q c)) r) :=
  Run.adds_foldl (fun x _ => (x.adds_at _ _ _).trans (Run.adds_at _ _ _ _)) l r

theorem Run.mem_rakeReads {clk : Nat → Nat} {p q : Nat → Pend} {n c : Nat} (hc : c < n) (r : Run) :
    (clk c, 32, p c) ∈ ((List.range n).foldl (fun x c => (x.at (clk c) 32 (p c)).at (clk c) 34 (q c)) r).pend ∧
    (clk c, 34, q c) ∈ ((List.range n).foldl (fun x c => (x.at (clk c) 32 (p c)).at (clk c) 34 (q c)) r).pend := by
  have hstep : ∀ (x : Run) (c : Nat), x.Adds ((x.at (clk c) 32 (p c)).at (clk c) 34 (q c)) := fun x _ =>
    (x.adds_at _ _ _).trans (Run.adds_at _ _ _ _)
  exact ⟨Run.mem_foldl hstep (fun x => (Run.adds_at _ _ _ _).keeps _ (x.mem_at _ _ _)) (List.mem_range.mpr hc) r,
    Run.mem_foldl hstep (fun x => Run.mem_at _ _ _ _) (List.mem_range.mpr hc) r⟩

/-- R117: the operation that an instruction issues. -/
def rakeIssued (z : RakeSlot) (r : Run) : RakeOp :=
  ⟨z.op, z.len, z.k, z.sfmt, z.lanes, z.min, r.addr r.latch.1 r.latch.2.1, r.addr r.latch.2.2.1 r.latch.2.2.2, r.now + rakeOcc z,
    r.now + r.lat r.latch.1 + rakeOcc z + rakeBytes z.op z.k / 64 + r.lat r.latch.2.2.1 - 1, [], []⟩

/-- The run after a rake instruction: the operation joins the rake, and its first pass is in flight, with its result. -/
theorem rakeAct_run (z : RakeSlot) (d : Device) (r : Run) :
    ({ r with rake := r.rake ++ [rakeIssued z r] } : Run).Adds (rakeAct z d r).2 ∧
    ((rakeIssued z r).due + 1 - rakeBytes z.op z.k / 64, 16, .rakeResult (rakeIssued z r).occEnd (rakeBytes z.op z.k / 64)) ∈
      (rakeAct z d r).2.pend ∧
    ∀ n, n < (z.len + z.lanes - 1) / z.lanes →
      (r.now + n, 32, .rakeRead 1 (n * z.lanes) (min z.lanes (z.len - n * z.lanes))) ∈ (rakeAct z d r).2.pend ∧
      (r.now + n, 34, .rakeCount (min z.lanes (z.len - n * z.lanes))) ∈ (rakeAct z d r).2.pend := by
  refine ⟨?run, ?result, fun n hn => ?reads⟩
  case run =>
    exact ((((Run.adds_rakeReads _ _).trans (Run.adds_ite fun _ => Run.adds_rakeReads _ _)).trans (Run.adds_occupy _ _)).trans
      (Run.adds_ite fun _ => Run.adds_occupy _ _)).trans ((Run.adds_at _ _ _ _).trans (Run.adds_occupy _ _))
  case result => exact (Run.adds_occupy _ _).keeps _ (Run.mem_at _ _ _ _)
  case reads =>
    exact ((((Run.adds_ite fun _ => Run.adds_rakeReads _ _).trans (Run.adds_occupy _ _)).trans
      (Run.adds_ite fun _ => Run.adds_occupy _ _)).trans ((Run.adds_at _ _ _ _).trans (Run.adds_occupy _ _))).keeps₂
        (Run.mem_rakeReads hn _)

/-- R227: which rake operation an instruction is. -/
theorem exec_rake {c : Instr} {i : Nat} {z : RakeSlot} (hc : ∃ mn, z.min = mn ∧
    (c = .amax i z.len z.sfmt z.lanes mn ∧ z.op = 1 ∧ z.k = 1 ∨ c = .topk i z.len z.k z.sfmt z.lanes mn ∧ z.op = 2 ∨
      c = .merge i z.len z.k z.sfmt z.lanes mn ∧ z.op = 3)) (s : State) :
    exec c s = .next (s.onDev fun _ d => slotOp i 3 (rakeExc z) (rakeAct z) d) := by
  obtain ⟨op, len, k, sfmt, lanes, min⟩ := z
  obtain ⟨mn, rfl, ⟨rfl, rfl, rfl⟩ | ⟨rfl, rfl⟩ | ⟨rfl, rfl⟩⟩ := hc <;> rfl

/-- Settles O29. -/
theorem rakeInstructionsOccupyTheRake : Obligations.RakeInstructionsOccupyTheRake := by
  intro s i r c z hi hc hz
  refine ends_of_slot_run (act := fun _ => rakeAct z) (exec_rake hz s) hi hc rfl fun t ht hr => ?_
  obtain ⟨hadds, hresult, hreads⟩ := rakeAct_run z s.dev r
  exact ⟨ht, _, rakeIssued z r, hr, hadds.eq, rfl, rfl, rfl, rfl, rfl, rfl, rfl, rfl, rfl, rfl, hresult, hreads⟩

/-! ### The dispatch of trowel programs -/

theorem core_setCore (r : Run) (t k : Nat) (x : Trowel) : (r.setCore t x).core k = if t = k then x else r.core k := Tbl.getD_set ..

/-- A run in which one core was stored, and what is in flight grew. -/
theorem Run.Adds.onlyCore {r r' : Run} {t : Nat} {x : Trowel} (h : (r.setCore t x).Adds r') :
    r' = { r with trowels := r'.trowels, pend := r'.pend, banks := r'.banks } ∧ r'.core t = x := by
  have he := h.eq
  refine ⟨?_, ?_⟩
  · rw [he]
    rfl
  · rw [he]
    exact (core_setCore r t t x).trans (if_pos rfl)

theorem Trowel.vreg_empty {x : Trowel} (h : x.v = []) (k : Nat) : x.vreg k = 0 := by
  rw [Trowel.vreg, h]
  exact BitVec.toNat_zero

/-- An address register is a word. -/
theorem areg_toNat (r : Run) (a : Nat) : (BitVec.ofNat 64 (r.areg a)).toNat = r.areg a := by
  rw [BitVec.toNat_ofNat]
  exact Nat.mod_eq_of_lt (BitVec.isLt _)

/-- Sixteen registers stored one after the other are read each under its own key. -/
theorem getD_storedRegs (f : Nat → W64) (n k : Nat) :
    Tbl.getD ((List.range n).foldl (fun t i => t.set (16 + i) (f i)) ([] : Tbl W64)) k 0 =
      if 16 ≤ k ∧ k < 16 + n then f (k - 16) else 0 := by
  induction n with
  | zero => rw [if_neg (by omega)]; rfl
  | succ n ih =>
    rw [List.range_succ, List.foldl_append, List.foldl_cons, List.foldl_nil, Tbl.getD_set, ih]
    by_cases h : 16 + n = k
    · rw [if_pos h, if_pos (by omega), ← h, Nat.add_sub_cancel_left]
    · rw [if_neg h]
      exact ite_congr (propext (by omega)) (fun _ => rfl) (fun _ => rfl)

/-- Settles O31. -/
theorem trowelDispatchInstructions : Obligations.TrowelDispatchInstructions := by
  intro s i tc r hi
  refine ⟨fun w a n hc => ?tload, fun e b hc => ?tgo⟩
  case tload =>
    refine ends_of_slot_run (act := fun _ => tloadAct tc w a n) rfl hi hc rfl fun t ht hr => ⟨ht, _, hr, ?_⟩
    refine and_assoc.mp ⟨Run.Adds.onlyCore ((Run.adds_ats _ _).trans (Run.adds_occupy _ _)), fun k hk => ?_⟩
    exact (Run.adds_occupy _ _).keeps _ (Run.mem_ats hk _)
  case tgo =>
    refine ends_of_slot (act := fun _ => tgoAct tc e b) rfl hi hc ((Device.Only.refl _).inc (by simp)) fun t ht hr _ =>
      ⟨ht, _, hr, rfl, rfl, rfl, rfl, rfl, rfl, fun k => Trowel.vreg_empty rfl k, fun k hk => ?_⟩
    rw [Trowel.sreg, getD_storedRegs (fun i => BitVec.ofNat 64 (r.areg i)) 16 k]
    by_cases h : 16 ≤ k
    · rw [if_neg (by simp; omega), if_pos ⟨h, hk⟩, if_pos h, areg_toNat]
    · rw [if_neg (c := 16 ≤ k ∧ _) fun hc => h hc.1, if_neg h]
      exact ite_self _

end Sys2Proof.Machine
end

section
/-! PROOFS of the abort of a plot (R68, R129, R130): what it leaves of the device, of the run and of its context. -/
namespace Sys2Proof.Machine

/-! ### The parts that an effect keeps -/

/-- Of a device only the parts `ps`, the registers and the event buffer may differ in another. -/
structure Device.Keeps (ps : List DevPart) (a b : Device) : Prop where
  parts : ∀ p : DevPart, p ∉ ps → p ≠ .regs → p ≠ .ev → p.same a b

section
variable {ps : List DevPart} {a b c : Device}

theorem Device.Only.keeps {ks : List Nat} (h : Device.Only ps ks a b) : Device.Keeps ps a b := ⟨h.parts⟩

/-- The parts `qs`, where the register file and the event buffer are among those that may differ. -/
theorem Device.Keeps.of_merge (qs : List DevPart) (h : b = Device.merge (.regs :: .ev :: qs) b a) (hq : qs ⊆ ps) :
    Device.Keeps ps a b where
  parts p hp hr he := by
    rw [h]
    exact DevPart.same_merge (by simpa [hr, he] using fun hm => hp (hq hm)) b a

theorem Device.Keeps.refl (a : Device) : Device.Keeps ps a a := ⟨fun p _ _ _ => p.same_refl a⟩

theorem Device.Keeps.trans (h : Device.Keeps ps a b) (g : Device.Keeps ps b c) : Device.Keeps ps a c :=
  ⟨fun p hp hr he => DevPart.same_trans (h.parts p hp hr he) (g.parts p hp hr he)⟩

theorem Device.Keeps.mono {qs : List DevPart} (h : Device.Keeps ps a b) (hp : ps ⊆ qs) : Device.Keeps qs a b :=
  ⟨fun p hn => h.parts p fun hm => hn (hp hm)⟩

/-- Where no part may differ, every list of parts is kept. -/
theorem Device.Keeps.weaken (h : Device.Keeps [] a b) : Device.Keeps ps a b := h.mono (List.nil_subset _)

theorem Device.Keeps.part (h : Device.Keeps ps a b) (p : DevPart) (hp : p ∉ ps) (hr : p ≠ .regs := by decide)
    (he : p ≠ .ev := by decide) : p.same a b := h.parts p hp hr he

theorem Device.Keeps.flush (h : Device.Keeps ps a b) (tb : Timebase) : Device.Keeps ps a (b.flush tb) :=
  ⟨fun p hp hr he => DevPart.same_flush tb hr he (h.parts p hp hr he)⟩

theorem Device.Keeps.foldl {α : Type} {f : Device → α → Device} (hf : ∀ e x, Device.Keeps ps e (f e x)) (l : List α) (a : Device) :
    Device.Keeps ps a (l.foldl f a) := by
  induction l generalizing a with
  | nil => exact .refl a
  | cons x l ih => exact (hf a x).trans (ih _)

theorem Device.keeps_incBy (a : Device) (k n : Nat) : Device.Keeps ps a (a.incBy k n) := .of_merge [] rfl (List.nil_subset _)
theorem Device.keeps_inc (a : Device) (k : Nat) : Device.Keeps ps a (a.inc k) := a.keeps_incBy k 1
theorem Device.keeps_inc64 (a : Device) (k n : Nat) : Device.Keeps ps a (a.inc64 k n) :=
  ((Device.Only.refl (ks := [k, k + 4]) a).inc64 n (by simp) (by simp)).keeps
theorem Device.keeps_raiseReq (a : Device) (r : EventReq) : Device.Keeps ps a (a.raiseReq r) := .of_merge [] rfl (List.nil_subset _)

end

/-! ### Tables -/

theorem Tbl.get?_mapVals {α β : Type} (t : Tbl α) (f : α → β) (k : Nat) :
    Tbl.get? (t.mapVals fun _ x => f x) k = (Tbl.get? t k).map f := by
  induction t with
  | nil => rfl
  | cons p t ih =>
    simp only [Tbl.mapVals, List.map_cons, Tbl.get?]
    split
    · rfl
    · exact ih

theorem Tbl.getD_mapVals {α β : Type} (t : Tbl α) (f : α → β) (k : Nat) (a : α) :
    Tbl.getD (t.mapVals fun _ x => f x) k (f a) = f (Tbl.getD t k a) := by
  unfold Tbl.getD
  rw [Tbl.get?_mapVals]
  cases Tbl.get? t k <;> rfl

/-! ### What is counted of a run -/

/-- What is counted of a run changes of the device its counters and events, and of the run its arrays, its rake and the notes of
what it has seen. -/
structure Noted (a b : Device × Run) : Prop where
  dev : Device.Keeps [] a.1 b.1
  run : b.2 = { a.2 with arrays := b.2.arrays, rake := b.2.rake, nonfinSeen := b.2.nonfinSeen, nanSeen := b.2.nanSeen,
                         lastTies := b.2.lastTies }

theorem Noted.refl (a : Device × Run) : Noted a a := ⟨.refl _, rfl⟩

theorem Noted.trans {a b c : Device × Run} (h : Noted a b) (g : Noted b c) : Noted a c := by
  refine ⟨h.dev.trans g.dev, ?_⟩
  have hc := g.run
  rw [h.run] at hc
  exact hc

theorem Noted.ctx {a b : Device × Run} (h : Noted a b) : b.2.ctx = a.2.ctx := by rw [h.run]
theorem Noted.now {a b : Device × Run} (h : Noted a b) : b.2.now = a.2.now := by rw [h.run]
theorem Noted.pc {a b : Device × Run} (h : Noted a b) : b.2.pc = a.2.pc := by rw [h.run]
theorem Noted.plot {a b : Device × Run} (h : Noted a b) : b.2.plot = a.2.plot := by rw [h.run]

theorem Noted.foldl {α : Type} {f : Device × Run → α → Device × Run} (hf : ∀ a x, Noted a (f a x)) (l : List α)
    (a : Device × Run) : Noted a (l.foldl f a) := by
  induction l generalizing a with
  | nil => exact .refl a
  | cons x l ih => exact (hf a x).trans (ih _)

theorem noted_settleArray (key e t : Nat) (a : Device × Run) : Noted a (settleArray key e t a.1 a.2) :=
  ⟨(only_settleArray key e t a.1 a.2).keeps, rfl⟩

theorem noted_settleArrays (e t : Nat) (d : Device) (r : Run) : Noted (d, r) (settleArrays e t d r) := by
  unfold settleArrays
  generalize (d, r) = a
  exact Noted.foldl (fun a (p : Nat × ArrayState) => noted_settleArray p.1 e t a) _ a

theorem noted_nonfinite (key : Nat) (m : MmOp) (a : Device × Run) : Noted a (nonfinite key m a.1 a.2) := by
  refine ⟨?_, rfl⟩
  unfold nonfinite
  dsimp only
  split
  · exact a.1.keeps_inc _
  · exact (a.1.keeps_inc _).trans (Device.keeps_raiseReq _ _)

theorem noted_nonfinLeft (d : Device) (r : Run) : Noted (d, r) (nonfinLeft d r) := by
  unfold nonfinLeft
  exact Noted.foldl (f := fun a x => nonfinite x.1 x.2 a.1 a.2) (fun a x => noted_nonfinite x.1 x.2 a) r.nonfinOpen (d, r)

theorem noted_rakeCounted (o : RakeOp) (sel : Selection) (a : Device × Run) : Noted a (rakeCounted o sel a.1 a.2) := by
  refine ⟨?_, rfl⟩
  unfold rakeCounted
  have hcount : Device.Keeps [] a.1 ((a.1.incBy (dieReg R.RAKE_NAN a.2.plot.die) sel.nan).incBy (dieReg R.RAKE_DUPS a.2.plot.die) sel.dups) :=
    (a.1.keeps_incBy _ _).trans (Device.keeps_incBy _ _ _)
  dsimp only
  split
  · exact hcount.trans (Device.keeps_raiseReq _ _)
  · exact hcount

theorem noted_rakeComplete (o : RakeOp) (a : Device × Run) : Noted a (rakeComplete o a.1 a.2) := by
  refine (noted_rakeCounted o (selectRake o) a).trans ⟨?_, rfl⟩
  unfold rakeComplete
  dsimp only
  split
  · exact (Device.keeps_inc _ _).trans (Device.keeps_inc _ _)
  · exact Device.keeps_inc _ _

theorem noted_rakeLeft (d : Device) (r : Run) : Noted (d, r) (rakeLeft d r) := by
  refine Noted.foldl (f := fun a o => if o.due ≤ r.now then rakeComplete o a.1 a.2 else
    rakeCounted o { selectRake o.complete with nan := o.nans } a.1 a.2) (fun a o => ?_) r.rake (d, r)
  dsimp only
  split
  · exact noted_rakeComplete o a
  · exact noted_rakeCounted o _ a

/-- What an abort and the end of a run count of it. -/
def countLeft (d : Device) (r : Run) : Device × Run :=
  rakeLeft (nonfinLeft (settleArrays r.elapsed r.now d r).1 (settleArrays r.elapsed r.now d r).2).1
    (nonfinLeft (settleArrays r.elapsed r.now d r).1 (settleArrays r.elapsed r.now d r).2).2

theorem noted_countLeft (d : Device) (r : Run) : Noted (d, r) (countLeft d r) :=
  ((noted_settleArrays _ _ d r).trans (noted_nonfinLeft _ _)).trans (noted_rakeLeft _ _)

/-! ### The fault of a context (R400) -/

/-- Requests that are changed leave all else. -/
theorem foldl_updReq {α : Type} (k : α → Nat) (f : α → Request → Request) (l : List α) (d : Device) :
    ∃ q, l.foldl (fun d x => d.updReq (k x) (f x)) d = { d with qm := { d.qm with reqs := q } } := by
  induction l generalizing d with
  | nil => exact ⟨_, rfl⟩
  | cons x l ih => exact ih (d.updReq (k x) (f x))

/-- A context that faults: of the plots those that are placed, of the queues its state and requests. -/
theorem ctxFault_eq (d : Device) (c : Nat) (reqs : List Nat) (detail : Nat) :
    ∃ q sown frozen composing regs ev, d.ctxFault c reqs detail = { d with
      qm := { d.qm with reqs := q, ctxs := if (d.ctx c).st = .resetting then d.qm.ctxs
        else d.qm.ctxs.set c { d.ctx c with st := .faulted, resume := false } }
      plots := { d.plots with sown := sown, frozen := frozen, composing := composing }
      regs := regs, ev := ev } := by
  unfold Device.ctxFault
  dsimp only
  obtain ⟨q, hq⟩ := foldl_updReq id (fun _ q => { q with cancel := some (q.cancel.getD detail), conds := q.conds ++ [(8, detail)] })
    reqs ((if (d.ctx c).st == .resetting then d else d.setCtx c { d.ctx c with st := .faulted, resume := false }).idlePlaced c)
  simp only [id] at hq
  rw [hq]
  obtain ⟨q', hq'⟩ := foldl_updReq (α := Nat) id
    (fun _ q => if q.cancel.isSome then q else { q with cancel := some 0x88, conds := q.conds ++ [(3, 0x88)] })
    (((q.filter (fun p => p.2.ctx == c && !reqs.contains p.1)).map (·.1)))
    { (if (d.ctx c).st == .resetting then d else d.setCtx c { d.ctx c with st := .faulted, resume := false }).idlePlaced c with
      qm := { ((if (d.ctx c).st == .resetting then d else d.setCtx c { d.ctx c with st := .faulted, resume := false }).idlePlaced c).qm with
        reqs := q } }
  simp only [id] at hq'
  unfold Device.cancelReq
  rw [hq']
  by_cases h : (d.ctx c).st = .resetting
  · simp only [h, beq_self_eq_true, if_true]
    exact ⟨_, _, _, _, _, _, rfl⟩
  · have hb : ((d.ctx c).st == .resetting) = false := by simpa using h
    simp only [h, hb, if_false, Bool.false_eq_true]
    exact ⟨_, _, _, _, _, _, rfl⟩

theorem keeps_ctxFault (d : Device) (c : Nat) (reqs : List Nat) (detail : Nat) :
    Device.Keeps [.plots, .qm] d (d.ctxFault c reqs detail) := by
  obtain ⟨q, sown, frozen, composing, regs, ev, h⟩ := ctxFault_eq d c reqs detail
  exact .of_merge [.plots, .qm] (by rw [h]; rfl) (List.Subset.refl _)

theorem runs_ctxFault (d : Device) (c : Nat) (reqs : List Nat) (detail : Nat) :
    (d.ctxFault c reqs detail).plots.runs = d.plots.runs := by
  obtain ⟨q, sown, frozen, composing, regs, ev, h⟩ := ctxFault_eq d c reqs detail
  rw [h]

theorem ctx_ctxFault (d : Device) (c : Nat) (reqs : List Nat) (detail : Nat) (h : (d.ctx c).st ≠ .resetting) :
    ((d.ctxFault c reqs detail).ctx c).st = .faulted := by
  obtain ⟨q, sown, frozen, composing, regs, ev, he⟩ := ctxFault_eq d c reqs detail
  rw [he, if_neg h]
  simp only [Device.ctx, Tbl.getD_set, if_pos]

/-! ### The abort of a run -/

/-- R68: what is left of a run that is aborted with a detail: nothing is in flight, its arrays ramp down, its cores stop. -/
def Run.cut (r : Run) (detail now : Nat) : Run := { r with
  aborted := some detail, pend := [], rake := [], replay := none, banks := [],
  arrays := r.arrays.mapVals (fun _ a => { a with
    busyFrom := none, ops := [], ldws := [],
    st := if a.st == .down then .down else .rampDown
    rampDue := if a.st == .rampDown then a.rampDue else now + 48 }),
  trowels := r.trowels.mapVals (fun _ t => { t with running := false }) }

theorem arr_cut (r : Run) (detail now k : Nat) : ((r.cut detail now).arr k).st = .down ∨ ((r.cut detail now).arr k).st = .rampDown := by
  unfold Run.arr Run.cut Tbl.getD
  rw [Tbl.get?_mapVals]
  cases Tbl.get? r.arrays k with
  | none => exact .inl rfl
  | some a =>
    dsimp only [Option.map_some, Option.getD_some]
    split
    · exact .inl rfl
    · exact .inr rfl

theorem core_cut (r : Run) (detail now k : Nat) : ((r.cut detail now).core k).running = false := by
  unfold Run.core Run.cut Tbl.getD
  rw [Tbl.get?_mapVals]
  cases Tbl.get? r.trowels k <;> rfl

/-- What the abort of run `i`, which is `r`, with a detail leaves of a device. -/
structure AbortedAs (i detail : Nat) (r : Run) (d e : Device) : Prop where
  keeps : Device.Keeps [.plots, .qm, .free] d e
  others : ∀ j, j ≠ i → e.run? j = d.run? j
  fault : (d.ctx r.ctx).st ≠ .resetting → (e.ctx r.ctx).st = .faulted
  run : ∃ q, e.run? i = some (q.cut detail r.now) ∧ Noted (d, r) (d, q)

section
variable {i : Nat} {d : Device} {r : Run}

/-- The abort in its two steps: the run is stored, with what is counted and raised of it; then its context faults. -/
theorem abortRun_eq (hr : d.run? i = some r) (ha : r.aborted = none) (detail slot : Nat) :
    ∃ e, Device.Keeps [.plots] d e ∧
      e.plots = { d.plots with runs := d.plots.runs.set i ((countLeft d r).2.cut detail (countLeft d r).2.now) } ∧
      ∃ reqs, abortRun i detail slot d = e.ctxFault (countLeft d r).2.ctx reqs detail := by
  have hn : Device.Keeps [.plots] d (countLeft d r).1 := (noted_countLeft d r).dev.weaken
  have hplots : (countLeft d r).1.plots = d.plots := (noted_countLeft d r).dev.part .plots (by simp)
  have hset := hn.trans (((Device.Only.refl (ks := []) (countLeft d r).1).setRun i
    ((countLeft d r).2.cut detail (countLeft d r).2.now) (List.mem_singleton_self _)).keeps)
  unfold abortRun
  rw [hr]
  simp only [ha, Option.isSome_none, Bool.false_eq_true, if_false]
  refine ⟨_, ?keeps, ?plots, _, rfl⟩
  case keeps =>
    have hinc := fun n => (hset.trans (Device.keeps_inc64 _ (dieReg R.TRW_BUSY_LO (countLeft d r).2.plot.die) n)).trans
      (Device.keeps_inc _ (dieReg R.ARR_PSQ_ABORTS (countLeft d r).2.plot.die))
    split
    · exact ((hinc _).trans (Device.keeps_raiseReq _ _)).trans (Device.keeps_raiseReq _ _)
    · exact (hinc _).trans (Device.keeps_raiseReq _ _)
  case plots =>
    rw [← hplots]
    split <;> rfl

/-- An abort stores the run cut, and its context faults. -/
theorem abortRun_aborts (hr : d.run? i = some r) (ha : r.aborted = none) (detail slot : Nat) :
    AbortedAs i detail r d (abortRun i detail slot d) := by
  obtain ⟨e, hk, hp, reqs, he⟩ := abortRun_eq hr ha detail slot
  have hn := noted_countLeft d r
  have hctx : (countLeft d r).2.ctx = r.ctx := hn.ctx
  have hnow : (countLeft d r).2.now = r.now := hn.now
  have hqm : e.qm = d.qm := hk.part .qm (by simp)
  rw [hctx] at he
  rw [hnow] at hp
  have hget : ∀ j, (abortRun i detail slot d).run? j = if i = j then some ((countLeft d r).2.cut detail r.now) else d.run? j := by
    intro j
    rw [he, Device.run?, runs_ctxFault, hp]
    exact Tbl.get?_set ..
  refine ⟨?keeps, fun j hj => ?others, fun hst => ?fault, (countLeft d r).2, ?run, .refl _, hn.run⟩
  case keeps =>
    rw [he]
    exact (hk.mono (by simp)).trans ((keeps_ctxFault ..).mono (by simp))
  case others => exact (hget j).trans (if_neg hj.symm)
  case fault =>
    rw [he]
    exact ctx_ctxFault _ _ _ _ (by simpa only [Device.ctx, hqm] using hst)
  case run => exact (hget i).trans (if_pos rfl)

theorem AbortedAs.of_keeps {detail : Nat} {d' e : Device} (hk : Device.Keeps [.free] d d') (h : AbortedAs i detail r d' e) :
    AbortedAs i detail r d e := by
  have hplots : d'.plots = d.plots := hk.part .plots (by simp)
  have hqm : d'.qm = d.qm := hk.part .qm (by simp)
  obtain ⟨hkeeps, hothers, hfault, q, hq, hnoted⟩ := h
  refine ⟨(hk.mono (by simp)).trans hkeeps, fun j hj => ?_, fun hst => hfault ?_, q, hq, .refl _, hnoted.run⟩
  · rw [hothers j hj, Device.run?, hplots]
    rfl
  · simpa only [Device.ctx, hqm] using hst

theorem keeps_countConflicts (r : Run) (banks : List Nat) (d : Device) : Device.Keeps [] d (countConflicts r banks d) :=
  Device.Keeps.foldl (fun e _ => (e.keeps_inc _).trans (Device.keeps_raiseReq _ _)) banks d

theorem keeps_countCores (r : Run) (d : Device) : Device.Keeps [] d (countCores r d) := by
  refine Device.Keeps.foldl (fun e t => ?_) _ d
  split
  · split
    · exact e.keeps_inc _
    · split
      · exact e.keeps_inc _
      · exact .refl e
  · exact .refl e

/-- R130: a run is aborted by the exception of its clk that comes first. -/
theorem abortClk_aborts (hr : d.run? i = some r) (ha : r.aborted = none) {own : List (Nat × Option Nat)} {det : Nat}
    (hd : firstExc ((clkExcs d r ++ own).map (·.1)) = some det) : AbortedAs i det r d (abortClk i own d) := by
  have hk : Device.Keeps [.free] d (countConflicts r r.clashesNow (countCores r d)) :=
    ((keeps_countCores r d).trans (keeps_countConflicts r _ _)).weaken
  have hrun : (countConflicts r r.clashesNow (countCores r d)).run? i = some r := by
    have hplots : (countConflicts r r.clashesNow (countCores r d)).plots = d.plots := hk.part .plots (by simp)
    rw [Device.run?, hplots]
    exact hr
  unfold abortClk
  rw [hr]
  simp only [ha, Option.isSome_none, Bool.false_eq_true, if_false, hd]
  split
  · exact .of_keeps hk (abortRun_aborts hrun ha _ _)
  · have hfree : Device.Keeps [.free] (countConflicts r r.clashesNow (countCores r d))
        (countConflicts r r.clashesNow (countCores r d)).free.2 := .of_merge [.free] rfl (List.Subset.refl _)
    exact .of_keeps (hk.trans hfree) (abortRun_aborts (d := (countConflicts r r.clashesNow (countCores r d)).free.2) hrun ha _ _)

end

/-! ### An instruction that fails a check -/

theorem firstExc_mem {l : List Nat} {c : Nat} (h : firstExc l = some c) : c ∈ excOrder ∧ c ∈ l :=
  ⟨List.mem_of_find?_eq_some h, by simpa using List.find?_some h⟩

/-- A list with an exception of R130's order has a first one. -/
theorem firstExc_of_mem {l : List Nat} {c : Nat} (ho : c ∈ excOrder) (hl : c ∈ l) : ∃ det, firstExc l = some det := by
  unfold firstExc
  cases h : excOrder.find? (fun c => l.contains c) with
  | some det => exact ⟨det, rfl⟩
  | none => exact absurd (List.contains_iff_mem.mpr hl) (by simpa using List.find?_eq_none.mp h c ho)

/-- The exceptions of a clk with one of R130's order among them abort the run with the first. -/
theorem abortClk_own {i : Nat} {d : Device} {r : Run} (hr : d.run? i = some r) (ha : r.aborted = none) {det : Nat} (ho : det ∈ excOrder)
    (slot : Option Nat) : ∃ c, firstExc ((clkExcs d r).map (·.1) ++ [det]) = some c ∧
      AbortedAs i c r d (abortClk i [(det, slot)] d) := by
  obtain ⟨c, hc⟩ := firstExc_of_mem (l := (clkExcs d r).map (·.1) ++ [det]) ho (by simp)
  exact ⟨c, hc, abortClk_aborts hr ha (by rw [List.map_append]; exact hc)⟩

/-- Each slot instruction is an operation of its slot under the checks of its row. -/
theorem exec_of_slotCheck {c : Instr} {i : Nat} {chk : Device → Run → List Nat} (h : slotCheck c = some (i, chk)) (s : State) :
    ∃ (slot : Nat) (act : Timebase → Device → Run → Device × Run),
      exec c s = .next (s.onDev fun tb d => slotOp i slot chk (act tb) d) := by
  cases c <;> first | contradiction | cases h
  case amax => exact ⟨3, fun _ => rakeAct _, rfl⟩
  case topk => exact ⟨3, fun _ => rakeAct _, rfl⟩
  case merge => exact ⟨3, fun _ => rakeAct _, rfl⟩
  all_goals exact ⟨_, _, rfl⟩

/-- Settles O32. -/
theorem failedCheckAbortsThePlot : Obligations.FailedCheckAbortsThePlot := by
  intro s c i det chk r hc hi hdet hl
  obtain ⟨slot, act, hexec⟩ := exec_of_slotCheck hc s
  obtain ⟨hr, ha, -⟩ := id hi
  obtain ⟨det', hfirst, hab⟩ := abortClk_own hr ha (firstExc_mem hdet).1 (some slot)
  obtain ⟨hkeeps, hothers, hfault, q, hq, hnoted⟩ := hab
  have hop := slotOp_aborts (slot := slot) (act := act s.tb) hi hdet
  refine ⟨_, hexec, State.onDev_pending .., State.onDev_tb .., ?_⟩
  rw [s.onDev_of _ hl, hop, hfirst]
  refine ⟨(hkeeps.flush _).part .mem (by simp), fun j hj => ?_, fun hst => ?_, q.cut det' r.now, ?_, rfl, rfl, rfl, hnoted.plot,
    arr_cut q det' r.now, core_cut q det' r.now⟩
  · rw [Device.run?, Device.flush_plots]
    exact hothers j hj
  · rw [Device.ctx, Device.flush_qm]
    exact hfault hst
  · rw [Device.run?, Device.flush_plots]
    exact hq

end Sys2Proof.Machine
end

section
/-! PROOFS of the scalar arithmetic of the trowel cores (R127), as operations of 64-bit words. -/
namespace Sys2Proof.Machine

/-- A word read as a signed number. -/
theorem toSigned_toNat (a : W64) : toSigned 64 a.toNat = a.toInt := by
  have ha := a.isLt
  rw [toSigned, Nat.mod_eq_of_lt ha, BitVec.toInt_eq_toNat_cond]
  exact ite_congr (propext (by omega)) (fun _ => rfl) (fun _ => rfl)

/-- A signed number as a word. -/
theorem ofSigned_eq_ofInt (v : Int) : ofSigned 64 v = (BitVec.ofInt 64 v).toNat := by
  rw [ofSigned, BitVec.toNat_ofInt]

theorem ofSigned_toInt (a : W64) : ofSigned 64 a.toInt = a.toNat := by rw [ofSigned_eq_ofInt, BitVec.ofInt_toInt]

/-- R127: an arithmetic shift is the floor of the division by a power of two. -/
theorem ofSigned_div_pow (a : W64) (n : Nat) : ofSigned 64 (a.toInt / 2 ^ n) = (a.sshiftRight n).toNat := by
  rw [← ofSigned_toInt, BitVec.toInt_sshiftRight, Int.shiftRight_eq_div_pow]
  norm_cast

theorem boolBit_decide (p : Prop) [Decidable p] : boolBit (decide p) = if p then 1 else 0 := by
  by_cases h : p
  · simp [h, boolBit]
  · simp [h, boolBit]

/-- R127: the logic and the arithmetic of OPC 0x01. -/
theorem aluOp_logic (a b : W64) : aluOp 0 a.toNat b.toNat = (a + b).toNat ∧ aluOp 1 a.toNat b.toNat = (a - b).toNat ∧
    aluOp 2 a.toNat b.toNat = (a &&& b).toNat ∧ aluOp 3 a.toNat b.toNat = (a ||| b).toNat ∧
    aluOp 4 a.toNat b.toNat = (a ^^^ b).toNat := by
  have hb := b.isLt
  refine ⟨?_, ?_, ?_, ?_, ?_⟩
  · simp [aluOp]
  · rw [BitVec.toNat_sub]
    simp only [aluOp, beq_iff_eq, if_false, if_true, Nat.one_ne_zero]
    congr 1
    omega
  all_goals simp [aluOp]

theorem aluOp_shift (a : W64) {y : Nat} (h : y < 64) : aluOp 5 a.toNat y = (a <<< y).toNat ∧ aluOp 6 a.toNat y = (a >>> y).toNat ∧
    aluOp 7 a.toNat y = (a.sshiftRight y).toNat := by
  refine ⟨?_, ?_, ?_⟩
  · simp [aluOp, h]
  · simp [aluOp, h]
  · rw [← ofSigned_div_pow, ← toSigned_toNat]
    simp [aluOp, h]

theorem aluOp_compare (a b : W64) : aluOp 8 a.toNat b.toNat = (if a.toInt < b.toInt then 1 else 0) ∧
    aluOp 9 a.toNat b.toNat = (if a.toNat < b.toNat then 1 else 0) ∧
    aluOp 10 a.toNat b.toNat = (if a.toInt ≤ b.toInt then a.toNat else b.toNat) ∧
    aluOp 11 a.toNat b.toNat = (if a.toInt ≤ b.toInt then b.toNat else a.toNat) ∧
    aluOp 12 a.toNat b.toNat = min a.toNat b.toNat ∧ aluOp 13 a.toNat b.toNat = max a.toNat b.toNat := by
  rw [← toSigned_toNat a, ← toSigned_toNat b, Nat.min_def, Nat.max_def]
  simp [aluOp, boolBit_decide]

theorem mulOp_words (a b : W64) : mulOp 0 a.toNat b.toNat = (a * b).toNat ∧
    mulOp 1 a.toNat b.toNat = (BitVec.ofInt 64 (a.toInt * b.toInt / 2 ^ 64)).toNat := by
  refine ⟨?_, ?_⟩
  · simp [mulOp]
  · rw [← ofSigned_eq_ofInt, ← toSigned_toNat a, ← toSigned_toNat b]
    simp [mulOp]

section
variable {a b : W64} (hb : b ≠ 0)
include hb

theorem divisor_ne_zero : (b.toNat == 0) = false := by
  rw [beq_eq_false_iff_ne]
  exact fun h => hb (BitVec.eq_of_toNat_eq h)

theorem divOp_unsigned : divOp 1 a.toNat b.toNat = a.toNat / b.toNat ∧ divOp 3 a.toNat b.toNat = a.toNat % b.toNat := by
  constructor <;> simp [divOp, divisor_ne_zero hb]

theorem divOp_quotient (ho : ¬(a.toInt = -(2 ^ 63) ∧ b.toInt = -1)) :
    divOp 0 a.toNat b.toNat = (BitVec.ofInt 64 (a.toInt.tdiv b.toInt)).toNat := by
  have hover : (a.toInt == -(2 ^ 63) && b.toInt == -1) = false := by simpa using ho
  rw [divOp, toSigned_toNat, toSigned_toNat, divisor_ne_zero hb, hover, ← ofSigned_eq_ofInt]
  rfl

theorem divOp_remainder : divOp 2 a.toNat b.toNat = (BitVec.ofInt 64 (a.toInt.tmod b.toInt)).toNat := by
  rw [divOp, toSigned_toNat, toSigned_toNat, divisor_ne_zero hb, ← ofSigned_eq_ofInt]
  rfl

end

/-- Settles O33: the operations of words, one group after the other. -/
theorem scalarArithmeticByR127 : Obligations.ScalarArithmeticByR127 := by
  intro a b x y
  obtain ⟨hadd, hsub, hand, hor, hxor⟩ := aluOp_logic a b
  obtain ⟨hslt, hsltu, hmin, hmax, hminu, hmaxu⟩ := aluOp_compare a b
  obtain ⟨hmul, hmulh⟩ := mulOp_words a b
  refine ⟨hadd, hsub, hand, hor, hxor, aluOp_shift a, hslt, hsltu, hmin, hmax, hminu, hmaxu, hmul, rfl, hmulh, divOp_unsigned,
    divOp_quotient, divOp_remainder, fun hb => ?_⟩
  have hy : y = 0 := by rw [show y = b.toNat from rfl, hb]; rfl
  rw [hy]
  exact ⟨rfl, rfl, rfl, rfl⟩

end Sys2Proof.Machine
end

section
/-! PROOFS of the instructions of the trowel cores (R123 to R129): what each leaves of its core, of the run and of the device. -/
namespace Sys2Proof.Machine

/-! ### An instruction that comes to issue -/

section
variable {s : State} {i : Nat} {ks : List Nat} {d e : Device} {r' : Run} {f : Timebase → Device → Device}
  (hl : s.dev.power.porst = true) (hf : f s.tb s.dev = e.setRun i r') (he : Device.Only [] ks d e)
include hl hf he

/-- The frame, counted from a device on the way, of an effect that stores one run. -/
theorem oneRunFrom_of_setRun : State.oneRunFrom i ks s d (s.onDev f) := by
  have hplots : e.plots = d.plots := he.part .plots (by simp)
  rw [s.onDev_of f hl, hf]
  have hdev : Device.Only [.plots] ks d ((e.setRun i r').flush s.tb) :=
    ((he.mono (List.nil_subset _) (List.Subset.refl _)).setRun i r' (by simp)).flush _
  refine ⟨⟨rfl, rfl, hdev.regs, hdev.parts⟩, ?_, fun j hj => ?_⟩
  · rw [Device.flush_plots]
    change { e.plots with runs := e.plots.runs.set i r' } = { d.plots with runs := e.plots.runs.set i r' }
    rw [hplots]
  · simp only [Device.run?, Device.flush_plots]
    rw [← hplots]
    exact Tbl.get?_set_ne _ _ hj.symm

end

/-- An instruction without an exception ends: of the device its action changes the listed registers, and it stores the run and the core. -/
theorem ends_of_core {c : Instr} {s : State} {i t op : Nat} {reads : Nat → List Nat} {exc : Device → Run → Trowel → Nat → List Nat}
    {act : Device → Run → Trowel → Nat → Nat → Device × Run × Trowel} {d : Device} {r : Run} {x : Trowel} {w n : Nat} {ks : List Nat}
    {P : State → Prop} (hexec : exec c s = .next (s.onDev fun _ d => coreOp i t op reads exc act d))
    (hi : CoreIssues s i t op reads d r x w n) (he : exc d r x w = []) (hd : Device.Only [] ks d (act d r x w n).1)
    (hP : ∀ u, State.oneRunFrom i ks s d u →
      u.dev.run? i = some ((act d r x w n).2.1.setCore t (act d r x w n).2.2) → P u) : Ends c s P := fun hl =>
  have hop := coreOp_acts (act := act) hi (by rw [he, firstExc_nil])
  ⟨_, hexec, hP _ (oneRunFrom_of_setRun hl hop hd) (run?_of_setRun hl hop)⟩

/-- The same for one that checks nothing and leaves the device and the run. -/
theorem ends_of_core_alone {c : Instr} {s : State} {i t op : Nat} {reads : Nat → List Nat}
    {g : Run → Trowel → Nat → Nat → Trowel} {d : Device} {r : Run} {x : Trowel} {w n : Nat} {P : State → Prop}
    (hexec : exec c s = .next (s.onDev fun _ d => coreOp i t op reads noExc (fun d r x w c => (d, r, g r x w c)) d))
    (hi : CoreIssues s i t op reads d r x w n) (hP : ∀ u, CoreLeaves s i t [] d r (g r x w n) u → P u) : Ends c s P :=
  ends_of_core hexec hi rfl (.refl _) fun u hu hr => hP u ⟨hu, r, hr, rfl, fun _ => id⟩

/-! ### Registers of a core -/

section
variable (x : Trowel) (i v clk : Nat)

theorem Trowel.setS_eq : x.setS i v = { x with s := (x.setS i v).s } := by
  unfold Trowel.setS
  split <;> rfl

@[simp] theorem Trowel.setS_running : (x.setS i v).running = x.running := by rw [x.setS_eq]
@[simp] theorem Trowel.setS_flags : (x.setS i v).flags = x.flags := by rw [x.setS_eq]
@[simp] theorem Trowel.setS_ibuf : (x.setS i v).ibuf = x.ibuf := by rw [x.setS_eq]
@[simp] theorem Trowel.setS_v : (x.setS i v).v = x.v := by rw [x.setS_eq]

theorem Trowel.sreg_setS (k : Nat) : (x.setS i v).sreg k = if k = i ∧ k ≠ 0 then v % 2 ^ 64 else x.sreg k := by
  unfold Trowel.setS Trowel.sreg
  by_cases hk : k = 0
  · simp [hk]
  · by_cases hi : i = 0
    · subst hi
      simp [hk]
    · by_cases hki : k = i
      · subst hki
        simp [hk, Tbl.getD_set]
      · simp [hk, hi, hki, Tbl.getD_set, Ne.symm hki]

theorem Trowel.vreg_setV (k : Nat) : (x.setV i v).vreg k = if k = i then v % 2 ^ 512 else x.vreg k := by
  unfold Trowel.setV Trowel.vreg
  dsimp only
  rw [Tbl.getD_set]
  split
  · next h => simp only [if_pos h.symm, BitVec.toNat_ofNat]
  · next h => rw [if_neg (Ne.symm h)]

/-- R123, R125: a value in a scalar register, wherever the pc and the clk of the next issue go. -/
theorem Trowel.wroteS_putS (pc ck : Nat) : x.wroteS { x.putS i v clk with pc := pc, clk := ck } pc ck i v clk := by
  refine ⟨rfl, rfl, x.setS_running i v, x.setS_flags i v, x.setS_ibuf i v, x.sreg_setS i v, fun k => ?_, ?_, fun k hk => ?_⟩
  · exact congrArg (fun t : Tbl (BitVec 512) => (t.getD k 0).toNat) (x.setS_v i v)
  · exact (Tbl.getD_set ..).trans (if_pos rfl)
  · exact (Tbl.getD_set ..).trans (if_neg hk.symm)

/-- The core that goes on with a value in a scalar register. -/
theorem Trowel.next_putS (w c : Nat) : (x.next w c).putS i v clk = { x.putS i v clk with pc := nextPc x w, clk := c + 1 } := by
  unfold Trowel.putS Trowel.setS Trowel.next
  split <;> rfl

theorem Trowel.wroteS_next (w c : Nat) : x.wroteS ((x.next w c).putS i v clk) (nextPc x w) (c + 1) i v clk := by
  rw [Trowel.next_putS]
  exact x.wroteS_putS i v clk _ _

/-- The core that goes on with a value in a vector register. -/
theorem Trowel.wroteV_next (w c : Nat) : x.wroteV ((x.next w c).putV i v clk) (nextPc x w) (c + 1) i v 0 clk := by
  refine ⟨rfl, rfl, rfl, (Nat.or_zero _).symm, rfl, fun k => rfl, x.vreg_setV i v, ?_⟩
  exact (Tbl.getD_set ..).trans (if_pos rfl)

end

theorem fD_lt (w : Nat) : fD w < 32 := Nat.mod_lt _ (by decide)

/-- Conditions that join FLAGS leave the readiness of the other registers. -/
theorem Trowel.wroteV_addFlags {x y : Trowel} {pc ck dst v clk fl c : Nat} (h : x.wroteV y pc ck dst v 0 clk) (hd : dst < 32) :
    x.wroteV (y.addFlags fl c) pc ck dst v fl clk := by
  obtain ⟨hpc, hclk, hrun, hfl, hib, hs, hv, hready⟩ := h
  refine ⟨hpc, hclk, hrun, ?_, hib, hs, hv, ?_⟩
  · exact congrArg (· ||| fl) (hfl.trans (Nat.or_zero _))
  · have hne : flagsKey ≠ vKey dst := by unfold flagsKey vKey; omega
    exact ((Tbl.getD_set ..).trans (if_neg hne)).trans hready

/-! ### Scalar instructions -/

/-- A signed number of at most 64 bits reads back. -/
theorem toSigned_ofSigned {v : Int} (hlo : -2 ^ 63 ≤ v) (hhi : v < 2 ^ 63) : toSigned 64 (ofSigned 64 v) = v := by
  rw [ofSigned_eq_ofInt, toSigned_toNat, BitVec.toInt_ofInt, Int.bmod_eq_of_le] <;> omega

theorem toSigned_bounds (v : Nat) : -2 ^ 63 ≤ toSigned 15 v ∧ toSigned 15 v < 2 ^ 63 := by
  have hlt : v % 2 ^ 15 < 2 ^ 15 := Nat.mod_lt _ (by decide)
  unfold toSigned
  split <;> constructor <;> omega

theorem aluOp_add (a b : Nat) : aluOp 0 a b = (a + b) % 2 ^ 64 := by simp [aluOp]

theorem aluOp_slt_imm (a w : Nat) : aluOp 8 a (immPat w) = if toSigned 64 a < toSigned 15 (bits 31 17 w) then 1 else 0 := by
  obtain ⟨hlo, hhi⟩ := toSigned_bounds (bits 31 17 w)
  have himm : toSigned 64 (immPat w) = toSigned 15 (bits 31 17 w) := toSigned_ofSigned hlo hhi
  simp [aluOp, himm, boolBit_decide]

/-- R127: the three shifts that are listed. -/
theorem shiftImm_eq {w : Nat} (hw : bits 24 23 w ≤ 2) (a : Nat) : shiftImm w a =
    if bits 24 23 w = 0 then (a <<< bits 22 17 w) % 2 ^ 64
    else if bits 24 23 w = 1 then a >>> bits 22 17 w
    else ofSigned 64 (toSigned 64 a / 2 ^ bits 22 17 w) := by
  have hn : bits 22 17 w < 64 := Nat.mod_lt _ (by decide)
  unfold shiftImm
  generalize bits 24 23 w = k at hw
  match k, hw with
  | 0, _ => simp [aluOp, hn]
  | 1, _ => simp [aluOp, hn]
  | 2, _ => simp [aluOp, hn]

/-- The instructions of `scalarRow` are scalar instructions of the cores, with the results of R127. -/
theorem exec_scalarRow {c : Instr} {z : ScalarRow} (h : scalarRow c = some z) (s : State) :
    ∃ f : Run → Trowel → Nat → Nat → Nat,
      exec c s = .next (s.onDev fun _ d => scalarOp z.run z.core z.op z.lat z.reads f d) ∧
      ∀ (r : Run) (x : Trowel) (w n : Nat), opListed w = true → fOpc w = z.op → f r x w n = z.val r x w n := by
  cases c <;> first | contradiction | cases h
  case shiftImmediate =>
    refine ⟨_, rfl, fun r x w n hlisted hop => ?_⟩
    have hw : bits 24 23 w ≤ 2 := by simpa [opListed, hop] using hlisted
    exact shiftImm_eq hw _
  case slti => exact ⟨_, rfl, fun r x w n _ _ => aluOp_slt_imm _ _⟩
  case addi => exact ⟨_, rfl, fun r x w n _ _ => aluOp_add _ _⟩
  all_goals exact ⟨_, rfl, fun r x w n _ _ => rfl⟩

/-- R127: an instruction that comes to issue is listed. -/
theorem CoreIssues.listed {s : State} {i t op : Nat} {reads : Nat → List Nat} {d : Device} {r : Run} {x : Trowel} {w c : Nat}
    (h : CoreIssues s i t op reads d r x w c) : opListed w = true := by
  obtain ⟨r0, -, -, -, -, hleg, -⟩ := h.run
  simp only [trowLegal, Bool.and_eq_true] at hleg
  exact hleg.2

/-- Settles O34. -/
theorem scalarInstructionsWriteTheirResult : Obligations.ScalarInstructionsWriteTheirResult := by
  intro s c z d r x w n hz hi
  obtain ⟨f, hexec, hf⟩ := exec_scalarRow hz s
  rw [← hf r x w n hi.listed hi.opc]
  exact ends_of_core_alone hexec hi fun u hu => ⟨_, hu, x.wroteS_next _ _ _ _ _⟩

/-! ### Vector instructions -/

/-- The instructions of `vectorRow` are lane-wise instructions of the cores. -/
theorem exec_vectorRow {c : Instr} {z : VectorRow} (h : vectorRow c = some z) (s : State) :
    ∃ lat : Nat → Nat, exec c s = .next (s.onDev fun _ d => vectorOp z.run z.core z.op lat z.reads z.val d) ∧
      ∀ w, lat w = z.lat w := by
  cases c <;> first | contradiction | cases h
  case vectorArith => exact ⟨_, rfl, fun w => by simp only [beq_iff_eq, fTy]⟩
  all_goals exact ⟨_, rfl, fun _ => rfl⟩

/-- Settles O35. -/
theorem vectorInstructionsWriteTheirResult : Obligations.VectorInstructionsWriteTheirResult := by
  refine ⟨fun s c z d r x w n hz hi => ?lanes, fun s i t d r x w n hi => ?reduce, fun s i t d r x w n hi => ?flags⟩
  case lanes =>
    obtain ⟨lat, hexec, hlat⟩ := exec_vectorRow hz s
    rw [← hlat]
    exact ends_of_core_alone (g := fun _ x w c => ((x.next w c).putV (fD w) (z.val x w).1 (c + lat w)).addFlags (z.val x w).2 (c + lat w))
      hexec hi fun u hu => ⟨_, hu, Trowel.wroteV_addFlags (x.wroteV_next _ _ _ _ _) (fD_lt w)⟩
  case reduce =>
    refine ends_of_core_alone (g := fun _ x w c => ((x.next w c).putS (fD w) (vecReduce (fTy w) (fFn w) (x.vreg (fA w))).1 (c + 7)).addFlags
      (vecReduce (fTy w) (fFn w) (x.vreg (fA w))).2 (c + 7)) rfl hi fun u hu => ?_
    obtain ⟨hpc, hclk, -, hfl, -, hs, hv, -⟩ := x.wroteS_next (fD w) (vecReduce (fTy w) (fFn w) (x.vreg (fA w))).1 (n + 7) w n
    exact ⟨_, hu, hpc, hclk, congrArg (· ||| _) hfl, hs, hv⟩
  case flags =>
    refine ends_of_core_alone (g := fun _ x w c => { (x.next w c).putS (fD w) x.flags (c + 1) with flags := 0 }) rfl hi fun u hu => ?_
    obtain ⟨hpc, hclk, -, -, -, hs, hv, -⟩ := x.wroteS_next (fD w) x.flags (n + 1) w n
    exact ⟨_, hu, hpc, hclk, rfl, hs, hv⟩

/-! ### Branches and jumps -/

/-- The branches compare by R127. -/
theorem exec_branchRow {c : Instr} {i t op : Nat} {f : Nat → Nat → Bool} (h : branchRow c = some (i, t, op, f)) (s : State) :
    exec c s = .next (s.onDev fun _ d => trowBranch i t op d) ∧ ∀ a b, branchTaken op a b = f a b := by
  cases c <;> first | contradiction | (cases h; exact ⟨rfl, fun _ _ => rfl⟩)

/-- Settles O36. -/
theorem branchesAndJumpsMoveThePc : Obligations.BranchesAndJumpsMoveThePc := by
  refine ⟨fun s c i t op f d r x w n hz hi => ?branch, fun s i t d r x w n hi => ?jal, fun s i t d r x w n hi => ?jalr⟩
  case branch =>
    obtain ⟨hexec, hf⟩ := exec_branchRow hz s
    rw [← hf]
    refine ends_of_core (act := fun d r x w c =>
      if branchTaken op (x.sreg (fA w)) (x.sreg (fB w)) then (d, r, { x with pc := relPc x.pc (fImmB w), clk := c + 3 })
      else (d, r, x.next w c)) hexec hi rfl (ks := []) ?_ fun u hu hr => ⟨hu, r, ?_, rfl, fun _ => id⟩
    · split <;> exact .refl _
    · rw [hr]
      split <;> rfl
  case jal =>
    exact ends_of_core_alone (g := fun _ x w c => { x.putS (fD w) (nextPc x w) (c + 3) with pc := relPc x.pc (fImmI w), clk := c + 3 })
      rfl hi fun u hu => ⟨_, hu, x.wroteS_putS _ _ _ _ _⟩
  case jalr =>
    exact ends_of_core_alone (g := fun _ x w c =>
      { x.putS (fD w) (nextPc x w) (c + 3) with pc := relPc (x.sreg (fA w)) (fImmI w), clk := c + 3 })
      rfl hi fun u hu => ⟨_, hu, x.wroteS_putS _ _ _ _ _⟩

/-! ### Loads and stores -/

/-- The loads, with the register file that takes the data. -/
theorem exec_loadRow {c : Instr} {i t op z : Nat} {v : Bool} (h : loadRow c = some (i, t, op, z, v)) (s : State) :
    exec c s = .next (s.onDev fun _ d => trowLoad i t op z (if v then Trowel.putV else Trowel.putS) d) := by
  cases c <;> first | contradiction | (cases h; rfl)

/-- The stores, with the register file that gives the data. -/
theorem exec_storeRow {c : Instr} {i t op z : Nat} {v : Bool} (h : storeRow c = some (i, t, op, z, v)) (s : State) :
    exec c s = .next (s.onDev fun _ d => trowStore i t op z (if v then srcV else srcS) (if v then Trowel.vreg else Trowel.sreg) d) := by
  cases c <;> first | contradiction | (cases h; rfl)

/-- The run after a load: the port held, and the banks that it reads. -/
def loadRun (t n : Nat) (d : Device) (r : Run) (x : Trowel) (w c : Nat) : Run :=
  (r.holdPort t 1).occupy (readOcc d (r.lat (fW w)) ((unitsOf (accAddr r x w n) n).map (fun u => (c, u))))

theorem req_loadRun (t n : Nat) (d : Device) (r : Run) (x : Trowel) (w c : Nat) : (loadRun t n d r x w c).req = r.req := by
  have he := (Run.adds_occupy (r.holdPort t 1) (readOcc d (r.lat (fW w)) ((unitsOf (accAddr r x w n) n).map (fun u => (c, u))))).eq
  unfold loadRun
  rw [he]
  rfl

/-- What a load reads does not depend on the port it holds. -/
theorem plotRead_loadRun (t n : Nat) (d : Device) (r : Run) (x : Trowel) (w c a m : Nat) :
    plotRead d (loadRun t n d r x w c) c a m = plotRead d r c a m := by
  unfold plotRead plotByte
  rw [req_loadRun]

/-- The run after a store: the port held, the write in flight, and the banks that it writes. -/
def storeRun (t n val : Nat) (d : Device) (r : Run) (x : Trowel) (w c : Nat) : Run :=
  ((r.holdPort t 1).at (c + r.lat (fW w)) t (.store (accAddr r x w n) (leBytes n val))).occupy
    (writeOcc d ((unitsOf (accAddr r x w n) n).map (fun u => (c + r.lat (fW w), u))))

/-- Settles O37. -/
theorem trowelLoadsAndStores : Obligations.TrowelLoadsAndStores := by
  refine ⟨fun s c i t op z v d r x w n hz hi hc => ?load, fun s c i t op z v d r x w n hz hi hc => ?store⟩
  case load =>
    have hexec := exec_loadRow hz s
    have hread := plotRead_loadRun t z d r x w n (accAddr r x w z) z
    have hflight : r.onlyFlight (loadRun t z d r x w n) := (Run.Adds.onlyFlight_port (Run.adds_occupy ..)).1
    refine ends_of_core (act := fun d r x w c => (d, loadRun t z d r x w c,
      (if v then Trowel.putV else Trowel.putS) (x.next w c) (fD w) (ofLe (plotRead d (loadRun t z d r x w c) c (accAddr r x w z) z)) (c + 2 + r.lat (fW w))))
      (ks := []) (exc := accExc t z false) ?_ hi hc (.refl _)
      fun u hu hr => ⟨_, ⟨hu, _, hr, hflight⟩, fun hv => ?_, fun hv => ?_⟩
    · rw [hexec]
      rfl
    · subst hv
      rw [← hread]
      exact x.wroteS_next _ _ _ _ _
    · subst hv
      rw [← hread]
      exact x.wroteV_next _ _ _ _ _
  case store =>
    have hexec := exec_storeRow hz s
    refine ends_of_core (act := fun d r x w c =>
      (d, storeRun t z ((if v then Trowel.vreg else Trowel.sreg) x (fD w)) d r x w c, x.next w c)) (ks := [])
      (reads := fun w => [fA w, if v then vKey (bits 11 7 w) else bits 11 7 w]) (exc := accExc t z true) ?_ hi hc (.refl _)
      fun u hu hr => ⟨hu, _, ?_, hr, ?_, ?_⟩
    · rw [hexec]
      cases v <;> rfl
    · exact (Run.Adds.onlyFlight_port ((Run.adds_at ..).trans (Run.adds_occupy ..))).1
    · exact (Run.Adds.onlyFlight_port ((Run.adds_at ..).trans (Run.adds_occupy ..))).2
    · have hval : (if v then Trowel.vreg else Trowel.sreg) x (fD w) = if v then x.vreg (bits 11 7 w) else x.sreg (bits 11 7 w) := by
        cases v <;> rfl
      rw [← hval]
      exact (Run.adds_occupy ..).keeps _ (Run.mem_at ..)

/-! ### The end of a program -/

/-- Settles O38. -/
theorem trowelProgramEnds : Obligations.TrowelProgramEnds := by
  refine ⟨fun s i t d r x w n hi => ?tend, fun s i t r r1 hr ha hp hrun hleg hclk hr1 ha1 hl => ?illegal,
    fun s i t r r1 hr ha hp hrun hr1 ha1 hl => ?budget⟩
  case tend =>
    exact ends_of_core (act := fun d r x w c => (d.inc64 (dieReg R.TRW_BUSY_LO r.plot.die) (c + r.pauses - x.started), r,
      { x.next w c with running := false, idleAt := c + 1 })) rfl hi rfl ((Device.Only.refl d).inc64 _ (by simp) (by simp))
      fun u hu hr => ⟨hu, r, hr, rfl, fun _ => id⟩
  case illegal =>
    have hop : trowIllegal i t s.dev = abortClk i [(0x61, some t)] (s.dev.runTo i (r.core t).clk) := by
      unfold trowIllegal
      rw [hr]
      simp [ha, hp, hrun, hleg, Nat.not_le.mpr hclk]
    obtain ⟨det, hfirst, hab⟩ := abortClk_own hr1 ha1 (det := 0x61) (by decide) (some t)
    obtain ⟨q, hq, -⟩ := hab.run
    refine ⟨_, rfl, q.cut det r1.now, ?_, hfirst.symm, core_cut q det r1.now⟩
    rw [s.onDev_of _ hl, hop, Device.run?, Device.flush_plots]
    exact hq
  case budget =>
    have hop : trowBudget i t s.dev = abortClk i [(0x60, some t)] (s.dev.runTo i (r.trowelLimit (r.core t))) := by
      unfold trowBudget
      rw [hr]
      simp [ha, hp, hrun]
    obtain ⟨det, hfirst, hab⟩ := abortClk_own hr1 ha1 (det := 0x60) (by decide) (some t)
    obtain ⟨q, hq, -⟩ := hab.run
    refine ⟨_, rfl, q.cut det r1.now, ?_, hfirst.symm, core_cut q det r1.now⟩
    rw [s.onDev_of _ hl, hop, Device.run?, Device.flush_plots]
    exact hq

end Sys2Proof.Machine
end

section
/-! PROOFS of what completes in a run: ramps, weight loads, rows and their replay, and the results of the rake. -/
namespace Sys2Proof.Machine

/-- A command that stores one run, counted from a device on the way, ends. -/
theorem ends_of_setRun {c : Instr} {s : State} {i : Nat} {g : Device → Device} {d e : Device} {r' : Run} {ks : List Nat}
    {P : State → Prop} (hexec : exec c s = .next (s.onDev fun _ d => g d)) (hg : g s.dev = e.setRun i r')
    (he : Device.Only [] ks d e) (hP : ∀ t, State.oneRunFrom i ks s d t → t.dev.run? i = some r' → P t) : Ends c s P := fun hl =>
  ⟨_, hexec, hP _ (oneRunFrom_of_setRun hl hg he) (run?_of_setRun hl hg)⟩

/-! ### Ramps and weight loads -/

/-- Settles O24. -/
theorem rampsAndWeightLoadsComplete : Obligations.RampsAndWeightLoadsComplete := by
  intro s i k a due d r0 r hr0 hp hd hr
  subst hd
  refine ⟨fun hdue0 hdue => ⟨fun hst => ?up, fun hst => ?down⟩, fun l0 l hl0 hdue hl => ?load⟩
  case up =>
    refine ends_of_setRun (g := rampDone i k a) (e := s.dev.runUpTo i due 0) (ks := []) rfl ?_ (.refl _) fun t ht hr => ⟨ht, hr⟩
    unfold rampDone
    rw [hr0]
    simp [hp, hdue0, hr, hdue, hst]
  case down =>
    refine ends_of_setRun (g := rampDone i k a) rfl ?_ (only_settleArray (arrKey k a) r.elapsed r.now (s.dev.runUpTo i due 0) r)
      (r' := (r.settled (arrKey k a)).setArr (arrKey k a) { ((r.arr (arrKey k a)).settle r.elapsed r.now).2.2 with st := .down })
      fun t ht hr => ⟨ht, _, hr, ?_⟩
    · unfold rampDone
      rw [hr0]
      have harr : (settleArray (arrKey k a) r.elapsed r.now (s.dev.runUpTo i due 0) r).2.arr (arrKey k a) =
          ((r.arr (arrKey k a)).settle r.elapsed r.now).2.2 := (arr_setArr ..).trans (if_pos rfl)
      simp only [hp, hdue0, hr, hdue, hst, harr, Option.isSome_none, Bool.false_eq_true, if_false, bne_self_eq_false]
      rfl
    · exact Run.Adds.onlyArr (.refl _) rfl ((arr_setArr ..).trans (if_pos rfl)) fun k hk =>
        ((arr_setArr ..).trans (if_neg hk.symm)).trans ((arr_setArr ..).trans (if_neg hk.symm))
  case load =>
    refine ends_of_setRun (g := ldwDone i k a) rfl ?_
      ((Device.Only.refl (s.dev.runUpTo i due 0)).inc (k := dieReg R.ARR_WLOADS r.plot.die) (List.mem_singleton_self _)) fun t ht hr => ⟨ht, hr⟩
    unfold ldwDone
    rw [hr0]
    simp only [hp, hl0, hdue, hr, hl]

/-! ### The rows of an MM -/

/-- An MM of two rows, of which the first is at its final clk; its descriptor gives no column an element. -/
def emptyMm : MmOp :=
  { issue := 0, issuedAt := 0, final0 := 10, step := 1, fmt := 0, add := false, e0 := 0, drow := 0, rows := 2, next := 0,
    tile := freshTile, pack := some [0, 0, 0, 0, 255, 255, 255, 255], acts := [], nonfin := true }

/-- A run whose table of arrays lists decode array 0 twice; the MM stands in the entry behind. -/
def arrayTwice : Run := { Tests.run0 with arrays := [(8, freshArray), (8, { freshArray with ops := [emptyMm] })] }

/-- The columns of its row. -/
def emptyCols : List ColWork :=
  rowPass 1 8 1 (freshArray.rowDraw (freshArray.rowsBefore 0 (emptyMm.arrival 1 0)) (emptyMm.arrival 1 0)) emptyMm [] (fun _ => true)
    (startCols 1 emptyMm none)

theorem alignTerm_zero (ex e : Int) (u : Nat) : alignTerm 0 ex e u = 0 := by
  simp [alignTerm]

/-- A column that meets no element sums to 0, without an overflow. -/
theorem ovf_columnSum_empty {af : Nat} (haf : af ≠ 3) (d key seed : Nat) (draws : Nat → Nat) (tile : WTile) (row : List Byte) (j : Nat)
    (c : ColWork) : (columnSum af d key seed draws tile row 0 j false c).ovf = false := by
  have hterm : ∀ i, cellTerm af d tile row 0 i j = zeroTerm := fun i => by simp [cellTerm, haf]
  have hfold : ∀ l : List Nat, l.foldl (fun (acc : PartSum) i => addPart acc (alignTerm (cellTerm af d tile row 0 i j).v
      (cellTerm af d tile row 0 i j).e c.e (draw seed (unitId key i j) (draws i)))) ⟨0, false, none⟩ = ⟨0, false, none⟩ := by
    intro l
    induction l with
    | nil => rfl
    | cons i l ih =>
      rw [List.foldl_cons, hterm, zeroTerm, alignTerm_zero]
      exact ih
  unfold columnSum
  simp only [hfold, Bool.false_eq_true, if_false]

theorem emptyCols_ovf : ∀ c ∈ emptyCols, c.ovf = false := by
  intro c hc
  obtain ⟨j, hj, rfl⟩ := List.mem_mapIdx.mp hc
  have hlt : j < 128 := by simpa [startCols, arrD] using hj
  have hgroup : ∀ g < 4, (packGroup [0, 0, 0, 0, 255, 255, 255, 255] g == 15) = true := by decide
  have hrow : columnRow 1 0 emptyMm.pack [] j = ([], 0) := if_pos (hgroup (j / 32) (by omega))
  simp only [if_true]
  rw [show emptyMm.fmt = 0 from rfl, hrow]
  exact ovf_columnSum_empty (by decide) _ _ _ _ _ _ _ _

/-- R198: a row without an overflow is written. -/
theorem settleRow_written (i key : Nat) (m : MmOp) {cols : List ColWork} (h : ∀ c ∈ cols, c.ovf = false) (d : Device) (r : Run) :
    settleRow i key m cols d r = d.setRun i (finishRow r key m (cols.map (fun c => ⟨c.v, c.e⟩))) := by
  unfold settleRow
  rw [if_pos (by simpa using h)]

theorem ops_arrayTwice : (((Tests.withRun arrayTwice).onDev fun _ d => mmRowFinal 1 d).dev.run? 1).map (fun r => (r.arr 8).ops) = some [] := by
  have hrow : mmRowFinal 1 (Tests.withRun arrayTwice).dev =
      settleRow 1 8 emptyMm emptyCols ((Tests.withRun arrayTwice).dev.runUpTo 1 10 0) (arrayTwice.setArr 8 (freshArray.updOp emptyMm)) := by
    have hrun : (Tests.withRun arrayTwice).dev.run? 1 = some arrayTwice := rfl
    have hto : ((Tests.withRun arrayTwice).dev.runUpTo 1 10 0).run? 1 = some arrayTwice := rfl
    have hnext : nextFinal arrayTwice = some (8, emptyMm, 10) := rfl
    unfold mmRowFinal
    have hlive : arrayTwice.aborted = none ∧ arrayTwice.replay = none := ⟨rfl, rfl⟩
    have hseen : emptyMm.nonfin = true := rfl
    simp only [hrun, hto, hnext, hlive, hseen, Option.isSome_none, Bool.or_self, Bool.false_eq_true, if_false, Bool.not_true,
      Bool.false_and, Bool.or_false]
    rfl
  rw [State.onDev_of _ _ rfl, hrow, settleRow_written _ _ _ emptyCols_ovf]
  rfl

/-- Refutes O25: no clause asks that the table of a run's arrays lists an array once. The row that is final next is found in the second
entry of decode array 0, and is stored under its key in the first, whose MMs are none: no MM goes on to the next row. -/
theorem not_rowIsWrittenReplayedOrSaturated : ¬ Obligations.RowIsWrittenReplayedOrSaturated := by
  intro h
  obtain ⟨t, ht, r', hr, -, -, -, -, hnext, -⟩ := (h (Tests.withRun arrayTwice) 1 8 8 10 10 _ arrayTwice arrayTwice emptyMm emptyMm
    emptyCols rfl rfl rfl rfl rfl rfl rfl rfl rfl rfl).1 emptyCols_ovf rfl
  obtain rfl := Host.Outcome.next.inj ht
  obtain ⟨m, hm, -⟩ := hnext (by decide)
  have hops := ops_arrayTwice
  rw [hr, Option.map_some, Option.some.injEq] at hops
  rw [hops] at hm
  cases hm

/-! ### The end of a replay pause -/

theorem getElem?_raiseCols (seed key : Nat) (add : Bool) (foot : Tbl Nat) {cols : List ColWork} {j : Nat} {c : ColWork}
    (h : cols[j]? = some c) : ∃ c', (raiseCols seed key add foot cols)[j]? = some c' ∧ c'.e = (if c.ovf then c.e + 4 else c.e) ∧
      c'.ovf = c.ovf ∧ (c.ovf = false → c' = c) := by
  refine ⟨_, by rw [raiseCols, List.getElem?_mapIdx, h]; rfl, ?_⟩
  dsimp only
  split
  · next hc => exact ⟨rfl, rfl, fun h => absurd hc (by simp [h])⟩
  · exact ⟨rfl, rfl, fun _ => rfl⟩

/-- R199: a pass forms the columns anew that it names, at their exponents, and leaves the others. -/
theorem getElem?_rowPass (kind key seed : Nat) (draws : Nat → Nat → Nat) (m : MmOp) (acts : List (List Byte)) (redo : ColWork → Bool)
    {cols : List ColWork} {j : Nat} {c : ColWork} (h : cols[j]? = some c) :
    ∃ c', (rowPass kind key seed draws m acts redo cols)[j]? = some c' ∧ c'.e = c.e ∧ (redo c = false → c' = c) := by
  refine ⟨_, by rw [rowPass, List.getElem?_mapIdx, h]; rfl, ?_⟩
  dsimp only
  split
  · next hc => exact ⟨rfl, fun h => absurd hc (by simp [h])⟩
  · exact ⟨rfl, fun _ => rfl⟩

theorem rows_settleArray (key e t : Nat) (d : Device) (r : Run) (k : Nat) :
    ((settleArray key e t d r).2.arr k).rows = (r.arr k).rows := by
  refine (congrArg ArrayState.rows (arr_setArr ..)).trans ?_
  split
  · next h => rw [← h]
  · rfl

/-- R185: the counting of clks leaves the rows of the accumulators. -/
theorem rows_settleArrays (e t : Nat) (d : Device) (r : Run) (k : Nat) :
    ((settleArrays e t d r).2.arr k).rows = (r.arr k).rows := by
  unfold settleArrays
  generalize r.arrays = l
  induction l generalizing d r with
  | nil => rfl
  | cons p l ih => exact (ih _ _).trans (rows_settleArray p.1 e t d r k)

theorem rows_finishRow (r : Run) (key : Nat) (m : MmOp) (es : List AccEntry) :
    ((finishRow r key m es).arr key).rows.get? (m.drow + m.next) = some es := by
  refine (congrArg (fun a : ArrayState => a.rows.get? (m.drow + m.next)) (arr_setArr ..)).trans ?_
  rw [if_pos rfl]
  exact Tbl.get?_set_self ..

theorem Device.keeps_cond {ps : List DevPart} (hp : DevPart.qm ∈ ps) (a : Device) (k code detail : Nat) :
    Device.Keeps ps a (a.cond k code detail) := .of_merge [.qm] rfl (by simpa using hp)

theorem Device.keeps_setReg {ps : List DevPart} (a : Device) (k v : Nat) : Device.Keeps ps a (a.setReg k v) :=
  .of_merge [] rfl (List.nil_subset _)

/-- R204: a saturated row counts, is raised once for its run, and is written. -/
theorem saturateRow_stores (i key cause : Nat) (m : MmOp) (cols : List ColWork) (d : Device) (r : Run) :
    ∃ e, Device.Keeps [.qm] d e ∧
      saturateRow i key cause m cols d r = e.setRun i (finishRow { r with satSeen := true } key m (cols.map saturateCol)) := by
  refine ⟨_, ?_, rfl⟩
  have hcount := fun k j u v w => ((d.keeps_inc k (ps := [.qm])).trans (Device.keeps_setReg _ j u)).trans (Device.keeps_setReg _ v w)
  split
  · exact hcount _ _ _ _ _
  · exact ((hcount _ _ _ _ _).trans (Device.keeps_raiseReq _ _)).trans
      (Device.Keeps.foldl (fun e _ => e.keeps_cond (List.mem_singleton_self _) _ _ _) _ _)

/-- R198 to R204: what a row leaves of its run, by its columns. -/
structure RowSettled (key : Nat) (m : MmOp) (cols : List ColWork) (r r' : Run) : Prop where
  now : r'.now = r.now
  pauses : r'.pauses = r.pauses
  written : (∀ c, c ∈ cols → c.ovf = false) → r'.replay = r.replay ∧ r'.replaysLeft = r.replaysLeft ∧
    (r'.arr key).rows.get? (m.drow + m.next) = some (cols.map (fun c => ⟨c.v, c.e⟩))
  held : (∃ c, c ∈ cols ∧ c.ovf = true) → (∀ c, c ∈ cols → c.ovf = true → c.e ≤ 123) → r.replaysLeft ≠ 0 →
    r'.replay = some ⟨key, m.issue, r.pauses, cols⟩ ∧ r'.replaysLeft = r.replaysLeft - 1 ∧ (r'.arr key).rows = (r.arr key).rows
  saturated : (∃ c, c ∈ cols ∧ c.ovf = true) → (∃ c, c ∈ cols ∧ c.ovf = true ∧ 123 < c.e) ∨ r.replaysLeft = 0 →
    r'.replay = r.replay ∧ r'.satSeen = true ∧ (r'.arr key).rows.get? (m.drow + m.next) = some (cols.map saturateCol)

/-- A saturated row, where a column overflowed that may not rise, or the reserve is spent. -/
theorem RowSettled.of_saturated (key : Nat) (m : MmOp) {cols : List ColWork} (r : Run) (ho : ∃ c, c ∈ cols ∧ c.ovf = true)
    (hs : (∃ c, c ∈ cols ∧ c.ovf = true ∧ 123 < c.e) ∨ r.replaysLeft = 0) :
    RowSettled key m cols r (finishRow { r with satSeen := true } key m (cols.map saturateCol)) := by
  obtain ⟨c, hc, hovf⟩ := ho
  refine ⟨rfl, rfl, fun h => ?_, fun _ hlow hleft => ?_, fun _ _ => ⟨rfl, rfl, rows_finishRow ..⟩⟩
  · rw [h c hc] at hovf
    cases hovf
  · rcases hs with ⟨c', hc', ho', hhigh⟩ | hs
    · exact absurd (hlow c' hc' ho') (by omega)
    · exact absurd hs hleft

/-- A row that comes to be settled stores its run. -/
theorem settleRow_stores (i key : Nat) (m : MmOp) (cols : List ColWork) (d : Device) (r : Run) :
    ∃ e r', Device.Keeps [.qm] d e ∧ settleRow i key m cols d r = e.setRun i r' ∧ RowSettled key m cols r r' := by
  by_cases hw : ∀ c ∈ cols, c.ovf = false
  · refine ⟨d, _, .refl d, settleRow_written i key m hw d r, rfl, rfl, fun _ => ⟨rfl, rfl, rows_finishRow ..⟩, ?_, ?_⟩
    all_goals
      rintro ⟨c, hc, ho⟩
      rw [hw c hc] at ho
      cases ho
  · have ho : ∃ c, c ∈ cols ∧ c.ovf = true := by simpa using hw
    have hall : ¬ (cols.all (fun c => !c.ovf)) = true := by simpa using hw
    unfold settleRow
    rw [if_neg hall]
    by_cases hh : ∃ c, c ∈ cols ∧ c.ovf = true ∧ 123 < c.e
    · have hany : (cols.any (fun c => c.ovf && decide (123 < c.e))) = true := by simpa using hh
      obtain ⟨e, hk, he⟩ := saturateRow_stores i key 1 m cols d r
      refine ⟨e, _, hk, ?_, .of_saturated key m r ho (.inl hh)⟩
      simp only [hany, if_true]
      exact he
    · have hany : (cols.any (fun c => c.ovf && decide (123 < c.e))) = false := by simpa using hh
      by_cases hz : r.replaysLeft = 0
      · obtain ⟨e, hk, he⟩ := saturateRow_stores i key 0 m cols d r
        refine ⟨e, _, hk, ?_, .of_saturated key m r ho (.inr hz)⟩
        have hzb : (r.replaysLeft == 0) = true := by simpa using hz
        simp only [hany, Bool.false_eq_true, if_false, hzb, if_true]
        exact he
      · have hzb : (r.replaysLeft == 0) = false := by simpa using hz
        have hn := noted_settleArrays r.elapsed r.now d r
        have hpauses : (settleArrays r.elapsed r.now d r).2.pauses = r.pauses := by rw [hn.run]
        have hleft : (settleArrays r.elapsed r.now d r).2.replaysLeft = r.replaysLeft := by rw [hn.run]
        simp only [hany, Bool.false_eq_true, if_false, hzb]
        refine ⟨_, _, hn.dev.weaken.trans (Device.keeps_inc _ _), rfl, ?_, ?_, fun h => absurd h hw, fun _ _ _ => ?_, fun _ h => ?_⟩
        · exact hn.now
        · exact hpauses
        · exact ⟨congrArg (fun p => some (⟨key, m.issue, p, cols⟩ : Replay)) hpauses, congrArg (· - 1) hleft, rows_settleArrays ..⟩
        · rcases h with h | h
          · exact absurd h hh
          · exact absurd h hz

/-- R199, R200: the run at the end of a pause, before its row is settled. -/
def Run.afterPause (r : Run) (rp : Replay) (m : MmOp) : Run :=
  { r.setArr rp.key { r.arr rp.key with
      passes := (r.arr rp.key).passes ++ [r.now],
      footDraws := if m.add then (rp.cols.zip (List.range rp.cols.length)).foldl (fun (t : Tbl Nat) c =>
        if c.1.ovf then t.set c.2 (t.getD c.2 0 + 1) else t) (r.arr rp.key).footDraws else (r.arr rp.key).footDraws } with
    replay := none, pauses := rp.base + pauseLen (rp.key / 8) m.fmt
    trowels := r.trowels.mapVals (fun _ x =>
      if x.running && r.now + rp.base ≤ x.started then { x with started := x.started + pauseLen (rp.key / 8) m.fmt } else x) }

theorem rows_afterPause (r : Run) (rp : Replay) (m : MmOp) : ((r.afterPause rp m).arr rp.key).rows = (r.arr rp.key).rows := by
  refine (congrArg ArrayState.rows (arr_setArr ..)).trans ?_
  rw [if_pos rfl]

/-- Settles O26: the columns are raised and formed anew, and the row is settled for the run after the pause. -/
theorem replayPauseRaisesExponents : Obligations.ReplayPauseRaisesExponents := by
  intro s i r rp m hr hp hm cols
  refine ⟨fun j c hc => ?columns, fun hl => ?settle⟩
  case columns =>
    obtain ⟨c1, h1, he1, ho1, hs1⟩ := getElem?_raiseCols r.seed rp.key m.add (r.arr rp.key).footDraws hc
    obtain ⟨c2, h2, he2, hs2⟩ := getElem?_rowPass (rp.key / 8) rp.key r.seed ((r.arr rp.key).passDraw r.now) m
      (m.acts.getD m.next []) (fun c => c.ovf) h1
    exact ⟨c2, h2, he2.trans he1, fun h => (hs2 (ho1.trans h)).trans (hs1 h)⟩
  case settle =>
    obtain ⟨e, r', hk, he, hset⟩ := settleRow_stores i rp.key m cols s.dev (r.afterPause rp m)
    have hop : replayPauseEnd i s.dev = e.setRun i r' := by
      rw [← he]
      unfold replayPauseEnd
      simp only [hr, hp, hm]
      rfl
    have hplots : e.plots = s.dev.plots := hk.part .plots (by simp)
    have hkeeps : Device.Keeps [.plots, .qm] s.dev (e.setRun i r') :=
      (hk.mono (by simp)).trans ((Device.Only.refl (ks := []) e).setRun i r' (by simp)).keeps
    obtain ⟨hnow, hpauses, hwritten, hheld, hsat⟩ := hset
    refine ⟨_, rfl, r', ?_, hnow, ?_, State.onDev_pending .., State.onDev_tb .., fun p h1 h2 h3 h4 => ?_, hwritten, ?_, hsat, fun j hj => ?_⟩
    · exact run?_of_setRun hl hop
    · refine hpauses.trans ?_
      change rp.base + (2 * arrD (rp.key / 8) + rowClks m.fmt + 3) = _
      omega
    · rw [s.onDev_of _ hl, hop]
      exact (hkeeps.flush _).parts p (by simp [h3, h4]) h1 h2
    · intro ho hlow hleft
      obtain ⟨h1, h2, h3⟩ := hheld ho hlow hleft
      exact ⟨by rw [h1, hpauses], h2, h3.trans (rows_afterPause r rp m)⟩
    · rw [s.onDev_of _ hl, hop, Device.run?, Device.flush_plots]
      refine (Tbl.get?_set_ne _ _ hj.symm).trans ?_
      rw [hplots]
      rfl

end Sys2Proof.Machine
end

section
/-! PROOFS of the results of the rake (R117, R222 to R231): their writes, and what is counted when one is complete. -/
namespace Sys2Proof.Machine

/-! ### The writes of a result -/

/-- Effects put in their places change nothing of a run but what is in flight. -/
theorem Run.foldl_at_eq {clk order : Nat → Nat} {p : Nat → Pend} (l : List Nat) (r : Run) :
    l.foldl (fun q k => q.at (clk k) (order k) (p k)) r =
      { r with pend := (l.foldl (fun q k => q.at (clk k) (order k) (p k)) r).pend } := by
  induction l generalizing r with
  | nil => rfl
  | cons k l ih => exact ih (r.at (clk k) (order k) (p k))

/-! ### The operation that is complete first -/

/-- The one of two operations that is complete first; of two in one clk, the earlier one. -/
def earlierRake : Option RakeOp → RakeOp → Option RakeOp
  | some x, o => if o.due < x.due then some o else some x
  | none, o => some o

theorem nextRake_eq (r : Run) : r.nextRake = r.rake.foldl earlierRake none := by
  have hstep : ∀ b o, (match b with | some x => if o.due < x.due then some o else b | none => some o) = earlierRake b o := by
    intro b o
    cases b <;> rfl
  unfold Run.nextRake
  exact congrArg (fun f => r.rake.foldl f none) (funext fun b => funext fun o => hstep b o)

theorem earlierRake_isSome (b : Option RakeOp) (y : RakeOp) : ∃ z, earlierRake b y = some z := by
  cases b with
  | none => exact ⟨y, rfl⟩
  | some x =>
    change ∃ z, (if y.due < x.due then some y else some x) = some z
    split
    · exact ⟨y, rfl⟩
    · exact ⟨x, rfl⟩

theorem earlierRake_le {b : Option RakeOp} {y o : RakeOp} (h : earlierRake b y = some o) :
    o.due ≤ y.due ∧ ∀ x, b = some x → o.due ≤ x.due := by
  cases b with
  | none => cases h; exact ⟨Nat.le_refl _, nofun⟩
  | some x =>
    have he : (if y.due < x.due then some y else some x) = some o := h
    by_cases hlt : y.due < x.due
    · rw [if_pos hlt] at he
      cases he
      exact ⟨Nat.le_refl _, fun z hz => by cases hz; omega⟩
    · rw [if_neg hlt] at he
      cases he
      exact ⟨by omega, fun z hz => by cases hz; exact Nat.le_refl _⟩

/-- The operation that is complete first is complete no later than any other. -/
theorem nextRake_le {r : Run} {o : RakeOp} (h : r.nextRake = some o) : ∀ x ∈ r.rake, o.due ≤ x.due := by
  have hfold : ∀ (l : List RakeOp) (b : Option RakeOp), l.foldl earlierRake b = some o →
      (∀ x ∈ l, o.due ≤ x.due) ∧ ∀ x, b = some x → o.due ≤ x.due := by
    intro l
    induction l with
    | nil => exact fun b hb => ⟨nofun, fun x hx => by rw [hx] at hb; cases hb; exact Nat.le_refl _⟩
    | cons y l ih =>
      intro b hb
      obtain ⟨hl, hstep⟩ := ih _ hb
      obtain ⟨z, hz⟩ := earlierRake_isSome b y
      have hoz := hstep z hz
      obtain ⟨hzy, hzb⟩ := earlierRake_le hz
      refine ⟨fun x hx => ?_, fun x hx => Nat.le_trans hoz (hzb x hx)⟩
      rcases List.mem_cons.mp hx with rfl | hx
      · exact Nat.le_trans hoz hzy
      · exact hl x hx
  exact (hfold r.rake none (nextRake_eq r ▸ h)).1

/-! ### Its counters -/

/-- The counters of a rake that an operation raises. -/
def rakeRegs : List Nat := [R.RAKE_OPS, R.RAKE_TWO_PASS, R.RAKE_NAN, R.RAKE_DUPS]

theorem dieReg_not_event {a die : Nat} (ha : a ∈ rakeRegs) (hd : die < 4) : dieReg a die ∉ eventRegs := by
  have hall : ∀ a ∈ rakeRegs, ∀ die < 4, dieReg a die ∉ eventRegs := by decide
  exact hall a ha die hd

theorem dieReg_ne {a b : Nat} (h : a ≠ b) (die : Nat) : dieReg a die ≠ dieReg b die := by
  unfold dieReg
  omega

/-- A counter that rises under a condition. -/
theorem reg_inc_ite (p : Prop) [Decidable p] (d : Device) (k : Nat) :
    (if p then d.inc k else d).reg k = min (d.reg k + if p then 1 else 0) 0xFFFFFFFF := by
  have hlt := reg_lt d k (regRst_lt _)
  split
  · exact reg_incBy_self ..
  · omega

theorem reg_inc_ite_ne (p : Prop) [Decidable p] (d : Device) {j k : Nat} (h : k ≠ j) : (if p then d.inc k else d).reg j = d.reg j := by
  split
  · exact reg_incBy_ne _ _ h
  · rfl

theorem reg_rakeCounted (o : RakeOp) (sel : Selection) (d : Device) (r : Run) (k : Nat) : (rakeCounted o sel d r).1.reg k =
    ((d.incBy (dieReg R.RAKE_NAN r.plot.die) sel.nan).incBy (dieReg R.RAKE_DUPS r.plot.die) sel.dups).reg k := by
  unfold rakeCounted
  dsimp only
  split <;> rfl

/-- What is counted of an operation when it is complete, in the order in which its counters rise. -/
theorem reg_rakeComplete (o : RakeOp) (d : Device) (r : Run) :
    (rakeComplete o d r).1.reg (dieReg R.RAKE_OPS r.plot.die) = min (d.reg (dieReg R.RAKE_OPS r.plot.die) + 1) 0xFFFFFFFF ∧
    (rakeComplete o d r).1.reg (dieReg R.RAKE_TWO_PASS r.plot.die) =
      min (d.reg (dieReg R.RAKE_TWO_PASS r.plot.die) + if 512 < o.k then 1 else 0) 0xFFFFFFFF ∧
    (rakeComplete o d r).1.reg (dieReg R.RAKE_NAN r.plot.die) = min (d.reg (dieReg R.RAKE_NAN r.plot.die) + (selectRake o).nan) 0xFFFFFFFF ∧
    (rakeComplete o d r).1.reg (dieReg R.RAKE_DUPS r.plot.die) =
      min (d.reg (dieReg R.RAKE_DUPS r.plot.die) + (selectRake o).dups) 0xFFFFFFFF := by
  have hne : ∀ a ∈ rakeRegs, ∀ b ∈ rakeRegs, a ≠ b → dieReg a r.plot.die ≠ dieReg b r.plot.die := fun a _ b _ h => dieReg_ne h _
  have hreg : ∀ k, (rakeComplete o d r).1.reg k = (if 512 < o.k then
      ((rakeCounted o (selectRake o) d r).1.inc (dieReg R.RAKE_OPS r.plot.die)).inc (dieReg R.RAKE_TWO_PASS r.plot.die)
      else (rakeCounted o (selectRake o) d r).1.inc (dieReg R.RAKE_OPS r.plot.die)).reg k := fun _ => rfl
  refine ⟨?_, ?_, ?_, ?_⟩
  · rw [hreg, reg_inc_ite_ne _ _ (dieReg_ne (by decide) _), Device.inc, reg_incBy_self, reg_rakeCounted,
      reg_incBy_ne _ _ (dieReg_ne (by decide) _), reg_incBy_ne _ _ (dieReg_ne (by decide) _)]
  · rw [hreg, reg_inc_ite, Device.inc, reg_incBy_ne _ _ (dieReg_ne (by decide) _), reg_rakeCounted,
      reg_incBy_ne _ _ (dieReg_ne (by decide) _), reg_incBy_ne _ _ (dieReg_ne (by decide) _)]
  · rw [hreg, reg_inc_ite_ne _ _ (dieReg_ne (by decide) _), Device.inc, reg_incBy_ne _ _ (dieReg_ne (by decide) _), reg_rakeCounted,
      reg_incBy_ne _ _ (dieReg_ne (by decide) _), reg_incBy_self]
  · rw [hreg, reg_inc_ite_ne _ _ (dieReg_ne (by decide) _), Device.inc, reg_incBy_ne _ _ (dieReg_ne (by decide) _), reg_rakeCounted,
      reg_incBy_self, reg_incBy_ne _ _ (dieReg_ne (by decide) _)]

/-- Settles O30. -/
theorem rakeResultIsWritten : Obligations.RakeResultIsWritten := by
  refine ⟨fun d i clk n r o ho => ?writes, ?done⟩
  case writes =>
    have happ : applyPend i clk d r (.rakeResult o.occEnd n) = (d, rakeWrites clk n o r) := by
      change (d, (r.rake.filter (fun x => x.occEnd == o.occEnd)).foldl (fun r o => rakeWrites clk n o r) r) = _
      rw [ho]
      rfl
    rw [happ]
    exact ⟨rfl, Run.foldl_at_eq _ _, fun k hk => Run.mem_ats (clk := (clk + ·)) (order := fun _ => 16) hk r⟩
  case done =>
    intro s i r0 r o0 o d hr0 hp hn0 hd hr hn counted hl
    have hop : rakeResultDone i s.dev = (rakeComplete o d r).1.setRun i (rakeComplete o d r).2 := by
      unfold rakeResultDone
      simp only [hr0, hp, hn0, ← hd, hr, hn]
    have hkeeps : Device.Keeps [.plots] d ((rakeComplete o d r).1.setRun i (rakeComplete o d r).2) :=
      ((noted_rakeComplete o (d, r)).dev.weaken).trans ((Device.Only.refl (ks := []) _).setRun i _ (by simp)).keeps
    have hplots : (rakeComplete o d r).1.plots = d.plots := (noted_rakeComplete o (d, r)).dev.part .plots (by simp)
    have hreg : ∀ a ∈ rakeRegs, r.plot.die < 4 → (s.onDev fun _ d => rakeResultDone i d).dev.reg (dieReg a r.plot.die) =
        (rakeComplete o d r).1.reg (dieReg a r.plot.die) := fun a ha hd => reg_of_setRun hl hop (dieReg_not_event ha hd)
    obtain ⟨hops, htwo, hnan, hdups⟩ := reg_rakeComplete o d r
    refine ⟨_, rfl, State.onDev_pending .., State.onDev_tb .., fun p h1 h2 h3 => ?_, fun j hj => ?_,
      fun hd => (hreg _ (by decide) hd).trans hops, fun hd => (hreg _ (by decide) hd).trans htwo,
      fun hd => (hreg _ (by decide) hd).trans hnan, fun hd => (hreg _ (by decide) hd).trans hdups, nextRake_le hn,
      _, run?_of_setRun hl hop, rfl, ?_⟩
    · rw [s.onDev_of _ hl, hop]
      exact (hkeeps.flush _).parts p (by simp [h3]) h1 h2
    · rw [s.onDev_of _ hl, hop, Device.run?, Device.flush_plots]
      refine (Tbl.get?_set_ne _ _ hj.symm).trans ?_
      rw [hplots]
      rfl
    · change (r.nanSeen || (decide (0 < (selectRake o).nan) && !r.nanSeen)) = true ↔ _
      cases r.nanSeen <;> simp

end Sys2Proof.Machine
end

section
/-! PROOFS of the completion of requests (R379, R397), and of the loading and unloading of plots (R62, R63). -/
namespace Sys2Proof.Machine

/-! ### Completion entries -/

/-- An entry that is written changes of the queues the pairs, and sends or waits. -/
theorem writeEntry_eq (d : Device) (q : Nat) (entry : List Byte) : ∃ qps host out,
    d.writeEntry q entry = { d with qm := { d.qm with qps := qps }, host := host, out := out } := by
  have haccess : ∀ (d : Device) (t : HostTxn), ∃ host out, d.access q t = { d with host := host, out := out } := fun d t => by
    unfold Device.access
    split
    · exact ⟨_, _, rfl⟩
    · exact ⟨_, _, rfl⟩
  have hannounce : ∀ d : Device, ∃ qps out, d.announce q = { d with qm := { d.qm with qps := qps }, out := out } := fun d => by
    unfold Device.announce
    dsimp only
    split
    · exact ⟨_, _, rfl⟩
    · exact ⟨_, _, rfl⟩
  unfold Device.writeEntry
  dsimp only
  split
  · exact ⟨_, _, _, rfl⟩
  · obtain ⟨host, out, he⟩ := haccess d (.dwr (d.reg64 (qpReg R.QM_QP_CQ_BASE_LO q) + 64 * ((d.qp q).cqTail % 2 ^ d.cqLog q))
      (entry.mapIdx fun i b => if i == 5 then b ||| BitVec.ofNat 8 (if ((d.qp q).cqTail / 2 ^ d.cqLog q) % 2 == 0 then 1 else 0) else b))
    rw [he]
    obtain ⟨qps, out', ha⟩ := hannounce (({ d with host := host, out := out } : Device).setQp q
      { d.qp q with cqTail := ((d.qp q).cqTail + 1) % 65536 })
    exact ⟨qps, _, _, ha⟩

section
variable (d : Device) (q : Nat) (entry : List Byte) (tb : Timebase) (r : Request)

theorem only_writeEntry {ks : List Nat} : Device.Only [.qm, .host, .out] ks d (d.writeEntry q entry) := by
  obtain ⟨qps, host, out, h⟩ := writeEntry_eq d q entry
  rw [h]
  exact .of_regs [.qm, .host, .out] rfl (List.Subset.refl _) rfl

/-- R396: what is counted and raised at the end of a request. -/
def countEnd (d : Device) (r : Request) : Device :=
  let d := if (statusOf r.conds).1 == 3 then d.inc R.QM_CANCELS else d
  if r.bound && r.boundMiss then (d.inc R.QM_BOUND_MISSES).raiseCtx 0x0B07 r.ctx [(4, fieldLe r.bytes 4 4)] else d

theorem complete_eq : complete tb d r = (countEnd d r).writeEntry r.qp (finalEntry tb (countEnd d r) r) := rfl

theorem only_countEnd : Device.Only [.qm, .host, .out] [R.QM_CANCELS, R.QM_BOUND_MISSES] d (countEnd d r) := by
  have hcancel : Device.Only [.qm, .host, .out] [R.QM_CANCELS, R.QM_BOUND_MISSES] d
      (if (statusOf r.conds).1 == 3 then d.inc R.QM_CANCELS else d) := by
    split
    · exact (Device.Only.refl d).inc (by simp)
    · exact .refl d
  unfold countEnd
  dsimp only
  split
  · exact (hcancel.inc (by simp)).raiseCtx _ _ _
  · exact hcancel

/-- A request without BOUND counts at most a cancellation. -/
theorem countEnd_unbound {r : Request} (h : r.bound = false) :
    countEnd d r = if (statusOf r.conds).1 == 3 then d.inc R.QM_CANCELS else d := by
  unfold countEnd
  rw [h]
  rfl

theorem qm_countEnd : (countEnd d r).qm = d.qm := by
  unfold countEnd
  dsimp only
  split <;> split <;> rfl

theorem only_complete : Device.Only [.qm, .host, .out] [R.QM_CANCELS, R.QM_BOUND_MISSES] d (complete tb d r) :=
  (only_countEnd d r).trans (only_writeEntry ..)

theorem reqs_complete : (complete tb d r).qm.reqs = d.qm.reqs := by
  obtain ⟨qps, host, out, h⟩ := writeEntry_eq (countEnd d r) r.qp (finalEntry tb (countEnd d r) r)
  rw [complete_eq, h, ← qm_countEnd d r]

theorem only_complete_unbound {r : Request} (h : r.bound = false) : Device.Only [.qm, .host, .out] [R.QM_CANCELS] d (complete tb d r) := by
  have hcount : Device.Only [.qm, .host, .out] [R.QM_CANCELS] d (countEnd d r) := by
    rw [countEnd_unbound d h]
    split
    · exact (Device.Only.refl d).inc (by simp)
    · exact .refl d
  exact hcount.trans (only_writeEntry ..)

theorem ev_complete {r : Request} (h : r.bound = false) : (complete tb d r).ev = d.ev := by
  obtain ⟨qps, host, out, he⟩ := writeEntry_eq (countEnd d r) r.qp (finalEntry tb (countEnd d r) r)
  rw [complete_eq, he]
  change (countEnd d r).ev = _
  rw [countEnd_unbound d h]
  split <;> rfl

end

/-! ### The end of a request -/

section
variable (d : Device) (tb : Timebase) (rid : Nat)

theorem only_endReq : Device.Only [.qm, .host, .out] [R.QM_CANCELS, R.QM_BOUND_MISSES] d (endReq tb rid d) := by
  unfold endReq
  split
  · exact .refl d
  · have hdel : Device.Only [.qm, .host, .out] [R.QM_CANCELS, R.QM_BOUND_MISSES] d
        { d with qm := { d.qm with reqs := d.qm.reqs.del rid } } := .of_regs [.qm] rfl (by simp) rfl
    exact hdel.trans (only_complete _ _ _)

theorem only_completeReq : Device.Only [.qm, .host, .out] [R.QM_CANCELS, R.QM_BOUND_MISSES] d (completeReq tb rid d) := by
  unfold completeReq
  split
  · exact .refl d
  · split
    · exact .refl d
    · exact only_endReq ..

variable {d rid}

/-- A request that is not of a context in reset ends (R401). -/
theorem completeReq_of {r : Request} (hr : d.req? rid = some r) (hc : (d.ctx r.ctx).st ≠ .resetting) :
    completeReq tb rid d = complete tb { d with qm := { d.qm with reqs := d.qm.reqs.del rid } } r := by
  unfold completeReq endReq
  simp only [hr, beq_eq_false_iff_ne.mpr hc, Bool.false_eq_true, if_false]

theorem completeReq_resetting {r : Request} (hr : d.req? rid = some r) (hc : (d.ctx r.ctx).st = .resetting) :
    completeReq tb rid d = d := by
  unfold completeReq
  simp only [hr, hc, beq_self_eq_true, if_true]

/-- A request without BOUND that ends counts at most a cancellation, and raises nothing. -/
theorem completeReq_unbound {r : Request} (hr : d.req? rid = some r) (hb : r.bound = false) :
    Device.Only [.qm, .host, .out] [R.QM_CANCELS] d (completeReq tb rid d) ∧ (completeReq tb rid d).ev = d.ev := by
  by_cases hc : (d.ctx r.ctx).st = .resetting
  · rw [completeReq_resetting tb hr hc]
    exact ⟨.refl d, rfl⟩
  · have hdel : Device.Only [.qm, .host, .out] [R.QM_CANCELS] d { d with qm := { d.qm with reqs := d.qm.reqs.del rid } } :=
      .of_regs [.qm] rfl (by simp) rfl
    rw [completeReq_of tb hr hc]
    exact ⟨hdel.trans (only_complete_unbound _ tb hb), ev_complete _ tb hb⟩

/-- The end of a request leaves the others. -/
theorem req?_completeReq_ne {j : Nat} (hj : j ≠ rid) : (completeReq tb rid d).req? j = d.req? j := by
  cases hr : d.req? rid with
  | none => unfold completeReq; rw [hr]
  | some r =>
    by_cases hc : (d.ctx r.ctx).st = .resetting
    · rw [completeReq_resetting tb hr hc]
    · rw [completeReq_of tb hr hc, Device.req?, reqs_complete]
      exact Tbl.get?_del_ne _ hj.symm

end

/-! ### Tables whose keys rise -/

/-- A key that is below all that are listed is not listed. -/
theorem Tbl.get?_none_of_lt {α : Type} {t : Tbl α} {k : Nat} (h : ∀ p ∈ t, k < p.1) : Tbl.get? t k = none := by
  induction t with
  | nil => rfl
  | cons p t ih =>
    have hp : p.1 ≠ k := Nat.ne_of_gt (h p List.mem_cons_self)
    exact (if_neg hp).trans (ih fun q hq => h q (List.mem_cons_of_mem _ hq))

/-- A key that was removed from a table in order is not listed. -/
theorem get?_del_self {α : Type} {t : Tbl α} (h : risingKeys t) (k : Nat) : Tbl.get? (t.del k) k = none := by
  induction t with
  | nil => rfl
  | cons p t ih =>
    obtain ⟨hlt, ht⟩ := List.pairwise_cons.mp h
    by_cases hp : p.1 = k
    · have hdel : Tbl.del (p :: t) k = t := if_pos hp
      rw [hdel]
      exact Tbl.get?_none_of_lt fun q hq => hp ▸ hlt q hq
    · have hdel : Tbl.del (p :: t) k = p :: Tbl.del t k := if_neg hp
      rw [hdel]
      exact (if_neg hp).trans (ih ht)

theorem Tbl.mem_set {α : Type} {t : Tbl α} {k : Nat} {v : α} {p : Nat × α} (h : p ∈ Tbl.set t k v) : p = (k, v) ∨ p ∈ t := by
  induction t with
  | nil => exact .inl (List.mem_singleton.mp h)
  | cons q t ih =>
    unfold Tbl.set at h
    split at h
    · exact List.mem_cons.mp h
    · split at h
      · exact (List.mem_cons.mp h).imp_right (List.mem_cons_of_mem _)
      · rcases List.mem_cons.mp h with rfl | h
        · exact .inr List.mem_cons_self
        · exact (ih h).imp_right (List.mem_cons_of_mem _)

/-- A table in order stays so. -/
theorem risingKeys_set {α : Type} {t : Tbl α} (h : risingKeys t) (k : Nat) (v : α) : risingKeys (Tbl.set t k v) := by
  induction t with
  | nil => exact List.pairwise_singleton ..
  | cons q t ih =>
    obtain ⟨hlt, ht⟩ := List.pairwise_cons.mp h
    unfold Tbl.set
    split
    · next hk =>
      refine List.pairwise_cons.mpr ⟨fun p hp => ?_, h⟩
      rcases List.mem_cons.mp hp with rfl | hp
      · exact hk
      · exact Nat.lt_trans hk (hlt p hp)
    · split
      · next he => exact List.pairwise_cons.mpr ⟨fun p hp => lt_of_eq_of_lt he.symm (hlt p hp), ht⟩
      · next hnk hne =>
        refine List.pairwise_cons.mpr ⟨fun p hp => ?_, ih ht⟩
        rcases Tbl.mem_set hp with rfl | hp
        · exact Nat.lt_of_le_of_ne (Nat.le_of_not_lt hnk) hne
        · exact hlt p hp

theorem Tbl.upd_of_some {α : Type} {t : Tbl α} {k : Nat} {v : α} (h : Tbl.get? t k = some v) (f : α → α) : t.upd k f = t.set k (f v) := by
  unfold Tbl.upd
  rw [h]

theorem Tbl.get?_upd_ne {α : Type} (t : Tbl α) {j k : Nat} (f : α → α) (h : k ≠ j) : Tbl.get? (t.upd k f) j = Tbl.get? t j := by
  unfold Tbl.upd
  split
  · exact Tbl.get?_set_ne _ _ h
  · rfl

/-- What a table lists but for one key does not depend on what is stored under it. -/
theorem Tbl.filter_set {α : Type} (t : Tbl α) (k : Nat) (v : α) :
    (t.set k v).filter (fun p => p.1 != k) = t.filter (fun p => p.1 != k) := by
  induction t with
  | nil => simp [Tbl.set]
  | cons q t ih =>
    unfold Tbl.set
    split
    · simp
    · split
      · next h => simp [h]
      · rw [List.filter_cons, List.filter_cons, ih]

theorem Tbl.mem_of_get? {α : Type} {t : Tbl α} {k : Nat} {v : α} (h : Tbl.get? t k = some v) : (k, v) ∈ t := by
  induction t with
  | nil => cases h
  | cons q t ih =>
    by_cases hq : q.1 = k
    · have hv : some q.2 = some v := (if_pos hq).symm.trans h
      cases hv
      subst hq
      exact List.mem_cons_self
    · exact List.mem_cons_of_mem _ (ih ((if_neg hq).symm.trans h))

/-! ### Loading and unloading -/

/-- One event of a command, which leaves the rest of the event unit. -/
theorem raised_of_ev {s t : State} {r : EventReq} {e : Device} (hs : e.ev = (s.dev.raiseReq r).ev) (h : s.settled)
    (ht : t.dev = e.flush s.tb) : s.raised r t :=
  raised_of_one (s := s) (t := t) r { e with ev := s.dev.ev } rfl h (by
    rw [ht]
    exact congrArg (fun ev => ({ e with ev := ev } : Device).flush s.tb) hs)

theorem only_cond {ps : List DevPart} {ks : List Nat} (hp : DevPart.qm ∈ ps) (d : Device) (k code detail : Nat) :
    Device.Only ps ks d (d.cond k code detail) := .of_regs [.qm] rfl (by simpa using hp) rfl

theorem req?_updReq (d : Device) (k : Nat) (f : Request → Request) {q : Request} (h : d.req? k = some q) :
    (d.updReq k f).req? k = some (f q) := by
  unfold Device.updReq Device.req?
  rw [Tbl.upd_of_some h]
  exact Tbl.get?_set_self ..

theorem req?_updReq_ne (d : Device) {j k : Nat} (f : Request → Request) (h : j ≠ k) : (d.updReq k f).req? j = d.req? j :=
  Tbl.get?_upd_ne _ _ h.symm

/-- The device with a plot listed for a request, which has its handle as result. -/
def loadedFor (d : Device) (req : Nat) (q : Request) (p : Plot) : Device :=
  ({ d with plots := { d.plots with dir := d.plots.dir.set (65536 * q.ctx + freeHandle d q.ctx) p } } : Device).updReq req
    (fun x => { x with result := freeHandle d q.ctx })

section
variable {s : State} {req : Nat} {q : Request} (hr : s.dev.req? req = some q)
include hr

/-- R62: a load whose checks pass. -/
theorem plotLoad_passes (hop : fieldLe q.bytes 0 1 = 1)
    (hc : loadCheck s.dev q.ctx ((s.dev.ctx q.ctx).win (fieldLe q.bytes 2 1)) (fieldLe q.bytes 0x40 8) = none) :
    plotLoad s.tb req s.dev = completeReq s.tb req (loadedFor s.dev req q
      (readPlot s.dev.mem (((s.dev.ctx q.ctx).win (fieldLe q.bytes 2 1)).base + fieldLe q.bytes 0x40 8) (s.dev.ctx q.ctx).all
        ((s.dev.ctx q.ctx).all.map s.dev.groupsOf))) := by
  unfold plotLoad
  simp only [hr, hop, hc, bne_self_eq_false, Bool.false_eq_true, if_false]
  rfl

/-- R62: a load that fails a check. -/
theorem plotLoad_fails (hop : fieldLe q.bytes 0 1 = 1) {det : Nat}
    (hc : loadCheck s.dev q.ctx ((s.dev.ctx q.ctx).win (fieldLe q.bytes 2 1)) (fieldLe q.bytes 0x40 8) = some det) :
    plotLoad s.tb req s.dev = completeReq s.tb req ((s.dev.cond req 0x0E det).raiseCtx 0x0201 q.ctx [(1, det)]) := by
  unfold plotLoad
  simp only [hr, hop, hc, bne_self_eq_false, Bool.false_eq_true, if_false]

/-- R63: an unload that is accepted. -/
theorem plotUnload_eq (hop : fieldLe q.bytes 0 1 = 2) : plotUnload s.tb req s.dev = settleUnloads s.tb
    { s.dev with plots := { s.dev.plots with
      dir := s.dev.plots.dir.upd (65536 * q.ctx + fieldLe q.bytes 0x40 2) (fun p => { p with unloading := true }) } } := by
  unfold plotUnload
  simp only [hr, hop, bne_self_eq_false, Bool.false_eq_true, if_false]

end

/-- The plots that wait for their unload and are in no use. -/
def goneKeys (d : Device) : List Nat := (d.plots.dir.filter (fun p => p.2.unloading && !d.plotInUse p.1)).map (·.1)

/-- R63: what the end of unloads leaves: their plots leave the directory, and requests may end. -/
theorem settleUnloads_only (tb : Timebase) (d : Device) :
    Device.Only [.qm, .host, .out] [R.QM_CANCELS, R.QM_BOUND_MISSES]
      { d with plots := { d.plots with dir := d.plots.dir.filter (fun p => !(goneKeys d).contains p.1) } } (settleUnloads tb d) := by
  unfold settleUnloads
  exact Device.Only.foldl (fun e (p : Nat × Request) => only_completeReq e tb p.1) _ (.refl _)

theorem settleUnloads_none (tb : Timebase) {d : Device} (h : goneKeys d = []) : settleUnloads tb d = d := by
  unfold settleUnloads
  change List.foldl _ { d with plots := { d.plots with dir := d.plots.dir.filter (fun p => !(goneKeys d).contains p.1) } }
    (d.qm.reqs.filter (fun p => fieldLe p.2.bytes 0 1 == 2 && (goneKeys d).contains (65536 * p.2.ctx + fieldLe p.2.bytes 0x40 2))) = d
  have hdir : d.plots.dir.filter (fun p => !(goneKeys d).contains p.1) = d.plots.dir := List.filter_eq_self.mpr fun p _ => by simp [h]
  have hreqs : d.qm.reqs.filter (fun p => fieldLe p.2.bytes 0 1 == 2 && (goneKeys d).contains (65536 * p.2.ctx + fieldLe p.2.bytes 0x40 2)) = [] :=
    List.filter_eq_nil_iff.mpr fun p _ => by simp [h]
  rw [hdir, hreqs]
  rfl

section
variable {d : Device} {key : Nat} {p : Plot}
  (hother : ∀ x, x ∈ d.plots.dir → x.1 ≠ key → x.2.unloading = true → d.plotInUse x.1 = true)
include hother

/-- The device with a plot marked as unloading. -/
theorem goneKeys_of_used (huse : d.plotInUse key = true) :
    goneKeys { d with plots := { d.plots with dir := d.plots.dir.set key { p with unloading := true } } } = [] := by
  refine List.map_eq_nil_iff.mpr (List.filter_eq_nil_iff.mpr fun x hx => ?_)
  have hin : x.2.unloading = true → d.plotInUse x.1 = true := fun hu => by
    by_cases hk : x.1 = key
    · rw [hk]
      exact huse
    · rcases Tbl.mem_set hx with rfl | hx
      · exact absurd rfl hk
      · exact hother x hx hk hu
  change ¬(x.2.unloading && !d.plotInUse x.1) = true
  simpa using hin

/-- A plot that is in no use is the one that leaves. -/
theorem filter_gone_of_free (huse : d.plotInUse key = false) :
    (d.plots.dir.set key { p with unloading := true }).filter (fun x => !(goneKeys { d with plots := { d.plots with
      dir := d.plots.dir.set key { p with unloading := true } } }).contains x.1) = d.plots.dir.filter (fun x => x.1 != key) := by
  have hgone : ∀ k, k ∈ goneKeys { d with plots := { d.plots with dir := d.plots.dir.set key { p with unloading := true } } } ↔ k = key := by
    intro k
    constructor
    · intro hk
      obtain ⟨x, hx, rfl⟩ := List.mem_map.mp hk
      obtain ⟨hmem, hcond⟩ := List.mem_filter.mp hx
      have hc : (x.2.unloading && !d.plotInUse x.1) = true := hcond
      simp only [Bool.and_eq_true, Bool.not_eq_true'] at hc
      refine Classical.byContradiction fun hne => ?_
      rcases Tbl.mem_set hmem with rfl | hmem
      · exact hne rfl
      · rw [hother x hmem hne hc.1] at hc
        exact absurd hc.2 (by simp)
    · rintro rfl
      refine List.mem_map.mpr ⟨_, List.mem_filter.mpr ⟨Tbl.mem_of_get? (Tbl.get?_set_self _ _ _), ?_⟩, rfl⟩
      change (true && !d.plotInUse k) = true
      rw [huse]
      rfl
  rw [← Tbl.filter_set d.plots.dir key { p with unloading := true }]
  refine List.filter_congr fun x _ => ?_
  rw [bne, Bool.not_eq_eq_eq_not, Bool.not_not, Bool.eq_iff_iff, List.contains_iff_mem, hgone, beq_iff_eq]

end

/-- Settles O39. -/
theorem plotLoadAndUnload : Obligations.PlotLoadAndUnload := by
  intro s req q hr w off wins key
  refine ⟨fun hop hc hl => ?loaded, fun hop hset hready det hc hl => ?failed, fun hop p hp hother => ⟨fun huse hl => ?waits, fun huse hl => ?leaves⟩⟩
  case loaded =>
    have heff := plotLoad_passes hr hop hc
    have hload : Device.Only [.plots, .qm, .host, .out] [R.QM_CANCELS, R.QM_BOUND_MISSES] s.dev
        (loadedFor s.dev req q (readPlot s.dev.mem (w.base + off) wins (wins.map s.dev.groupsOf))) :=
      .of_regs [.plots, .qm] rfl (by simp) rfl
    have hend := only_completeReq (loadedFor s.dev req q (readPlot s.dev.mem (w.base + off) wins (wins.map s.dev.groupsOf))) s.tb req
    refine ⟨_, rfl, frame_of_onDev (f := fun tb d => plotLoad tb req d) hl ?_, ?_, fun hst hrise => ?_, fun j hj => ?_⟩
    · rw [heff]
      exact hload.trans (hend.mono (by simp) (List.Subset.refl _))
    · rw [s.onDev_of _ hl, heff, Device.flush_plots]
      exact hend.part .plots (by simp)
    · have hq : (loadedFor s.dev req q (readPlot s.dev.mem (w.base + off) wins (wins.map s.dev.groupsOf))).req? req =
          some { q with result := freeHandle s.dev q.ctx } := req?_updReq _ _ _ hr
      rw [s.onDev_of _ hl, heff, Device.req?, Device.flush_qm, completeReq_of s.tb hq hst, reqs_complete]
      refine get?_del_self ?_ req
      change risingKeys (s.dev.qm.reqs.upd req _)
      rw [Tbl.upd_of_some hr]
      exact risingKeys_set hrise _ _
    · rw [s.onDev_of _ hl, heff, Device.req?, Device.flush_qm]
      exact (req?_completeReq_ne s.tb hj).trans (req?_updReq_ne _ _ hj)
  case failed =>
    have heff := plotLoad_fails hr hop hc
    have hq : ((s.dev.cond req 0x0E det).raiseCtx 0x0201 q.ctx [(1, det)]).req? req = some { q with conds := q.conds ++ [(0x0E, det)] } :=
      req?_updReq _ _ _ hr
    obtain ⟨honly, hev⟩ := completeReq_unbound s.tb hq (by simp [Request.bound, hready])
    refine ⟨_, rfl, frame_of_onDev (f := fun tb d => plotLoad tb req d) hl ?_, ?_, fun j hj => ?_⟩
    · rw [heff]
      exact ((only_cond (by simp) s.dev req 0x0E det).raiseCtx _ _ _).trans honly
    · exact raised_of_ev (e := plotLoad s.tb req s.dev) (by rw [heff, hev]; rfl) hset (by rw [s.onDev_of _ hl])
    · rw [s.onDev_of _ hl, heff, Device.req?, Device.flush_qm]
      exact (req?_completeReq_ne s.tb hj).trans (req?_updReq_ne _ _ hj)
  case waits =>
    have heff := plotUnload_eq hr hop
    rw [Tbl.upd_of_some hp] at heff
    rw [settleUnloads_none s.tb (goneKeys_of_used (p := p) hother huse)] at heff
    refine ⟨_, rfl, frame_of_onDev (f := fun tb d => plotUnload tb req d) hl ?_, ?_⟩
    · rw [heff]
      exact .of_regs [.plots] rfl (by simp) rfl
    · rw [s.onDev_of _ hl, heff, Device.flush_plots]
  case leaves =>
    have heff := plotUnload_eq hr hop
    rw [Tbl.upd_of_some hp] at heff
    have honly := settleUnloads_only s.tb { s.dev with plots := { s.dev.plots with dir := s.dev.plots.dir.set key { p with unloading := true } } }
    rw [← heff, filter_gone_of_free hother huse] at honly
    have hdir : Device.Only [.plots, .qm, .host, .out] [R.QM_CANCELS, R.QM_BOUND_MISSES] s.dev
        { s.dev with plots := { s.dev.plots with dir := s.dev.plots.dir.filter (fun x => x.1 != key) } } := .of_regs [.plots] rfl (by simp) rfl
    refine ⟨_, rfl, frame_of_onDev (f := fun tb d => plotUnload tb req d) hl (hdir.trans (honly.mono (by simp) (List.Subset.refl _))), ?_⟩
    rw [s.onDev_of _ hl, Device.flush_plots]
    exact honly.part .plots (by simp)

end Sys2Proof.Machine
end

section
/-! PROOFS of the start and the end of plot runs, and of the issue of their bundles (R53, R66, R98 to R102, R108). -/
namespace Sys2Proof.Machine

theorem Device.Only.setPlots {ps : List DevPart} {ks : List Nat} {a b : Device} (h : Device.Only ps ks a b) (x : PlotUnit)
    (hp : DevPart.plots ∈ ps) : Device.Only ps ks a { b with plots := x } := h.trans (.of_regs [.plots] rfl (by simpa using hp) rfl)

/-! ### The start of a run -/

/-- R66, R102: the run of a placed plot at its start. -/
def startedRun (p : Placed) (plot : Plot) (wins : List Window) (idle : Bool) : Run :=
  { ctx := p.ctx, handle := p.handle, plot := plot, req := p.req, entry := p.entry, gen := p.gen, group := p.group,
    startOff := 1250 * p.band, wins := wins, phys := p.phys, seed := if p.seed == 0 then plot.seed else p.seed,
    now := 0, pauses := 0, nextIssue := 0, waitClk := none, pc := 0,
    aregs := (List.range 16).map (fun i => if i < 8 then p.args.getD i 0 else 0),
    arrays := [], packs := [], latch := (0, 0, 0, 0), ports := [], rake := [], trowels := [], pend := [], banks := [],
    replay := none, replaysLeft := plot.replayRes, satSeen := false, nonfinSeen := false, nanSeen := false,
    lastTies := 0, aborted := if idle then some 0 else none, overrunChecked := false }

/-- R102: the address registers hold the arguments, and 0 behind them. -/
theorem areg_startedRun (p : Placed) (plot : Plot) (wins : List Window) (idle : Bool) {a : Nat} (h : a < 16) :
    (startedRun p plot wins idle).areg a = if a < 8 then (p.args.getD a 0).toNat else 0 := by
  have hget : (startedRun p plot wins idle).aregs[a]? = some (if a < 8 then p.args.getD a 0 else 0) := by
    simp [startedRun, h]
  rw [Run.areg, List.getD_eq_getElem?_getD, hget, Option.getD_some, apply_ite BitVec.toNat]
  rfl

section
variable {s : State} {n : Nat} {p : Placed} {plot : Plot} (hp : s.dev.plots.sown[n]? = some p)
  (hplot : s.dev.plots.dir.get? (65536 * p.ctx + p.handle) = some plot)
include hp hplot

/-- R66: a plot that is not idle starts: the objects of its windows are used, its start is counted, and its run is listed. -/
theorem plotStart_started (hi : p.idle = false) :
    Device.Only [.plots, .store] [dieReg R.ARR_PSQ_STARTS plot.die] s.dev (plotStart n s.tb s.dev) ∧
    (plotStart n s.tb s.dev).plots = { s.dev.plots with
      sown := s.dev.plots.sown.eraseIdx n, nextRun := s.dev.plots.nextRun + 1,
      runs := s.dev.plots.runs.set s.dev.plots.nextRun (startedRun p plot (s.dev.ctx p.ctx).all false) } := by
  have huse : ∀ (l : List Nat) (d : Device), Device.Only [.store] [dieReg R.ARR_PSQ_STARTS plot.die] d (l.foldl (fun d o => d.use s.tb o) d) :=
    fun l d => Device.Only.foldl (f := fun d o => d.use s.tb o) (fun e _ => .of_regs [.store] rfl (List.Subset.refl _) rfl) l (.refl d)
  have hplots : ∀ (l : List Nat) (d : Device), (l.foldl (fun d o => d.use s.tb o) d).plots = d.plots :=
    fun l d => (huse l d).part .plots (by simp)
  unfold plotStart
  rw [hp]
  simp only [hi]
  unfold startRun
  simp only [hplot, Bool.false_eq_true, if_false]
  constructor
  · have hsown : Device.Only [.plots, .store] [dieReg R.ARR_PSQ_STARTS plot.die] s.dev
        { s.dev with plots := { s.dev.plots with sown := s.dev.plots.sown.eraseIdx n } } := .of_regs [.plots] rfl (by simp) rfl
    exact Device.Only.setPlots ((hsown.trans ((huse _ _).mono (by simp) (List.Subset.refl _))).inc (by simp)) _ (by simp)
  · simp only [Device.inc_plots, hplots]
    rfl

theorem plotStart_idle (hi : p.idle = true) : plotStart n s.tb s.dev = { s.dev with plots := { s.dev.plots with
    sown := s.dev.plots.sown.eraseIdx n, nextRun := s.dev.plots.nextRun + 1,
    runs := s.dev.plots.runs.set s.dev.plots.nextRun (startedRun p plot (s.dev.ctx p.ctx).all true) } } := by
  unfold plotStart
  rw [hp]
  simp only [hi]
  unfold startRun
  simp only [hplot, if_true]
  rfl

end

/-! ### The check at LENGTH - 48 -/

section
variable {d : Device} {i : Nat} {r0 r : Run} (hr0 : d.run? i = some r0) (ha : r0.aborted = none) (hp : r0.replay = none)
  (hc : r0.overrunChecked = false) (hr : (d.runUpTo i (r0.plot.length - 48 - r0.pauses) 40).run? i = some r)
include hr0 ha hp hc hr

/-- R108: a run whose arrays are DOWN, or ramp down, passes; another is aborted. -/
theorem overrunCheck_eq : overrunCheck i d =
    if r.arrays.all (fun p => p.2.settled) then
      (d.runUpTo i (r0.plot.length - 48 - r0.pauses) 40).setRun i { r with overrunChecked := true }
    else abortClk i [(0x5F, none)]
      ((d.runUpTo i (r0.plot.length - 48 - r0.pauses) 40).setRun i { r with overrunChecked := true }) := by
  have hto : d.runToElapsed i (r0.plot.length - 48) 40 = d.runUpTo i (r0.plot.length - 48 - r0.pauses) 40 := by
    unfold Device.runToElapsed
    simp only [hr0, hp, Option.isSome_none, Bool.false_eq_true, if_false]
  unfold overrunCheck
  simp only [hr0, ha, hc, hto, hr, Option.isSome_none, Bool.or_self, Bool.false_eq_true, if_false]

end

/-! ### The end of a run that has nothing in flight -/

/-- R185: the counting of every array's clks is of the counters of the run's die. -/
theorem only_settleArrays (e t : Nat) (d : Device) (r : Run) : Device.Only [] (clkRegs r.plot.die) d (settleArrays e t d r).1 := by
  unfold settleArrays
  generalize r.arrays = l
  induction l generalizing d r with
  | nil => exact .refl d
  | cons p l ih =>
    have hplot : (settleArray p.1 e t d r).2.plot = r.plot := rfl
    exact (only_settleArray p.1 e t d r).trans (hplot ▸ ih _ _)

/-- A run none of whose arrays has an MM. -/
def Run.noOps (r : Run) : Prop := ∀ p, p ∈ r.arrays → p.2.ops = []

theorem Run.noOps.arr {r : Run} (h : r.noOps) (k : Nat) : (r.arr k).ops = [] := by
  unfold Run.arr Tbl.getD
  cases hk : Tbl.get? r.arrays k with
  | none => rfl
  | some x => exact h _ (Tbl.mem_of_get? hk)

theorem Run.noOps.settleArray {r : Run} (h : r.noOps) (key e t : Nat) (d : Device) : (settleArray key e t d r).2.noOps := by
  intro p hp
  rcases Tbl.mem_set hp with rfl | hp
  · exact h.arr key
  · exact h p hp

theorem Run.noOps.settleArrays {r : Run} (h : r.noOps) (e t : Nat) (d : Device) : (settleArrays e t d r).2.noOps := by
  unfold Sys2Proof.Machine.settleArrays
  generalize r.arrays = l
  induction l generalizing d r with
  | nil => exact h
  | cons p l ih => exact ih (h.settleArray p.1 e t d) _

/-- R171: with no MM no term is left to be found. -/
theorem nonfinLeft_noOps {r : Run} (h : r.noOps) (d : Device) : nonfinLeft d r = (d, r) := by
  have hopen : r.nonfinOpen = [] := by
    refine List.flatMap_eq_nil_iff.mpr fun p hp => ?_
    rw [h p hp]
    rfl
  rw [nonfinLeft, hopen]
  rfl

/-- A run with nothing in flight comes to a clk as it is. -/
theorem runUpTo_idle {d : Device} {i : Nat} {r : Run} (hr : d.run? i = some r) (hpend : r.pend = []) (t ord : Nat) :
    d.runUpTo i t ord = d.setRun i { r with now := max r.now t } := by
  have hload : r.load = 1 := by
    rw [Run.load, hpend]
    rfl
  have hadv : advance i t ord r.load d r = (d, r) := by
    rw [hload]
    unfold advance
    rw [hpend]
  unfold Device.runUpTo
  simp only [hr, hadv]

/-- A request of plot stages alone has no other stage to start. -/
theorem startStages_plots {d : Device} {rid : Nat} {q : Request} (hq : d.req? rid = some q) (hs : ∀ x, x ∈ q.stages → x.type = 0) :
    d.startStages rid = d := by
  have hnone : q.nextUnitStage = none := by
    unfold Request.nextUnitStage
    rw [Option.map_eq_none_iff, List.find?_eq_none]
    intro x hx
    have hmem : x.1 ∈ q.stages := (List.mem_zipIdx' hx).2 ▸ List.getElem_mem _
    simp [hs _ hmem]
  unfold Device.startStages startStages
  rw [hq]
  dsimp only
  split
  · rfl
  · rw [hnone]

/-- R229: the run that ends is the last of its request. -/
def endsLast (r : Run) (q : Request) : Bool :=
  r.entry + 1 == q.stages.length &&
    (match (q.setStage r.entry (fun t => { t with ended := t.ended + 1 })).stages[r.entry]? with
    | some t => t.reps ≤ t.ended
    | none => false)

/-- R384, R229: what the end of a run makes of its request. -/
def endedFor (r : Run) (q : Request) : Request :=
  let q' := q.setStage r.entry (fun t => { t with ended := t.ended + 1 })
  if endsLast r q then { q' with ties := r.lastTies } else q'

theorem endedFor_fields (r : Run) (q : Request) : (endedFor r q).conds = q.conds ∧ (endedFor r q).cancel = q.cancel ∧
    (endedFor r q).stages = q.stages.modify r.entry (fun x => { x with ended := x.ended + 1 }) := by
  unfold endedFor
  dsimp only
  split
  · exact ⟨rfl, rfl, rfl⟩
  · exact ⟨rfl, rfl, rfl⟩

theorem type_modify {l : List Stage} (h : ∀ x, x ∈ l → x.type = 0) (k : Nat) :
    ∀ x, x ∈ l.modify k (fun x => { x with ended := x.ended + 1 }) → x.type = 0 := by
  intro x hx
  obtain ⟨j, hj⟩ := List.mem_iff_getElem?.mp hx
  rw [List.getElem?_modify] at hj
  obtain ⟨y, hy, rfl⟩ := Option.map_eq_some_iff.mp hj
  have hy0 := h y (List.mem_of_getElem? hy)
  split <;> exact hy0

section
variable {tb : Timebase} {d : Device} {r : Run} {q : Request} (hg : r.gen = none) (hq : d.req? r.req = some q)
  (hs : ∀ x, x ∈ q.stages → x.type = 0)
include hg hq hs

/-- The end of a run of a request whose stages are plots changes that request alone. -/
theorem noteEnd_request : noteEnd tb r d = d.updReq r.req (endedFor r) := by
  unfold noteEnd
  rw [hg]
  refine startStages_plots (req?_updReq d r.req (endedFor r) hq) ?_
  rw [(endedFor_fields r q).2.2]
  exact type_modify hs r.entry

end

/-- A request that is not cancelled has nothing to settle. -/
theorem settleReq_live {tb : Timebase} {d : Device} {rid : Nat} {q : Request} (hq : d.req? rid = some q) (hc : q.cancel = none) :
    settleReq tb d rid = d := by
  unfold settleReq
  rw [hq]
  simp only [hc, Option.isNone_none, if_true]

/-- No plot waits for its unload. -/
theorem goneKeys_of_loaded {d : Device} (h : ∀ x, x ∈ d.plots.dir → x.2.unloading = false) : goneKeys d = [] := by
  refine List.map_eq_nil_iff.mpr (List.filter_eq_nil_iff.mpr fun x hx => ?_)
  rw [h x hx]
  simp

/-- A run at its end: it has met its checks, and nothing of it is in flight. -/
structure Run.spent (r : Run) : Prop where
  live : r.aborted = none
  checked : r.overrunChecked = true
  replay : r.replay = none
  pend : r.pend = []
  rake : r.rake = []
  cores : ∀ p, p ∈ r.trowels → p.2.running = false
  ops : r.noOps

/-- R53: the run at LENGTH. -/
def Run.atEnd (r : Run) : Run := { r with now := max r.now (r.plot.length - r.pauses) }

theorem endExc_spent {r : Run} (h : r.spent) : endExc r.atEnd = [] := by
  have hcores : r.trowels.filter (fun p => p.2.running) = [] := List.filter_eq_nil_iff.mpr fun p hp => by simp [h.cores p hp]
  simp [endExc, Run.atEnd, h.pend, h.rake, hcores, whenB]

/-- R185: the run at LENGTH, with the clks of its arrays counted. -/
def endedRun (d : Device) (i : Nat) (r : Run) : Run := (settleArrays r.atEnd.elapsed r.atEnd.now (d.setRun i r.atEnd) r.atEnd).2

/-- The device once they are counted and the run has left. -/
def endedDevice (d : Device) (i : Nat) (r : Run) : Device :=
  let e := (settleArrays r.atEnd.elapsed r.atEnd.now (d.setRun i r.atEnd) r.atEnd).1
  { e with plots := { e.plots with runs := e.plots.runs.del i } }.releaseHeld

section
variable {tb : Timebase} {d : Device} {i : Nat} {r : Run}

theorem endedRun_fields (d : Device) (i : Nat) (r : Run) : (endedRun d i r).req = r.req ∧ (endedRun d i r).gen = r.gen ∧
    (endedRun d i r).entry = r.entry := by
  have hrun : endedRun d i r = _ := (noted_settleArrays r.atEnd.elapsed r.atEnd.now (d.setRun i r.atEnd) r.atEnd).run
  rw [hrun]
  exact ⟨rfl, rfl, rfl⟩

/-- Only the clks of the run's arrays are counted; the run leaves, and bytes that its windows held are free. -/
theorem only_endedDevice (d : Device) (i : Nat) (r : Run) : Device.Only [.plots, .qm] (clkRegs r.plot.die) d (endedDevice d i r) := by
  have hset : Device.Only [.plots, .qm] (clkRegs r.plot.die) d (d.setRun i r.atEnd) := (Device.Only.refl d).setRun i _ (by simp)
  have hcount := (only_settleArrays r.atEnd.elapsed r.atEnd.now (d.setRun i r.atEnd) r.atEnd).mono (List.nil_subset [.plots, .qm])
    (List.Subset.refl _)
  have hleave := (hset.trans hcount).setPlots { (settleArrays r.atEnd.elapsed r.atEnd.now (d.setRun i r.atEnd) r.atEnd).1.plots with
    runs := (settleArrays r.atEnd.elapsed r.atEnd.now (d.setRun i r.atEnd) r.atEnd).1.plots.runs.del i } (by simp)
  exact hleave.trans (.of_regs [.qm] rfl (by simp) rfl)

theorem plots_endedDevice (d : Device) (i : Nat) (r : Run) :
    (endedDevice d i r).plots = { d.plots with runs := (d.plots.runs.set i r.atEnd).del i } := by
  have hplots := (only_settleArrays r.atEnd.elapsed r.atEnd.now (d.setRun i r.atEnd) r.atEnd).part .plots (by simp)
  change { (settleArrays r.atEnd.elapsed r.atEnd.now (d.setRun i r.atEnd) r.atEnd).1.plots with
    runs := (settleArrays r.atEnd.elapsed r.atEnd.now (d.setRun i r.atEnd) r.atEnd).1.plots.runs.del i } = _
  rw [hplots]
  rfl

theorem reqs_endedDevice (d : Device) (i : Nat) (r : Run) : (endedDevice d i r).qm.reqs = d.qm.reqs := by
  have hqm := (only_settleArrays r.atEnd.elapsed r.atEnd.now (d.setRun i r.atEnd) r.atEnd).part .qm (by simp)
  change (settleArrays r.atEnd.elapsed r.atEnd.now (d.setRun i r.atEnd) r.atEnd).1.qm.reqs = _
  rw [hqm]
  rfl

/-- R53: the end of a run with nothing in flight. -/
theorem plotEnd_spent (hr : d.run? i = some r) (hs : r.spent) : plotEnd i tb d = settleUnloads tb
    (((noteEnd tb (endedRun d i r) (endedDevice d i r)).reqsOf (endedRun d i r).req (endedRun d i r).gen).foldl (settleReq tb)
      (noteEnd tb (endedRun d i r) (endedDevice d i r))) := by
  have hcheck : overrunCheck i d = d := by
    unfold overrunCheck
    simp [hr, hs.checked]
  have hto : d.runToElapsed i r.plot.length 32 = d.setRun i r.atEnd := by
    unfold Device.runToElapsed
    simp only [hr, hs.replay, Option.isSome_none, Bool.false_eq_true, if_false]
    exact runUpTo_idle hr hs.pend _ _
  have hrun : (d.setRun i r.atEnd).run? i = some r.atEnd := Tbl.get?_set_self ..
  have hops : (settleArrays r.atEnd.elapsed r.atEnd.now (d.setRun i r.atEnd) r.atEnd).2.noOps :=
    Run.noOps.settleArrays (r := r.atEnd) hs.ops _ _ _
  unfold plotEnd
  simp only [hr, hcheck, hto, hs.rake, List.length_nil, finishRake, hrun, endExc_spent hs, List.isEmpty_nil, if_true, nonfinLeft_noOps hops]
  rfl

/-- R53, R384: the end of such a run of a request whose stages are plots: the run leaves, and the request notes it. -/
theorem plotEnd_request {q : Request} (hr : d.run? i = some r) (hs : r.spent) (hg : r.gen = none) (hq : d.req? r.req = some q)
    (hc : q.cancel = none) (hst : ∀ x, x ∈ q.stages → x.type = 0) (hu : ∀ x, x ∈ d.plots.dir → x.2.unloading = false) :
    plotEnd i tb d = (endedDevice d i r).updReq r.req (endedFor (endedRun d i r)) := by
  obtain ⟨hreq, hgen, -⟩ := endedRun_fields d i r
  have hqe : (endedDevice d i r).req? (endedRun d i r).req = some q := by
    rw [Device.req?, reqs_endedDevice, hreq]
    exact hq
  rw [plotEnd_spent hr hs, noteEnd_request (hgen.trans hg) hqe hst, hgen, hg]
  have hsettle : settleReq tb ((endedDevice d i r).updReq (endedRun d i r).req (endedFor (endedRun d i r))) (endedRun d i r).req =
      (endedDevice d i r).updReq (endedRun d i r).req (endedFor (endedRun d i r)) :=
    settleReq_live (req?_updReq _ _ _ hqe) ((endedFor_fields ..).2.1.trans hc)
  refine (congrArg (settleUnloads tb) hsettle).trans ?_
  rw [settleUnloads_none tb (goneKeys_of_loaded ?_), hreq]
  intro x hx
  refine hu x ?_
  have hdir : ((endedDevice d i r).updReq (endedRun d i r).req (endedFor (endedRun d i r))).plots.dir = d.plots.dir := by
    change (endedDevice d i r).plots.dir = _
    rw [plots_endedDevice]
  rwa [hdir] at hx

end

/-- Settles O40. -/
theorem runsStartAndEnd : Obligations.RunsStartAndEnd := by
  refine ⟨fun s n p plot hp hplot => ⟨fun hi hl => ?start, fun hi hl => ?idle⟩, fun s i d r0 r hr0 ha hp hc hd hr hra => ⟨fun hall => ?passes, fun hall hl => ?overruns⟩, ?ends⟩
  case start =>
    obtain ⟨honly, hplots⟩ := plotStart_started hp hplot hi
    have hruns : ∀ j, (s.onDev (plotStart n)).dev.run? j =
        if s.dev.plots.nextRun = j then some (startedRun p plot (s.dev.ctx p.ctx).all false) else s.dev.run? j := fun j => by
      rw [s.onDev_of _ hl, Device.run?, Device.flush_plots, hplots]
      exact Tbl.get?_set ..
    refine ⟨_, rfl, frame_of_onDev hl honly, ?_, fun j hj => (hruns j).trans (if_neg hj.symm), _, (hruns _).trans (if_pos rfl),
      rfl, rfl, rfl, rfl, rfl, rfl, rfl, rfl, rfl, rfl, rfl, rfl, rfl, fun k => rfl, fun a ha => areg_startedRun _ _ _ _ ha⟩
    rw [s.onDev_of _ hl, Device.flush_plots, hplots]
  case idle =>
    have heff := plotStart_idle hp hplot hi
    refine ⟨_, rfl, frame_of_onDev hl ?_, startedRun p plot (s.dev.ctx p.ctx).all true, ?_, rfl, rfl⟩
    · rw [heff]
      exact .of_regs [.plots] rfl (by simp) rfl
    · rw [s.onDev_of _ hl, heff, Device.run?, Device.flush_plots]
      exact Tbl.get?_set_self ..
  case passes =>
    subst hd
    refine ends_of_setRun (g := overrunCheck i) rfl ?_ (.refl _) fun t ht hr => ⟨ht, hr⟩
    rw [overrunCheck_eq hr0 ha hp hc hr, if_pos hall]
  case overruns =>
    subst hd
    have hrun : ((s.dev.runUpTo i (r0.plot.length - 48 - r0.pauses) 40).setRun i { r with overrunChecked := true }).run? i =
        some { r with overrunChecked := true } := Tbl.get?_set_self ..
    obtain ⟨det, hfirst, hab⟩ := abortClk_own hrun hra (det := 0x5F) (by decide) none
    obtain ⟨q, hq, -⟩ := hab.run
    refine ⟨_, rfl, q.cut det r.now, ?_, rfl, State.onDev_pending .., State.onDev_tb .., hfirst.symm⟩
    rw [s.onDev_of _ hl, overrunCheck_eq hr0 ha hp hc hr, if_neg (by simp [hall]), Device.run?, Device.flush_plots]
    exact hq
  case ends =>
    intro s i r q hr hrise ha hc hp hpend hrake hcores hops hg hq hcan hst hu hl
    have heff := plotEnd_request (tb := s.tb) hr ⟨ha, hc, hp, hpend, hrake, hcores, hops⟩ hg hq hcan hst hu
    have hplots : (s.onDev (plotEnd i)).dev.plots = { s.dev.plots with runs := (s.dev.plots.runs.set i r.atEnd).del i } := by
      rw [s.onDev_of _ hl, heff, Device.flush_plots]
      exact plots_endedDevice s.dev i r
    have hqe : (endedDevice s.dev i r).req? r.req = some q := by
      rw [Device.req?, reqs_endedDevice]
      exact hq
    have hfields := endedFor_fields (endedRun s.dev i r) q
    rw [(endedRun_fields s.dev i r).2.2] at hfields
    refine ⟨_, rfl, frame_of_onDev hl ?_, ?_, ?_, fun j hj => ?_, endedFor (endedRun s.dev i r) q, ?_, hfields.1, hfields.2.2⟩
    · rw [heff]
      exact (only_endedDevice s.dev i r).trans (.of_regs [.qm] rfl (by simp) rfl)
    · rw [hplots]
    · rw [Device.run?, hplots]
      exact get?_del_self (risingKeys_set hrise _ _) i
    · rw [Device.run?, hplots]
      exact (Tbl.get?_del_ne _ hj.symm).trans (Tbl.get?_set_ne _ _ hj.symm)
    · rw [s.onDev_of _ hl, heff, Device.req?, Device.flush_qm]
      exact req?_updReq _ _ _ hqe

/-! ### The issue of a bundle -/

section
variable {s : State} {i a : Nat} {r0 r : Run} {d : Device} (hr0 : s.dev.run? i = some r0) (ha : r0.aborted = none)
  (hp : r0.replay = none) (hpc : r0.pc < r0.plot.bundles) (hlen : r0.issueClk + r0.pauses < r0.plot.length)
  (hd : d = (s.dev.catchUp (r0.startOff + r0.issueClk + r0.pauses) (some i)).runTo i r0.issueClk) (hr : d.run? i = some r)
  (hra : r.aborted = none)
include hr0 ha hp hpc hlen hd hr hra

/-- A bundle whose clk comes, without an error of its fetch. -/
theorem bundleIssue_due : bundleIssue i 0 a s.tb s.dev = issueBundle s.tb i d r := by
  have h1 : ¬ r0.plot.bundles ≤ r0.pc := by omega
  have h2 : ¬ r0.plot.length ≤ r0.issueClk + r0.pauses := by omega
  unfold bundleIssue
  simp [hr0, ha, hp, h1, h2, ← hd, hr, hra]

/-- One with an uncorrectable error of its fetch. -/
theorem bundleIssue_error : bundleIssue i 1 a s.tb s.dev = storeErr r a (d.setRun i (r.issued 0)) := by
  have h1 : ¬ r0.plot.bundles ≤ r0.pc := by omega
  have h2 : ¬ r0.plot.length ≤ r0.issueClk + r0.pauses := by omega
  unfold bundleIssue
  simp [hr0, ha, hp, h1, h2, ← hd, hr, hra]

end

/-- R99: with no exception of a slot a bundle has none. -/
theorem bundleExc_none {d : Device} {r : Run} {l : List SlotOp} (h : ∀ o, o ∈ l → o.chk d r = []) : bundleExc d r l = none := by
  have hnil : l.flatMap (fun o => o.chk d r) = [] := List.flatMap_eq_nil_iff.mpr h
  unfold bundleExc
  rw [hnil, firstExc_nil]

/-- The exception that is reported is one of a slot. -/
theorem bundleExc_some {d : Device} {r : Run} {l : List SlotOp} {det : Nat} (h : firstExc (l.flatMap (fun o => o.chk d r)) = some det) :
    ∃ slot, bundleExc d r l = some (det, slot) := by
  obtain ⟨o, ho, hdet⟩ := List.mem_flatMap.mp (firstExc_mem h).2
  unfold bundleExc
  rw [h]
  cases hf : l.find? (fun o => (o.chk d r).contains det) with
  | some x => exact ⟨x.slot, congrArg (Option.map fun o => (det, o.slot)) hf⟩
  | none => exact absurd (List.contains_iff_mem.mpr hdet) (by simpa using List.find?_eq_none.mp hf o ho)

/-- Illegal encodings come first among the exceptions of a clk (R130). -/
theorem firstExc_illegal {l : List Nat} (h : 0x5B ∈ l) : firstExc l = some 0x5B := by
  unfold firstExc excOrder
  rw [List.find?_cons_of_pos (List.contains_iff_mem.mpr h)]

/-! ### Conditions of requests -/

/-- A condition that is put on the requests of a list stands on each of them, and on no other. -/
theorem req?_foldl_cond (code detail : Nat) (l : List Nat) (d : Device) :
    (∀ k x, k ∈ l → d.req? k = some x → ∃ y, (l.foldl (fun d q => d.cond q code detail) d).req? k = some y ∧ (code, detail) ∈ y.conds) ∧
    (∀ k, k ∉ l → (l.foldl (fun d q => d.cond q code detail) d).req? k = d.req? k) ∧
    ∀ k x c, d.req? k = some x → c ∈ x.conds →
      ∃ y, (l.foldl (fun d q => d.cond q code detail) d).req? k = some y ∧ c ∈ y.conds := by
  induction l generalizing d with
  | nil => exact ⟨fun _ _ hk => absurd hk List.not_mem_nil, fun _ _ => rfl, fun k x c hx hc => ⟨x, hx, hc⟩⟩
  | cons q l ih =>
    obtain ⟨hin, hout, hkeep⟩ := ih (d.cond q code detail)
    have hstep : ∀ k x, d.req? k = some x → ∃ y, (d.cond q code detail).req? k = some y ∧
        (∀ c, c ∈ x.conds → c ∈ y.conds) ∧ (k = q → (code, detail) ∈ y.conds) := fun k x hx => by
      by_cases hk : k = q
      · subst hk
        exact ⟨{ x with conds := x.conds ++ [(code, detail)] }, req?_updReq d k _ hx, fun c hc => List.mem_append_left _ hc,
          fun _ => List.mem_append_right _ (List.mem_singleton_self _)⟩
      · exact ⟨x, (req?_updReq_ne _ _ hk).trans hx, fun _ => id, fun h => absurd h hk⟩
    refine ⟨fun k x hk hx => ?_, fun k hk => ?_, fun k x c hx hc => ?_⟩
    · obtain ⟨y, hy, -, hq⟩ := hstep k x hx
      rcases List.mem_cons.mp hk with h | h
      · exact hkeep k y _ hy (hq h)
      · exact hin k y h hy
    · exact (hout k (List.not_mem_of_not_mem_cons hk)).trans (req?_updReq_ne _ _ (List.ne_of_not_mem_cons hk))
    · obtain ⟨y, hy, hold, -⟩ := hstep k x hx
      exact hkeep k y c hy (hold c hc)

/-- Conditions leave all of the device but its requests. -/
theorem foldl_cond_eq (code detail : Nat) (l : List Nat) (d : Device) :
    ∃ q, l.foldl (fun d q => d.cond q code detail) d = { d with qm := { d.qm with reqs := q } } :=
  foldl_updReq id (fun _ q => { q with conds := q.conds ++ [(code, detail)] }) l d

/-- Settles O41. -/
theorem bundleTakesEffectWhole : Obligations.BundleTakesEffectWhole := by
  intro s i a r0 r d b hr0 ha hp hpc hlen hd hr hra hb
  have hdue := bundleIssue_due (a := a) hr0 ha hp hpc hlen hd hr hra
  refine ⟨fun hleg hpass hl => ?whole, fun hleg hl => ?illegal, fun hleg det hdet hl => ?fails, fun hset hl => ?error⟩
  case whole =>
    have hop : bundleIssue i 0 a s.tb s.dev =
        ((b.slots).foldl (fun x o => o.act s.tb x.1 x.2) (d, r.issued b.skip)).1.setRun i
          ((b.slots).foldl (fun x o => o.act s.tb x.1 x.2) (d, r.issued b.skip)).2 := by
      rw [hdue]
      unfold issueBundle
      simp only [← hb, hleg, bundleExc_none hpass, Bool.not_true, Bool.false_eq_true, if_false]
    have hkeeps : Device.Keeps [.plots] ((b.slots).foldl (fun x o => o.act s.tb x.1 x.2) (d, r.issued b.skip)).1
        (bundleIssue i 0 a s.tb s.dev) := by
      rw [hop]
      exact ((Device.Only.refl (ks := []) _).setRun i _ (by simp)).keeps
    have hdev : (s.onDev (bundleIssue i 0 a)).dev = (bundleIssue i 0 a s.tb s.dev).flush s.tb := by rw [s.onDev_of _ hl]
    refine ⟨_, rfl, State.onDev_pending .., State.onDev_tb .., _, _, rfl, ?_, run?_of_setRun hl hop, fun j hj => ?_, fun p h1 h2 h3 => ?_⟩
    · rw [hdev]
      exact (hkeeps.flush s.tb).part .mem (by simp)
    · rw [hdev, Device.run?, Device.flush_plots, hop]
      exact Tbl.get?_set_ne _ _ hj.symm
    · rw [hdev]
      exact (hkeeps.flush s.tb).parts p (by simp [h3]) h1 h2
  case illegal =>
    have hop : bundleIssue i 0 a s.tb s.dev = abortClk i [(0x5B, some b.illegalSlot)] d := by
      rw [hdue]
      unfold issueBundle
      simp only [← hb, hleg, Bool.not_false, if_true]
    obtain ⟨det, hfirst, hab⟩ := abortClk_own hr hra (det := 0x5B) (by decide) (some b.illegalSlot)
    obtain ⟨q, hq, hn⟩ := hab.run
    rw [firstExc_illegal (by simp)] at hfirst
    refine ⟨_, rfl, q.cut det r.now, ?_, hfirst.symm, rfl, hn.pc⟩
    rw [s.onDev_of _ hl, hop, Device.run?, Device.flush_plots]
    exact hq
  case fails =>
    obtain ⟨slot, hslot⟩ := bundleExc_some hdet
    have hop : bundleIssue i 0 a s.tb s.dev = abortClk i [(det, some slot)] d := by
      rw [hdue]
      unfold issueBundle
      simp only [← hb, hleg, hslot, Bool.not_true, Bool.false_eq_true, if_false]
    obtain ⟨det', hfirst, hab⟩ := abortClk_own hr hra (firstExc_mem hdet).1 (some slot)
    obtain ⟨q, hq, hn⟩ := hab.run
    refine ⟨_, rfl, q.cut det' r.now, ?_, rfl, hn.pc, hfirst.symm⟩
    rw [s.onDev_of _ hl, hop, Device.run?, Device.flush_plots]
    exact hq
  case error =>
    have hop : bundleIssue i 1 a s.tb s.dev = (d.reqsOf r.req r.gen).foldl (fun d q => d.cond q 0xD detStoreEcc)
        ((d.setRun i (r.issued 0)).storeEcc a) := bundleIssue_error hr0 ha hp hpc hlen hd hr hra
    obtain ⟨q, hq⟩ := foldl_cond_eq 0xD detStoreEcc (d.reqsOf r.req r.gen) ((d.setRun i (r.issued 0)).storeEcc a)
    obtain ⟨hin, hout, -⟩ := req?_foldl_cond 0xD detStoreEcc (d.reqsOf r.req r.gen) ((d.setRun i (r.issued 0)).storeEcc a)
    have hdev : (s.onDev (bundleIssue i 1 a)).dev = (bundleIssue i 1 a s.tb s.dev).flush s.tb := by rw [s.onDev_of _ hl]
    have hreq : ∀ k, (s.onDev (bundleIssue i 1 a)).dev.req? k = (bundleIssue i 1 a s.tb s.dev).req? k := fun k => by
      rw [hdev, Device.req?, Device.flush_qm]
      rfl
    refine ⟨_, rfl, ?_, fun k x hk hx => ?_, fun k hk => ?_, ?_⟩
    · rw [hdev, Device.run?, Device.flush_plots, hop, hq]
      exact Tbl.get?_set_self ..
    · rw [hreq, hop]
      exact hin k x hk hx
    · rw [hreq, hop]
      exact hout k hk
    · refine raised_of_ev (s := { s with dev := d }) (e := bundleIssue i 1 a s.tb s.dev) ?_ hset hdev
      rw [hop, hq]
      rfl

end Sys2Proof.Machine
end

section
/-! PROOFS of the cutoff of handoffs: the refutation of its statement (R81, R286, R302). -/
namespace Sys2Proof.Machine

/-- A handoff that closes at the next boundary, and a reply in use for it whose landing record carries FENCED. -/
def fencedReply : State :=
  let came : Came := ⟨0, Tests.st0.tb.number, 0, 0, true, false, [(2, 0x54)]⟩
  let unit : RemoteUnit := { Tests.unit0 with replied := true, got := [0], came := [came] }
  Tests.alter (Tests.withHo { Tests.handoff0 2 with deadline := 101 }) (fun d => { d with
    brx := { d.brx with remotes := [(7, { Tests.remote0 0 4 with units := [unit] })] } })

/-- Refutes O42: the clause of the cutoff names no flag of a reply in use, but R286 and R302 note it in the landing record at
the cutoff: the handoff carries FENCED then. -/
theorem not_handoffsIssueLandAndCutOff : ¬ Obligations.HandoffsIssueLandAndCutOff := by
  rintro ⟨-, -, -, hcut⟩
  have hok : fencedReply.dev.handoffsOk := ⟨by simp [risingKeys, fencedReply, Tests.withHo, Tests.alter], by decide⟩
  obtain ⟨t, ht, -, -, -, hall⟩ := hcut fencedReply hok rfl
  obtain rfl := Host.Outcome.next.inj ht
  exact absurd (hall 7 _ rfl rfl) (by decide +kernel)

end Sys2Proof.Machine
end

section
/-! PROOFS of the freeze of the sowing (R73 to R76). -/
namespace Sys2Proof.Machine

/-! ### What the composer leaves alone -/

/-- The composer changes requests, generation stages and entries, and what the plot unit keeps but its runs and what this furrow was
sown with. -/
structure Device.Composes (a b : Device) : Prop where
  keeps : Device.Keeps [.plots, .qm, .seq] a b
  runs : b.plots.runs = a.plots.runs
  sown : b.plots.sown = a.plots.sown

section
variable {a b c : Device}

theorem Device.Composes.refl (a : Device) : a.Composes a := ⟨.refl a, rfl, rfl⟩

theorem Device.Composes.trans (h : a.Composes b) (g : b.Composes c) : a.Composes c :=
  ⟨h.keeps.trans g.keeps, g.runs.trans h.runs, g.sown.trans h.sown⟩

/-- A change of the other parts that the composer changes. -/
theorem Device.Composes.of_merge (h : b = Device.merge [.regs, .ev, .qm, .seq] b a) : a.Composes b := by
  have hk : Device.Keeps [.qm, .seq] a b := .of_merge [.qm, .seq] h (List.Subset.refl _)
  have hp : b.plots = a.plots := hk.part .plots (by simp)
  exact ⟨hk.mono (by simp), by rw [hp], by rw [hp]⟩

/-- A change of the plot unit. -/
theorem Device.Composes.setPlots {x : PlotUnit} (hr : x.runs = a.plots.runs) (hs : x.sown = a.plots.sown) :
    a.Composes { a with plots := x } := ⟨.of_merge [.plots] rfl (by simp), hr, hs⟩

theorem Device.Composes.foldl {α : Type} {f : Device → α → Device} (hf : ∀ e x, Device.Composes e (f e x)) (l : List α)
    (a : Device) : a.Composes (l.foldl f a) := by
  induction l generalizing a with
  | nil => exact .refl a
  | cons x l ih => exact (hf a x).trans (ih _)

theorem Device.composes_updReq (a : Device) (r : Nat) (f : Request → Request) : a.Composes (a.updReq r f) := .of_merge rfl
theorem Device.composes_inc (a : Device) (k : Nat) : a.Composes (a.inc k) := .of_merge rfl
theorem Device.composes_raiseReq (a : Device) (r : EventReq) : a.Composes (a.raiseReq r) := .of_merge rfl
theorem Device.composes_setFld (a : Device) (k hi lo v : Nat) : a.Composes (a.setFld k hi lo v) := .of_merge rfl
theorem Device.composes_seq (a : Device) (x : SeqUnit) : a.Composes { a with seq := x } := .of_merge rfl

end

theorem composes_noteDeferred (c : Cand) (d : Device) : d.Composes (noteDeferred c d) := by
  unfold noteDeferred
  split
  · exact .refl d
  · split
    · exact .refl d
    · split
      · exact .refl d
      · refine ((d.composes_seq _).trans (Device.composes_inc _ _)).trans (Device.Composes.foldl (fun e i => ?_) _ _)
        split
        · exact (e.composes_seq _).trans (Device.composes_updReq _ _ _)
        · exact .refl e

theorem composes_holdCand (c : Cand) (x : Composer) : x.dev.Composes (holdCand c x).dev := by
  refine (composes_noteDeferred c x.dev).trans ?_
  unfold holdCand
  dsimp only
  split
  · exact Device.composes_updReq _ _ _
  · exact .refl _

theorem composes_domainHold (c : Cand) (x : Composer) : x.dev.Composes (domainHold c x).dev := by
  unfold domainHold
  dsimp only
  split
  · exact .refl _
  · exact ⟨.of_merge [.plots] rfl (by simp), rfl, rfl⟩

theorem composes_deferCand (c : Cand) (met : Bool) (x : Composer) : x.dev.Composes (deferCand c met x).dev := by
  refine ((x.dev.composes_inc R.ARR_SOW_DEFERRED).trans (composes_noteDeferred c _)).trans ?_
  unfold deferCand
  dsimp only
  split
  · exact (Device.composes_inc _ _).trans (Device.composes_inc _ _)
  · exact .refl _

theorem composes_outOfG1 (grp g : Nat) (d : Device) : d.Composes (outOfG1 grp g d) := by
  unfold outOfG1
  split
  · split
    · exact .refl d
    · refine Device.Composes.foldl (fun e i => ?_) _ d
      split
      · exact e.composes_updReq _ _
      · exact .refl e
  · exact .refl d

theorem composes_placeCand (grp band : Nat) (phys : List (List Nat)) (c : Cand) (x : Composer) :
    x.dev.Composes (placeCand grp band phys c x).dev := by
  unfold placeCand
  dsimp only
  split
  · exact ⟨.of_merge [.plots, .qm] rfl (by simp), rfl, rfl⟩
  · refine Device.Composes.trans ?_ (composes_outOfG1 _ _ _)
    exact ⟨.of_merge [.plots, .seq] rfl (by simp), rfl, rfl⟩

theorem composes_examine (tb : Timebase) (grp cls : Nat) (x : Composer) (c : Cand) :
    x.dev.Composes (examine tb grp cls x c).dev := by
  have hseen : (if x.seen.contains c.key then x else { x with seen := c.key :: x.seen }).dev = x.dev := by split <;> rfl
  unfold examine
  dsimp only
  split
  · exact .refl _
  split
  · exact .refl _
  generalize (if x.seen.contains c.key then x else { x with seen := c.key :: x.seen }) = y at hseen ⊢
  rw [← hseen]
  split
  · exact .refl _
  split
  · exact composes_domainHold c _
  split
  · exact composes_holdCand c _
  split
  · exact composes_placeCand _ _ _ c _
  · exact composes_deferCand c _ _

theorem composes_composeSowing (tb : Timebase) (d : Device) : d.Composes (composeSowing tb d).dev := by
  have hgroup : ∀ (l : List Cand) (g : Nat × Nat) (x : Composer), x.dev.Composes (l.foldl (examine tb g.1 g.2) x).dev := by
    intro l g x
    induction l generalizing x with
    | nil => exact .refl _
    | cons c l ih => exact (composes_examine tb g.1 g.2 x c).trans (ih _)
  have hall : ∀ (gs : List (Nat × Nat)) (x : Composer),
      x.dev.Composes (gs.foldl (fun x g => (allCands d).foldl (examine tb g.1 g.2) x) x).dev := by
    intro gs
    induction gs with
    | nil => exact fun x => .refl _
    | cons g gs ih => exact fun x => (hgroup _ g x).trans (ih _)
  have h0 : d.Composes { d with plots := { d.plots with composing := [] } } := Device.Composes.setPlots rfl rfl
  exact h0.trans (hall _ ⟨_, _, _, _, _⟩)

/-! ### An empty sowing -/

/-- Where nothing waits there are no candidates. -/
theorem allCands_none {d : Device} (hq : d.qm.reqs = []) (hs : d.seq.stages = []) : allCands d = [] := by
  unfold allCands
  rw [hq, hs]
  rfl

theorem composing_none (tb : Timebase) {d : Device} (h : allCands d = []) :
    (composeSowing tb d).dev.plots.composing = [] := by
  unfold composeSowing
  rw [h]
  rfl

/-! ### The freeze -/

/-- What the freeze leaves: it froze a sowing, which ARR_SOW_STATUS counts. -/
structure Froze (l : List Placed) (d e : Device) : Prop where
  composes : d.Composes e
  frozen : e.plots.frozen = some l
  status : e.fld R.ARR_SOW_STATUS 11 0 = l.length % 4096

/-- The sowing is noted, and ARR_SOW_STATUS counts what was examined and what was placed. -/
theorem froze_setPlots {d e : Device} (h : d.Composes e) {x : PlotUnit} (hr : x.runs = e.plots.runs) (hs : x.sown = e.plots.sown)
    {l : List Placed} (hl : x.frozen = some l) (seen : Nat) :
    Froze l d (({ e with plots := x }.setFld R.ARR_SOW_STATUS 29 16 seen).setFld R.ARR_SOW_STATUS 11 0 l.length) :=
  ⟨h.trans ⟨.of_merge [.plots] rfl (by simp), hr, hs⟩, hl, fld_setFld _ _ (by decide) (by decide) _⟩

theorem Froze.raise {l : List Placed} {d e : Device} (h : Froze l d e) (code : Nat) : Froze l d (e.raise code []) :=
  ⟨h.composes.trans (Device.composes_raiseReq _ _), h.frozen, h.status⟩

/-- The plot unit of a device whose sowing was composed, once it is frozen. -/
def Device.sownUnit (d : Device) : PlotUnit := { d.plots with
  frozen := some d.plots.composing, composing := [], issued := d.plots.issued.filter d.awaits }

theorem froze_freezeSowing (tb : Timebase) {d : Device} (h : d.plots.frozen = none) : ∃ l, Froze l d (freezeSowing tb d) ∧
    (d.power.phase ≠ .service ∨ tb.decision.realign ≠ none ∨ (d.qm.reqs = [] ∧ d.seq.stages = []) → l = []) := by
  have hearly : d.Composes (earlyCloses tb d) := Device.Composes.setPlots rfl rfl
  unfold freezeSowing
  rw [h]
  simp only [Option.isSome_none, Bool.false_eq_true, if_false]
  split
  next hempty => exact ⟨[], froze_setPlots hearly (x := { (earlyCloses tb d).plots with frozen := some [] }) rfl rfl rfl 0, fun _ => rfl⟩
  next hsome =>
    have hcomp := hearly.trans (composes_composeSowing tb (earlyCloses tb d))
    refine ⟨(composeSowing tb (earlyCloses tb d)).dev.plots.composing, ?_, fun hnone => ?_⟩
    · split
      · exact (froze_setPlots hcomp (x := (composeSowing tb (earlyCloses tb d)).dev.sownUnit) rfl rfl rfl _).raise _
      · exact froze_setPlots hcomp (x := (composeSowing tb (earlyCloses tb d)).dev.sownUnit) rfl rfl rfl _
    · have hphase : (earlyCloses tb d).power.phase = d.power.phase := rfl
      simp only [hphase, Bool.or_eq_true, Option.isSome_iff_ne_none, bne_iff_ne, ne_eq, not_or, Classical.not_not] at hsome
      obtain ⟨hre, hsv⟩ := hsome
      rcases hnone with hp | hr | ⟨hq, hs⟩
      · exact absurd hsv hp
      · exact absurd hre hr
      · exact composing_none tb (allCands_none hq hs)

/-- Settles O43: a sowing that is not frozen is composed and frozen; one that is frozen stays. -/
theorem sowingFreezesOnce : Obligations.SowingFreezesOnce := by
  refine fun s => ⟨fun hn hl => ⟨_, rfl, ?_⟩, fun hset hf hl => ⟨_, rfl, ?_⟩⟩
  · rw [s.atPoint_of _ _ hl]
    obtain ⟨l, ⟨⟨hk, hr, hs⟩, hl, hfld⟩, hempty⟩ := froze_freezeSowing (s.tb.goto (s.tb.point 150000)) hn
    have hfl := hk.flush (s.tb.goto (s.tb.point 150000))
    rw [← Device.flush_plots (tb := s.tb.goto (s.tb.point 150000))] at hr hs hl
    refine ⟨rfl, rfl, hr, hs, hfl.part .mem (by simp), l, hl, ?_, hempty⟩
    rw [← hfld]
    unfold Device.fld
    rw [reg_flush _ _ (by decide)]
  · rw [s.atPoint_of _ _ hl]
    unfold freezeSowing
    rw [Option.isSome_iff_ne_none.2 hf, if_pos rfl, flush_of_settled _ _ hset]
    rfl

end Sys2Proof.Machine
end

section
/-! PROOFS of the staged switches (R44, R259, R276, R305, R364). -/
namespace Sys2Proof.Machine

/-- A register of a selected part is none of the event buffer's. -/
theorem inst_notEvent {a : Nat} (h : ∀ k ∈ eventRegs, a % 2 ^ 32 ≠ k % 2 ^ 32) (n : Nat) : inst a n ∉ eventRegs :=
  fun hm => inst_ne n (h _ hm) rfl

section
variable {s : State} {ps : List DevPart} {ks : List Nat}

/-- A field of a register that is none of the event buffer's. -/
theorem fld_flush (tb : Timebase) (d : Device) {k : Nat} (h : k ∉ eventRegs) (hi lo : Nat) :
    (d.flush tb).fld k hi lo = d.fld k hi lo := by
  unfold Device.fld
  rw [reg_flush tb d h]

/-- A field that was written last reads as written, where the value fits. -/
theorem fld_of_setFld {t : State} {e d : Device} {tb : Timebase} {k hi lo v : Nat} (ht : t.dev = e.flush tb)
    (he : e.regs = (d.setFld k hi lo v).regs) (hk : k ∉ eventRegs) (h : lo ≤ hi) (h32 : hi < 32) (hv : v < 2 ^ (hi - lo + 1)) :
    t.dev.fld k hi lo = v := by
  rw [ht, fld_flush _ _ hk, ← Nat.mod_eq_of_lt hv, ← fld_setFld d k h h32 v]
  unfold Device.fld Device.reg
  rw [he]

/-- A command that is named for a register of another block leaves the device that its effect gives, with the frame of the effect. -/
theorem ends_onReg {c : Instr} {f : Timebase → Device → Device} (he : exec c s = .next (s.onReg f)) (hph : s.dev.power.phase ≠ .rom)
    (hp : .port ∈ ps) {e : Device} (hf : f s.tb s.dev.dropPend = e) (hk : Device.Only ps ks s.dev.dropPend e) {P : State → Prop}
    (h : ∀ t : State, t.dev = e.flush s.tb → s.frame ps ks t → P t) : Ends c s P := by
  intro hl
  refine ⟨_, he, h _ ?_ (frame_of_onReg hl hph hp (hf ▸ hk))⟩
  rw [s.onReg_of_ne f hph, s.onAon_of f hl, hf]

/-- A command on the device leaves what its effect gives, with the frame of the effect. -/
theorem ends_onDev {c : Instr} {f : Timebase → Device → Device} (he : exec c s = .next (s.onDev f)) {e : Device}
    (hf : f s.tb s.dev = e) (hk : Device.Only ps ks s.dev e) {P : State → Prop}
    (h : ∀ t : State, t.dev = e.flush s.tb → s.frame ps ks t → P t) : Ends c s P := by
  intro hl
  refine ⟨_, he, h _ ?_ (frame_of_onDev hl (hf ▸ hk))⟩
  rw [s.onDev_of f hl, hf]

variable (hph : s.dev.power.phase ≠ .rom)
include hph

theorem idx_switches (k : Nat) (n : W48) (hk : k = s.dev.fld R.SIEVE_IDX_SEL 7 0)
    (hn : n = s.dev.furReg (idxReg R.SIEVE_IDX_APPLY_LO k) (idxReg R.SIEVE_IDX_APPLY_HI k)) :
    (furLt s.tb.number n = true → Ends .sieveIdxStage s (fun t => s.frame [.port, .sieve] [idxReg R.SIEVE_IDX_CTRL k] t ∧
      t.dev.sieve = { s.dev.sieve with pendIdx := s.dev.sieve.pendIdx.set k n } ∧
      t.dev.fld (idxReg R.SIEVE_IDX_CTRL k) 2 2 = 1)) ∧
    (furLt s.tb.number n = false → Ends .sieveIdxStage s (fun t => s.frame [.port] [idxReg R.SIEVE_IDX_CTRL k] t ∧
      t.dev.fld (idxReg R.SIEVE_IDX_CTRL k) 17 16 = 3)) ∧
    Ends .sieveIdxCancel s (fun t => s.frame [.port, .sieve] [idxReg R.SIEVE_IDX_CTRL k] t ∧
      t.dev.sieve = { s.dev.sieve with pendIdx := s.dev.sieve.pendIdx.del k } ∧
      t.dev.fld (idxReg R.SIEVE_IDX_CTRL k) 2 2 = 0) := by
  have hev : idxReg R.SIEVE_IDX_CTRL k ∉ eventRegs := inst_notEvent (by decide) k
  have hput (x : SieveUnit) : Device.Only [.port, .sieve] [idxReg R.SIEVE_IDX_CTRL k] s.dev.dropPend { s.dev.dropPend with sieve := x } :=
    .of_regs [.sieve] rfl (by simp) rfl
  have heff : idxStage s.tb s.dev.dropPend = if furLt s.tb.number n then
      { s.dev.dropPend with sieve := { s.dev.sieve with pendIdx := s.dev.sieve.pendIdx.set k n } }.setFld (idxReg R.SIEVE_IDX_CTRL k) 2 2 1
      else s.dev.dropPend.setFld (idxReg R.SIEVE_IDX_CTRL k) 17 16 3 := by subst hk hn; rfl
  have hdrop : idxCancel s.dev.dropPend =
      { s.dev.dropPend with sieve := { s.dev.sieve with pendIdx := s.dev.sieve.pendIdx.del k } }.setFld (idxReg R.SIEVE_IDX_CTRL k) 2 2 0 := by subst hk; rfl
  refine ⟨fun h => ?_, fun h => ?_, ?_⟩
  · refine ends_onReg rfl hph (by simp) (heff.trans (if_pos h)) ((hput _).setFld _ _ _ (by simp)) fun t ht hfr => ⟨hfr, ?_, ?_⟩
    · rw [ht, Device.flush_sieve]; rfl
    · exact fld_of_setFld ht rfl hev (by decide) (by decide) (by decide)
  · refine ends_onReg rfl hph (by simp) (heff.trans (if_neg (by simp [h]))) ((Device.Only.refl _).setFld _ _ _ (by simp)) fun t ht hfr => ⟨hfr, ?_⟩
    exact fld_of_setFld ht rfl hev (by decide) (by decide) (by decide)
  · refine ends_onReg rfl hph (by simp) hdrop ((hput _).setFld _ _ _ (by simp)) fun t ht hfr => ⟨hfr, ?_, ?_⟩
    · rw [ht, Device.flush_sieve]; rfl
    · exact fld_of_setFld ht rfl hev (by decide) (by decide) (by decide)

theorem tag_switches (n : W48) (hn : n = s.dev.furReg R.BRX_APPLY_LO R.BRX_APPLY_HI) :
    (furLt s.tb.number n = true → Ends .brxTagStage s (fun t => s.frame [.port, .brx] [R.BRX_STAGE_CTRL] t ∧
      t.dev.brx = { s.dev.brx with pendTag := some n } ∧ t.dev.fld R.BRX_STAGE_CTRL 2 2 = 1)) ∧
    (s.settled → furLt s.tb.number n = false → Ends .brxTagStage s (fun t => s.frame [.port] [R.BRX_STAGE_CTRL] t ∧
      t.dev.fld R.BRX_STAGE_CTRL 17 16 = 3 ∧ s.raised ⟨0x070C, 4, none, []⟩ t)) ∧
    Ends .brxTagCancel s (fun t => s.frame [.port, .brx] [R.BRX_STAGE_CTRL] t ∧
      t.dev.brx = { s.dev.brx with pendTag := none } ∧ t.dev.fld R.BRX_STAGE_CTRL 2 2 = 0) := by
  have hev : R.BRX_STAGE_CTRL ∉ eventRegs := by decide
  have hput (x : BrxUnit) : Device.Only [.port, .brx] [R.BRX_STAGE_CTRL] s.dev.dropPend { s.dev.dropPend with brx := x } :=
    .of_regs [.brx] rfl (by simp) rfl
  have heff : tagStage s.tb s.dev.dropPend = if furLt s.tb.number n then
      { s.dev.dropPend with brx := { s.dev.brx with pendTag := some n } }.setFld R.BRX_STAGE_CTRL 2 2 1
      else (s.dev.dropPend.setFld R.BRX_STAGE_CTRL 17 16 3).raise 0x070C [] := by subst hn; rfl
  have hdrop : tagCancel s.dev.dropPend =
      { s.dev.dropPend with brx := { s.dev.brx with pendTag := none } }.setFld R.BRX_STAGE_CTRL 2 2 0 := by rfl
  refine ⟨fun h => ?_, fun hset h => ?_, ?_⟩
  · refine ends_onReg rfl hph (by simp) (heff.trans (if_pos h)) ((hput _).setFld _ _ _ (by simp)) fun t ht hfr => ⟨hfr, ?_, ?_⟩
    · rw [ht, Device.flush_brx]; rfl
    · exact fld_of_setFld ht rfl hev (by decide) (by decide) (by decide)
  · refine ends_onReg rfl hph (by simp) (heff.trans (if_neg (by simp [h]))) (((Device.Only.refl _).setFld _ _ _ (by simp)).raise _ _)
      fun t ht hfr => ⟨hfr, ?_, raised_of_ev (by rfl) hset ht⟩
    exact fld_of_setFld ht rfl hev (by decide) (by decide) (by decide)
  · refine ends_onReg rfl hph (by simp) hdrop ((hput _).setFld _ _ _ (by simp)) fun t ht hfr => ⟨hfr, ?_, ?_⟩
    · rw [ht, Device.flush_brx]; rfl
    · exact fld_of_setFld ht rfl hev (by decide) (by decide) (by decide)

theorem tbl_switches (k : Nat) (n : W48) (hk : k = s.dev.fld R.GATH_TBL_SEL 5 0)
    (hn : n = s.dev.furReg (tblReg R.GATH_TBL_APPLY_LO k) (tblReg R.GATH_TBL_APPLY_HI k)) :
    (furLt s.tb.number n = true → Ends .gathTblStage s (fun t => s.frame [.port, .gath] [tblReg R.GATH_TBL_CTRL k] t ∧
      t.dev.gath = { s.dev.gath with pendTbl := s.dev.gath.pendTbl.set k n } ∧
      t.dev.fld (tblReg R.GATH_TBL_CTRL k) 2 2 = 1)) ∧
    (furLt s.tb.number n = false → Ends .gathTblStage s (fun t => s.frame [.port] [tblReg R.GATH_TBL_CTRL k] t ∧
      t.dev.fld (tblReg R.GATH_TBL_CTRL k) 17 16 = 3)) ∧
    Ends .gathTblCancel s (fun t => s.frame [.port, .gath] [tblReg R.GATH_TBL_CTRL k] t ∧
      t.dev.gath = { s.dev.gath with pendTbl := s.dev.gath.pendTbl.del k } ∧
      t.dev.fld (tblReg R.GATH_TBL_CTRL k) 2 2 = 0) := by
  have hev : tblReg R.GATH_TBL_CTRL k ∉ eventRegs := inst_notEvent (by decide) k
  have hput (x : GatherUnit) : Device.Only [.port, .gath] [tblReg R.GATH_TBL_CTRL k] s.dev.dropPend { s.dev.dropPend with gath := x } :=
    .of_regs [.gath] rfl (by simp) rfl
  have heff : tblStage s.tb s.dev.dropPend = if furLt s.tb.number n then
      { s.dev.dropPend with gath := { s.dev.gath with pendTbl := s.dev.gath.pendTbl.set k n } }.setFld (tblReg R.GATH_TBL_CTRL k) 2 2 1
      else s.dev.dropPend.setFld (tblReg R.GATH_TBL_CTRL k) 17 16 3 := by subst hk hn; rfl
  have hdrop : tblCancel s.dev.dropPend =
      { s.dev.dropPend with gath := { s.dev.gath with pendTbl := s.dev.gath.pendTbl.del k } }.setFld (tblReg R.GATH_TBL_CTRL k) 2 2 0 := by subst hk; rfl
  refine ⟨fun h => ?_, fun h => ?_, ?_⟩
  · refine ends_onReg rfl hph (by simp) (heff.trans (if_pos h)) ((hput _).setFld _ _ _ (by simp)) fun t ht hfr => ⟨hfr, ?_, ?_⟩
    · rw [ht, Device.flush_gath]; rfl
    · exact fld_of_setFld ht rfl hev (by decide) (by decide) (by decide)
  · refine ends_onReg rfl hph (by simp) (heff.trans (if_neg (by simp [h]))) ((Device.Only.refl _).setFld _ _ _ (by simp)) fun t ht hfr => ⟨hfr, ?_⟩
    exact fld_of_setFld ht rfl hev (by decide) (by decide) (by decide)
  · refine ends_onReg rfl hph (by simp) hdrop ((hput _).setFld _ _ _ (by simp)) fun t ht hfr => ⟨hfr, ?_, ?_⟩
    · rw [ht, Device.flush_gath]; rfl
    · exact fld_of_setFld ht rfl hev (by decide) (by decide) (by decide)

theorem res_switches (k : Nat) (n : W48) (hk : k = s.dev.fld R.SEQ_MDL_SEL 7 0)
    (hn : n = s.dev.furReg (mdlReg R.SEQ_MDL_APPLY_LO k) (mdlReg R.SEQ_MDL_APPLY_HI k)) :
    (s.dev.mdl? k ≠ none → furLt s.tb.number n = true →
      Ends .seqStageRes s (fun t => s.frame [.port, .seq] [mdlReg R.SEQ_MDL_CMD k] t ∧
        t.dev.seq = { s.dev.seq with pendRes := s.dev.seq.pendRes.set k n } ∧
        t.dev.fld (mdlReg R.SEQ_MDL_CMD k) 12 12 = 1)) ∧
    (s.settled → s.dev.mdl? k ≠ none → furLt s.tb.number n = false →
      Ends .seqStageRes s (fun t => s.frame [.port] [mdlReg R.SEQ_MDL_CMD k] t ∧
        t.dev.fld (mdlReg R.SEQ_MDL_CMD k) 15 14 = 3 ∧ s.raised ⟨0x0A05, 4, none, [(1, k), (1, 3)]⟩ t)) ∧
    Ends .seqCancelRes s (fun t => s.frame [.port, .seq] [mdlReg R.SEQ_MDL_CMD k] t ∧
      t.dev.seq = { s.dev.seq with pendRes := s.dev.seq.pendRes.del k } ∧ t.dev.fld (mdlReg R.SEQ_MDL_CMD k) 12 12 = 0) := by
  have hev : mdlReg R.SEQ_MDL_CMD k ∉ eventRegs := inst_notEvent (by decide) k
  have hput (x : SeqUnit) : Device.Only [.port, .seq] [mdlReg R.SEQ_MDL_CMD k] s.dev.dropPend { s.dev.dropPend with seq := x } :=
    .of_regs [.seq] rfl (by simp) rfl
  have heff : s.dev.mdl? k ≠ none → seqStageRes s.tb s.dev.dropPend = if furLt s.tb.number n then
      { s.dev.dropPend with seq := { s.dev.seq with pendRes := s.dev.seq.pendRes.set k n } }.setFld (mdlReg R.SEQ_MDL_CMD k) 12 12 1
      else (s.dev.dropPend.setFld (mdlReg R.SEQ_MDL_CMD k) 15 14 3).raise 0x0A05 [(1, k), (1, 3)] := by
    intro hm
    subst hk hn
    exact if_neg (by rw [Option.isNone_iff_eq_none]; exact hm)
  have hdrop : dropPendRes (s.dev.dropPend.fld R.SEQ_MDL_SEL 7 0) s.dev.dropPend =
      { s.dev.dropPend with seq := { s.dev.seq with pendRes := s.dev.seq.pendRes.del k } }.setFld (mdlReg R.SEQ_MDL_CMD k) 12 12 0 := by subst hk; rfl
  refine ⟨fun hm h => ?_, fun hset hm h => ?_, ?_⟩
  · refine ends_onReg rfl hph (by simp) ((heff hm).trans (if_pos h)) ((hput _).setFld _ _ _ (by simp)) fun t ht hfr => ⟨hfr, ?_, ?_⟩
    · rw [ht, Device.flush_seq]; rfl
    · exact fld_of_setFld ht rfl hev (by decide) (by decide) (by decide)
  · refine ends_onReg rfl hph (by simp) ((heff hm).trans (if_neg (by simp [h])))
      (((Device.Only.refl _).setFld _ _ _ (by simp)).raise _ _) fun t ht hfr => ⟨hfr, ?_, raised_of_ev (by rfl) hset ht⟩
    exact fld_of_setFld ht rfl hev (by decide) (by decide) (by decide)
  · refine ends_onReg rfl hph (by simp) hdrop ((hput _).setFld _ _ _ (by simp)) fun t ht hfr => ⟨hfr, ?_, ?_⟩
    · rw [ht, Device.flush_seq]; rfl
    · exact fld_of_setFld ht rfl hev (by decide) (by decide) (by decide)

end

/-- Settles O46: each of the four switches is staged, refused or dropped by its own registers. -/
theorem switchesAreStagedAndCancelled : Obligations.SwitchesAreStagedAndCancelled :=
  fun _ hph => ⟨idx_switches hph _ _ rfl rfl, tag_switches hph _ rfl, tbl_switches hph _ _ rfl rfl, res_switches hph _ _ rfl rfl⟩

end Sys2Proof.Machine
end

section
/-! PROOFS of the Bruxia port: its ports, time codes, heartbeats and their evaluation (R269, R270, R277, R278). -/
namespace Sys2Proof.Machine

/-! ### One bit of a register -/

theorem bits_one_of_bit (p w : Nat) : bits p p w = boolBit (bit p w) := by
  unfold bits bit boolBit
  simp only [Nat.sub_self, Nat.zero_add, Nat.pow_one, beq_iff_eq]
  split <;> omega

/-- A clear bit of a word rises by its weight. -/
theorem bits_add_weight {p w : Nat} (hp : p < 32) (hw : w < 2 ^ 32) (h : bits p p w = 0) : bits p p ((w + 2 ^ p) % 2 ^ 32) = 1 := by
  rw [bits_eq] at h ⊢
  simp only [Nat.sub_self, Nat.zero_add, Nat.pow_one] at h ⊢
  have hlt : w + 2 ^ p < 2 ^ 32 := by
    obtain ⟨q, hq⟩ : ∃ q, q = w / 2 ^ p := ⟨_, rfl⟩
    have hpow : 2 ^ 32 = 2 ^ p * (2 * 2 ^ (31 - p)) := by
      rw [← Nat.pow_succ', ← Nat.pow_add]
      congr 1
      omega
    have hqlt : w / 2 ^ p < 2 * 2 ^ (31 - p) := Nat.div_lt_of_lt_mul (hpow ▸ hw)
    have hlast : w / 2 ^ p + 2 ≤ 2 * 2 ^ (31 - p) := by omega
    have hm := Nat.mul_le_mul_left (2 ^ p) hlast
    rw [← hpow] at hm
    have hdiv := Nat.lt_mul_div_succ w (Nat.two_pow_pos p)
    rw [Nat.mul_add] at hm hdiv
    omega
  rw [Nat.mod_eq_of_lt hlt, Nat.add_div_right _ (Nat.two_pow_pos p)]
  omega

/-- A set bit of a word falls by its weight. -/
theorem bits_sub_weight {p w : Nat} (hw : w < 2 ^ 32) (h : bits p p w = 1) : bits p p ((w - 2 ^ p) % 2 ^ 32) = 0 := by
  rw [bits_eq] at h ⊢
  simp only [Nat.sub_self, Nat.zero_add, Nat.pow_one] at h ⊢
  have hdiv : (w - 2 ^ p) / 2 ^ p = w / 2 ^ p - 1 := by simpa using Nat.sub_mul_div w (2 ^ p) 1
  rw [Nat.mod_eq_of_lt (Nat.lt_of_le_of_lt (Nat.sub_le _ _) hw), hdiv]
  omega

/-! ### The ports -/

section
variable {s : State}

theorem only_setPort {ps : List DevPart} {ks : List Nat} (h : DevPart.brx ∈ ps) (d : Device) (p : Nat) (x : BrxPort) :
    Device.Only ps ks d (d.setPort p x) := .of_regs [.brx] rfl (by simpa using h) rfl

theorem port'_setPort (d : Device) (p : Nat) (x : BrxPort) : (d.setPort p x).port' p = x := by
  unfold Device.port' Device.setPort
  rw [Tbl.getD_set, if_pos rfl]

theorem ports_enable {p : Nat} (hp : p < 8) (hph : s.dev.power.phase ≠ .rom) (h : s.dev.fld R.BRX_PORT_CTRL p p = 0) :
    Ends (.portEnable p) s (fun t => s.frame [.port, .brx] [R.BRX_PORT_CTRL] t ∧ t.dev.fld R.BRX_PORT_CTRL p p = 1 ∧
      t.dev.brx = { s.dev.brx with ports := s.dev.brx.ports.set p ⟨.training, none, none⟩ }) := by
  have hbit : bit p (s.dev.reg R.BRX_PORT_CTRL) = false := by
    have hb := h
    rw [Device.fld, bits_one_of_bit] at hb
    cases hc : bit p (s.dev.reg R.BRX_PORT_CTRL)
    · rfl
    · simp [hc, boolBit] at hb
  have heff : portEnable p s.dev.dropPend =
      (s.dev.dropPend.setReg R.BRX_PORT_CTRL (s.dev.reg R.BRX_PORT_CTRL + 2 ^ p)).setPort p ⟨.training, none, none⟩ := by
    unfold portEnable
    dsimp only
    rw [reg_dropPend, hbit, if_neg (by simp; omega)]
  refine ends_onReg rfl hph (by simp) heff (((Device.Only.refl _).setReg _ (by simp)).trans (only_setPort (by simp) _ _ _))
    fun t ht hfr => ⟨hfr, ?_, ?_⟩
  · rw [ht, fld_flush _ _ (by decide)]
    refine Eq.trans (congrArg (bits p p) (reg_setReg_self s.dev.dropPend R.BRX_PORT_CTRL _)) ?_
    exact bits_add_weight (by omega) (reg_lt _ _ (regRst_lt _)) h
  · rw [ht, Device.flush_brx]
    rfl

theorem ports_disable {p : Nat} (hp : p < 8) (hph : s.dev.power.phase ≠ .rom) (h : s.dev.fld R.BRX_PORT_CTRL p p = 1) :
    Ends (.portDisable p) s (fun t => s.frame [.port, .brx] [R.BRX_PORT_CTRL] t ∧ t.dev.fld R.BRX_PORT_CTRL p p = 0 ∧
      (t.dev.port' p).st = .disabled) := by
  have hbit : bit p (s.dev.reg R.BRX_PORT_CTRL) = true := by
    have hb := h
    rw [Device.fld, bits_one_of_bit] at hb
    cases hc : bit p (s.dev.reg R.BRX_PORT_CTRL)
    · simp [hc, boolBit] at hb
    · rfl
  have heff : portDisable p s.dev.dropPend =
      (s.dev.dropPend.setReg R.BRX_PORT_CTRL (s.dev.reg R.BRX_PORT_CTRL - 2 ^ p)).setPort p noPort := by
    unfold portDisable
    dsimp only
    rw [reg_dropPend, hbit, if_neg (by simp; omega)]
  refine ends_onReg rfl hph (by simp) heff (((Device.Only.refl _).setReg _ (by simp)).trans (only_setPort (by simp) _ _ _))
    fun t ht hfr => ⟨hfr, ?_, ?_⟩
  · rw [ht, fld_flush _ _ (by decide)]
    refine Eq.trans (congrArg (bits p p) (reg_setReg_self s.dev.dropPend R.BRX_PORT_CTRL _)) ?_
    exact bits_sub_weight (reg_lt _ _ (regRst_lt _)) h
  · have hport : t.dev.port' p = noPort := by
      rw [ht, Device.port', Device.flush_brx]
      exact port'_setPort _ p noPort
    rw [hport]
    rfl

theorem ports_serve (hph : s.dev.power.phase ≠ .rom) {v : Nat} (hv : v < 2) :
    Ends (.brxServeWrite v) s (fun t => s.frame [.port, .brx] [R.BRX_CTRL] t ∧ t.dev.fld R.BRX_CTRL 0 0 = v ∧
      t.dev.fld R.BRX_CTRL 1 1 = s.dev.fld R.BRX_CTRL 1 1) := by
  have hregs : (serveWrite v s.dev.dropPend).regs = (s.dev.dropPend.setFld R.BRX_CTRL 0 0 v).regs := by
    unfold serveWrite
    dsimp only
    split <;> rfl
  have honly : Device.Only [.port, .brx] [R.BRX_CTRL] s.dev.dropPend (serveWrite v s.dev.dropPend) := by
    unfold serveWrite
    dsimp only
    have h := (Device.Only.refl (ps := [.port, .brx]) (ks := [R.BRX_CTRL]) s.dev.dropPend).setFld 0 0 v (List.mem_singleton_self _)
    split
    · exact h.trans (.of_regs [.brx] rfl (by simp) rfl)
    · exact h
  refine ends_onReg (f := fun _ d => serveWrite v d) rfl hph (by simp) rfl honly fun t ht hfr => ⟨hfr, ?_, ?_⟩
  · exact fld_of_setFld ht hregs (by decide) (by decide) (by decide) (by simpa using hv)
  · rw [ht, fld_flush _ _ (by decide)]
    refine Eq.trans ?_ (fld_setFld_other s.dev.dropPend (by decide : (0 : Nat) ≤ 0) (by decide) v (by decide : (1 : Nat) ≤ 1) (regRst_lt _) (.inr (by decide)))
    unfold Device.fld Device.reg
    rw [hregs]

theorem ports_fanout (hph : s.dev.power.phase ≠ .rom) {v : Nat} (hv : v < 2) :
    Ends (.brxFanoutWrite v) s (fun t => s.frame [.port] [R.BRX_CTRL] t ∧ t.dev.fld R.BRX_CTRL 1 1 = v ∧
      t.dev.fld R.BRX_CTRL 0 0 = s.dev.fld R.BRX_CTRL 0 0) := by
  refine ends_onReg (f := fun _ d => d.setFld R.BRX_CTRL 1 1 v) rfl hph (by simp) rfl
    ((Device.Only.refl (ks := [R.BRX_CTRL]) s.dev.dropPend).setFld 1 1 v (by simp)) fun t ht hfr => ⟨hfr, ?_, ?_⟩
  · exact fld_of_setFld ht rfl (by decide) (by decide) (by decide) (by simpa using hv)
  · rw [ht, fld_flush _ _ (by decide)]
    exact fld_setFld_other s.dev.dropPend (by decide) (by decide) v (by decide) (regRst_lt _) (.inl (by decide))

variable {p : Nat}

theorem ports_trained (hf : s.dev.fabOn = true) (hst : (s.dev.port' p).st = .training) :
    Ends (.portTrainingDone p) s (fun t => s.frame [.brx] [] t ∧
      t.dev.brx = { s.dev.brx with ports := s.dev.brx.ports.set p ⟨.hello, none, none⟩ }) := by
  have heff : portTrained p s.dev = s.dev.setPort p ⟨.hello, none, none⟩ := if_pos (by simp [hf, hst])
  exact ends_onDev rfl heff (only_setPort (by simp) _ _ _) fun t ht hfr => ⟨hfr, by rw [ht, Device.flush_brx]; rfl⟩

theorem ports_timeout (hset : s.settled) (hf : s.dev.fabOn = true) (hst : (s.dev.port' p).st = .training) :
    Ends (.portTrainingTimeout p) s (fun t => s.frame [.brx] [] t ∧
      t.dev.brx = { s.dev.brx with ports := s.dev.brx.ports.set p ⟨.failed, none, none⟩ } ∧
      s.raised ⟨0x0703, 4, none, []⟩ t) := by
  have heff : portTrainFail p s.dev = (s.dev.setPort p ⟨.failed, none, none⟩).raise 0x0703 [] := if_pos (by simp [hf, hst])
  exact ends_onDev rfl heff ((only_setPort (by simp) _ _ _).raise _ _)
    fun t ht hfr => ⟨hfr, by rw [ht, Device.flush_brx]; rfl, raised_of_ev (by rfl) hset ht⟩

theorem ports_fault (hf : s.dev.fabOn = true) (lock : Bool) (n : Nat) (hst : (s.dev.port' p).st = .up) :
    Ends (.portLinkFault p lock n) s (fun t => s.frame [.brx] [inst R.BRX_PORT_FEC_UNCORR p] t ∧
      t.dev.reg (inst R.BRX_PORT_FEC_UNCORR p) = min (s.dev.reg (inst R.BRX_PORT_FEC_UNCORR p) + n) 0xFFFFFFFF ∧
      t.dev.port' p = (if lock = true ∨ 65536 < n then { s.dev.port' p with down := some (if lock then 0 else 1) }
        else s.dev.port' p)) := by
  have hcount : Device.Only [.brx] [inst R.BRX_PORT_FEC_UNCORR p] s.dev (s.dev.incBy (inst R.BRX_PORT_FEC_UNCORR p) n) :=
    (Device.Only.refl _).incBy n (by simp)
  have hport : (s.dev.incBy (inst R.BRX_PORT_FEC_UNCORR p) n).port' p = s.dev.port' p := rfl
  have heff : portFault p lock n s.dev = if lock = true ∨ 65536 < n then
      (s.dev.incBy (inst R.BRX_PORT_FEC_UNCORR p) n).setPort p { s.dev.port' p with down := some (if lock then 0 else 1) }
      else s.dev.incBy (inst R.BRX_PORT_FEC_UNCORR p) n := by
    unfold portFault
    rw [hf, if_neg (by simp)]
    dsimp only
    rw [hport, hst]
    simp
  have hev : inst R.BRX_PORT_FEC_UNCORR p ∉ eventRegs := inst_notEvent (by decide) p
  by_cases hd : lock = true ∨ 65536 < n
  · rw [if_pos hd] at heff
    refine ends_onDev rfl heff (hcount.trans (only_setPort (by simp) _ _ _)) fun t ht hfr => ⟨hfr, ?_, ?_⟩
    · rw [ht, reg_flush _ _ hev]
      exact reg_incBy_self _ _ _
    · rw [if_pos hd, ht, Device.port', Device.flush_brx]
      exact port'_setPort _ _ _
  · rw [if_neg hd] at heff
    refine ends_onDev rfl heff hcount fun t ht hfr => ⟨hfr, ?_, ?_⟩
    · rw [ht, reg_flush _ _ hev]
      exact reg_incBy_self _ _ _
    · rw [if_neg hd, ht, Device.port', Device.flush_brx]
      rfl

/-! ### Packets that are taken in -/

/-- A packet that the port takes in is counted, and does what its class says. -/
theorem brxReceive_of_takes {cls : Nat} {pkt : List Byte} (h : s.takes cls pkt) (f : Timebase → Device → Device) :
    brxReceive cls pkt f s.tb s.dev = f s.tb (s.dev.inc R.BRX_RX_PKTS) := by
  obtain ⟨hfab, hcls, hcrc, hnear, hlock⟩ := h
  have hfar : (decide (2 < cls) && !furNear (pktFurrow pkt) s.tb.number) = false := by
    by_cases hc : 2 < cls
    · simp [hc, hnear hc]
    · simp [hc]
  have hunl : (lockedClass cls && s.tb.st == .unlocked) = false := by
    cases hc : lockedClass cls
    · rfl
    · simpa using hlock hc
  unfold brxReceive
  simp only [hcls, hfab, hcrc, hfar, hunl, bne_self_eq_false, Bool.not_true, Bool.or_self, Bool.false_eq_true, if_false]

/-- Of the registers a packet that is taken in changes the counter of packets. -/
theorem only_received (ps : List DevPart) (d : Device) : Device.Only ps [R.BRX_RX_PKTS] d (d.inc R.BRX_RX_PKTS) :=
  (Device.Only.refl d).inc (List.mem_singleton_self _)

theorem hello_refused {pkt : List Byte} (hset : s.settled) (ht : s.takes 2 pkt) (hst : (s.dev.port' p).st = .hello)
    (hv : fieldLe (pktPayload pkt) 0 1 ≠ 1) :
    Ends (.hello p pkt) s (fun t => s.frame [] [R.BRX_RX_PKTS] t ∧ s.raised ⟨0x0704, 4, none, []⟩ t) := by
  have heff : brxReceive 2 pkt (helloArrives p pkt) s.tb s.dev = (s.dev.inc R.BRX_RX_PKTS).raise 0x0704 [] := by
    have hport : (s.dev.inc R.BRX_RX_PKTS).port' p = s.dev.port' p := rfl
    rw [brxReceive_of_takes ht, helloArrives, hport, hst, if_neg (by simp), if_pos (by simpa using hv)]
  exact ends_onDev rfl heff ((only_received _ _).raise _ _) fun t ht hfr => ⟨hfr, raised_of_ev (by rfl) hset ht⟩

theorem hello_up {pkt : List Byte} (hset : s.settled) (ht : s.takes 2 pkt) (hst : (s.dev.port' p).st = .hello)
    (hv : fieldLe (pktPayload pkt) 0 1 = 1) {f : W48} (hl : (s.dev.port' p).lastHello = some f) (hf : f + 1 = s.tb.number) :
    Ends (.hello p pkt) s (fun t => s.frame [.brx] [R.BRX_RX_PKTS] t ∧
      t.dev.brx = { s.dev.brx with ports := s.dev.brx.ports.set p ⟨.up, none, none⟩ } ∧ s.raised ⟨0x0701, 4, none, [(1, p)]⟩ t) := by
  have heff : brxReceive 2 pkt (helloArrives p pkt) s.tb s.dev =
      ((s.dev.inc R.BRX_RX_PKTS).setPort p ⟨.up, none, none⟩).raise 0x0701 [(1, p)] := by
    have hport : (s.dev.inc R.BRX_RX_PKTS).port' p = s.dev.port' p := rfl
    have hne : (f == s.tb.number) = false := by
      rw [← hf, beq_eq_false_iff_ne]
      intro he
      bv_omega
    simp only [brxReceive_of_takes ht, helloArrives, hport, hst, hl]
    rw [if_neg (by simp), if_neg (by simp [hv]), hne, if_neg (by simp), if_pos (by simpa using hf)]
  exact ends_onDev rfl heff (((only_received _ _).trans (only_setPort (by simp) _ _ _)).raise _ _)
    fun t ht hfr => ⟨hfr, by rw [ht, Device.flush_brx]; rfl, raised_of_ev (by rfl) hset ht⟩

theorem hello_first {pkt : List Byte} (ht : s.takes 2 pkt) (hst : (s.dev.port' p).st = .hello)
    (hv : fieldLe (pktPayload pkt) 0 1 = 1) (hl : (s.dev.port' p).lastHello = none) :
    Ends (.hello p pkt) s (fun t => s.frame [.brx] [R.BRX_RX_PKTS] t ∧
      t.dev.port' p = { s.dev.port' p with lastHello := some s.tb.number }) := by
  have heff : brxReceive 2 pkt (helloArrives p pkt) s.tb s.dev =
      (s.dev.inc R.BRX_RX_PKTS).setPort p { s.dev.port' p with lastHello := some s.tb.number } := by
    have hport : (s.dev.inc R.BRX_RX_PKTS).port' p = s.dev.port' p := rfl
    rw [brxReceive_of_takes ht, helloArrives, hport, hst, if_neg (by simp), if_neg (by simp [hv]), hl]
    simp only [hst]
  refine ends_onDev rfl heff ((only_received _ _).trans (only_setPort (by simp) _ _ _)) fun t ht hfr => ⟨hfr, ?_⟩
  rw [ht, Device.port', Device.flush_brx]
  exact port'_setPort _ _ _

/-- R29: a time code of a packet that is taken in. -/
theorem time_taken {pkt : List Byte} (ht : s.takes 1 pkt) (hsrc : s.tb.srcForce = false) :
    Ends (.time pkt) s (fun t => t.pending = s.pending ∧ s.regsBut [R.BRX_RX_PKTS] t ∧
      (∀ p : DevPart, p ≠ .regs → p ≠ .ev → p.same s.dev t.dev) ∧
      t.tb = { s.tb with tcNext := some (BitVec.ofNat 48 (fieldLe (pktPayload pkt) 0 8)) }) := by
  intro hl
  have honly := (only_received [] s.dev).flush s.tb
  have heff : s.live (fun s =>
      let s' := s.onPins (brxReceive 1 pkt (fun _ d => d))
      if pktClass pkt == 1 && pktCrcOk pkt && s.dev.fabOn && !s.tb.srcForce then
        { s' with tb := { s'.tb with tcNext := some (BitVec.ofNat 48 (fieldLe (pktPayload pkt) 0 8)) } } else s') =
      { s with tb := { s.tb with tcNext := some (BitVec.ofNat 48 (fieldLe (pktPayload pkt) 0 8)) },
               dev := (s.dev.inc R.BRX_RX_PKTS).flush s.tb } := by
    rw [s.live_of _ hl]
    dsimp only
    rw [if_pos (by simp [ht.2.1, ht.2.2.1, ht.1, hsrc]), State.onPins, brxReceive_of_takes ht]
  exact ⟨_, congrArg Host.Outcome.next heff, rfl, honly.regs, fun p hr he => honly.parts p (by simp) hr he, rfl⟩

/-- R277: what is kept of a heartbeat. -/
def beatOf (pkt : List Byte) : Beat :=
  ⟨pktFurrow pkt, BitVec.ofNat 64 (fieldLe (pktPayload pkt) 0 8),
    bit 0 (pktFlags pkt) || bits 1 0 (fieldLe (pktPayload pkt) 8 1) == 2,
    bit 2 (fieldLe (pktPayload pkt) 8 1) || bit 1 (pktFlags pkt), bit 3 (fieldLe (pktPayload pkt) 8 1)⟩

/-- R277: a heartbeat that is taken in is kept. -/
theorem heartbeat_kept {pkt : List Byte} (ht : s.takes 3 pkt) (hlate : furLt (pktFurrow pkt) s.tb.number = false)
    (hnow : pktFurrow pkt = s.tb.number → s.dev.brx.evaluated = false)
    (hroom : (s.dev.brx.beats.getD (pktSrc pkt % 16384) []).length < 3) :
    Ends (.heartbeat pkt) s (fun t => s.frame [.brx] [R.BRX_RX_PKTS] t ∧
      t.dev.brx = { s.dev.brx with beats := t.dev.brx.beats } ∧
      ∃ b, b ∈ t.dev.brx.beats.getD (pktSrc pkt % 16384) [] ∧ b.furrow = pktFurrow pkt ∧
        b.digest = BitVec.ofNat 64 (fieldLe (pktPayload pkt) 0 8)) := by
  obtain ⟨b, hb⟩ : ∃ b, b = beatOf pkt := ⟨_, rfl⟩
  have heff : brxReceive 3 pkt (heartbeatArrives pkt) s.tb s.dev = (s.dev.inc R.BRX_RX_PKTS).keepBeat (pktSrc pkt % 16384) b := by
    subst hb
    rw [brxReceive_of_takes ht]
    refine if_neg ?_
    simp only [hlate, Bool.false_or, Bool.and_eq_true, beq_iff_eq, not_and]
    intro he
    simpa using hnow he
  refine ends_onDev rfl heff ((only_received [.brx] s.dev).trans (.of_regs [.brx] rfl (by simp) rfl)) fun t ht hfr => ⟨hfr, ?_, b, ?_, hb ▸ rfl, hb ▸ rfl⟩
  · rw [ht, Device.flush_brx]
    rfl
  · rw [ht, Device.flush_brx, Device.keepBeat]
    dsimp only
    rw [Tbl.getD_set, if_pos rfl]
    have hbeats : (s.dev.inc R.BRX_RX_PKTS).brx = s.dev.brx := rfl
    rw [hbeats]
    generalize hlist : List.filter (fun x : Beat => x.furrow != b.furrow) (s.dev.brx.beats.getD (pktSrc pkt % 16384) []) = l
    have hlen : l.length ≤ 2 := by
      rw [← hlist]
      exact Nat.le_trans (List.length_filter_le _ _) (by omega)
    have hpart := List.length_eq_countP_add_countP (fun x : Beat => furLt b.furrow x.furrow) (l := l)
    rw [List.partition_eq_filter_filter, List.take_of_length_le]
    · simp
    · simp only [List.length_append, List.length_cons]
      simp only [List.countP_eq_length_filter, Function.comp_def, decide_not, Bool.decide_eq_true] at *
      omega

/-! ### The evaluation (R278 to R280) -/

/-- R278: the digest of a plane that has one is the reference. -/
theorem getD_refs (r : Tbl W64) (a b : Option W64) {p : Nat} {x : W64} (hp : p < 2) (hx : [a, b].getD p none = some x) :
    Tbl.getD ([0, 1].foldl (fun r p => match [a, b].getD p none with | some x => Tbl.set r p x | none => r) r) p 0 = x := by
  obtain rfl | rfl : p = 0 ∨ p = 1 := by omega
  · obtain rfl : a = some x := hx
    cases b <;> simp [Tbl.getD_set]
  · obtain rfl : b = some x := hx
    cases a <;> simp [Tbl.getD_set]

/-- R278: the reference digests after an evaluation. -/
def evalRef (tb : Timebase) (d : Device) : Tbl W64 :=
  [0, 1].foldl (fun r p => match [majority d tb.number 0, majority d tb.number 1].getD p none with
    | some x => Tbl.set r p x
    | none => r) d.brx.ref

/-- R279: the module will be self-fenced. -/
def evalFenced (tb : Timebase) (d : Device) : Bool :=
  tb.st == .unlocked || !([majority d tb.number 0, majority d tb.number 1].getD (planeOf d.identity) none).isSome
    || BitVec.ofNat 64 (d.reg64 R.BRX_DIGEST_LO) != Tbl.getD (evalRef tb d) (planeOf d.identity) 0

/-- R280: the modules that will be included. -/
def evalIncluded (tb : Timebase) (d : Device) : List Nat :=
  ((d.brx.beats.map (·.1)).filter (fun i => i != d.identity && indexOf i < d.planeSize)).filter (fun i =>
    match beatFor d tb.number i with
    | some b => !(b.unlocked || b.fenced || !b.serving)
        && ([majority d tb.number 0, majority d tb.number 1].getD (planeOf i) none).isSome
        && b.digest == Tbl.getD (evalRef tb d) (planeOf i) 0
    | none => false)

/-- What the evaluation leaves: the outcome for the next furrow, and what it notes. -/
structure Evaluated (tb : Timebase) (d e : Device) : Prop where
  keeps : Device.Keeps [.brx] d e
  done : e.brx.evaluated = true
  fenced : e.brx.fenced = d.brx.fenced
  next : e.brx.next = some (evalFenced tb d, evalIncluded tb d)

theorem Evaluated.raise {tb : Timebase} {d e : Device} (h : Evaluated tb d e) (code : Nat) (pay : List (Nat × Nat)) :
    Evaluated tb d (e.raise code pay) := ⟨h.keeps.trans (Device.keeps_raiseReq _ _), h.done, h.fenced, h.next⟩

theorem Evaluated.raiseIf {tb : Timebase} {d e : Device} (h : Evaluated tb d e) (p : Prop) [Decidable p] (code : Nat)
    (pay : List (Nat × Nat)) : Evaluated tb d (if p then e.raise code pay else e) := by
  split
  · exact h.raise _ _
  · exact h

theorem Evaluated.raiseUnless {tb : Timebase} {d e : Device} (h : Evaluated tb d e) (p : Prop) [Decidable p] (code : Nat)
    (pay : List (Nat × Nat)) : Evaluated tb d (if p then e else e.raise code pay) := by
  split
  · exact h
  · exact h.raise _ _

theorem evaluated_evaluate (tb : Timebase) {d : Device} (h : d.brx.evaluated = false) : Evaluated tb d (evaluate tb d) := by
  unfold evaluate
  rw [h, if_neg (by simp)]
  refine Evaluated.raiseUnless (Evaluated.raiseIf ?_ _ _ _) _ _ _
  exact ⟨.of_merge [.brx] rfl (List.Subset.refl _), rfl, rfl, rfl⟩

/-- The plane of a module is one of two. -/
theorem planeOf_lt (id : Nat) : planeOf id < 2 := Nat.mod_lt _ (by decide)

theorem identity_notIncluded (tb : Timebase) (d : Device) : d.identity ∉ evalIncluded tb d := by
  simp [evalIncluded]

/-- R278: what decides whether the module is self-fenced. -/
theorem evalFenced_eq (tb : Timebase) (d : Device) :
    (tb.st = .unlocked ∨ majority d tb.number (planeOf d.identity) = none → evalFenced tb d = true) ∧
    ∀ x, tb.st ≠ .unlocked → majority d tb.number (planeOf d.identity) = some x →
      (evalFenced tb d = true ↔ BitVec.ofNat 64 (d.reg64 R.BRX_DIGEST_LO) ≠ x) := by
  have hmaj : [majority d tb.number 0, majority d tb.number 1].getD (planeOf d.identity) none =
      majority d tb.number (planeOf d.identity) := by
    have hp := planeOf_lt d.identity
    generalize planeOf d.identity = p at hp ⊢
    obtain rfl | rfl : p = 0 ∨ p = 1 := by omega
    · rfl
    · rfl
  unfold evalFenced
  rw [hmaj]
  refine ⟨?_, fun x hst hx => ?_⟩
  · rintro (hst | hno)
    · simp [hst]
    · simp [hno]
  · have href := getD_refs d.brx.ref (majority d tb.number 0) (majority d tb.number 1) (planeOf_lt d.identity) (hmaj.trans hx)
    unfold evalRef
    rw [href, hx]
    simp [hst]

/-- Settles O47: ports, packets that are taken in, and the evaluation of the heartbeats. -/
theorem portsHeartbeatsAndFencing : Obligations.PortsHeartbeatsAndFencing := by
  refine ⟨fun s p hp hph => ⟨ports_enable hp hph, ports_disable hp hph, fun v => ports_serve hph, fun v => ports_fanout hph⟩,
    fun s p hset _ hf => ⟨ports_trained hf, ports_timeout hset hf, fun lock n => ports_fault hf lock n,
      fun pkt ht hst => ⟨hello_refused hset ht hst, fun hv f hl hf => hello_up hset ht hst hv hl hf, hello_first ht hst⟩⟩,
    fun s pkt => time_taken, fun s pkt => heartbeat_kept, fun s hev => ?_⟩
  intro own hl
  obtain ⟨hk, hdone, hfenced, hnext⟩ := evaluated_evaluate (s.tb.goto (s.tb.point 100000)) hev
  refine ⟨_, rfl, ?_⟩
  rw [s.atPoint_of _ _ hl]
  rw [← Device.flush_brx (tb := s.tb.goto (s.tb.point 100000))] at hdone hfenced hnext
  exact ⟨rfl, rfl, fun p hr he hb => (hk.flush _).parts p (by simpa using hb) hr he, hdone, hfenced, _, _, hnext,
    identity_notIncluded _ _, evalFenced_eq (s.tb.goto (s.tb.point 100000)) s.dev⟩

end

end Sys2Proof.Machine
end

section
/-! PROOFS of the packets that the Bruxia port drops and counts (R19, R28, R274, R275). -/
namespace Sys2Proof.Machine

section
variable {s : State} {cls : Nat} {pkt : List Byte}

/-! ### What the port makes of a packet that it drops -/

theorem brxReceive_off (hf : s.dev.fabOn = false) (f : Timebase → Device → Device) : brxReceive cls pkt f s.tb s.dev = s.dev := by
  unfold brxReceive
  rw [if_pos (by simp [hf])]

theorem brxReceive_badCrc (hc : pktClass pkt = cls) (hf : s.dev.fabOn = true) (h : pktCrcOk pkt = false) (f : Timebase → Device → Device) :
    brxReceive cls pkt f s.tb s.dev = (s.dev.inc R.BRX_RX_PKTS).inc R.BRX_CRC_DROPS := by
  unfold brxReceive
  simp only [hc, hf, h, bne_self_eq_false, Bool.not_true, Bool.or_self, Bool.false_eq_true, if_false, Bool.not_false, if_true]

/-- R28, R275: a packet of a far furrow, with one event a furrow. -/
def farDropped (d : Device) : Device :=
  if d.brx.dropSeen then (d.inc R.BRX_RX_PKTS).inc R.BRX_FURROW_DROPS
  else ({ (d.inc R.BRX_RX_PKTS).inc R.BRX_FURROW_DROPS with brx := { d.brx with dropSeen := true } } : Device).raise 0x0709 []

theorem brxReceive_far (hc : pktClass pkt = cls) (hf : s.dev.fabOn = true) (hcrc : pktCrcOk pkt = true) (h2 : 2 < cls)
    (hn : furNear (pktFurrow pkt) s.tb.number = false) (f : Timebase → Device → Device) :
    brxReceive cls pkt f s.tb s.dev = farDropped s.dev := by
  unfold brxReceive
  simp only [hc, hf, hcrc, h2, hn, bne_self_eq_false, Bool.not_true, Bool.or_self, Bool.false_eq_true, if_false, decide_true,
    Bool.not_false, Bool.and_self, if_true]
  rfl

theorem brxReceive_unlocked (hc : pktClass pkt = cls) (hf : s.dev.fabOn = true) (hcrc : pktCrcOk pkt = true)
    (hn : furNear (pktFurrow pkt) s.tb.number = true) (hlk : lockedClass cls = true) (hst : s.tb.st = .unlocked)
    (f : Timebase → Device → Device) : brxReceive cls pkt f s.tb s.dev = (s.dev.inc R.BRX_RX_PKTS).inc R.BRX_UNLOCK_DROPS := by
  unfold brxReceive
  simp only [hc, hf, hcrc, hn, hlk, hst, bne_self_eq_false, Bool.not_true, Bool.or_self, Bool.false_eq_true, if_false,
    Bool.and_false, beq_self_eq_true, Bool.and_self, if_true]

/-! ### The commands -/

/-- With no text work of other modules no text goes out. -/
theorem serveText_none (last : Bool) (tb : Timebase) {d : Device} (h : d.noTextJobs) : serveText last tb d = d := by
  have hn : d.brx.jobs.filter (fun p => p.2.kind == 1) = [] := by
    rw [List.filter_eq_nil_iff]
    intro p hp
    simpa using h p hp
  unfold serveText
  rw [hn]
  rfl

/-- A packet that the port drops: its command leaves what the port makes of it. -/
theorem exec_packet {c : Instr} (hrow : packetRow c = some (cls, pkt)) (hjobs : s.dev.noTextJobs) (hl : s.dev.power.porst = true)
    {e : Device} (he : ∀ f, brxReceive cls pkt f s.tb s.dev = e) (hej : e.brx.jobs = s.dev.brx.jobs)
    (htime : cls = 1 → s.dev.fabOn = false ∨ pktCrcOk pkt = false) : exec c s = .next { s with dev := e.flush s.tb } := by
  have hport : ∀ f, s.onDev (brxReceive cls pkt f) = { s with dev := e.flush s.tb } := fun f => by rw [s.onDev_of _ hl, he]
  unfold packetRow at hrow
  split at hrow
  case h_13 => exact absurd hrow (by simp)
  all_goals
    obtain ⟨rfl, rfl⟩ : _ = cls ∧ _ = pkt := by simpa using hrow
  case h_1 p =>
    refine congrArg Host.Outcome.next ?_
    rw [s.live_of _ hl]
    dsimp only
    rw [if_neg, State.onPins, he]
    rcases htime rfl with hf | hcrc
    · simp [hf]
    · simp [hcrc]
  case h_6 p =>
    refine congrArg Host.Outcome.next ?_
    rw [s.onDev_of _ hl, he, serveText_none]
    exact fun p hp => hjobs p (hej ▸ hp)
  all_goals exact congrArg Host.Outcome.next (hport _)

/-- Such a command in the form of a statement. -/
theorem ends_packet {c : Instr} {ps : List DevPart} {ks : List Nat} (hrow : packetRow c = some (cls, pkt)) (hjobs : s.dev.noTextJobs)
    {e : Device} (he : ∀ f, brxReceive cls pkt f s.tb s.dev = e) (hej : e.brx.jobs = s.dev.brx.jobs)
    (htime : cls = 1 → s.dev.fabOn = false ∨ pktCrcOk pkt = false) (hk : Device.Only ps ks s.dev e) {P : State → Prop}
    (h : ∀ t : State, t.dev = e.flush s.tb → s.frame ps ks t → P t) : Ends c s P := by
  intro hl
  have hf := hk.flush s.tb
  exact ⟨_, exec_packet hrow hjobs hl he hej htime, h _ rfl ⟨rfl, rfl, hf.regs, hf.parts⟩⟩

/-- Two counters, each 1 more. -/
theorem reg_inc_inc {t : State} {d e : Device} {tb : Timebase} {a b : Nat} (ht : t.dev = e.flush tb)
    (he : e.regs = ((d.inc a).inc b).regs) (hab : a ≠ b) (ha : a ∉ eventRegs) (hb : b ∉ eventRegs) :
    t.dev.reg a = min (d.reg a + 1) 0xFFFFFFFF ∧ t.dev.reg b = min (d.reg b + 1) 0xFFFFFFFF := by
  have hreg : ∀ k, e.reg k = ((d.inc a).inc b).reg k := fun k => by unfold Device.reg; rw [he]
  rw [ht, reg_flush _ _ ha, reg_flush _ _ hb, hreg, hreg]
  unfold Device.inc
  rw [reg_incBy_ne _ _ hab.symm, reg_incBy_self, reg_incBy_self, reg_incBy_ne _ _ hab]
  exact ⟨rfl, rfl⟩

theorem only_inc_inc (ps : List DevPart) (d : Device) (a b : Nat) : Device.Only ps [a, b] d ((d.inc a).inc b) :=
  ((Device.Only.refl d).inc (by simp)).inc (by simp)

end

theorem farDropped_regs (d : Device) : (farDropped d).regs = ((d.inc R.BRX_RX_PKTS).inc R.BRX_FURROW_DROPS).regs := by
  unfold farDropped
  split <;> rfl

theorem farDropped_brx (d : Device) : (farDropped d).brx = { d.brx with dropSeen := true } := by
  unfold farDropped
  split
  next h =>
    change d.brx = _
    rw [← h]
  · rfl

theorem only_farDropped (d : Device) : Device.Only [.brx] [R.BRX_RX_PKTS, R.BRX_FURROW_DROPS] d (farDropped d) := by
  have h := only_inc_inc [.brx] d R.BRX_RX_PKTS R.BRX_FURROW_DROPS
  unfold farDropped
  split
  · exact h
  · exact h.trans (.of_regs [.brx] rfl (by simp) rfl)

/-- The first packet of a far furrow in a furrow raises its event; a later one raises none. -/
theorem ev_farDropped {s t : State} (hset : s.settled) (ht : t.dev = (farDropped s.dev).flush s.tb) :
    (s.dev.brx.dropSeen = false → s.raised ⟨0x0709, 4, none, []⟩ t) ∧ (s.dev.brx.dropSeen = true → t.dev.ev = s.dev.ev) := by
  unfold farDropped at ht
  refine ⟨fun h => ?_, fun h => ?_⟩
  · rw [h, if_neg (by simp)] at ht
    exact raised_of_ev (by rfl) hset ht
  · rw [h, if_pos rfl, flush_of_settled] at ht
    · rw [ht]; rfl
    · exact hset

/-- Settles O48: whichever command brings a packet, the port drops and counts it by its first fault. -/
theorem packetsAreDroppedByR275 : Obligations.PacketsAreDroppedByR275 := by
  refine ⟨fun s c cls pkt hset hrow hc hjobs => ⟨fun hf => ?off, fun hf hcrc => ?crc, fun hf hcrc h2 hn => ?far,
    fun hf hcrc hn hlk hst => ?unlocked⟩, fun s pkt hf h1 h2 => ?reserved⟩
  case off =>
    refine ends_packet (ks := []) hrow hjobs (brxReceive_off hf) rfl (fun _ => .inl hf) (Device.Only.refl s.dev) (ps := []) ?_
    intro t ht hfr
    rw [flush_of_settled _ _ hset] at ht
    obtain ⟨htb, hpend, -, -⟩ := hfr
    cases t
    cases s
    subst ht htb hpend
    rfl
  case crc =>
    exact ends_packet hrow hjobs (brxReceive_badCrc hc hf hcrc) rfl (fun _ => .inr hcrc) (only_inc_inc _ _ _ _)
      fun t ht hfr => ⟨hfr, reg_inc_inc ht rfl (by decide) (by decide) (by decide)⟩
  case far =>
    refine ends_packet hrow hjobs (brxReceive_far hc hf hcrc h2 hn) (by rw [farDropped_brx]) (by omega) (only_farDropped _)
      fun t ht hfr => ⟨hfr, ?_, (reg_inc_inc ht (farDropped_regs _) (by decide) (by decide) (by decide)).2, ev_farDropped hset ht⟩
    rw [ht, Device.flush_brx, farDropped_brx]
  case unlocked =>
    have h1 : cls ≠ 1 := by rintro rfl; exact absurd hlk (by decide)
    exact ends_packet hrow hjobs (brxReceive_unlocked hc hf hcrc hn hlk hst) rfl (absurd · h1) (only_inc_inc _ _ _ _)
      fun t ht hfr => ⟨hfr, (reg_inc_inc ht rfl (by decide) (by decide) (by decide)).2⟩
  case reserved =>
    have heff : reservedClass pkt s.dev = (s.dev.inc R.BRX_RX_PKTS).inc R.BRX_CRC_DROPS :=
      if_neg (by simp only [Bool.or_eq_true, Bool.and_eq_true, decide_eq_true_eq, Bool.not_eq_true', hf]; exact fun h => h.elim (fun h => h.elim h1 h2) nofun)
    exact ends_onDev rfl heff (only_inc_inc _ _ _ _)
      fun t ht hfr => ⟨hfr, (reg_inc_inc ht rfl (by decide) (by decide) (by decide)).2⟩

end Sys2Proof.Machine
end

section
/-! PROOFS of the commands of a context, its windows and its reserves (R373, R374, R395, R399 to R401, R404). -/
namespace Sys2Proof.Machine

section
variable {d : Device} {c : Nat}

theorem ctx_setCtx (d : Device) (c k : Nat) (x : Context) : (d.setCtx c x).ctx k = if c = k then x else d.ctx k := Tbl.getD_set ..

theorem only_updCtx {ps : List DevPart} {ks : List Nat} (hp : .qm ∈ ps) (d : Device) (c : Nat) (f : Context → Context) :
    Device.Only ps ks d (d.updCtx c f) :=
  .of_regs [.qm] rfl (by simpa using hp) rfl

theorem ctxEnable_off (hc : c = d.ctxSel) (h : (d.ctx c).st = .off) :
    ctxEnable d = (d.setFld (inst R.QM_CTX_CTRL c) 31 31 1).updCtx c fun x => { x with enabling := true } := by
  subst hc
  simp [ctxEnable, h]

theorem ctxResume_faulted (hc : c = d.ctxSel) (h : (d.ctx c).st = .faulted) :
    ctxResume d = d.updCtx c fun x => { x with resume := true } := by
  subst hc
  simp [ctxResume, h]

/-- The device of a context that was told to end, whose queue pairs are disabled. -/
def Device.ctxDrained (abort : Bool) (c : Nat) (d : Device) : Device :=
  (((d.setFld (inst R.QM_CTX_CTRL c) 31 31 0).setFld (inst R.QM_CTX_CTRL c) 30 30 (boolBit abort)).updCtx c
    fun x => { x with enabling := false }).updCtx c fun x => { x with st := .draining, resume := false }

theorem liveQps_ctxDrained (abort : Bool) : (d.ctxDrained abort c).liveQps c = d.liveQps c := by
  have hfld (q : Nat) : (d.ctxDrained abort c).qpCtx q = d.qpCtx q := by
    have hne : inst R.QM_CTX_CTRL c ≠ qpReg R.QM_QP_CTRL q := by simp only [inst, qpReg, R.QM_CTX_CTRL, R.QM_QP_CTRL]; omega
    exact (fld_setFld_ne _ _ _ _ _ _ hne).trans (fld_setFld_ne _ _ _ _ _ _ hne)
  unfold Device.liveQps
  simp only [hfld]
  rfl

theorem ctxDisable_active {abort : Bool} {tb : Timebase} (hc : c = d.ctxSel) (h : (d.ctx c).st = .active) (hq : d.liveQps c = []) :
    ctxDisable abort tb d = d.ctxDrained abort c := by
  have hlive := (liveQps_ctxDrained (d := d) (c := c) abort).trans hq
  have hact : (Context.st (d.ctx c) == CtxSt.active) = true := by rw [h]; rfl
  subst hc
  unfold ctxDisable
  simp only [hact, Bool.true_or, if_true]
  exact congrArg (List.foldl _ _) hlive

theorem ctx_ctxDrained (abort : Bool) (k : Nat) : (d.ctxDrained abort c).ctx k =
    if c = k then { d.ctx c with enabling := false, st := .draining, resume := false } else d.ctx k := by
  unfold Device.ctxDrained Device.updCtx
  rw [ctx_setCtx, ctx_setCtx, ctx_setCtx, if_pos rfl]
  split <;> rfl

theorem enable_ctxDrained (abort : Bool) : (d.ctxDrained abort c).fld (inst R.QM_CTX_CTRL c) 31 31 = 0 :=
  (fld_setFld_other _ (by decide) (by decide) _ (by decide) (regRst_lt _) (.inr (by decide))).trans
    (fld_setFld _ _ (by decide) (by decide) 0)

theorem only_ctxDrained {ps : List DevPart} {ks : List Nat} (hp : .qm ∈ ps) (hk : inst R.QM_CTX_CTRL c ∈ ks) (abort : Bool) :
    Device.Only ps ks d (d.ctxDrained abort c) :=
  ((((Device.Only.refl d).setFld _ _ _ hk).setFld _ _ _ hk).trans (only_updCtx hp _ _ _)).trans (only_updCtx hp _ _ _)

theorem ctxReset_of {tb : Timebase} (hc : c = d.ctxSel) (h : (d.ctx c).st ≠ .resetting) : ctxReset tb d = closeContext c (tb.number + 1)
    { (d.updCtx c fun x => { x with st := .resetting, enabling := false, resume := false }) with
      qm := { (d.updCtx c fun x => { x with st := .resetting, enabling := false, resume := false }).qm with
        reqs := d.qm.reqs.mapVals fun _ q => if q.ctx == c then q.resetCancel else q } } := by
  subst hc
  simp [ctxReset, h]
  rfl

end

section
variable {s : State}

theorem ctx_flush (d : Device) (tb : Timebase) (k : Nat) : (d.flush tb).ctx k = d.ctx k := by
  unfold Device.ctx
  rw [Device.flush_qm]

variable (hph : s.dev.power.phase ≠ .rom)
include hph

theorem ctxEnable_ends (c : Nat) (hc : c = s.dev.ctxSel) (h : (s.dev.ctx c).st = .off) :
    Ends .ctxEnable s (fun t => s.frame [.port, .qm] [inst R.QM_CTX_CTRL c] t ∧
      t.dev.fld (inst R.QM_CTX_CTRL c) 31 31 = 1 ∧
      t.dev.qm = { s.dev.qm with ctxs := s.dev.qm.ctxs.set c { s.dev.ctx c with enabling := true } }) := by
  have honly : Device.Only [.port, .qm] [inst R.QM_CTX_CTRL c] s.dev.dropPend
      ((s.dev.dropPend.setFld (inst R.QM_CTX_CTRL c) 31 31 1).updCtx c fun x => { x with enabling := true }) :=
    ((Device.Only.refl _).setFld _ _ _ (by simp)).trans (only_updCtx (by simp) _ _ _)
  refine ends_onReg rfl hph (by simp) (ctxEnable_off (d := s.dev.dropPend) hc h) honly fun t ht hfr => ⟨hfr, ?_, ?_⟩
  · exact fld_of_setFld ht rfl (inst_notEvent (by decide) c) (by decide) (by decide) (by decide)
  · rw [ht, Device.flush_qm]
    rfl

/-- A context all queue pairs of which are disabled begins to drain. -/
theorem ctxDisable_ends (c m : Nat) (hc : c = s.dev.ctxSel) (h : (s.dev.ctx c).st = .active) (hq : s.dev.liveQps c = []) :
    Ends (.ctxDisable m) s (fun t =>
      s.frame [.port, .qm] [inst R.QM_CTX_CTRL c] t ∧ t.dev.fld (inst R.QM_CTX_CTRL c) 31 31 = 0 ∧
      (t.dev.ctx c).st = .draining ∧ ∀ k, k ≠ c → t.dev.ctx k = s.dev.ctx k) := by
  refine ends_onReg rfl hph (by simp) (ctxDisable_active (d := s.dev.dropPend) hc h hq) (only_ctxDrained (by simp) (by simp) _) fun t ht hfr => ⟨hfr, ?_, ?_, fun k hk => ?_⟩
  · rw [ht, fld_flush _ _ (inst_notEvent (by decide) c), enable_ctxDrained]
  · rw [ht, ctx_flush, ctx_ctxDrained, if_pos rfl]
  · rw [ht, ctx_flush, ctx_ctxDrained, if_neg (Ne.symm hk)]
    rfl

theorem ctxReset_ends (c : Nat) (hc : c = s.dev.ctxSel) (h : (s.dev.ctx c).st ≠ .resetting) :
    Ends .ctxReset s (fun t => s.frame [.port, .qm, .plots] [] t ∧ (t.dev.ctx c).st = .resetting ∧
      (∀ k, k ≠ c → t.dev.ctx k = s.dev.ctx k) ∧
      (∀ k q, s.dev.req? k = some q → t.dev.req? k = some (if q.ctx = c then q.resetCancel else q)) ∧
      t.dev.plots = { s.dev.plots with handoffs := t.dev.plots.handoffs } ∧
      ∀ k h, s.dev.handoff? k = some h → t.dev.handoff? k = some
        (if h.ctx = c ∧ furLt (s.tb.number + 1) h.deadline = true then { h with deadline := s.tb.number + 1 } else h)) := by
  refine ends_onReg rfl hph (by simp) (ctxReset_of (d := s.dev.dropPend) hc h) (.of_regs [.qm, .plots] rfl (by simp) rfl)
    fun t ht hfr => ⟨hfr, ?_, fun k hk => ?_, fun k q hq => ?_, ?_, fun k x hx => ?_⟩
  · rw [ht, ctx_flush]
    exact congrArg Context.st ((ctx_setCtx _ _ _ _).trans (if_pos rfl))
  · rw [ht, ctx_flush]
    exact (ctx_setCtx _ _ _ _).trans (if_neg (Ne.symm hk))
  · unfold Device.req? at hq ⊢
    rw [ht, Device.flush_qm]
    refine (Tbl.get?_mapVals s.dev.qm.reqs (fun q => if q.ctx == c then q.resetCancel else q) k).trans ?_
    simp [hq]
  · rw [ht, Device.flush_plots]
    rfl
  · unfold Device.handoff? at hx ⊢
    rw [ht, Device.flush_plots]
    refine (Tbl.get?_mapVals s.dev.plots.handoffs (fun x => if x.ctx == c && furLt (s.tb.number + 1) x.deadline then
      { x with deadline := s.tb.number + 1 } else x) k).trans ?_
    simp [hx]

theorem ctxResume_ends (c : Nat) (hc : c = s.dev.ctxSel) (h : (s.dev.ctx c).st = .faulted) :
    Ends .ctxResume s (fun t => s.frame [.port, .qm] [] t ∧
      t.dev.qm = { s.dev.qm with ctxs := s.dev.qm.ctxs.set c { s.dev.ctx c with resume := true } }) := by
  have honly : Device.Only [.port, .qm] [] s.dev.dropPend (s.dev.dropPend.updCtx c fun x => { x with resume := true }) :=
    only_updCtx (by simp) _ _ _
  refine ends_onReg rfl hph (by simp) (ctxResume_faulted (d := s.dev.dropPend) hc h) honly
    fun t ht hfr => ⟨hfr, ?_⟩
  rw [ht, Device.flush_qm]
  rfl

theorem winCommit_ends : Ends .winCommit s (fun t => s.frame [.port, .qm] [] t ∧
    t.dev.qm = { s.dev.qm with checks := s.dev.qm.checks ++
      [(s.dev.ctxSel, s.dev.winSel, s.dev.stagedWin s.dev.ctxSel s.dev.winSel)] }) := by
  refine ends_onReg rfl hph (by simp) (f := fun _ d => winCommit d) rfl (.of_regs [.qm] rfl (by simp) rfl) fun t ht hfr => ⟨hfr, ?_⟩
  rw [ht, Device.flush_qm]
  rfl

end

/-! ### The staged definition of a window -/

section
variable {d : Device} {c n : Nat}

theorem winReg_ne {a b : Nat} (h : a % 2 ^ 32 ≠ b % 2 ^ 32) (c n : Nat) : winReg a c n ≠ winReg b c n := by
  unfold winReg inst
  omega

/-- The registers of a window hold the definition. -/
theorem stagedWin_of {w : Window} (ht : d.fld (winReg R.QM_WIN_ATTR c n) 31 30 = w.tier)
    (hp : d.fld (winReg R.QM_WIN_ATTR c n) 29 29 = boolBit w.perm)
    (hbl : d.reg (winReg R.QM_WIN_BASE_LO c n) = w.base % 2 ^ 32) (hbh : d.reg (winReg R.QM_WIN_BASE_HI c n) = w.base / 2 ^ 32 % 2 ^ 32)
    (hsl : d.reg (winReg R.QM_WIN_SIZE_LO c n) = w.size % 2 ^ 32) (hsh : d.reg (winReg R.QM_WIN_SIZE_HI c n) = w.size / 2 ^ 32 % 2 ^ 32)
    (hb : w.base < 2 ^ 44) (hs : w.size < 2 ^ 44) : d.stagedWin c n = w := by
  obtain ⟨tier, perm, base, size⟩ := w
  unfold Device.stagedWin
  rw [ht, hp, hbl, hbh, hsl, hsh]
  congr 1
  · cases perm <;> rfl
  · dsimp only at hb ⊢
    omega
  · dsimp only at hs ⊢
    omega

theorem only_winFetch {ps : List DevPart} (d : Device) : Device.Only ps [winReg R.QM_WIN_ATTR d.ctxSel d.winSel,
    winReg R.QM_WIN_BASE_LO d.ctxSel d.winSel, winReg R.QM_WIN_BASE_HI d.ctxSel d.winSel, winReg R.QM_WIN_SIZE_LO d.ctxSel d.winSel,
    winReg R.QM_WIN_SIZE_HI d.ctxSel d.winSel] d (winFetch d) :=
  ((((((Device.Only.refl _).setFld _ _ _ (by simp)).setFld _ _ _ (by simp)).setReg _ (by simp)).setReg _ (by simp)).setReg _
    (by simp)).setReg _ (by simp)

theorem stagedWin_winFetch (hc : c = d.ctxSel) (hn : n = d.winSel) (htier : ((d.ctx c).win n).tier < 4)
    (hb : ((d.ctx c).win n).base < 2 ^ 44) (hs : ((d.ctx c).win n).size < 2 ^ 44) : (winFetch d).stagedWin c n = (d.ctx c).win n := by
  have hbit (b : Bool) : boolBit b < 2 := by cases b <;> decide
  subst hc hn
  have hne {a b : Nat} (h : a % 2 ^ 32 ≠ b % 2 ^ 32) := winReg_ne h d.ctxSel d.winSel
  refine stagedWin_of ?_ ?_ ?_ ?_ ?_ ?_ hb hs <;> unfold winFetch
  · unfold Device.fld
    rw [reg_setReg_ne _ _ (hne (by decide)), reg_setReg_ne _ _ (hne (by decide)), reg_setReg_ne _ _ (hne (by decide)),
      reg_setReg_ne _ _ (hne (by decide))]
    exact (fld_setFld_other _ (by decide) (by decide) _ (by decide) (regRst_lt _) (.inr (by decide))).trans
      ((fld_setFld _ _ (by decide) (by decide) _).trans (Nat.mod_eq_of_lt htier))
  · unfold Device.fld
    rw [reg_setReg_ne _ _ (hne (by decide)), reg_setReg_ne _ _ (hne (by decide)), reg_setReg_ne _ _ (hne (by decide)),
      reg_setReg_ne _ _ (hne (by decide))]
    exact (fld_setFld _ _ (by decide) (by decide) _).trans (Nat.mod_eq_of_lt (hbit _))
  · rw [reg_setReg_ne _ _ (hne (by decide)), reg_setReg_ne _ _ (hne (by decide)), reg_setReg_ne _ _ (hne (by decide)), reg_setReg_self]
  · rw [reg_setReg_ne _ _ (hne (by decide)), reg_setReg_ne _ _ (hne (by decide)), reg_setReg_self]
  · rw [reg_setReg_ne _ _ (hne (by decide)), reg_setReg_self]
  · rw [reg_setReg_self]

end

section
variable {s : State}

theorem winFetch_ends (hph : s.dev.power.phase ≠ .rom) (c n : Nat) (hc : c = s.dev.ctxSel) (hn : n = s.dev.winSel)
    (htier : ((s.dev.ctx c).win n).tier < 4) (hb : ((s.dev.ctx c).win n).base < 2 ^ 44) (hs : ((s.dev.ctx c).win n).size < 2 ^ 44) :
    Ends .winFetch s (fun t => s.frame [.port] [winReg R.QM_WIN_ATTR c n, winReg R.QM_WIN_BASE_LO c n,
        winReg R.QM_WIN_BASE_HI c n, winReg R.QM_WIN_SIZE_LO c n, winReg R.QM_WIN_SIZE_HI c n] t ∧
        t.dev.stagedWin c n = (s.dev.ctx c).win n) := by
  have hstaged : (winFetch s.dev.dropPend).stagedWin c n = (s.dev.ctx c).win n :=
    stagedWin_winFetch (d := s.dev.dropPend) hc hn htier hb hs
  have honly : Device.Only [.port] [winReg R.QM_WIN_ATTR c n, winReg R.QM_WIN_BASE_LO c n, winReg R.QM_WIN_BASE_HI c n,
      winReg R.QM_WIN_SIZE_LO c n, winReg R.QM_WIN_SIZE_HI c n] s.dev.dropPend (winFetch s.dev.dropPend) := by
    subst hc hn
    exact only_winFetch s.dev.dropPend
  refine ends_onReg rfl hph (by simp) (f := fun _ d => winFetch d) rfl honly fun t ht hfr => ⟨hfr, ?_⟩
  have hreg (a : Nat) (h : ∀ k ∈ eventRegs, a % 2 ^ 32 ≠ k % 2 ^ 32) : t.dev.reg (winReg a c n) = (winFetch s.dev.dropPend).reg (winReg a c n) := by
    rw [ht]
    exact reg_flush _ _ (inst_notEvent h _)
  rw [← hstaged]
  unfold Device.stagedWin Device.fld
  rw [hreg _ (by decide), hreg _ (by decide), hreg _ (by decide), hreg _ (by decide), hreg _ (by decide)]

theorem winCheckDone_ends (a k : Nat) (w : Window) (l : List (Nat × Nat × Window)) (h : s.dev.qm.checks = (a, k, w) :: l) :
    (winCheck s.dev a w = 0 → Ends .winCheckDone s (fun t => s.frame [.qm] [] t ∧ t.dev.qm.checks = l ∧
        t.dev.ctx a = { s.dev.ctx a with pendWins := (s.dev.ctx a).pendWins.set k w } ∧
        t.dev.qm.winLast.get? (16 * a + k) = some 0)) ∧
    (s.settled → winCheck s.dev a w ≠ 0 → Ends .winCheckDone s (fun t => s.frame [.qm] [] t ∧ t.dev.qm.checks = l ∧
        t.dev.qm.ctxs = s.dev.qm.ctxs ∧ s.raised ⟨0x0B03, 4, some a, [(1, k), (1, winCheck s.dev a w)]⟩ t)) := by
  have heff : winCheckDone s.dev = if winCheck s.dev a w != 0 then
      { s.dev with qm := { s.dev.qm with checks := l, winLast := s.dev.qm.winLast.set (16 * a + k) (winCheck s.dev a w) } }.raiseCtx 0x0B03 a
        [(1, k), (1, winCheck s.dev a w)]
      else { s.dev with qm := { s.dev.qm with checks := l, winLast := s.dev.qm.winLast.set (16 * a + k) (winCheck s.dev a w) } }.setCtx a
        { s.dev.ctx a with pendWins := (s.dev.ctx a).pendWins.set k w } := by
    unfold winCheckDone
    rw [h]
    rfl
  have hput (x : QueueUnit) : Device.Only [.qm] [] s.dev { s.dev with qm := x } := .of_regs [.qm] rfl (by simp) rfl
  refine ⟨fun h0 => ?_, fun hset h0 => ?_⟩
  · refine ends_onDev (f := fun _ d => winCheckDone d) rfl (heff.trans (if_neg (by simp [h0]))) (hput _) fun t ht hfr => ⟨hfr, ?_, ?_, ?_⟩
    · rw [ht, Device.flush_qm]
      rfl
    · rw [ht, ctx_flush, ctx_setCtx, if_pos rfl]
    · rw [ht, Device.flush_qm, h0]
      exact Tbl.get?_set_self _ _ _
  · refine ends_onDev (f := fun _ d => winCheckDone d) rfl (heff.trans (if_pos (by simp [h0]))) ((hput _).raiseCtx _ _ _)
      fun t ht hfr => ⟨hfr, ?_, ?_, raised_of_ev (by rfl) hset ht⟩
    · rw [ht, Device.flush_qm]
      rfl
    · rw [ht, Device.flush_qm]
      rfl

/-! ### The reserves -/

theorem ctxResWrite_passes {d : Device} {c v : Nat} (h : resReason d c (bits 28 16 v * 65536 + bits 11 0 v) = 0) : ctxResWrite c v d =
    { d with qm := { d.qm with stagedRes := d.qm.stagedRes.set c (bits 28 16 v * 65536 + bits 11 0 v) } }.setFld R.QM_CFG_STATUS 23 16 0 := by
  simp [ctxResWrite, h]

theorem classesWrite_passes {d : Device} {c v : Nat} (h : classesOk d c v = true) : classesWrite c v d =
    { d with qm := { d.qm with stagedClasses := d.qm.stagedClasses.set c v } }.setFld R.QM_CFG_STATUS 23 16 0 := by
  simp [classesWrite, h]

theorem c0Write_passes {d : Device} {a v : Nat} (h : c0Reason d a (c0Bits a v) = 0) : c0Write a v d =
    { d with qm := { d.qm with stagedC0 := d.qm.stagedC0.set a (c0Bits a v) } }.setFld R.QM_CFG_STATUS 23 16 0 := by
  simp [c0Write, h]

/-- A checked write that passes is staged, with status 0. -/
theorem qmResWrite_passes (hph : s.dev.power.phase ≠ .rom) {a v : Nat} (x : QueueUnit)
    (heff : resWrite a (v % 2 ^ 32) s.dev.dropPend = { s.dev.dropPend with qm := x }.setFld R.QM_CFG_STATUS 23 16 0) :
    Ends (.qmResWrite a v) s (fun t => s.frame [.port, .qm] [R.QM_CFG_STATUS] t ∧ t.dev.fld R.QM_CFG_STATUS 23 16 = 0 ∧ t.dev.qm = x) := by
  have hput : Device.Only [.port, .qm] [R.QM_CFG_STATUS] s.dev.dropPend { s.dev.dropPend with qm := x } := .of_regs [.qm] rfl (by simp) rfl
  refine ends_onReg rfl hph (by simp) (f := fun _ d => resWrite a (v % 2 ^ 32) d) heff (hput.setFld _ _ _ (by simp)) fun t ht hfr => ⟨hfr, ?_, ?_⟩
  · exact fld_of_setFld ht rfl (by decide) (by decide) (by decide) (by decide)
  · rw [ht, Device.flush_qm]
    rfl

theorem Ends.imp {c : Instr} {P Q : State → Prop} (h : Ends c s P) (hpq : ∀ t, P t → Q t) : Ends c s Q := by
  intro hl
  obtain ⟨t, ht, hp⟩ := h hl
  exact ⟨t, ht, hpq t hp⟩

theorem resWrite_ends (hph : s.dev.power.phase ≠ .rom) (c v : Nat) (hc : c = s.dev.ctxSel) (hv : v < 2 ^ 32) :
    (resReason s.dev c (bits 28 16 v * 65536 + bits 11 0 v) = 0 →
        Ends (.qmResWrite R.QM_CTX_RES v) s (fun t => s.frame [.port, .qm] [R.QM_CFG_STATUS] t ∧
          t.dev.fld R.QM_CFG_STATUS 23 16 = 0 ∧ t.dev.qm = { s.dev.qm with
            stagedRes := s.dev.qm.stagedRes.set c (bits 28 16 v * 65536 + bits 11 0 v) })) ∧
      (classesOk s.dev c (bits 27 25 v) = true →
        Ends (.qmResWrite R.QM_CTX_CTRL v) s (fun t => s.frame [.port, .qm] [R.QM_CFG_STATUS] t ∧
          t.dev.qm = { s.dev.qm with stagedClasses := s.dev.qm.stagedClasses.set c (bits 27 25 v) })) ∧
      (∀ a, a ∈ [R.QM_C0_PREFILL, R.QM_C0_DEPTH, R.QM_C0_SIEVE, R.QM_C0_UNITS] → c0Reason s.dev a (c0Bits a v) = 0 →
        Ends (.qmResWrite a v) s (fun t => s.frame [.port, .qm] [R.QM_CFG_STATUS] t ∧
          t.dev.qm = { s.dev.qm with stagedC0 := s.dev.qm.stagedC0.set a (c0Bits a v) })) := by
  refine ⟨fun h => ?_, fun h => ?_, fun a ha h => ?_⟩
  · refine qmResWrite_passes hph _ ?_
    rw [Nat.mod_eq_of_lt hv]
    subst hc
    exact ctxResWrite_passes (d := s.dev.dropPend) h
  · refine (qmResWrite_passes hph _ ?_).imp fun t ⟨hfr, _, hq⟩ => ⟨hfr, hq⟩
    rw [Nat.mod_eq_of_lt hv]
    subst hc
    exact classesWrite_passes (d := s.dev.dropPend) h
  · refine (qmResWrite_passes hph _ ?_).imp fun t ⟨hfr, _, hq⟩ => ⟨hfr, hq⟩
    rw [Nat.mod_eq_of_lt hv]
    have hw : resWrite a v s.dev.dropPend = c0Write a v s.dev.dropPend := by
      simp only [List.mem_cons, List.not_mem_nil, or_false] at ha
      rcases ha with rfl | rfl | rfl | rfl <;> rfl
    exact hw.trans (c0Write_passes (d := s.dev.dropPend) h)

end

/-- Settles O54: each command of a context leaves what its equation gives; its checks are those of R374 and R395. -/
theorem contextAndWindowCommands : Obligations.ContextAndWindowCommands := by
  intro s hph c n x
  exact ⟨ctxEnable_ends hph c rfl, fun m => ctxDisable_ends hph c m rfl, ctxReset_ends hph c rfl, ctxResume_ends hph c rfl,
    winCommit_ends hph, winFetch_ends hph c n rfl rfl, winCheckDone_ends, fun v => resWrite_ends hph c v rfl⟩

end Sys2Proof.Machine
end

section
/-! PROOFS of the slots of vocabularies, grammars, templates, models and grafts (R319, R336, R339, R349, R354). -/
namespace Sys2Proof.Machine

section
variable {s : State} {ps : List DevPart} {ks : List Nat} {d : Device} {n : Nat}

/-! ### What a slot's command makes of the device -/

theorem only_setVoc (hp : .text ∈ ps) (d : Device) (n : Nat) (v : Option VocSlot) : Device.Only ps ks d (d.setVoc n v) :=
  .of_regs [.text] rfl (by simpa using hp) rfl

theorem only_setGram (hp : .esp ∈ ps) (d : Device) (n : Nat) (v : Option Gram) : Device.Only ps ks d (d.setGram n v) :=
  .of_regs [.esp] rfl (by simpa using hp) rfl

theorem only_setTpl (hp : .pasm ∈ ps) (d : Device) (n : Nat) (v : Option Template) : Device.Only ps ks d (d.setTpl n v) :=
  .of_regs [.pasm] rfl (by simpa using hp) rfl

theorem only_setMdl (hp : .seq ∈ ps) (d : Device) (n : Nat) (v : Option Model) : Device.Only ps ks d (d.setMdl n v) :=
  .of_regs [.seq] rfl (by simpa using hp) rfl

theorem only_setGrf (hp : .seq ∈ ps) (d : Device) (n : Nat) (v : Option SlotSt) : Device.Only ps ks d (d.setGrf n v) :=
  .of_regs [.seq] rfl (by simpa using hp) rfl

theorem textVocLoad_fit (hn : n = d.fld R.TEXT_VOC_SEL 2 0) (h : d.voc? n = none)
    (hs : dataSource d (d.fld (inst R.TEXT_VOC_OBJ n) 15 0) (ownerOf (d.reg (inst R.TEXT_VOC_CFG n))) = none) : textVocLoad d =
    d.setVoc n (some ⟨.loading, ownerOf (d.reg (inst R.TEXT_VOC_CFG n)), d.fld (inst R.TEXT_VOC_OBJ n) 15 0,
      65536 * bits 15 8 (d.reg (inst R.TEXT_VOC_CFG n)), 65536 * bits 7 0 (d.reg (inst R.TEXT_VOC_CFG n)), false, 0, 0, 0, none, 0, 0, 0⟩) := by
  subst hn
  simp [textVocLoad, h, hs]

theorem textVocLoad_unfit {r : Nat} (hn : n = d.fld R.TEXT_VOC_SEL 2 0) (h : d.voc? n = none)
    (hs : dataSource d (d.fld (inst R.TEXT_VOC_OBJ n) 15 0) (ownerOf (d.reg (inst R.TEXT_VOC_CFG n))) = some r) :
    textVocLoad d = vocFail n r d := by
  subst hn
  simp [textVocLoad, h, hs]

theorem textVocUnload_ready {v : VocSlot} (hn : n = d.fld R.TEXT_VOC_SEL 2 0) (h : d.voc? n = some v) (hv : v.st = .ready) :
    textVocUnload d = d.setVoc n (some { v with st := .leaving }) := by
  subst hn
  simp [textVocUnload, h, hv]

theorem espGrmLoad_fit {v : VocSlot} (hn : n = d.fld R.ESP_GRM_SEL 7 0) (h : d.gram? n = none)
    (hs : dataSource d (d.fld (inst R.ESP_GRM_OBJ n) 15 0) (ownerOf (d.reg (inst R.ESP_GRM_CFG n))) = none)
    (hv : d.voc? (bits 2 0 (d.reg (inst R.ESP_GRM_CFG n))) = some v) (hr : v.st = .ready)
    (ho : v.owner = none ∨ v.owner = ownerOf (d.reg (inst R.ESP_GRM_CFG n))) : espGrmLoad d =
    d.setGram n (some ⟨.loading, bit 30 (d.reg (inst R.ESP_GRM_CFG n)), ownerOf (d.reg (inst R.ESP_GRM_CFG n)),
      bits 2 0 (d.reg (inst R.ESP_GRM_CFG n)), d.fld (inst R.ESP_GRM_OBJ n) 15 0, 0, false⟩) := by
  subst hn
  have hown : (v.owner.isSome && v.owner != ownerOf (d.reg (inst R.ESP_GRM_CFG (d.fld R.ESP_GRM_SEL 7 0)))) = false := by
    rcases ho with ho | ho <;> simp [ho]
  simp [espGrmLoad, h, hs, hv, hr, hown]

theorem espGrmRelease_ready {g : Gram} (hn : n = d.fld R.ESP_GRM_SEL 7 0) (h : d.gram? n = some g) (hg : g.st = .ready) :
    espGrmRelease d = d.setGram n (some { g with st := .leaving }) := by
  subst hn
  simp [espGrmRelease, h, hg]

theorem pasmTplLoad_fit (hn : n = d.fld R.PASM_TPL_SEL 7 0) (h : d.tpl? n = none)
    (hs : dataSource d (d.fld (inst R.PASM_TPL_OBJ n) 15 0) (ownerOf (d.reg (inst R.PASM_TPL_CFG n))) = none) : pasmTplLoad d =
    d.setTpl n (some ⟨.loading, ownerOf (d.reg (inst R.PASM_TPL_CFG n)), d.fld (inst R.PASM_TPL_OBJ n) 15 0, 8, 0, 0, [], [], false⟩) := by
  subst hn
  simp [pasmTplLoad, h, hs]

theorem pasmTplRelease_ready {x : Template} (hn : n = d.fld R.PASM_TPL_SEL 7 0) (h : d.tpl? n = some x) (hx : x.st = .ready) :
    pasmTplRelease d = d.setTpl n (some { x with st := .leaving }) := by
  subst hn
  simp [pasmTplRelease, h, hx]

theorem seqMdlLoad_ok {x : Model} (hn : n = d.fld R.SEQ_MDL_SEL 7 0) (h : mdlCheck d n = .ok x) :
    seqMdlLoad d = (d.setMdl n (some x)).setFld (mdlReg R.SEQ_MDL_CMD n) 23 16 0 := by
  subst hn
  simp only [seqMdlLoad, h]

theorem seqMdlLoad_error {r : Nat} (hn : n = d.fld R.SEQ_MDL_SEL 7 0) (h : mdlCheck d n = .error r) :
    seqMdlLoad d = (d.setFld (mdlReg R.SEQ_MDL_CMD n) 23 16 r).raise 0x0A04 [(1, n), (1, r)] := by
  subst hn
  simp only [seqMdlLoad, h]

theorem seqMdlRelease_ready {x : Model} (hn : n = d.fld R.SEQ_MDL_SEL 7 0) (h : d.mdl? n = some x) (hx : x.st = .ready) :
    seqMdlRelease d = d.setMdl n (some { x with st := .leaving }) := by
  subst hn
  simp [seqMdlRelease, h, hx]

theorem seqGrfLoad_fit {o : Obj} (hn : n = d.fld R.SEQ_GRF_SEL 11 0) (h : d.seq.grafts.get? n = none)
    (ho : d.obj? (d.grfObj n) = some o) (hst : o.st = .sealed) (htier : o.tier = 1) (hkind : o.kind = 6) (hown : o.owner = d.grfOwner n) :
    seqGrfLoad d = (d.setFld (grfReg R.SEQ_GRF_CMD n) 23 16 0).setGrf n (some .loading) := by
  subst hn
  simp [seqGrfLoad, h, ho, hst, htier, hkind, hown]

theorem seqGrfRelease_ready (hn : n = d.fld R.SEQ_GRF_SEL 11 0) (h : d.seq.grafts.get? n = some .ready) :
    seqGrfRelease d = d.setGrf n (some .leaving) := by
  subst hn
  simp [seqGrfRelease, h]

theorem vocCheckDone_ok {v v' : VocSlot} {o : Obj} (h : d.voc? n = some v) (hl : v.st = .loading) (hp : v.passed = false)
    (hc : vocCheck d n v = .ok v') (ho : d.obj? v.obj = some o) : vocCheckDone n d =
    { (d.setVoc n (some v')).setFld (inst R.TEXT_VOC_CMD n) 23 16 0 with
      text := { d.text with
        vocs := d.text.vocs.set n v'
        vocMem := d.text.vocMem.paste v.base (8 * v'.nodes + 4 * v'.edges) (d.mem.cut (o.base + 64) (8 * v'.nodes + 4 * v'.edges)) } } := by
  simp [vocCheckDone, h, hl, hp, hc, ho, Device.setFld, Device.setReg, Device.setVoc]

theorem vocCheckDone_error {v : VocSlot} {r : Nat} (h : d.voc? n = some v) (hl : v.st = .loading) (hp : v.passed = false)
    (hc : vocCheck d n v = .error r) : vocCheckDone n d = vocFail n r (d.setVoc n none) := by
  simp [vocCheckDone, h, hl, hp, hc]

section
variable {tb : Timebase} {g : Gram} {o : Obj} {v : VocSlot} (h : d.gram? n = some g) (hl : g.st = .loading) (hp : g.passed = false)
  (ho : d.obj? g.obj = some o) (hv : d.voc? g.vocab = some v)
include h hl hp ho hv

theorem grammarCompileDone_allow (ha : g.allow = true) (hlen : (v.tokens + 7) / 8 ≤ o.size) : grammarCompileDone n tb d =
    (d.setGram n (some { g with passed := true })).setFld (inst R.ESP_GRM_CMD n) 23 16 0 := by
  simp [grammarCompileDone, h, hl, hp, ho, hv, ha, Nat.not_lt.mpr hlen]

theorem grammarCompileDone_bad (ha : g.allow = false) (hauto : autoOk d.mem o.base o.size = false) :
    grammarCompileDone n tb d = gramFail n 1 [] (d.setGram n none) := by
  simp [grammarCompileDone, h, hl, hp, ho, hv, ha, hauto]

theorem grammarCompileDone_compiled (ha : g.allow = false) (hauto : autoOk d.mem o.base o.size = true)
    (hdep : tooDependent (readAuto d.mem o.base) (d.vocArrays v) v.tokens = none) {id : Nat} {e : Device}
    (hd : createCompiled tb g.owner (compiledImage (readAuto d.mem o.base) (d.vocArrays v) v.tokens) d = some (id, e)) :
    grammarCompileDone n tb d =
      (e.setGram n (some { g with passed := true, compiled := id })).setFld (inst R.ESP_GRM_CMD n) 23 16 0 := by
  simp [grammarCompileDone, h, hl, hp, ho, hv, ha, hauto, hdep, hd]

end

/-- R336: what the object of a compiled grammar changes. -/
theorem createCompiled_merge {tb : Timebase} {owner : Option Nat} {img : List Byte} {id : Nat} {e : Device}
    (h : createCompiled tb owner img d = some (id, e)) : e = { d with mem := e.mem, store := e.store } := by
  unfold createCompiled at h
  split at h
  · simp only [Option.some.injEq, Prod.mk.injEq] at h
    obtain ⟨_, rfl⟩ := h
    rfl
  · cases h

theorem only_createCompiled {tb : Timebase} {owner : Option Nat} {img : List Byte} {id : Nat} {e : Device} (hm : .mem ∈ ps)
    (hs : .store ∈ ps) (h : createCompiled tb owner img d = some (id, e)) : Device.Only ps ks d e := by
  have hqs : ([.mem, .store] : List DevPart) ⊆ ps := by simp [hm, hs]
  rw [createCompiled_merge h]
  exact .of_regs [.mem, .store] rfl hqs rfl

theorem templateLoadDone_ok {x y : Template} (h : d.tpl? n = some x) (hl : x.st = .loading) (hp : x.passed = false)
    (hc : tplCheck d x = .ok y) : templateLoadDone n d = (d.setTpl n (some y)).setFld (inst R.PASM_TPL_CMD n) 23 16 0 := by
  simp [templateLoadDone, h, hl, hp, hc]

theorem templateLoadDone_error {x : Template} {r : Nat} (h : d.tpl? n = some x) (hl : x.st = .loading) (hp : x.passed = false)
    (hc : tplCheck d x = .error r) : templateLoadDone n d = tplEnd n r (d.setTpl n none) := by
  simp [templateLoadDone, h, hl, hp, hc]

end

/-! ### The loads and the releases -/

section
variable {s : State} (hph : s.dev.power.phase ≠ .rom)
include hph

/-- A load that fails leaves its reason and raises its event. -/
theorem loadFails {c : Instr} {f : Timebase → Device → Device} (he : exec c s = .next (s.onReg f)) (hset : s.settled) {a n code r : Nat}
    {pay : List (Nat × Nat)} (ha : ∀ k ∈ eventRegs, a % 2 ^ 32 ≠ k % 2 ^ 32)
    (hf : f s.tb s.dev.dropPend = (s.dev.dropPend.setFld (inst a n) 23 16 r).raise code pay) :
    Ends c s (fun t => s.frame [.port] [inst a n] t ∧ s.raised ⟨code, 4, none, pay⟩ t ∧ t.dev.fld (inst a n) 23 16 = r % 256) := by
  refine ends_onReg he hph (by simp) hf (((Device.Only.refl _).setFld _ _ _ (by simp)).raise _ _)
    fun t ht hfr => ⟨hfr, raised_of_ev (by rfl) hset ht, ?_⟩
  rw [ht, fld_flush _ _ (inst_notEvent ha n)]
  exact fld_setFld _ _ (by decide) (by decide) r

theorem voc_slots (n cfg obj : Nat) (hn : n = s.dev.fld R.TEXT_VOC_SEL 2 0) (hc : cfg = s.dev.reg (inst R.TEXT_VOC_CFG n))
    (ho : obj = s.dev.fld (inst R.TEXT_VOC_OBJ n) 15 0) :
    (s.dev.voc? n = none → dataSource s.dev obj (ownerOf cfg) = none →
       Ends .textVocLoad s (fun t => s.frame [.port, .text] [] t ∧ t.dev.voc? n = some
         ⟨.loading, ownerOf cfg, obj, 65536 * bits 15 8 cfg, 65536 * bits 7 0 cfg, false, 0, 0, 0, none, 0, 0, 0⟩ ∧
         ∀ k, k ≠ n → t.dev.voc? k = s.dev.voc? k)) ∧
    (s.settled → ∀ r, s.dev.voc? n = none → dataSource s.dev obj (ownerOf cfg) = some r →
       Ends .textVocLoad s (fun t => s.frame [.port] [inst R.TEXT_VOC_CMD n] t ∧
         s.raised ⟨0x0902, 4, none, [(1, n), (1, r)]⟩ t ∧ t.dev.fld (inst R.TEXT_VOC_CMD n) 23 16 = r % 256)) ∧
    (∀ v, s.dev.voc? n = some v → v.st = .ready → Ends .textVocUnload s (fun t => s.frame [.port, .text] [] t ∧
       t.dev.text = { s.dev.text with vocs := s.dev.text.vocs.set n { v with st := .leaving } })) := by
  subst hc ho
  refine ⟨fun h hs => ?_, fun hset r h hs => ?_, fun v h hv => ?_⟩
  · refine ends_onReg rfl hph (by simp) (f := fun _ d => textVocLoad d) (textVocLoad_fit (d := s.dev.dropPend) hn h hs)
      (only_setVoc (by simp) _ _ _) fun t ht hfr => ⟨hfr, ?_, fun k hk => ?_⟩
    · unfold Device.voc?
      rw [ht, Device.flush_text]
      exact Tbl.get?_set_self _ _ _
    · unfold Device.voc?
      rw [ht, Device.flush_text]
      exact Tbl.get?_set_ne _ _ (Ne.symm hk)
  · exact loadFails hph (f := fun _ d => textVocLoad d) rfl hset (by decide) (textVocLoad_unfit (d := s.dev.dropPend) hn h hs)
  · refine ends_onReg rfl hph (by simp) (f := fun _ d => textVocUnload d) (textVocUnload_ready (d := s.dev.dropPend) hn h hv)
      (only_setVoc (by simp) _ _ _) fun t ht hfr => ⟨hfr, ?_⟩
    rw [ht, Device.flush_text]
    rfl

theorem gram_slots (n cfg obj : Nat) (hn : n = s.dev.fld R.ESP_GRM_SEL 7 0) (hc : cfg = s.dev.reg (inst R.ESP_GRM_CFG n))
    (ho : obj = s.dev.fld (inst R.ESP_GRM_OBJ n) 15 0) :
    (∀ v, s.dev.gram? n = none → dataSource s.dev obj (ownerOf cfg) = none → s.dev.voc? (bits 2 0 cfg) = some v →
       v.st = .ready → v.owner = none ∨ v.owner = ownerOf cfg →
       Ends .espGrmLoad s (fun t => s.frame [.port, .esp] [] t ∧ t.dev.esp = { s.dev.esp with
         grams := s.dev.esp.grams.set n ⟨.loading, bit 30 cfg, ownerOf cfg, bits 2 0 cfg, obj, 0, false⟩ })) ∧
    (∀ g, s.dev.gram? n = some g → g.st = .ready → Ends .espGrmRelease s (fun t => s.frame [.port, .esp] [] t ∧
       t.dev.esp = { s.dev.esp with grams := s.dev.esp.grams.set n { g with st := .leaving } })) := by
  subst hc ho
  refine ⟨fun v h hs hv hr hown => ?_, fun g h hg => ?_⟩
  · refine ends_onReg rfl hph (by simp) (f := fun _ d => espGrmLoad d) (espGrmLoad_fit (d := s.dev.dropPend) hn h hs hv hr hown)
      (only_setGram (by simp) _ _ _) fun t ht hfr => ⟨hfr, ?_⟩
    rw [ht, Device.flush_esp]
    rfl
  · refine ends_onReg rfl hph (by simp) (f := fun _ d => espGrmRelease d) (espGrmRelease_ready (d := s.dev.dropPend) hn h hg)
      (only_setGram (by simp) _ _ _) fun t ht hfr => ⟨hfr, ?_⟩
    rw [ht, Device.flush_esp]
    rfl

theorem tpl_slots (n cfg obj : Nat) (hn : n = s.dev.fld R.PASM_TPL_SEL 7 0) (hc : cfg = s.dev.reg (inst R.PASM_TPL_CFG n))
    (ho : obj = s.dev.fld (inst R.PASM_TPL_OBJ n) 15 0) :
    (s.dev.tpl? n = none → dataSource s.dev obj (ownerOf cfg) = none →
       Ends .pasmTplLoad s (fun t => s.frame [.port, .pasm] [] t ∧
         ∃ x, t.dev.pasm = { s.dev.pasm with tpls := s.dev.pasm.tpls.set n x } ∧ x.st = .loading ∧ x.owner = ownerOf cfg ∧
           x.obj = obj ∧ x.passed = false)) ∧
    (∀ x, s.dev.tpl? n = some x → x.st = .ready → Ends .pasmTplRelease s (fun t => s.frame [.port, .pasm] [] t ∧
       t.dev.pasm = { s.dev.pasm with tpls := s.dev.pasm.tpls.set n { x with st := .leaving } })) := by
  subst hc ho
  refine ⟨fun h hs => ?_, fun x h hx => ?_⟩
  · refine ends_onReg rfl hph (by simp) (f := fun _ d => pasmTplLoad d) (pasmTplLoad_fit (d := s.dev.dropPend) hn h hs)
      (only_setTpl (by simp) _ _ _) fun t ht hfr => ⟨hfr, ⟨.loading, _, _, 8, 0, 0, [], [], false⟩, ?_, rfl, rfl, rfl, rfl⟩
    rw [ht, Device.flush_pasm]
    rfl
  · refine ends_onReg rfl hph (by simp) (f := fun _ d => pasmTplRelease d) (pasmTplRelease_ready (d := s.dev.dropPend) hn h hx)
      (only_setTpl (by simp) _ _ _) fun t ht hfr => ⟨hfr, ?_⟩
    rw [ht, Device.flush_pasm]
    rfl

theorem mdl_slots (n : Nat) (hn : n = s.dev.fld R.SEQ_MDL_SEL 7 0) :
    (∀ x, mdlCheck s.dev n = .ok x → Ends .seqMdlLoad s (fun t => s.frame [.port, .seq] [mdlReg R.SEQ_MDL_CMD n] t ∧
       t.dev.seq = { s.dev.seq with models := s.dev.seq.models.set n x } ∧ t.dev.fld (mdlReg R.SEQ_MDL_CMD n) 23 16 = 0)) ∧
    (s.settled → ∀ r, mdlCheck s.dev n = .error r →
       Ends .seqMdlLoad s (fun t => s.frame [.port] [mdlReg R.SEQ_MDL_CMD n] t ∧
         s.raised ⟨0x0A04, 4, none, [(1, n), (1, r)]⟩ t)) ∧
    (∀ x, s.dev.mdl? n = some x → x.st = .ready → Ends .seqMdlRelease s (fun t => s.frame [.port, .seq] [] t ∧
       t.dev.seq = { s.dev.seq with models := s.dev.seq.models.set n { x with st := .leaving } })) := by
  refine ⟨fun x h => ?_, fun hset r h => ?_, fun x h hx => ?_⟩
  · refine ends_onReg rfl hph (by simp) (f := fun _ d => seqMdlLoad d) (seqMdlLoad_ok (d := s.dev.dropPend) hn h)
      ((only_setMdl (by simp) _ _ _).setFld _ _ _ (by simp)) fun t ht hfr => ⟨hfr, ?_, ?_⟩
    · rw [ht, Device.flush_seq]
      rfl
    · exact fld_of_setFld ht rfl (inst_notEvent (by decide) n) (by decide) (by decide) (by decide)
  · exact (loadFails hph (f := fun _ d => seqMdlLoad d) rfl hset (by decide) (seqMdlLoad_error (d := s.dev.dropPend) hn h)).imp
      fun t ⟨hfr, hev, _⟩ => ⟨hfr, hev⟩
  · refine ends_onReg rfl hph (by simp) (f := fun _ d => seqMdlRelease d) (seqMdlRelease_ready (d := s.dev.dropPend) hn h hx)
      (only_setMdl (by simp) _ _ _) fun t ht hfr => ⟨hfr, ?_⟩
    rw [ht, Device.flush_seq]
    rfl

theorem grf_slots (g : Nat) (hg : g = s.dev.fld R.SEQ_GRF_SEL 11 0) :
    (∀ o, s.dev.seq.grafts.get? g = none → s.dev.obj? (s.dev.grfObj g) = some o → o.st = .sealed → o.tier = 1 → o.kind = 6 →
       o.owner = s.dev.grfOwner g → Ends .seqGrfLoad s (fun t => s.frame [.port, .seq] [grfReg R.SEQ_GRF_CMD g] t ∧
         t.dev.seq = { s.dev.seq with grafts := s.dev.seq.grafts.set g .loading } ∧
         t.dev.fld (grfReg R.SEQ_GRF_CMD g) 23 16 = 0)) ∧
    (s.dev.seq.grafts.get? g = some .ready → Ends .seqGrfRelease s (fun t => s.frame [.port, .seq] [] t ∧
       t.dev.seq = { s.dev.seq with grafts := s.dev.seq.grafts.set g .leaving })) := by
  refine ⟨fun o h ho hst htier hkind hown => ?_, fun h => ?_⟩
  · refine ends_onReg rfl hph (by simp) (f := fun _ d => seqGrfLoad d) (seqGrfLoad_fit (d := s.dev.dropPend) hg h ho hst htier hkind hown)
      (((Device.Only.refl _).setFld _ _ _ (by simp)).trans (only_setGrf (by simp) _ _ _)) fun t ht hfr => ⟨hfr, ?_, ?_⟩
    · rw [ht, Device.flush_seq]
      rfl
    · exact fld_of_setFld ht rfl (inst_notEvent (by decide) g) (by decide) (by decide) (by decide)
  · refine ends_onReg rfl hph (by simp) (f := fun _ d => seqGrfRelease d) (seqGrfRelease_ready (d := s.dev.dropPend) hg h)
      (only_setGrf (by simp) _ _ _) fun t ht hfr => ⟨hfr, ?_⟩
    rw [ht, Device.flush_seq]
    rfl

end

/-! ### The checks -/

section
variable {s : State} (n : Nat) (hset : s.settled)
include hset

theorem voc_check (v : VocSlot) (h : s.dev.voc? n = some v) (hl : v.st = .loading) (hp : v.passed = false) :
    (∀ v' o, vocCheck s.dev n v = .ok v' → s.dev.obj? v.obj = some o →
        Ends (.vocCheckDone n) s (fun t => s.frame [.text] [inst R.TEXT_VOC_CMD n] t ∧
          t.dev.fld (inst R.TEXT_VOC_CMD n) 23 16 = 0 ∧ t.dev.text = { s.dev.text with
            vocs := s.dev.text.vocs.set n v',
            vocMem := s.dev.text.vocMem.paste v.base (8 * v'.nodes + 4 * v'.edges)
              (s.dev.mem.cut (o.base + 64) (8 * v'.nodes + 4 * v'.edges)) })) ∧
      (∀ r, vocCheck s.dev n v = .error r →
        Ends (.vocCheckDone n) s (fun t => s.frame [.text] [inst R.TEXT_VOC_CMD n] t ∧
          t.dev.text = { s.dev.text with vocs := s.dev.text.vocs.del n } ∧
          s.raised ⟨0x0902, 4, none, [(1, n), (1, r)]⟩ t)) := by
  refine ⟨fun v' o hc ho => ?_, fun r hc => ?_⟩
  · refine ends_onDev (f := fun _ d => vocCheckDone n d) rfl (vocCheckDone_ok h hl hp hc ho)
      (((only_setVoc (by simp) _ _ _).setFld _ _ _ (by simp)).trans (.of_regs [.text] rfl (by simp) rfl)) fun t ht hfr => ⟨hfr, ?_, ?_⟩
    · exact fld_of_setFld ht rfl (inst_notEvent (by decide) n) (by decide) (by decide) (by decide)
    · rw [ht, Device.flush_text]
  · refine ends_onDev (f := fun _ d => vocCheckDone n d) rfl (vocCheckDone_error h hl hp hc) (((only_setVoc (by simp) _ _ _).setFld _ _ _ (by simp)).raise _ _)
      fun t ht hfr => ⟨hfr, ?_, raised_of_ev (by rfl) hset ht⟩
    rw [ht, Device.flush_text]
    rfl

theorem gram_check (g : Gram) (o : Obj) (v : VocSlot) (h : s.dev.gram? n = some g) (hl : g.st = .loading) (hp : g.passed = false)
    (ho : s.dev.obj? g.obj = some o) (hv : s.dev.voc? g.vocab = some v) :
    (g.allow = true → (v.tokens + 7) / 8 ≤ o.size →
        Ends (.grammarCompileDone n) s (fun t => s.frame [.esp] [inst R.ESP_GRM_CMD n] t ∧
          t.dev.esp = { s.dev.esp with grams := s.dev.esp.grams.set n { g with passed := true } })) ∧
      (g.allow = false → autoOk s.dev.mem o.base o.size = false →
        Ends (.grammarCompileDone n) s (fun t => s.frame [.esp] [inst R.ESP_GRM_CMD n] t ∧
          t.dev.esp = { s.dev.esp with grams := s.dev.esp.grams.del n } ∧
          s.raised ⟨0x0905, 4, none, [(1, n), (1, 1)]⟩ t)) ∧
      (g.allow = false → autoOk s.dev.mem o.base o.size = true →
        tooDependent (readAuto s.dev.mem o.base) (s.dev.vocArrays v) v.tokens = none →
        ∀ id d, createCompiled s.tb g.owner (compiledImage (readAuto s.dev.mem o.base) (s.dev.vocArrays v) v.tokens) s.dev =
          some (id, d) →
        Ends (.grammarCompileDone n) s (fun t => s.frame [.esp, .mem, .store] [inst R.ESP_GRM_CMD n] t ∧
          t.dev.mem = d.mem ∧ t.dev.store = d.store ∧
          t.dev.esp = { s.dev.esp with grams := s.dev.esp.grams.set n { g with passed := true, compiled := id } })) := by
  refine ⟨fun ha hlen => ?_, fun ha hauto => ?_, fun ha hauto hdep id d hd => ?_⟩
  · refine ends_onDev rfl (grammarCompileDone_allow h hl hp ho hv ha hlen) ((only_setGram (by simp) _ _ _).setFld _ _ _ (by simp)) fun t ht hfr => ⟨hfr, ?_⟩
    rw [ht, Device.flush_esp]
    rfl
  · refine ends_onDev rfl (grammarCompileDone_bad h hl hp ho hv ha hauto) (((only_setGram (by simp) _ _ _).setFld _ _ _ (by simp)).raise _ _)
      fun t ht hfr => ⟨hfr, ?_, raised_of_ev (by rfl) hset ht⟩
    rw [ht, Device.flush_esp]
    rfl
  · have hmerge := createCompiled_merge hd
    have hmade : Device.Only [.esp, .mem, .store] [inst R.ESP_GRM_CMD n] s.dev d := only_createCompiled (by simp) (by simp) hd
    refine ends_onDev rfl (grammarCompileDone_compiled h hl hp ho hv ha hauto hdep hd) ((hmade.trans (only_setGram (by simp) _ _ _)).setFld _ _ _ (by simp)) fun t ht hfr => ⟨hfr, ?_, ?_, ?_⟩
    · rw [ht, Device.flush_mem]
      rfl
    · rw [ht, Device.flush_store]
      rfl
    · rw [ht, Device.flush_esp, hmerge]
      rfl

theorem tpl_check (x : Template) (h : s.dev.tpl? n = some x) (hl : x.st = .loading) (hp : x.passed = false) :
    (∀ y, tplCheck s.dev x = .ok y → Ends (.templateLoadDone n) s (fun t => s.frame [.pasm] [inst R.PASM_TPL_CMD n] t ∧
        t.dev.fld (inst R.PASM_TPL_CMD n) 23 16 = 0 ∧
        t.dev.pasm = { s.dev.pasm with tpls := s.dev.pasm.tpls.set n y })) ∧
      (∀ r, tplCheck s.dev x = .error r → Ends (.templateLoadDone n) s (fun t =>
        s.frame [.pasm] [inst R.PASM_TPL_CMD n] t ∧ t.dev.pasm = { s.dev.pasm with tpls := s.dev.pasm.tpls.del n } ∧
        s.raised ⟨0x0907, 4, none, [(1, n), (1, r)]⟩ t)) := by
  refine ⟨fun y hc => ?_, fun r hc => ?_⟩
  · refine ends_onDev (f := fun _ d => templateLoadDone n d) rfl (templateLoadDone_ok h hl hp hc) ((only_setTpl (by simp) _ _ _).setFld _ _ _ (by simp))
      fun t ht hfr => ⟨hfr, ?_, ?_⟩
    · exact fld_of_setFld ht rfl (inst_notEvent (by decide) n) (by decide) (by decide) (by decide)
    · rw [ht, Device.flush_pasm]
      rfl
  · refine ends_onDev (f := fun _ d => templateLoadDone n d) rfl (templateLoadDone_error h hl hp hc) (((only_setTpl (by simp) _ _ _).setFld _ _ _ (by simp)).raise _ _)
      fun t ht hfr => ⟨hfr, ?_, raised_of_ev (by rfl) hset ht⟩
    rw [ht, Device.flush_pasm]
    rfl

end

/-- Settles O51: each kind of slot by the equation of its command; the checks by their verdict. -/
theorem slotsLoadCheckAndLeave : Obligations.SlotsLoadCheckAndLeave :=
  ⟨fun _ hph => ⟨voc_slots hph _ _ _ rfl rfl rfl, gram_slots hph _ _ _ rfl rfl rfl, tpl_slots hph _ _ _ rfl rfl rfl, mdl_slots hph _ rfl,
      grf_slots hph _ rfl⟩,
    fun _ n hset => ⟨voc_check n hset, gram_check n hset, tpl_check n hset⟩⟩

end Sys2Proof.Machine
end

section
/-! REFUTATION of the statement on the commands of the tier mover (R160). -/
namespace Sys2Proof.Machine

/-- A FILL of object 1, while the pool's first page holds a byte that was written. -/
def fillOverWritten : State :=
  { Tests.st0 with dev := { Tests.withWords [4 <<< 24, 1] Tests.devO with mem := [(pageBase 0, 1)] } }

/-- Refutes O55: a FILL takes pages of the pool, and a page that changes its owner is cleared. So memory changes where a page held
a byte that was written, while the clause of FILL names the port and the store alone as what changes. -/
theorem not_tierCommands : ¬ Obligations.TierCommands := by
  rintro ⟨_, haccepted, _, _⟩
  obtain ⟨_, _, _, hfill, _, _⟩ := haccepted fillOverWritten (by decide +kernel) (by decide +kernel)
  obtain ⟨t, ht, hframe, _⟩ := hfill (by decide +kernel) (by decide +kernel) rfl
  obtain rfl := Host.Outcome.next.inj ht
  obtain ⟨_, _, _, hparts⟩ := hframe
  have hmem : (fillOverWritten.onReg (tierGo (· == 4) tierFill)).dev.mem = fillOverWritten.dev.mem :=
    hparts .mem (by decide) (by decide) (by decide)
  exact absurd hmem (by decide +kernel)

end Sys2Proof.Machine
end

section
/-! REFUTATION of the statement on the flash media (R425). -/
namespace Sys2Proof.Machine

/-- A cartridge whose table lists superblock 0 twice: free first, then full. -/
def sbTwice : Cart := { Tests.cart0 with unerased := true, sbs := [(0, freshSb), (0, { freshSb with st := .full })] }

/-- Its slot is READY. -/
def relocatesSbTwice : State := Tests.withCart sbTwice id

/-- Refutes O57: nothing in the clause of RELOCATION_START keeps a superblock from being listed twice. Of one that is, the relocation
finds the full entry, which holds no valid page, while what is queued for erase is the first entry, and that one is free. -/
theorem not_flashMediaWork : ¬ Obligations.FlashMediaWork := by
  rintro ⟨_, _, _, hmedia⟩
  obtain ⟨_, _, _, _, _, hreloc, _⟩ := hmedia relocatesSbTwice 0 0 (relocatesSbTwice.dev.slot 0) sbTwice freshChan rfl rfl rfl rfl rfl rfl rfl
  obtain ⟨t, ht, _, ⟨_, b, hb, hfull, _, hmoves, _⟩, _⟩ := hreloc rfl (by decide +kernel)
    ⟨(0, { freshSb with st := .full }), by decide +kernel, rfl, by decide +kernel⟩ rfl
  obtain rfl := Host.Outcome.next.inj ht
  have hb0 : b = (0, { freshSb with st := .full }) := by
    have hlist : sbTwice.chanSbs 0 = [(0, freshSb), (0, { freshSb with st := .full })] := by decide +kernel
    rw [hlist] at hb
    simp only [List.mem_cons, List.not_mem_nil, or_false] at hb
    rcases hb with rfl | rfl
    · exact absurd hfull (by decide)
    · rfl
  subst hb0
  rw [FlashSlot.moves, if_pos (by decide +kernel)] at hmoves
  obtain ⟨_, z, hz, hsb⟩ := hmoves
  have hleft : ((relocatesSbTwice.onDev fun _ d => relocationStart 0 0 d).dev.slot 0).cart.map (fun c => (c.sb 0).st) = some .free := by
    decide +kernel
  have herase : ((relocatesSbTwice.onDev fun _ d => relocationStart 0 0 d).dev.slot 0).cart.map (fun c => (c.sb 0).st) = some .erase :=
    (congrArg (Option.map fun c : Cart => (c.sb 0).st) hz).trans (congrArg some hsb)
  exact absurd (hleft.symm.trans herase) (by decide)

end Sys2Proof.Machine
end

section
/-! REFUTATION of the statement on resets and the security controller (R409, R484). -/
namespace Sys2Proof.Machine

/-- A slot that is authenticated and was sent no challenge, while RNG_OK is 0. -/
def challengeWaits : State := Tests.withSlot 0 (Tests.slot0 .authenticating false)

/-- Refutes O60: where the entropy source recovers, the challenges that waited for it are sent (R409). So a slot changes, while the
clause of RNG_RECOVER names the security part alone as what changes. -/
theorem not_resetsAndSecurity : ¬ Obligations.ResetsAndSecurity := by
  rintro ⟨_, _, _, _, hrng⟩
  obtain ⟨_, hrecover, _, _⟩ := hrng challengeWaits rfl
  obtain ⟨t, ht, ⟨_, _, _, hparts⟩, _⟩ := hrecover (by decide +kernel) rfl
  obtain rfl := Host.Outcome.next.inj ht
  have hflash : (challengeWaits.onDev fun _ d => rngRecover d).dev.flash = challengeWaits.dev.flash :=
    hparts .flash (by decide) (by decide) (by decide)
  have hsent : ((challengeWaits.onDev fun _ d => rngRecover d).dev.slot 0).challenge.isSome = true := by decide +kernel
  have hnone : (challengeWaits.dev.slot 0).challenge.isSome = false := by decide +kernel
  rw [Device.slot, hflash] at hsent
  exact absurd (hnone.symm.trans hsent) (by decide)

end Sys2Proof.Machine
end

section
/-! SUPPORT for the proofs about slots and power: the events of a command, whichever they are (R497 to R499), the effect of a register
that always responds, and what storing a slot leaves. -/
namespace Sys2Proof.Machine

/-! ### The events of a command -/

theorem insertReq_perm (r : EventReq) (l : List EventReq) : (insertReq r l).Perm (r :: l) := by
  induction l with
  | nil => exact List.Perm.refl _
  | cons x t ih =>
    unfold insertReq
    split
    · exact (ih.cons x).trans (List.Perm.swap r x t)
    · exact List.Perm.refl _

theorem sortReqs_perm (l : List EventReq) : (sortReqs l).Perm l := by
  have h (a : List EventReq) : (l.foldl (fun a r => insertReq r a) a).Perm (a ++ l) := by
    induction l generalizing a with
    | nil => simp
    | cons r l ih =>
      refine (ih _).trans ?_
      exact ((insertReq_perm r a).append_right l).trans (List.perm_middle.symm)
  exact h []

/-- The raises of a code. -/
def raisesOf (code : Nat) (l : List EventReq) : Nat := l.countP (·.code == code)

theorem counts_takeEvents (tb : Timebase) (code : Nat) (l : List EventReq) (d : Device) :
    (l.foldl (Device.takeEvent tb) d).ev.counts.getD code 0 = d.ev.counts.getD code 0 + raisesOf code l := by
  induction l generalizing d with
  | nil => rfl
  | cons r l ih =>
    rw [List.foldl_cons, ih, counts_takeEvent, Tbl.getD_set]
    unfold raisesOf
    by_cases h : r.code = code
    · subst h
      simp only [if_pos, List.countP_cons, beq_self_eq_true]
      omega
    · simp [h]

theorem counts_flush (tb : Timebase) (d : Device) (code : Nat) :
    (d.flush tb).ev.counts.getD code 0 = d.ev.counts.getD code 0 + raisesOf code d.ev.raised := by
  unfold Device.flush
  rw [counts_takeEvents]
  congr 1
  exact ((sortReqs_perm _).trans (List.reverse_perm _)).countP_eq _

theorem buffer_takeEvents_old (tb : Timebase) (l : List EventReq) (d : Device) {y : EventRec} (h : y ∈ d.ev.buffer) :
    ∃ x ∈ (l.foldl (Device.takeEvent tb) d).ev.buffer, x.req = y.req := by
  induction l generalizing d y with
  | nil => exact ⟨y, h, rfl⟩
  | cons r l ih =>
    obtain ⟨x, hx, hxy⟩ := buffer_takeEvent_old tb d r h
    obtain ⟨z, hz, hzx⟩ := ih _ hx
    exact ⟨z, hz, hzx.trans hxy⟩

/-- Of the events of a command, which the buffer has room for, one that is alone of its code enters it. -/
theorem buffer_takeEvents_new (tb : Timebase) {r : EventReq} (l : List EventReq) (d : Device) (hr : r ∈ l) (h1 : raisesOf r.code l = 1)
    (hn : d.ev.counts.getD r.code 0 < 16) (hb : d.ev.buffer.length + l.length ≤ 256) :
    ∃ x ∈ (l.foldl (Device.takeEvent tb) d).ev.buffer, x.req = r := by
  induction l generalizing d with
  | nil => cases hr
  | cons q l ih =>
    rw [List.length_cons] at hb
    rw [List.foldl_cons]
    by_cases hq : q = r
    · subst hq
      obtain ⟨x, hx, hxq⟩ := buffer_takeEvent_new tb d q hn (by omega)
      obtain ⟨y, hy, hyx⟩ := buffer_takeEvents_old tb l _ hx
      exact ⟨y, hy, hyx.trans hxq⟩
    · have hmem : r ∈ l := (List.mem_cons.mp hr).resolve_left (Ne.symm hq)
      have hpos : 0 < raisesOf r.code l := List.countP_pos_iff.mpr ⟨r, hmem, by simp⟩
      have hcode : q.code ≠ r.code := by
        intro h
        simp only [raisesOf, List.countP_cons, h, beq_self_eq_true, if_true] at h1 hpos
        omega
      have hlen := length_takeEvent tb d q
      refine ih _ hmem (by simpa [raisesOf, hcode] using h1) ?_ (by omega)
      rw [counts_takeEvent, Tbl.getD_set, if_neg hcode]
      exact hn

section
variable {s t : State} {e : Device}

/-- A code that is raised once among a command's events is counted once. -/
theorem counted_of {code : Nat} (hc : e.ev.counts = s.dev.ev.counts) (hl : raisesOf code e.ev.raised = 1)
    (ht : t.dev = e.flush s.tb) : s.counted code t := by
  unfold State.counted
  rw [ht, counts_flush, hc, hl]

/-- One of at most two events of a command, alone of its code. -/
theorem raised_of_pair {r : EventReq} (hc : e.ev.counts = s.dev.ev.counts) (hb : e.ev.buffer = s.dev.ev.buffer)
    (hr : r ∈ e.ev.raised) (h1 : raisesOf r.code e.ev.raised = 1) (h2 : e.ev.raised.length ≤ 2) (ht : t.dev = e.flush s.tb) :
    s.raised r t := by
  refine ⟨counted_of hc h1 ht, fun hn hroom => ?_⟩
  rw [ht]
  have hperm : (sortReqs e.ev.raised.reverse).Perm e.ev.raised := (sortReqs_perm _).trans (List.reverse_perm _)
  refine buffer_takeEvents_new s.tb _ _ (hperm.mem_iff.mpr hr) ((hperm.countP_eq _).trans h1) (hc ▸ hn) ?_
  rw [hperm.length_eq]
  show e.ev.buffer.length + _ ≤ _
  rw [hb]
  omega

end

/-! ### A register that always responds -/

section
variable {s : State} {ps : List DevPart} {ks : List Nat}

/-- A command that is named for a register of a block that always responds leaves the device that its effect gives. -/
theorem ends_onAon {c : Instr} {f : Timebase → Device → Device} (he : exec c s = .next (s.onAon f)) (hp : .port ∈ ps) {e : Device}
    (hf : f s.tb s.dev.dropPend = e) (hk : Device.Only ps ks s.dev.dropPend e) {P : State → Prop}
    (h : ∀ t : State, t.dev = e.flush s.tb → s.frame ps ks t → P t) : Ends c s P := by
  intro hl
  refine ⟨_, he, h _ ?_ (frame_of_onAon hl hp (hf ▸ hk))⟩
  rw [s.onAon_of f hl, hf]

/-- A command that has no effect on the device leaves the state, where no event waits to be taken. -/
theorem ends_same {c : Instr} {f : Timebase → Device → Device} (he : exec c s = .next (s.onDev f)) (hf : f s.tb s.dev = s.dev)
    (hset : s.settled) : Ends c s (fun t => t = s) := by
  intro hl
  refine ⟨_, he, ?_⟩
  rw [s.onDev_of f hl, hf, flush_of_settled _ _ hset]

end

/-! ### Storing a slot -/

section
variable {ps : List DevPart} {ks : List Nat} (d : Device) (n : Nat) (x : FlashSlot)

theorem only_setSlot (hp : .flash ∈ ps) : Device.Only ps ks d (d.setSlot n x) := by
  have hq : ([.flash] : List DevPart) ⊆ ps := by simpa using hp
  rw [setSlot_eq]
  exact .of_regs [.flash] rfl hq rfl

theorem only_updSlot (hp : .flash ∈ ps) (g : FlashSlot → FlashSlot) : Device.Only ps ks d (d.updSlot n g) := only_setSlot d n _ hp

/-- R476: a slot whose power stays as it is. -/
theorem setSlot_same_power (h : x.st.power = (d.slot n).st.power) : (d.setSlot n x).ev = d.ev := by
  unfold Device.setSlot cartPower
  dsimp only
  have hst : (if x.st.power == 0 then { x with vcartOpen := false } else x).st = x.st := by split <;> rfl
  rw [hst, h]
  simp

/-- R476: a slot that comes to have power or to have none. -/
theorem setSlot_new_power (h : (d.slot n).st.power ≠ x.st.power) (h1 : x.st.power ≠ 1) :
    (d.setSlot n x).ev = (d.raise 0x0E04 [(1, 26 + n)]).ev := by
  unfold Device.setSlot cartPower
  dsimp only
  have hst : (if x.st.power == 0 then { x with vcartOpen := false } else x).st = x.st := by split <;> rfl
  rw [hst]
  simp [h, h1]
  rfl

/-- A slot that has power is stored as it is. -/
theorem slot_setSlot_on (h : x.st.power ≠ 0) (m : Nat) : (d.setSlot n x).slot m = if n = m then x else d.slot m := by
  rw [slot_setSlot, if_neg h]

theorem slot_setSlot_off (h : x.st.power = 0) (m : Nat) :
    (d.setSlot n x).slot m = if n = m then { x with vcartOpen := false } else d.slot m := by
  rw [slot_setSlot, if_pos h]

theorem slot_setSlot_ne {m : Nat} (h : m ≠ n) : (d.setSlot n x).slot m = d.slot m := by
  rw [slot_setSlot, if_neg (Ne.symm h)]

/-- Every field of a slot but the switch, which is closed where the power is off. -/
theorem slot_setSlot_self : ∃ b, (d.setSlot n x).slot n = { x with vcartOpen := b } := by
  rw [slot_setSlot, if_pos rfl]
  split
  · exact ⟨false, rfl⟩
  · exact ⟨x.vcartOpen, rfl⟩

theorem slot_flush (tb : Timebase) (m : Nat) : (d.flush tb).slot m = d.slot m := by
  unfold Device.slot
  rw [Device.flush_flash]

end

end Sys2Proof.Machine
end

section
/-! PROOFS of functions, the staging list and the image of start-up (R455 to R467, R477, R481). -/
namespace Sys2Proof.Machine

section
variable {s : State} {ps : List DevPart} {ks : List Nat}

/-- The device with another state of its power controller. -/
def Device.withPower (d : Device) (x : PowerUnit) : Device := { d with power := x }

theorem only_power (hp : .power ∈ ps) (d : Device) (x : PowerUnit) : Device.Only ps ks d { d with power := x } := by
  have hq : ([.power] : List DevPart) ⊆ ps := by simpa using hp
  exact .of_regs [.power] rfl hq rfl

/-- A command that is named for a register that always responds, and changes the power controller alone. -/
theorem ends_onAon_power {c : Instr} {f : Timebase → Device → Device} (he : exec c s = .next (s.onAon f)) {x : PowerUnit}
    (hf : f s.tb s.dev.dropPend = { s.dev.dropPend with power := x }) :
    Ends c s (fun t => s.frame [.port, .power] [] t ∧ t.dev.power = x) :=
  ends_onAon he (by simp) hf (only_power (by simp) _ _) fun t ht hfr => ⟨hfr, by rw [ht, Device.flush_power]⟩

/-- A command that changes the power controller alone. -/
theorem ends_onDev_power {c : Instr} {f : Timebase → Device → Device} (he : exec c s = .next (s.onDev f)) {x : PowerUnit}
    (hf : f s.tb s.dev = { s.dev with power := x }) : Ends c s (fun t => s.frame [.power] [] t ∧ t.dev.power = x) :=
  ends_onDev he hf (only_power (by simp) _ _) fun t ht hfr => ⟨hfr, by rw [ht, Device.flush_power]⟩

/-! ### Functions (R458) -/

theorem funcCmd_of {n : Nat} (h : switchable n = true) (enable abort : Bool) (d : Device) : funcCmd n enable abort d =
    { d with power := { d.power with funcPend := d.power.funcPend.set n (enable, abort) } } := if_pos h

theorem functions_switch (n m : Nat) (h : switchable n = true) :
    Ends (.funcEnable n) s (fun t => s.frame [.port, .power] [] t ∧
      t.dev.power = { s.dev.power with funcPend := s.dev.power.funcPend.set n (true, false) }) ∧
    Ends (.funcDisable n m) s (fun t => s.frame [.port, .power] [] t ∧
      t.dev.power = { s.dev.power with funcPend := s.dev.power.funcPend.set n (false, m % 2 == 1) }) :=
  ⟨ends_onAon_power (f := fun _ d => funcCmd n true false d) rfl (funcCmd_of h _ _ _),
    ends_onAon_power (f := fun _ d => funcCmd n false (m % 2 == 1) d) rfl (funcCmd_of h _ _ _)⟩

/-! ### The staging list (R459 to R462) -/

theorem stgEntry_setCount (d : Device) (hi lo v : Nat) : stgEntry (d.setFld R.PWR_STG_CTRL hi lo v) = stgEntry d := by
  have h (a k : Nat) (ha : R.PWR_STG_CTRL % 2 ^ 32 ≠ a % 2 ^ 32) : (d.setFld R.PWR_STG_CTRL hi lo v).reg (inst a k) = d.reg (inst a k) :=
    reg_setFld_ne _ _ _ _ (inst_ne k (Ne.symm ha)).symm
  funext k
  unfold stgEntry
  rw [h _ _ (by decide), h _ _ (by decide), h _ _ (by decide)]

theorem fieldOk_setCount (d : Device) (hi lo v k : Nat) (e : StgEntry) :
    fieldOk (d.setFld R.PWR_STG_CTRL hi lo v) k e = fieldOk d k e := by
  unfold fieldOk
  rw [reg_setFld_ne _ _ _ _ (inst_ne k (by decide)).symm]

theorem stagingFurrow_setCount (d : Device) (hi lo v : Nat) :
    (d.setFld R.PWR_STG_CTRL hi lo v).reg64 R.PWR_STG_AT_LO = d.reg64 R.PWR_STG_AT_LO := by
  unfold Device.reg64
  rw [reg_setFld_ne _ _ _ _ (by decide), reg_setFld_ne _ _ _ _ (by decide)]

theorem armReason_setCount (tb : Timebase) (d : Device) (hi lo v n : Nat) :
    armReason tb (d.setFld R.PWR_STG_CTRL hi lo v) n = armReason tb d n := by
  unfold armReason
  simp only [stgEntry_setCount, fieldOk_setCount, stagingFurrow_setCount]
  rfl

theorem armReason_le (tb : Timebase) (d : Device) (n : Nat) : armReason tb d n ≤ 5 := by
  unfold armReason
  dsimp only
  repeat' split
  all_goals omega

theorem stgArm_of {tb : Timebase} {d : Device} {n : Nat} (h1 : 1 ≤ n) (h2 : n ≤ 256) : stgArm n tb d =
    if armReason tb d n != 0 then ((d.setFld R.PWR_STG_CTRL 8 0 n).setFld R.PWR_STG_STATUS 15 8 (armReason tb d n)).raise 0x0E08 []
    else armList ((List.range n).map (stgEntry d)) (BitVec.ofNat 48 (d.reg64 R.PWR_STG_AT_LO)) (d.setFld R.PWR_STG_CTRL 8 0 n) := by
  have hn : (d.setFld R.PWR_STG_CTRL 8 0 n).fld R.PWR_STG_CTRL 8 0 = n := by
    rw [fld_setFld _ _ (by decide) (by decide), Nat.mod_eq_of_lt (by omega)]
  unfold stgArm
  simp only [h1, h2, decide_true, Bool.and_self, if_true]
  rw [hn, armReason_setCount, stgEntry_setCount, stagingFurrow_setCount]

theorem staging_arms (n : Nat) (hset : s.settled) (h1 : 1 ≤ n) (h2 : n ≤ 256) :
    (armReason s.tb s.dev n = 0 → Ends (.stgArm n) s (fun t =>
      s.frame [.port, .power] [R.PWR_STG_CTRL, R.PWR_STG_STATUS] t ∧
      t.dev.fld R.PWR_STG_CTRL 8 0 = n ∧ t.dev.fld R.PWR_STG_STATUS 31 30 = 1 ∧
      t.dev.power = { s.dev.power with staging := some ⟨(List.range n).map (stgEntry s.dev),
        BitVec.ofNat 48 (s.dev.reg64 R.PWR_STG_AT_LO), 0, 0⟩ })) ∧
    (armReason s.tb s.dev n ≠ 0 → Ends (.stgArm n) s (fun t =>
      s.frame [.port] [R.PWR_STG_CTRL, R.PWR_STG_STATUS] t ∧
      t.dev.fld R.PWR_STG_STATUS 15 8 = armReason s.tb s.dev n ∧ s.raised ⟨0x0E08, 4, none, []⟩ t)) := by
  have heff := stgArm_of (tb := s.tb) (d := s.dev.dropPend) h1 h2
  have hcount : (s.dev.dropPend.setFld R.PWR_STG_CTRL 8 0 n).fld R.PWR_STG_CTRL 8 0 = n := by
    rw [fld_setFld _ _ (by decide) (by decide), Nat.mod_eq_of_lt (by omega)]
  refine ⟨fun h => ?_, fun h => ?_⟩
  · have h' : (armReason s.tb s.dev.dropPend n != 0) = false := bne_eq_false_iff_eq.mpr h
    rw [h', if_neg (by decide)] at heff
    refine ends_onAon rfl (by simp) heff ((((Device.Only.refl _).setFld _ _ _ (by simp)).trans (only_power (by simp) _ _)).setReg _ (by simp))
      fun t ht hfr => ⟨hfr, ?_, ?_, ?_⟩
    · rw [ht, fld_flush _ _ (by decide)]
      refine Eq.trans ?_ hcount
      unfold Device.fld armList stgStatus
      rw [reg_setReg_ne _ _ (by decide)]
      rfl
    · rw [ht, fld_flush _ _ (by decide)]
      unfold Device.fld armList stgStatus
      rw [reg_setReg_self]
      decide
    · rw [ht, Device.flush_power]
      rfl
  · have h' : (armReason s.tb s.dev.dropPend n != 0) = true := bne_iff_ne.mpr h
    rw [h', if_pos rfl] at heff
    refine ends_onAon rfl (by simp) heff ((((Device.Only.refl _).setFld _ _ _ (by simp)).setFld _ _ _ (by simp)).raise _ _)
      fun t ht hfr => ⟨hfr, ?_, raised_of_ev (by rfl) hset ht⟩
    have hle := armReason_le s.tb s.dev n
    exact fld_of_setFld ht rfl (by decide) (by decide) (by decide) (Nat.lt_of_le_of_lt hle (by decide))

/-- R464: a step's cancels reach the queue manager alone. -/
theorem stepCancels_qm (es : List StgEntry) (d : Device) : ∃ x, stepCancels es d = { d with qm := x } := by
  unfold stepCancels
  dsimp only
  have h (l : List Nat) (q : QueueUnit) :
      ∃ x, l.foldl (fun d r => (d.cancelReq r 0x98).cond r 0xB 0x98) { d with qm := q } = { d with qm := x } := by
    induction l generalizing q with
    | nil => exact ⟨q, rfl⟩
    | cons r l ih => exact ih _
  exact h _ d.qm

/-- What a failed step leaves of its status (R462). -/
theorem fld_stepFailed (d : Device) (hi lo : Nat) (pay : List (Nat × Nat)) :
    ((((d.setFld R.PWR_STG_STATUS 31 30 3).setFld R.PWR_STG_STATUS 15 8 8).inc R.PWR_STG_FAILS).raise 0x0E07 pay).fld
      R.PWR_STG_STATUS hi lo = ((d.setFld R.PWR_STG_STATUS 31 30 3).setFld R.PWR_STG_STATUS 15 8 8).fld R.PWR_STG_STATUS hi lo :=
  congrArg (bits hi lo) (reg_incBy_ne _ _ (by decide))

theorem staging_ends (x : Staging) (hset : s.settled) (hx : s.dev.power.staging = some x) :
    Ends .stgCancel s (fun t => s.frame [.port, .power] [R.PWR_STG_STATUS] t ∧
      t.dev.power = { s.dev.power with staging := none } ∧ t.dev.fld R.PWR_STG_STATUS 31 30 = 0) ∧
    (s.dev.cfgLimit ≤ x.tried → Ends .stgStepLimit s (fun t =>
      s.frame [.power, .qm] [R.PWR_STG_STATUS, R.PWR_STG_FAILS] t ∧
      t.dev.power = { s.dev.power with staging := none } ∧ t.dev.fld R.PWR_STG_STATUS 31 30 = 3 ∧
      t.dev.fld R.PWR_STG_STATUS 15 8 = 8 ∧
      t.dev.reg R.PWR_STG_FAILS = min (s.dev.reg R.PWR_STG_FAILS + 1) 0xFFFFFFFF ∧
      s.raised ⟨0x0E07, 4, none, [(1, x.step), (1, 8)]⟩ t)) := by
  refine ⟨?_, fun hlim => ?_⟩
  · have heff : stgCancel s.dev.dropPend =
        { s.dev.dropPend with power := { s.dev.power with staging := none } }.setFld R.PWR_STG_STATUS 31 30 0 :=
      if_neg (by simp [hx])
    refine ends_onAon (f := fun _ d => stgCancel d) rfl (by simp) heff ((only_power (by simp) _ _).setFld _ _ _ (by simp))
      fun t ht hfr => ⟨hfr, ?_, ?_⟩
    · rw [ht, Device.flush_power]
      rfl
    · exact fld_of_setFld ht rfl (by decide) (by decide) (by decide) (by decide)
  · obtain ⟨q, hq⟩ := stepCancels_qm (x.entries.filter fun y => y.step == x.step) s.dev
    have heff : stepLimit s.dev = ((((({ s.dev with qm := q } : Device).withPower { s.dev.power with staging := none }).setFld
        R.PWR_STG_STATUS 31 30 3).setFld R.PWR_STG_STATUS 15 8 8).inc R.PWR_STG_FAILS).raise 0x0E07 [(1, x.step), (1, 8)] := by
      have h1 : stepLimit s.dev = stepFails 8 s.dev := by
        unfold stepLimit
        rw [hx]
        exact if_pos hlim
      rw [h1]
      unfold stepFails
      rw [hx]
      dsimp only
      rw [hq]
      rfl
    have hqm : Device.Only [.power, .qm] [R.PWR_STG_STATUS, R.PWR_STG_FAILS] s.dev { s.dev with qm := q } :=
      .of_regs [.qm] rfl (by simp) rfl
    refine ends_onDev (f := fun _ d => stepLimit d) rfl heff
      (((((hqm.trans (only_power (by simp) _ _)).setFld _ _ _ (by simp)).setFld _ _ _ (by simp)).inc (by simp)).raise _ _)
      fun t ht hfr => ⟨hfr, ?_, ?_, ?_, ?_, ?_⟩
    · rw [ht, Device.flush_power]
      rfl
    · rw [ht, fld_flush _ _ (by decide), fld_stepFailed, fld_setFld_other _ (by decide) (by decide) _ (by decide) (regRst_lt _) (by decide),
        fld_setFld _ _ (by decide) (by decide)] <;> rfl
    · rw [ht, fld_flush _ _ (by decide), fld_stepFailed, fld_setFld _ _ (by decide) (by decide)] <;> rfl
    · rw [ht, reg_flush _ _ (by decide)]
      refine (reg_incBy_self _ _ _).trans ?_
      rw [reg_setFld_ne _ _ _ _ (by decide), reg_setFld_ne _ _ _ _ (by decide)]
      rfl
    · exact raised_of_ev (by rfl) hset ht

end

end Sys2Proof.Machine
end

section
/-! PROOFS of domains that are switched on, of start-up and of the wake from Dormant (R453 to R467, R473, R481). -/
namespace Sys2Proof.Machine

/-! ### Domains that are being powered (R455) -/

/-- The state of a domain other than a slot's. -/
def Device.dom (d : Device) (n : Nat) : Nat := d.power.doms.getD n 0

theorem domState_of {n : Nat} (h : n < 26) (d : Device) : d.domState n = d.dom n := by
  unfold Device.domState
  rw [if_neg (by simp; omega)]
  rfl

theorem dom_setDom (d : Device) (k v n : Nat) : (d.setDom k v).dom n = if k = n then v else d.dom n := Tbl.getD_set _ _ _ _ _

/-- One domain of R455: POWERING, its two furrows past. -/
def domainOn (d : Device) (n : Nat) : Device :=
  if d.domState n == 1 && d.power.poweredAt.getD n 0 + 2 ≤ d.power.furs then (d.setDom n 2).raise 0x0E04 [(1, n)] else d

/-- A domain's two furrows have passed. -/
def Device.domDue (d : Device) (n : Nat) : Prop := d.dom n = 1 ∧ d.power.poweredAt.getD n 0 + 2 ≤ d.power.furs

theorem domainOn_of_due {d : Device} {n : Nat} (hn : n < 26) (h : d.domDue n) : domainOn d n = (d.setDom n 2).raise 0x0E04 [(1, n)] := by
  unfold domainOn
  rw [domState_of hn, h.1, if_pos]
  simpa using h.2

theorem domainOn_of_not_due {d : Device} {n : Nat} (hn : n < 26) (h : ¬ d.domDue n) : domainOn d n = d := by
  unfold domainOn
  rw [domState_of hn, if_neg]
  simpa [Device.domDue] using h

theorem domainPowered_eq (d : Device) : domainPowered d = (List.range 26).foldl domainOn d := rfl

theorem only_domainOn (d : Device) (n : Nat) : Device.Only [.power] [] d (domainOn d n) := by
  unfold domainOn
  split
  · exact (only_power (by simp) d _).raise _ _
  · exact .refl d

/-- The domains of a list that are due become ON, the others stay. -/
theorem dom_domainsOn (l : List Nat) (d : Device) (hl : ∀ n ∈ l, n < 26) :
    (∀ n, n ∈ l → d.domDue n → (l.foldl domainOn d).dom n = 2) ∧
    ∀ n, ¬ (n ∈ l ∧ d.domDue n) → (l.foldl domainOn d).dom n = d.dom n := by
  induction l generalizing d with
  | nil => exact ⟨fun n hn => absurd hn (by simp), fun n _ => rfl⟩
  | cons k l ih =>
    have hk : k < 26 := hl k (by simp)
    have hl' : ∀ n ∈ l, n < 26 := fun n hn => hl n (by simp [hn])
    by_cases hd : d.domDue k
    · obtain ⟨ihOn, ihStay⟩ := ih (domainOn d k) hl'
      rw [List.foldl_cons]
      have hdom (n : Nat) : (domainOn d k).dom n = if k = n then 2 else d.dom n := by
        rw [domainOn_of_due hk hd]
        exact dom_setDom d k 2 n
      have hdue (n : Nat) (h : k ≠ n) : (domainOn d k).domDue n ↔ d.domDue n := by
        unfold Device.domDue
        rw [hdom, if_neg h, domainOn_of_due hk hd]
        rfl
      have hself : ¬ (domainOn d k).domDue k := fun h => by
        have h1 := h.1
        rw [hdom, if_pos rfl] at h1
        omega
      refine ⟨fun n hn h => ?_, fun n h => ?_⟩
      · by_cases hkn : k = n
        · subst hkn
          rw [ihStay k fun hx => hself hx.2, hdom, if_pos rfl]
        · exact ihOn n ((List.mem_cons.mp hn).resolve_left (Ne.symm hkn)) ((hdue n hkn).mpr h)
      · have hkn : k ≠ n := fun e => h ⟨by simp [e], e ▸ hd⟩
        rw [ihStay n fun hx => h ⟨by simp [hx.1], (hdue n hkn).mp hx.2⟩, hdom, if_neg hkn]
    · rw [List.foldl_cons, domainOn_of_not_due hk hd]
      obtain ⟨ihOn, ihStay⟩ := ih d hl'
      refine ⟨fun n hn h => ?_, fun n h => ihStay n fun hx => h ⟨by simp [hx.1], hx.2⟩⟩
      refine ihOn n ((List.mem_cons.mp hn).resolve_left fun e => hd (e ▸ h)) h

section
variable {s : State}

theorem domains_powered : Ends .domainPowered s (fun t => s.frame [.power] [] t ∧
    ∀ n, t.dev.power.doms.getD n 0 =
      if n < 26 ∧ s.dev.power.doms.getD n 0 = 1 ∧ s.dev.power.poweredAt.getD n 0 + 2 ≤ s.dev.power.furs then 2
      else s.dev.power.doms.getD n 0) := by
  refine ends_onDev (f := fun _ d => domainPowered d) (c := .domainPowered) rfl (domainPowered_eq s.dev)
    (.foldl only_domainOn _ (.refl _)) fun t ht hfr => ⟨hfr, fun n => ?_⟩
  obtain ⟨hon, hstay⟩ := dom_domainsOn (List.range 26) s.dev (by simp)
  rw [ht, Device.flush_power]
  by_cases h : n < 26 ∧ s.dev.domDue n
  · exact (hon n (by simpa using h.1) h.2).trans (if_pos h).symm
  · exact (hstay n (by simpa using h)).trans (if_neg h).symm

/-! ### The image of start-up (R466, R467, R481) -/

theorem boot_image (w : Nat) (hv : s.dev.power.verify = none) :
    Ends .bootClear s (fun t => s.frame [.port, .power] [] t ∧
      t.dev.power = { s.dev.power with image := [], imageLen := 0 }) ∧
    (s.dev.power.imageLen + 4 ≤ 8388608 → Ends (.bootData w) s (fun t => s.frame [.port, .power] [] t ∧
      t.dev.power = { s.dev.power with
          imageLen := s.dev.power.imageLen + 4,
          image := s.dev.power.image.writeBytes s.dev.power.imageLen (leBytes 4 w) })) ∧
    (s.dev.power.phase = .rom → Ends .bootVerify s (fun t => s.frame [.port, .power] [] t ∧
      t.dev.power = { s.dev.power with
        phase := .verifying, verify := some (imageCheck s.dev), verFur := some s.dev.power.furs })) := by
  refine ⟨ends_onAon_power (f := fun _ d => bootClear d) rfl (if_neg (by simp [hv])),
    fun hlen => ends_onAon_power (f := fun _ d => bootData w d) rfl (if_neg ?_),
    fun hph => ends_onAon_power (f := fun _ d => bootVerify d) rfl (if_neg ?_)⟩
  · simp only [Device.dropPend_power, hv, Option.isSome_none, Bool.false_or]
    exact fun h => Nat.not_lt.mpr hlen (of_decide_eq_true h)
  · simp [hph]

/-- A byte of the header. -/
theorem headerByte (m : Memory) {i : Nat} (h : i < 512) : fieldLe (m.readBytes 0 512) i 1 = (m.read i).toNat := by
  have hget : ((m.readBytes 0 512).drop i).take 1 = [m.read i] := by
    rw [List.drop_eq_getElem_cons (by simpa [Memory.readBytes] using h)]
    simp [Memory.readBytes]
  unfold fieldLe sliceBytes
  rw [hget]
  simp [ofLe]

theorem verifyDone_ok {ok : Bool} {d : Device} (h : d.power.verify = some 1) (hok : ok = true) (hb : bodyHashOk d.power = true) :
    verifyDone ok d = runImage (d.withPower { d.power with verify := none, result := 1, phase := .bringup }) := by
  unfold verifyDone
  rw [h]
  simp [hok, hb, Device.withPower]

theorem verifyDone_fails {ok : Bool} {c : Nat} {d : Device} (h : d.power.verify = some c)
    (hf : c ≠ 1 ∨ ok = false ∨ bodyHashOk d.power = false) : verifyDone ok d =
      (d.withPower { d.power with verify := none, result := if c = 1 then 3 else c, phase := .rom }).raise 0x0E02
        [(1, if c = 1 then 3 else c)] := by
  have hr : (if (c == 1 && !(ok && bodyHashOk d.power)) = true then 3 else c) = if c = 1 then 3 else c := by
    by_cases hc : c = 1
    · have hbad : (ok && bodyHashOk d.power) = false := by
        rcases hf with h1 | h1 | h1
        · exact absurd hc h1
        · simp [h1]
        · simp [h1]
      simp [hc, hbad]
    · simp [hc]
  have hne : ((if c = 1 then 3 else c) == 1) = false := by
    by_cases hc : c = 1
    · simp [hc]
    · simp [hc]
  unfold verifyDone
  rw [h]
  dsimp only
  rw [hr, hne]
  rfl

/-- The fields that a header gives the security controller. -/
def SecUnit.headed (x : SecUnit) (h : List Byte) : SecUnit :=
  { x with
    runKey := fieldLe h 6 1
    runSvn := fieldLe h 7 1
    runBuild := fieldLe h 8 8
    runTarget := fieldLe h 0x14 4
    runHash := sliceBytes h 0x40 48 }

theorem runImage_eq (d : Device) : runImage d = { d with sec := d.sec.headed (d.power.image.readBytes 0 512) } := rfl

section
variable (x : SecUnit) (h : List Byte)

theorem headed_runKey : (x.headed h).runKey = fieldLe h 6 1 := rfl

theorem headed_runSvn : (x.headed h).runSvn = fieldLe h 7 1 := rfl

theorem headed_svnMin : (x.headed h).svnMin = x.svnMin := rfl

end

theorem sec_headed {t : State} {tb : Timebase} {d : Device} {h : List Byte}
    (ht : t.dev = ({ d with sec := d.sec.headed h } : Device).flush tb) : t.dev.sec = d.sec.headed h := by
  rw [ht, Device.flush_sec]

theorem only_sec (d : Device) (x : SecUnit) : Device.Only [.power, .sec] [] d { d with sec := x } := .of_regs [.sec] rfl (by simp) rfl

theorem verification_ends (ok : Bool) (c : Nat) (hset : s.settled) (hv : s.dev.power.verify = some c) :
    (c = 1 → ok = true → bodyHashOk s.dev.power = true → Ends (.verifyDone ok) s (fun t => s.frame [.power, .sec] [] t ∧
      t.dev.power = { s.dev.power with verify := none, result := 1, phase := .bringup } ∧
      t.dev.sec.runKey = (s.dev.power.image.read 6).toNat ∧ t.dev.sec.runSvn = (s.dev.power.image.read 7).toNat ∧
      t.dev.sec.svnMin = s.dev.sec.svnMin)) ∧
    (c ≠ 1 ∨ ok = false ∨ bodyHashOk s.dev.power = false → Ends (.verifyDone ok) s (fun t => s.frame [.power] [] t ∧
      t.dev.power = { s.dev.power with verify := none, result := if c = 1 then 3 else c, phase := .rom } ∧
      s.raised ⟨0x0E02, 4, none, [(1, if c = 1 then 3 else c)]⟩ t)) := by
  refine ⟨fun hc hok hb => ?_, fun hf => ?_⟩
  · refine ends_onDev (c := .verifyDone ok) (f := fun _ d => verifyDone ok d) rfl ((verifyDone_ok (hc ▸ hv) hok hb).trans (runImage_eq _))
      ((only_power (by simp) _ _).trans (only_sec _ _)) fun t ht hfr => ⟨hfr, ?_, ?_, ?_, ?_⟩
    · rw [ht, Device.flush_power]
      rfl
    · rw [sec_headed ht, headed_runKey, headerByte _ (by decide)]
      rfl
    · rw [sec_headed ht, headed_runSvn, headerByte _ (by decide)]
      rfl
    · rw [sec_headed ht, headed_svnMin]
      rfl
  · refine ends_onDev (c := .verifyDone ok) (f := fun _ d => verifyDone ok d) rfl (verifyDone_fails hv hf) ((only_power (by simp) _ _).raise _ _)
      fun t ht hfr => ⟨hfr, ?_, raised_of_ev (by rfl) hset ht⟩
    rw [ht, Device.flush_power]
    rfl

end

end Sys2Proof.Machine
end

section
/-! PROOFS of the steps of start-up and of the wake from Dormant (R412, R465, R471 to R473). -/
namespace Sys2Proof.Machine

/-! ### Switching domains on (R455) -/

/-- `b` is `a` with domains switched on, the slots' aside: one that was not OFF stays as it was. -/
structure SwitchedOn (a b : Device) : Prop where
  eq : ∃ x y, b = a.withPower { a.power with doms := x, poweredAt := y }
  kept : ∀ n, n < 26 → a.dom n ≠ 0 → b.dom n = a.dom n

section
variable {a b c : Device}

theorem SwitchedOn.refl (a : Device) : SwitchedOn a a := ⟨⟨_, _, rfl⟩, fun _ _ _ => rfl⟩

theorem SwitchedOn.trans (h : SwitchedOn a b) (g : SwitchedOn b c) : SwitchedOn a c := by
  obtain ⟨⟨x, y, rfl⟩, hkept⟩ := h
  obtain ⟨⟨x', y', rfl⟩, gkept⟩ := g
  refine ⟨⟨x', y', rfl⟩, fun n hn h0 => ?_⟩
  have h1 := hkept n hn h0
  rw [gkept n hn (h1 ▸ h0), h1]

theorem SwitchedOn.on (h : SwitchedOn a b) {n : Nat} (hn : n < 26) (h0 : a.dom n ≠ 0) : b.dom n ≠ 0 := by
  rw [h.kept n hn h0]
  exact h0

theorem SwitchedOn.ev (h : SwitchedOn a b) : b.ev = a.ev := by
  obtain ⟨⟨x, y, rfl⟩, -⟩ := h
  rfl

theorem SwitchedOn.flash (h : SwitchedOn a b) : b.flash = a.flash := by
  obtain ⟨⟨x, y, rfl⟩, -⟩ := h
  rfl

theorem SwitchedOn.phase (h : SwitchedOn a b) : b.power.phase = a.power.phase := by
  obtain ⟨⟨x, y, rfl⟩, -⟩ := h
  rfl

theorem SwitchedOn.only (h : SwitchedOn a b) {ps : List DevPart} {ks : List Nat} (hp : .power ∈ ps) : Device.Only ps ks a b := by
  obtain ⟨⟨x, y, rfl⟩, -⟩ := h
  exact only_power hp a _

theorem switchedOn_domSwitchOn (d : Device) (k : Nat) : SwitchedOn d (domSwitchOn d k) := by
  unfold domSwitchOn
  split
  · exact .refl d
  · rename_i h
    refine ⟨⟨_, _, rfl⟩, fun n hn h0 => ?_⟩
    have hoff : d.domState k = 0 := by
      refine Classical.byContradiction fun hne => ?_
      exact h (by simp [hne])
    have hne : k ≠ n := fun e => h0 (by rw [← domState_of hn, ← e, hoff])
    exact (dom_setDom d k 1 n).trans (if_neg hne)

theorem SwitchedOn.step (h : SwitchedOn a b) (k : Nat) : SwitchedOn a (domSwitchOn b k) := h.trans (switchedOn_domSwitchOn b k)

theorem SwitchedOn.foldl (h : SwitchedOn a b) (l : List Nat) : SwitchedOn a (l.foldl domSwitchOn b) := by
  induction l generalizing b with
  | nil => exact h
  | cons k l ih => exact ih (h.step k)

theorem SwitchedOn.ite (p : Prop) [Decidable p] (h : SwitchedOn a b) (g : SwitchedOn a c) : SwitchedOn a (if p then b else c) := by
  split
  · exact h
  · exact g

end

/-- A domain that requires no other is switched on. -/
theorem dom_domSwitchOn {n : Nat} (hn : n < 26) (hr : domReqs n = []) (d : Device) : (domSwitchOn d n).dom n ≠ 0 := by
  unfold domSwitchOn
  have hreq : d.reqsOn n = true := by simp [Device.reqsOn, hr]
  rw [domState_of hn, hreq]
  by_cases h : d.dom n = 0
  · rw [h, if_neg (by decide)]
    have h1 : (d.setDom n 1).dom n = 1 := (dom_setDom d n 1 n).trans (if_pos rfl)
    exact fun e => absurd (h1.symm.trans e) (by decide)
  · rw [if_pos (by simpa using h)]
    exact h

/-- One of a list that is switched on, where it requires no other. -/
theorem dom_foldl_switchOn {n : Nat} (hn : n < 26) (hr : domReqs n = []) {l : List Nat} (hm : n ∈ l) (d : Device) :
    (l.foldl domSwitchOn d).dom n ≠ 0 := by
  induction l generalizing d with
  | nil => cases hm
  | cons k l ih =>
    by_cases hk : n = k
    · subst hk
      exact ((SwitchedOn.refl _).foldl l).on hn (dom_domSwitchOn hn hr d)
    · exact ih ((List.mem_cons.mp hm).resolve_left hk) _

/-! ### Cartridges that are found (R412) -/

/-- One slot of R412. -/
def detect (st : SlotState) (d : Device) (n : Nat) : Device :=
  if (d.slot n).st == st && (d.slot n).cart.isSome then d.setSlot n { d.slot n with st := .detected } else d

theorem detectSlots_eq (st : SlotState) (d : Device) : detectSlots st d = (List.range 4).foldl (detect st) d := rfl

theorem detect_flash {st : SlotState} (hst : st.power = 0) (d : Device) (n : Nat) : ∃ x, detect st d n = { d with flash := x } := by
  unfold detect
  split
  · rename_i h
    have h' : (d.slot n).st = st := by simpa using (Bool.and_eq_true_iff.mp h).1
    rw [setSlot_eq, setSlot_same_power]
    · exact ⟨_, rfl⟩
    · rw [h', hst]
      rfl
  · exact ⟨d.flash, rfl⟩

theorem detects_flash {st : SlotState} (hst : st.power = 0) (l : List Nat) (d : Device) : ∃ x, l.foldl (detect st) d = { d with flash := x } := by
  induction l generalizing d with
  | nil => exact ⟨d.flash, rfl⟩
  | cons n l ih =>
    obtain ⟨x, hx⟩ := detect_flash hst d n
    obtain ⟨y, hy⟩ := ih (detect st d n)
    refine ⟨y, ?_⟩
    rw [List.foldl_cons, hy, hx]

/-- A slot that holds a cartridge keeps it, and once DETECTED stays so. -/
theorem slot_detect (st : SlotState) (d : Device) (k n : Nat) :
    ((detect st d k).slot n).cart = (d.slot n).cart ∧
    ((d.slot n).st = .detected → ((detect st d k).slot n).st = .detected) ∧
    ((d.slot n).st = st → (d.slot n).cart ≠ none → ((detect st d k).slot n).st = if k = n then .detected else st) := by
  unfold detect
  split
  · rename_i h
    rw [slot_setSlot_off _ _ _ rfl]
    by_cases hk : k = n
    · subst hk
      simp
    · simp only [if_neg hk]
      exact ⟨trivial, id, fun h _ => h⟩
  · rename_i h
    refine ⟨rfl, id, fun h1 h2 => ?_⟩
    by_cases hk : k = n
    · subst hk
      exact absurd (by simp [h1, Option.isSome_iff_ne_none.mpr h2]) h
    · rw [if_neg hk, h1]

theorem slot_detects {st : SlotState} {n : Nat} (l : List Nat) (d : Device) (hcart : (d.slot n).cart ≠ none)
    (h : (d.slot n).st = .detected ∨ ((d.slot n).st = st ∧ n ∈ l)) :
    ((l.foldl (detect st) d).slot n).st = .detected ∧ ((l.foldl (detect st) d).slot n).cart = (d.slot n).cart := by
  induction l generalizing d with
  | nil => exact ⟨h.resolve_right (by simp), rfl⟩
  | cons k l ih =>
    obtain ⟨hc, hdet, hfound⟩ := slot_detect st d k n
    rw [List.foldl_cons, ← hc]
    refine ih _ (by rwa [hc]) ?_
    rcases h with h | ⟨h, hm⟩
    · exact .inl (hdet h)
    · rw [hfound h hcart]
      by_cases hk : k = n
      · exact .inl (if_pos hk)
      · exact .inr ⟨if_neg hk, (List.mem_cons.mp hm).resolve_left (Ne.symm hk)⟩

/-! ### Start-up (R465) -/

/-- A furrow of start-up has come. -/
def sinceFur (n : Nat) (f : Option Nat) (k : Nat) : Bool :=
  match f with
  | some f => f + k ≤ n
  | none => false

theorem sinceFur_of_le {n v k : Nat} {f : Option Nat} (hf : f = some v) (h : v + k ≤ n) : sinceFur n f k = true := by
  subst hf
  exact decide_eq_true h

theorem not_sinceFur {n k : Nat} {f : Option Nat} (h : ∀ v, f = some v → n < v + k) : sinceFur n f k = false := by
  cases f with
  | none => rfl
  | some v => exact decide_eq_false (Nat.not_le.mpr (h v rfl))

/-- The first group of start-up. -/
def bringupFirst (d : Device) : Device := if 1 ≤ d.power.furs then domSwitchOn d 17 else d

/-- The domains of the memory controllers and of what always responds in service. -/
def bringupMemory (n : Nat) (d : Device) : Device := if sinceFur n d.power.verFur 3 then [24, 25, 19].foldl domSwitchOn d else d

/-- What follows the training of LPDDR5X. -/
def bringupRest (n : Nat) (m : Option Nat) (d : Device) : Device :=
  let d := if sinceFur n m 0 then domSwitchOn d 23 else d
  let d := if sinceFur n m 2 then (d.targeted storeDoms).foldl domSwitchOn d else d
  let d := if sinceFur n m 4 then (d.targeted midDoms).foldl domSwitchOn d else d
  if sinceFur n m 6 then (d.targeted arrayDoms).foldl domSwitchOn d else d

/-- The module is in service. -/
def inService (d : Device) : Device := (detectSlots .empty (d.withPower { d.power with phase := .service })).raise 0x0E01 []

theorem switchedOn_first (d : Device) : SwitchedOn d (bringupFirst d) := .ite _ ((SwitchedOn.refl d).step 17) (.refl d)

theorem switchedOn_memory (n : Nat) (d : Device) : SwitchedOn d (bringupMemory n d) := .ite _ ((SwitchedOn.refl d).foldl _) (.refl d)

theorem switchedOn_rest (n : Nat) (m : Option Nat) (d : Device) : SwitchedOn d (bringupRest n m d) := by
  have group (p : Prop) [Decidable p] (l : List Nat) (e : Device) : SwitchedOn e (if p then l.foldl domSwitchOn e else e) :=
    .ite _ ((SwitchedOn.refl e).foldl l) (.refl e)
  exact (((group _ [23] d).trans (group _ _ _)).trans (group _ _ _)).trans (group _ _ _)

theorem SwitchedOn.furs_eq {a b : Device} (h : SwitchedOn a b) :
    b.power.verFur = a.power.verFur ∧ b.power.memFur = a.power.memFur := by
  obtain ⟨⟨x, y, rfl⟩, -⟩ := h
  exact ⟨rfl, rfl⟩

/-- The groups of start-up that have been switched on. -/
def bringupGroups (d : Device) : Device := bringupRest d.power.furs d.power.memFur (bringupMemory d.power.furs (bringupFirst d))

theorem switchedOn_groups (d : Device) : SwitchedOn d (bringupGroups d) :=
  ((switchedOn_first d).trans (switchedOn_memory _ _)).trans (switchedOn_rest _ _ _)

theorem bringupStep_eq {d : Device} (h : d.power.phase = .bringup) : bringupStep d =
    if sinceFur d.power.furs d.power.memFur 8 then inService (bringupGroups d) else bringupGroups d := by
  have hph : (bringupFirst d).power.phase = .bringup := (switchedOn_first d).phase.trans h
  have hmem := ((switchedOn_first d).trans (switchedOn_memory d.power.furs _)).furs_eq.2
  have hstep : bringupStep d = if (bringupFirst d).power.phase != .bringup then bringupFirst d else
      if sinceFur d.power.furs (bringupMemory d.power.furs (bringupFirst d)).power.memFur 8 then
        inService (bringupRest d.power.furs (bringupMemory d.power.furs (bringupFirst d)).power.memFur
          (bringupMemory d.power.furs (bringupFirst d)))
      else bringupRest d.power.furs (bringupMemory d.power.furs (bringupFirst d)).power.memFur
          (bringupMemory d.power.furs (bringupFirst d)) := rfl
  rw [hstep, hph, if_neg (by decide), hmem]
  rfl

theorem dom_groups (d : Device) : (1 ≤ d.power.furs → (bringupGroups d).dom 17 ≠ 0) ∧
    ∀ v, d.power.verFur = some v → v + 3 ≤ d.power.furs → (bringupGroups d).dom 24 ≠ 0 ∧ (bringupGroups d).dom 25 ≠ 0 := by
  refine ⟨fun h => ?_, fun v hv h => ?_⟩
  · refine ((switchedOn_memory _ _).trans (switchedOn_rest _ _ _)).on (by decide) ?_
    unfold bringupFirst
    rw [if_pos h]
    exact dom_domSwitchOn (by decide) rfl d
  · have hmem : bringupMemory d.power.furs (bringupFirst d) = [24, 25, 19].foldl domSwitchOn (bringupFirst d) :=
      if_pos (sinceFur_of_le ((switchedOn_first d).furs_eq.1.trans hv) h)
    refine ⟨(switchedOn_rest _ _ _).on (by decide) ?_, (switchedOn_rest _ _ _).on (by decide) ?_⟩
    · rw [hmem]
      exact dom_foldl_switchOn (by decide) rfl (by simp) _
    · rw [hmem]
      exact dom_foldl_switchOn (by decide) rfl (by simp) _

theorem inService_eq (d : Device) : ∃ x, inService d =
    (({ d with flash := x } : Device).withPower { d.power with phase := .service }).raise 0x0E01 [] := by
  obtain ⟨x, hx⟩ := detects_flash (st := .empty) rfl (List.range 4) (d.withPower { d.power with phase := .service })
  refine ⟨x, ?_⟩
  unfold inService
  rw [detectSlots_eq, hx]
  rfl

theorem slot_of_flash {a b : Device} (h : b.flash = a.flash) (n : Nat) : b.slot n = a.slot n := by
  unfold Device.slot
  rw [h]

theorem slot_raise (d : Device) (code : Nat) (pay : List (Nat × Nat)) (n : Nat) : (d.raise code pay).slot n = d.slot n := rfl

theorem slot_inService {d : Device} {n : Nat} (hn : n < 4) (hc : (d.slot n).cart ≠ none) (he : (d.slot n).st = .empty) :
    ((inService d).slot n).st = .detected ∧ ((inService d).slot n).cart = (d.slot n).cart := by
  unfold inService
  rw [detectSlots_eq, slot_raise]
  exact slot_detects _ _ hc (.inr ⟨he, by simpa using hn⟩)

theorem raise_ev_congr {a b : Device} (h : a.ev = b.ev) (code : Nat) (pay : List (Nat × Nat)) :
    (a.raise code pay).ev = (b.raise code pay).ev := by
  unfold Device.raise Device.raiseReq
  rw [h]

section
variable {s : State}

theorem bringup_steps (hset : s.settled) (hph : s.dev.power.phase = .bringup) : Ends .bringupStep s (fun t =>
    s.frame [.power, .flash] [] t ∧
    (1 ≤ s.dev.power.furs → t.dev.power.doms.getD 17 0 ≠ 0) ∧
    (∀ v, s.dev.power.verFur = some v → v + 3 ≤ s.dev.power.furs →
      t.dev.power.doms.getD 24 0 ≠ 0 ∧ t.dev.power.doms.getD 25 0 ≠ 0) ∧
    ((∀ m, s.dev.power.memFur = some m → s.dev.power.furs < m + 8) →
      t.dev.power.phase = .bringup ∧ t.dev.flash = s.dev.flash) ∧
    (∀ m, s.dev.power.memFur = some m → m + 8 ≤ s.dev.power.furs → t.dev.power.phase = .service ∧
      s.raised ⟨0x0E01, 4, none, []⟩ t ∧ ∀ n, n < 4 → (s.dev.slot n).cart ≠ none → (s.dev.slot n).st = .empty →
        (t.dev.slot n).st = .detected ∧ (t.dev.slot n).cart = (s.dev.slot n).cart)) := by
  have heff := bringupStep_eq hph
  obtain ⟨hfirst, hmemory⟩ := dom_groups s.dev
  have hon := switchedOn_groups s.dev
  by_cases h8 : sinceFur s.dev.power.furs s.dev.power.memFur 8 = true
  · rw [if_pos h8] at heff
    obtain ⟨x, hx⟩ := inService_eq (bringupGroups s.dev)
    have hflash : Device.Only [.power, .flash] [] (bringupGroups s.dev) { bringupGroups s.dev with flash := x } :=
      .of_regs [.flash] rfl (by simp) rfl
    refine ends_onDev (c := .bringupStep) (f := fun _ d => bringupStep d) rfl (heff.trans hx)
      ((((hon.only (by simp)).trans hflash).trans (only_power (by simp) _ _)).raise _ _)
      fun t ht hfr => ⟨hfr, fun h => ?_, fun v hv h => ?_, fun h => ?_, fun m hm h => ⟨?_, ?_, fun n hn hc he => ?_⟩⟩
    · rw [ht, Device.flush_power]
      exact hfirst h
    · rw [ht, Device.flush_power]
      exact hmemory v hv h
    · rw [not_sinceFur h] at h8
      exact absurd h8 (by decide)
    · rw [ht, Device.flush_power]
      rfl
    · refine raised_of_ev (raise_ev_congr (b := s.dev) ?_ 0x0E01 []) hset ht
      exact hon.ev
    · have hsame : (bringupGroups s.dev).slot n = s.dev.slot n := slot_of_flash hon.flash n
      rw [ht, slot_flush, ← hx, ← hsame]
      exact slot_inService hn (hsame ▸ hc) (hsame ▸ he)
  · rw [if_neg h8] at heff
    refine ends_onDev (c := .bringupStep) (f := fun _ d => bringupStep d) rfl heff (hon.only (by simp))
      fun t ht hfr => ⟨hfr, fun h => ?_, fun v hv h => ?_, fun h => ⟨?_, ?_⟩, fun m hm h => ?_⟩
    · rw [ht, Device.flush_power]
      exact hfirst h
    · rw [ht, Device.flush_power]
      exact hmemory v hv h
    · rw [ht, Device.flush_power, hon.phase, hph]
    · rw [ht, Device.flush_flash, hon.flash]
    · exact absurd (sinceFur_of_le hm h) h8

end

end Sys2Proof.Machine
end

section
/-! PROOFS of the training of LPDDR5X, of sleep and wake and of the management interface (R156, R471 to R474, R515). -/
namespace Sys2Proof.Machine

/-! ### LPDDR5X that failed its training (R156) -/

/-- A channel that failed. -/
def channelFails (d : Device) (c : Nat) : Device := (d.setFld (inst R.MEMC_CH_INFO c) 31 31 1).raise 0x0309 []

theorem only_channelFails {ps : List DevPart} {ks : List Nat} {c : Nat} (hk : inst R.MEMC_CH_INFO c ∈ ks) (d : Device) :
    Device.Only ps ks d (channelFails d c) := ((Device.Only.refl d).setFld _ _ _ hk).raise _ _

theorem only_channelsFail {ps : List DevPart} {ks : List Nat} (l : List Nat) (hk : ∀ c ∈ l, inst R.MEMC_CH_INFO c ∈ ks) (d : Device) :
    Device.Only ps ks d (l.foldl channelFails d) := by
  induction l generalizing d with
  | nil => exact .refl d
  | cons c l ih =>
    exact (only_channelFails (hk c (by simp)) d).trans (ih (fun x hx => hk x (by simp [hx])) _)

theorem fld_channelFails (d : Device) (c k : Nat) (h : c = k ∨ d.fld (inst R.MEMC_CH_INFO k) 31 31 = 1) :
    (channelFails d c).fld (inst R.MEMC_CH_INFO k) 31 31 = 1 := by
  by_cases hk : inst R.MEMC_CH_INFO c = inst R.MEMC_CH_INFO k
  · show (d.setFld (inst R.MEMC_CH_INFO c) 31 31 1).fld _ 31 31 = 1
    rw [hk]
    exact fld_setFld d _ (by decide) (by decide) 1
  · rcases h with rfl | h
    · exact absurd rfl hk
    · show (d.setFld (inst R.MEMC_CH_INFO c) 31 31 1).fld _ 31 31 = 1
      rw [fld_setFld_ne _ _ _ _ _ _ hk]
      exact h

theorem fld_channelsFail {k : Nat} (l : List Nat) (d : Device) (h : k ∈ l ∨ d.fld (inst R.MEMC_CH_INFO k) 31 31 = 1) :
    (l.foldl channelFails d).fld (inst R.MEMC_CH_INFO k) 31 31 = 1 := by
  induction l generalizing d with
  | nil => exact h.resolve_left (by simp)
  | cons c l ih =>
    refine ih _ ?_
    rcases h with h | h
    · rcases List.mem_cons.mp h with rfl | h
      · exact .inr (fld_channelFails d _ _ (.inl rfl))
      · exact .inl h
    · exact .inr (fld_channelFails d _ _ (.inr h))

theorem ev_channelsFail (l : List Nat) (d : Device) : (l.foldl channelFails d).ev.counts = d.ev.counts ∧
    raisesOf 0x0E03 (l.foldl channelFails d).ev.raised = raisesOf 0x0E03 d.ev.raised ∧ (l.foldl channelFails d).power = d.power := by
  induction l generalizing d with
  | nil => exact ⟨rfl, rfl, rfl⟩
  | cons c l ih =>
    obtain ⟨hc, hr, hp⟩ := ih (channelFails d c)
    exact ⟨hc, hr, hp⟩

section
variable {s : State}

theorem training_ends (l : List Nat) (hset : s.settled) (hph : s.dev.power.phase = .bringup) (hm : s.dev.power.memFur = none)
    (hdom : s.dev.power.doms.getD 19 0 ≠ 0) :
    (l = [] → Ends (.memcTrainingDone l) s (fun t => s.frame [.power, .store] [] t ∧
      t.dev.store = { s.dev.store with chTrained := true } ∧ t.dev.power = { s.dev.power with
        memFur := some (if s.tb.offset = 0 then s.dev.power.furs else s.dev.power.furs + 1) })) ∧
    (l ≠ [] → Ends (.memcTrainingDone l) s (fun t => s.frame [.power] (l.map (inst R.MEMC_CH_INFO)) t ∧
      s.counted 0x0E03 t ∧ t.dev.power = { s.dev.power with phase := .halted } ∧
      ∀ c, c ∈ l → t.dev.fld (inst R.MEMC_CH_INFO c) 31 31 = 1)) := by
  have hmay : ¬ (s.dev.power.phase != .bringup || s.dev.power.memFur.isSome || s.dev.domState 19 == 0) = true := by
    rw [domState_of (by decide), hph, hm]
    simpa [Device.dom] using hdom
  refine ⟨fun hl => ?_, fun hl => ?_⟩
  · subst hl
    have heff : memcTrained [] s.tb s.dev = ({ s.dev with store := { s.dev.store with chTrained := true } } : Device).withPower
        { s.dev.power with memFur := some (if s.tb.offset = 0 then s.dev.power.furs else s.dev.power.furs + 1) } := by
      unfold memcTrained
      rw [if_neg hmay]
      simp [Device.withPower]
    have hstore : Device.Only [.power, .store] [] s.dev { s.dev with store := { s.dev.store with chTrained := true } } :=
      .of_regs [.store] rfl (by simp) rfl
    refine ends_onDev (f := memcTrained []) rfl heff (hstore.trans (only_power (by simp) _ _)) fun t ht hfr => ⟨hfr, ?_, ?_⟩
    · rw [ht, Device.flush_store]
      rfl
    · rw [ht, Device.flush_power]
      rfl
  · obtain ⟨hc, hr, hp⟩ := ev_channelsFail l s.dev
    have heff : memcTrained l s.tb s.dev = ((l.foldl channelFails s.dev).withPower
        { (l.foldl channelFails s.dev).power with phase := .halted }).raise 0x0E03 [] := by
      unfold memcTrained
      rw [if_neg hmay, if_neg (by simpa using hl)]
      rfl
    refine ends_onDev (f := memcTrained l) rfl heff
      (((only_channelsFail l (fun c hc => List.mem_map_of_mem hc) _).trans (only_power (by simp) _ _)).raise _ _)
      fun t ht hfr => ⟨hfr, counted_of ?_ ?_ ht, ?_, fun c hm => ?_⟩
    · exact hc
    · have hone (x : List EventReq) : raisesOf 0x0E03 (⟨0x0E03, 4, none, []⟩ :: x) = raisesOf 0x0E03 x + 1 := by simp [raisesOf]
      refine (hone _).trans ?_
      refine congrArg (· + 1) (hr.trans ?_)
      rw [hset]
      rfl
    · rw [ht, Device.flush_power, ← hp]
      rfl
    · rw [ht, fld_flush _ _ (inst_notEvent (by decide) c)]
      exact fld_channelsFail l s.dev (.inl hm)

/-! ### Sleep (R471, R473) -/

theorem sleep_arms : (s.dev.power.phase = .service → Ends .sleepArm s (fun t => s.frame [.port, .power] [] t ∧
      t.dev.power = { s.dev.power with sleepPend := true, sleepTried := 0 })) ∧
    Ends .sleepCancel s (fun t => s.frame [.port, .power] [] t ∧
      t.dev.power = { s.dev.power with sleepPend := false, sleepTried := 0 }) :=
  ⟨fun hph => ends_onAon_power (f := fun _ d => sleepArm d) rfl (if_neg (by simp [hph])),
    ends_onAon_power (f := fun _ d => sleepCancel d) rfl rfl⟩

theorem sleep_limit (hset : s.settled) (hp : s.dev.power.sleepPend = true) (hl : s.dev.cfgLimit ≤ s.dev.power.sleepTried) :
    Ends .dormantEntryLimit s (fun t =>
      s.frame [.power] [R.PWR_SLEEP_CTRL] t ∧ t.dev.power = { s.dev.power with sleepPend := false, sleepTried := 0 } ∧
      t.dev.fld R.PWR_SLEEP_CTRL 17 16 = 3 ∧ s.raised ⟨0x0E0B, 4, none, []⟩ t) := by
  have heff : dormantEntryLimit s.dev = ((sleepCancel s.dev).setFld R.PWR_SLEEP_CTRL 17 16 3).raise 0x0E0B [] :=
    if_pos (by simp [hp, hl])
  refine ends_onDev (f := fun _ d => dormantEntryLimit d) rfl heff (((only_power (by simp) _ _).setFld _ _ _ (by simp)).raise _ _)
    fun t ht hfr => ⟨hfr, ?_, fld_of_setFld ht rfl (by decide) (by decide) (by decide) (by decide), raised_of_ev (by rfl) hset ht⟩
  rw [ht, Device.flush_power]
  rfl

theorem wakeRequest_of_dormant {d : Device} (h : d.power.phase = .dormant) :
    wakeRequest d = { d with power := { d.power with phase := .waking, wakeFur := some d.power.furs } } := by
  unfold wakeRequest
  rw [h]

theorem wakeRequest_of_pending {d : Device} (h : d.power.phase = .service) (hp : d.power.sleepPend = true) :
    wakeRequest d = (sleepCancel d).setFld R.PWR_SLEEP_CTRL 17 16 2 := by
  unfold wakeRequest
  rw [h]
  exact if_pos hp

theorem wakes_from_dormant (hph : s.dev.power.phase = .dormant) (c : Instr) (hc : c = .i3cWake ∨ (c = .wakeAtExpiry ∧
      s.dev.fld R.PWR_SLEEP_CTRL 2 2 = 1 ∧ furLe (BitVec.ofNat 48 (s.dev.reg64 R.PWR_WAKE_AT_LO)) s.tb.number = true)) :
    Ends c s (fun t => s.frame [.power] [] t ∧
      t.dev.power = { s.dev.power with phase := .waking, wakeFur := some s.dev.power.furs }) := by
  rcases hc with rfl | ⟨rfl, harm, hat⟩
  · exact ends_onDev_power (f := fun _ d => wakeRequest d) rfl (wakeRequest_of_dormant hph)
  · refine ends_onDev_power (f := wakeAtExpiry) rfl ((if_pos ?_).trans (wakeRequest_of_dormant hph))
    simp [harm, hat]

theorem wake_cancels_sleep (hph : s.dev.power.phase = .service) (hp : s.dev.power.sleepPend = true) :
    Ends .i3cWake s (fun t => s.frame [.power] [R.PWR_SLEEP_CTRL] t ∧
      t.dev.power = { s.dev.power with sleepPend := false, sleepTried := 0 } ∧ t.dev.fld R.PWR_SLEEP_CTRL 17 16 = 2) := by
  refine ends_onDev (f := fun _ d => wakeRequest d) rfl (wakeRequest_of_pending hph hp)
    ((only_power (by simp) _ _).setFld _ _ _ (by simp)) fun t ht hfr =>
    ⟨hfr, ?_, fld_of_setFld ht rfl (by decide) (by decide) (by decide) (by decide)⟩
  rw [ht, Device.flush_power]
  rfl

end

/-! ### The wake from Dormant (R473) -/

/-- A step of the wake: power and slots alone, and no domain that is not OFF leaves its state, other than to be ON. -/
structure WakesTo (a b : Device) : Prop where
  only : Device.Only [.power, .flash] [] a b
  phase : b.power.phase = a.power.phase
  kept : ∀ n, n < 26 → a.dom n ≠ 0 → b.dom n = a.dom n ∨ b.dom n = 2

theorem WakesTo.refl (a : Device) : WakesTo a a := ⟨.refl a, rfl, fun _ _ _ => .inl rfl⟩

theorem WakesTo.trans {a b c : Device} (h : WakesTo a b) (g : WakesTo b c) : WakesTo a c := by
  refine ⟨h.only.trans g.only, g.phase.trans h.phase, fun n hn h0 => ?_⟩
  rcases h.kept n hn h0 with h1 | h1
  · rw [← h1]
    exact g.kept n hn (h1 ▸ h0)
  · have h2 := g.kept n hn (by rw [h1]; decide)
    rw [h1] at h2
    exact .inr (h2.elim id id)

theorem WakesTo.on {a b : Device} (h : WakesTo a b) {n : Nat} (hn : n < 26) (h0 : a.dom n ≠ 0) : b.dom n ≠ 0 := by
  rcases h.kept n hn h0 with h1 | h1
  · exact h1 ▸ h0
  · rw [h1]
    decide

theorem WakesTo.stays_on {a b : Device} (h : WakesTo a b) {n : Nat} (hn : n < 26) (h2 : a.dom n = 2) : b.dom n = 2 := by
  rcases h.kept n hn (by rw [h2]; decide) with h1 | h1
  · exact h1.trans h2
  · exact h1

theorem SwitchedOn.wakesTo {a b : Device} (h : SwitchedOn a b) : WakesTo a b :=
  ⟨h.only (by simp), h.phase, fun n hn h0 => .inl (h.kept n hn h0)⟩

theorem wakesTo_foldl {f : Device → Nat → Device} (hf : ∀ d n, WakesTo d (f d n)) (l : List Nat) (d : Device) : WakesTo d (l.foldl f d) := by
  induction l generalizing d with
  | nil => exact .refl d
  | cons n l ih => exact (hf d n).trans (ih _)

/-- A store domain comes back out of its retention. -/
def retentionEnds (d : Device) (n : Nat) : Device := if d.domState n == 3 then (d.setDom n 2).raise 0x0E04 [(1, n)] else d

theorem dom_retentionEnds {n k : Nat} (hk : k < 26) (d : Device) :
    (retentionEnds d k).dom n = if k = n ∧ d.dom k = 3 then 2 else d.dom n := by
  unfold retentionEnds
  rw [domState_of hk]
  by_cases h : d.dom k = 3
  · rw [if_pos (by simpa using h)]
    refine (dom_setDom d k 2 n).trans ?_
    simp [h]
  · rw [if_neg (by simpa using h), if_neg fun hx => h hx.2]

theorem wakesTo_retentionEnds {k : Nat} (hk : k < 26) (d : Device) : WakesTo d (retentionEnds d k) := by
  refine ⟨?_, ?_, fun n _ _ => ?_⟩
  · unfold retentionEnds
    split
    · exact (only_power (by simp) d _).raise _ _
    · exact .refl d
  · unfold retentionEnds
    split
    · rfl
    · rfl
  · rw [dom_retentionEnds hk]
    split
    · exact .inr rfl
    · exact .inl rfl

theorem wakesTo_retentionsEnd (l : List Nat) (hl : ∀ n ∈ l, n < 26) (d : Device) : WakesTo d (l.foldl retentionEnds d) := by
  induction l generalizing d with
  | nil => exact .refl d
  | cons k l ih => exact (wakesTo_retentionEnds (hl k (by simp)) d).trans (ih (fun n hn => hl n (by simp [hn])) _)

theorem dom_retentionsEnd {n : Nat} (l : List Nat) (hl : ∀ n ∈ l, n < 26) (hn : n ∈ l) (d : Device) (h : d.dom n = 3 ∨ d.dom n = 2) :
    (l.foldl retentionEnds d).dom n = 2 := by
  induction l generalizing d with
  | nil => cases hn
  | cons k l ih =>
    have hl' : ∀ n ∈ l, n < 26 := fun n hn => hl n (by simp [hn])
    have hdom := dom_retentionEnds (n := n) (hl k (by simp)) d
    by_cases h2 : (retentionEnds d k).dom n = 2
    · exact (wakesTo_retentionsEnd l hl' _).stays_on (hl n hn) h2
    · have hk : k ≠ n := by
        rintro rfl
        rw [hdom] at h2
        rcases h with h | h
        · exact h2 (if_pos ⟨rfl, h⟩)
        · exact h2 (by rw [if_neg (by rw [h]; simp), h])
      rw [if_neg fun hx => hk hx.1] at hdom
      exact ih hl' ((List.mem_cons.mp hn).resolve_left (Ne.symm hk)) _ (by rwa [hdom])

theorem wakesTo_detect (d : Device) (n : Nat) : WakesTo d (detect .removable d n) := by
  obtain ⟨x, hx⟩ := detect_flash (st := .removable) rfl d n
  rw [hx]
  exact ⟨.of_regs [.flash] rfl (by simp) rfl, rfl, fun _ _ _ => .inl rfl⟩

/-- The domains of a list that were ON at the entry. -/
def Device.back (d : Device) (l : List Nat) : List Nat := l.filter d.power.onAtEntry.contains

/-- A group of domains of the wake. -/
def wakeGroup (p : Prop) [Decidable p] (l : List Nat) (d : Device) : Device := if p then l.foldl domSwitchOn d else d

theorem switchedOn_wakeGroup (p : Prop) [Decidable p] (l : List Nat) (d : Device) : SwitchedOn d (wakeGroup p l d) :=
  .ite _ ((SwitchedOn.refl d).foldl l) (.refl d)

/-- The stores come back, with what needs them, and the slots that hold a cartridge. -/
def wakeStores (p : Prop) [Decidable p] (l m : List Nat) (d : Device) : Device :=
  if p then detectSlots .removable (m.foldl domSwitchOn (l.foldl retentionEnds d)) else d

theorem wakesTo_wakeStores (p : Prop) [Decidable p] (l m : List Nat) (hl : ∀ n ∈ l, n < 26) (d : Device) : WakesTo d (wakeStores p l m d) := by
  unfold wakeStores
  split
  · rw [detectSlots_eq]
    exact ((wakesTo_retentionsEnd l hl d).trans ((SwitchedOn.refl _).foldl m).wakesTo).trans (wakesTo_foldl wakesTo_detect _ _)
  · exact .refl d

theorem dom_wakeStores {p : Prop} [Decidable p] (hp : p) {l m : List Nat} (hl : ∀ n ∈ l, n < 26) {d : Device} {n : Nat} (hn : n ∈ l)
    (h : d.dom n = 3) : (wakeStores p l m d).dom n = 2 := by
  unfold wakeStores
  rw [if_pos hp, detectSlots_eq]
  exact (((SwitchedOn.refl _).foldl m).wakesTo.trans (wakesTo_foldl wakesTo_detect _ _)).stays_on (hl n hn)
    (dom_retentionsEnd l hl hn d (.inl h))

theorem wakeStep_eq {d : Device} {w : Nat} (hph : d.power.phase = .waking) (hw : d.power.wakeFur = some w) : wakeStep d =
    wakeGroup (w + 7 ≤ d.power.furs) (d.back arrayDoms) (wakeStores (w + 5 ≤ d.power.furs) (d.back storeDoms) (d.back midDoms)
      (wakeGroup (w + 3 ≤ d.power.furs) (d.back [23]) (wakeGroup (w + 1 ≤ d.power.furs) (d.back [19, 17]) d))) := by
  unfold wakeStep
  rw [hph, hw]
  simp only [decide_eq_true_eq]
  rfl

theorem back_storeDoms_lt (d : Device) : ∀ n ∈ d.back storeDoms, n < 26 := by
  intro n hn
  have h : ∀ m ∈ storeDoms, m < 26 := by decide
  exact h n (List.mem_filter.mp hn |>.1)

theorem mem_back {d : Device} {l : List Nat} {n : Nat} (hl : n ∈ l) (h : n ∈ d.power.onAtEntry) : n ∈ d.back l := by
  simp [Device.back, hl, h]

section
variable {s : State} {w : Nat} (hph : s.dev.power.phase = .waking) (hw : s.dev.power.wakeFur = some w)
include hph hw

theorem wake_steps : Ends .wakeStep s (fun t => s.frame [.power, .flash] [] t ∧ t.dev.power.phase = .waking ∧
        (w + 1 ≤ s.dev.power.furs → 17 ∈ s.dev.power.onAtEntry → t.dev.power.doms.getD 17 0 ≠ 0) ∧
        (w + 5 ≤ s.dev.power.furs → ∀ n, n ∈ storeDoms → n ∈ s.dev.power.onAtEntry → s.dev.power.doms.getD n 0 = 3 →
          t.dev.power.doms.getD n 0 = 2)) := by
  have hstores := back_storeDoms_lt s.dev
  have hlast := fun e => (switchedOn_wakeGroup (w + 7 ≤ s.dev.power.furs) (s.dev.back arrayDoms) e).wakesTo
  have hmid := wakesTo_wakeStores (w + 5 ≤ s.dev.power.furs) (s.dev.back storeDoms) (s.dev.back midDoms) hstores
  have hthird := switchedOn_wakeGroup (w + 3 ≤ s.dev.power.furs) (s.dev.back [23])
  have hfirst := switchedOn_wakeGroup (w + 1 ≤ s.dev.power.furs) (s.dev.back [19, 17]) s.dev
  have hall := ((hfirst.trans (hthird _)).wakesTo.trans (hmid _)).trans (hlast _)
  refine ends_onDev (c := .wakeStep) (f := fun _ d => wakeStep d) rfl (wakeStep_eq hph hw) hall.only
    fun t ht hfr => ⟨hfr, ?_, fun h h17 => ?_, fun h n hn hon h3 => ?_⟩
  · rw [ht, Device.flush_power, hall.phase, hph]
  · rw [ht, Device.flush_power]
    refine (((hthird _).wakesTo.trans (hmid _)).trans (hlast _)).on (by decide) ?_
    unfold wakeGroup
    rw [if_pos h]
    exact dom_foldl_switchOn (by decide) rfl (mem_back (by simp) h17) _
  · rw [ht, Device.flush_power]
    have hb := mem_back hn hon
    have h3' := ((hfirst.trans (hthird _)).kept n (hstores n hb) (by rw [Device.dom, h3]; decide)).trans h3
    exact (hlast _).stays_on (hstores n hb) (dom_wakeStores h hstores hb h3')

/-- The device as the module wakes. -/
def awakened (d : Device) : Device := ((d.withPower { d.power with phase := .service, wakeFur := none }).inc R.PWR_WAKES).raise 0x0E0C []

theorem wake_ends (hset : s.settled) (h32 : w + 32 ≤ s.dev.power.furs) :
    Ends .wakeDone s (fun t => ∃ u : State, t = (furrowSteps s.tb.awake u).flushed ∧
        u.tb = s.tb ∧ u.pending = s.pending ∧ s.regsBut [R.PWR_WAKES] u ∧
        u.dev.reg R.PWR_WAKES = min (s.dev.reg R.PWR_WAKES + 1) 0xFFFFFFFF ∧
        u.dev.ev.raised = [⟨0x0E0C, 4, none, []⟩] ∧
        u.dev.power = { s.dev.power with phase := .service, wakeFur := none } ∧
        ∀ p : DevPart, p ≠ .regs → p ≠ .ev → p ≠ .power → p.same s.dev u.dev) := by
  intro hl
  refine ⟨(wakeDone s).flushed, ?_, s.onPart fun _ d => awakened d, ?_, rfl, rfl, ?_, reg_incBy_self _ _ _, ?_, rfl, ?_⟩
  · exact congrArg Host.Outcome.next (s.live_of _ hl)
  · unfold wakeDone
    rw [hph, hw]
    exact congrArg State.flushed (if_pos h32)
  all_goals
    have honly : Device.Only [.power] [R.PWR_WAKES] s.dev (awakened s.dev) :=
      (((only_power (by simp) s.dev _).inc (by simp)).raise _ _)
  · exact honly.regs
  · exact congrArg (List.cons _) hset
  · exact fun p h1 h2 h3 => honly.part p (by simpa using h3) h1 h2

end

/-! ### The management interface (R474, R515) -/

section
variable {s : State}

theorem management (hset : s.settled) :
    (∀ a, a < 128 → Ends (.entdaa a) s (fun t => s.frame [.power] [] t ∧ t.dev.i3cAddr = a ∧
      t.dev.power = { s.dev.power with dynAddr := some a })) ∧
    Ends .i3cStatusRead s (fun t => s.frame [.power] [] t ∧ t.dev.power = { s.dev.power with
      i3cOut := [BitVec.ofNat 8 (phaseCode s.dev.power.phase), BitVec.ofNat 8 (boolBit s.dev.linkUp), 0, 0] }) ∧
    Ends .i3cOtherWrite s (fun t => t = s) := by
  refine ⟨fun a ha => ?_, ends_onDev_power (f := fun _ d => { d with power := { d.power with i3cOut := i3cStatus d } }) rfl rfl,
    ends_same (f := fun _ d => d) rfl rfl hset⟩
  have hmod : a % 128 = a := Nat.mod_eq_of_lt ha
  refine (ends_onDev_power (f := fun _ d => { d with power := { d.power with dynAddr := some (a % 128) } }) rfl rfl).imp
    fun t ⟨hfr, hp⟩ => ⟨hfr, ?_, ?_⟩
  · unfold Device.i3cAddr
    rw [hp, hmod]
    rfl
  · rw [hp, hmod]

end

/-- Settles O59: a clause for each part of the controller's work, each from the effect of its command on the state of power. -/
theorem powerStartupAndSleep : Obligations.PowerStartupAndSleep := by
  unfold Obligations.PowerStartupAndSleep
  refine ⟨fun s n m h => functions_switch n m h, fun s n hset h1 h2 => staging_arms n hset h1 h2, fun s x hset hx => staging_ends x hset hx,
    fun s => domains_powered, fun s w hv => boot_image w hv, fun s ok c hset hv => verification_ends ok c hset hv,
    fun s hset hph => bringup_steps hset hph, fun s l hset hph hm hdom => training_ends l hset hph hm hdom, fun s hset => ?_⟩
  obtain ⟨harm, hcancel⟩ := sleep_arms (s := s)
  obtain ⟨hent, hread, hother⟩ := management hset
  exact ⟨harm, hcancel, sleep_limit hset, wakes_from_dormant, wake_cancels_sleep,
    fun w hph hw => ⟨wake_steps hph hw, wake_ends hph hw hset⟩, hent, hread, hother⟩

end Sys2Proof.Machine
end

section
/-! PROOFS of the doorbells and the commands of a queue pair (R376 to R381, R384, R385, R398, R399, R502). -/
namespace Sys2Proof.Machine

/-! ### The state of a queue pair -/

section
variable {ps : List DevPart} {ks : List Nat} (d : Device)

theorem qp_setQp (q j : Nat) (x : QueuePair) : (d.setQp q x).qp j = if q = j then x else d.qp j := Tbl.getD_set ..

theorem qp_setQp_self (q : Nat) (x : QueuePair) : (d.setQp q x).qp q = x := (qp_setQp d q q x).trans (if_pos rfl)

theorem qp_setQp_ne {q j : Nat} (h : j ≠ q) (x : QueuePair) : (d.setQp q x).qp j = d.qp j := (qp_setQp d q j x).trans (if_neg h.symm)

theorem qp_of_qm {a b : Device} (h : b.qm = a.qm) (q : Nat) : b.qp q = a.qp q := by
  unfold Device.qp
  rw [h]

theorem qp_flush (tb : Timebase) (q : Nat) : (d.flush tb).qp q = d.qp q := qp_of_qm (Device.flush_qm tb d) q

theorem only_setQp (hp : .qm ∈ ps) (q : Nat) (x : QueuePair) : Device.Only ps ks d (d.setQp q x) :=
  .of_regs [.qm] rfl (by simpa using hp) rfl

theorem only_deadReads (hp : .host ∈ ps) (q : Nat) : Device.Only ps ks d (d.deadReads q) :=
  .of_regs [.host] rfl (by simpa using hp) rfl

theorem access_eq (q : Nat) (t : HostTxn) : ∃ h o, d.access q t = { d with host := h, out := o } := by
  unfold Device.access
  split
  · exact ⟨_, _, rfl⟩
  · exact ⟨_, _, rfl⟩

/-- What a fetch of the next descriptor leaves: all but what is asked for. -/
theorem fetchNext_eq (q : Nat) : ∃ r h o, fetchNext q d = { d.setQp q { d.qp q with requested := r } with host := h, out := o } ∨ fetchNext q d = d := by
  unfold fetchNext
  dsimp only
  split
  · exact ⟨0, d.host, d.out, .inr rfl⟩
  · split
    · exact ⟨0, d.host, d.out, .inr rfl⟩
    · rename_i tag _
      obtain ⟨h, o, he⟩ := access_eq { d.setQp q { d.qp q with requested := ((d.qp q).sqHead + 1) % 65536 } with
        host := { d.host with drds := d.host.drds.set tag (q, (d.qp q).sqHead) } } q
        (.drd tag (d.reg64 (qpReg R.QM_QP_SQ_BASE_LO q) + 256 * ((d.qp q).sqHead % 2 ^ d.sqLog q)) 256)
      exact ⟨_, h, o, .inl he⟩

theorem only_fetchNext (q : Nat) : Device.Only [.qm, .host, .out] ks d (fetchNext q d) := by
  obtain ⟨r, h, o, he | he⟩ := fetchNext_eq d q
  · rw [he]
    exact .of_regs [.qm, .host, .out] rfl (by simp) rfl
  · rw [he]
    exact .refl d

theorem qp_fetchNext (q : Nat) : ∃ r, (fetchNext q d).qp q = { d.qp q with requested := r } := by
  obtain ⟨r, h, o, he | he⟩ := fetchNext_eq d q
  · exact ⟨r, (qp_of_qm (a := d.setQp q _) (by rw [he]) q).trans (qp_setQp_self ..)⟩
  · exact ⟨(d.qp q).requested, by rw [he]⟩

theorem qp_fetchNext_ne {q j : Nat} (hj : j ≠ q) : (fetchNext q d).qp j = d.qp j := by
  obtain ⟨r, h, o, he | he⟩ := fetchNext_eq d q
  · exact (qp_of_qm (a := d.setQp q _) (by rw [he]) j).trans (qp_setQp_ne _ hj _)
  · rw [he]

end

/-! ### Doorbells (R377, R378, R381) -/

section
variable {s : State} (q v : Nat)

theorem only_doorbellDiscard (d : Device) : Device.Only [] [R.QM_DOORBELL_DISCARDS] d (doorbellDiscard q d) :=
  ((Device.Only.refl d).inc (by simp)).raiseCtx _ _ _

theorem doorbell_discarded (hset : s.settled) {c : Instr} {f : Timebase → Device → Device} (he : exec c s = .next (s.onDev f))
    (hf : f s.tb s.dev = doorbellDiscard q s.dev) : Ends c s (fun t =>
      s.frame [] [R.QM_DOORBELL_DISCARDS] t ∧ s.raised ⟨0x0B02, 4, some (s.dev.qpCtx q), []⟩ t ∧
      t.dev.reg R.QM_DOORBELL_DISCARDS = min (s.dev.reg R.QM_DOORBELL_DISCARDS + 1) 0xFFFFFFFF) := by
  refine ends_onDev he hf (only_doorbellDiscard q _) fun t ht hfr => ⟨hfr, raised_of_ev (by rfl) hset ht, ?_⟩
  rw [ht, reg_flush _ _ (by decide)]
  exact reg_incBy_self _ _ _

theorem sqDoorbell_discarded {tb : Timebase} {d : Device}
    (h : 65536 ≤ v ∨ (d.qp q).st ≠ .active ∨ (d.ctx (d.qpCtx q)).st = .resetting) : sqDoorbell q v tb d = doorbellDiscard q d :=
  if_pos (by simpa [or_assoc] using h)

theorem cqDoorbell_discarded {tb : Timebase} {d : Device}
    (h : 65536 ≤ v ∨ (d.qp q).st = .disabled ∨ (d.ctx (d.qpCtx q)).st = .resetting) : cqDoorbell q v tb d = doorbellDiscard q d :=
  if_pos (by simpa [or_assoc] using h)

theorem sqDoorbell_of {tb : Timebase} {d : Device} (hv : v < 65536) (hst : (d.qp q).st = .active)
    (hc : (d.ctx (d.qpCtx q)).st ≠ .resetting) : sqDoorbell q v tb d =
    if 2 ^ d.sqLog q < idxDiff v (d.qp q).sqTail ∨ 2 ^ d.sqLog q < idxDiff v (d.qp q).sqHead then qpError q 1 d
    else if v = (d.qp q).sqTail then d
    else fetchNext q (d.setQp q { d.qp q with sqTail := v, bells := (d.qp q).bells ++ [(v, tb.number, tb.eligibleFrom)] }) := by
  unfold sqDoorbell
  dsimp only
  rw [if_neg (by simp [hst, hc, hv])]
  simp only [Bool.or_eq_true, decide_eq_true_eq, beq_iff_eq]

theorem sq_doorbell_errs (hset : s.settled) (hv : v < 65536) (hst : (s.dev.qp q).st = .active)
    (hc : (s.dev.ctx (s.dev.qpCtx q)).st ≠ .resetting)
    (h : 2 ^ s.dev.sqLog q < idxDiff v (s.dev.qp q).sqTail ∨ 2 ^ s.dev.sqLog q < idxDiff v (s.dev.qp q).sqHead) :
    Ends (.doorbellSqTail q v) s (fun t =>
        s.frame [.qm, .host] [] t ∧ (t.dev.qp q).st = .error ∧ (t.dev.qp q).lastErr = 1 ∧ (t.dev.qp q).bells = [] ∧
        s.raised ⟨0x0B01, 4, some (s.dev.qpCtx q), [(2, q), (1, 1)]⟩ t) := by
  have hqp (t : State) (ht : t.dev = (qpError q 1 s.dev).flush s.tb) : t.dev.qp q =
      { s.dev.qp q with st := .error, lastErr := 1, bells := [], requested := (s.dev.qp q).sqHead } := by
    rw [ht, qp_flush]
    exact qp_setQp_self ..
  refine ends_onDev (f := sqDoorbell q v) rfl ((sqDoorbell_of q v hv hst hc).trans (if_pos h))
    (((only_setQp _ (by simp) _ _).trans (only_deadReads _ (by simp) _)).raiseCtx _ _ _)
    fun t ht hfr => ⟨hfr, ?_, ?_, ?_, raised_of_ev (by rfl) hset ht⟩
  all_goals rw [hqp t ht]

theorem sq_doorbell_taken (hv : v < 65536) (hst : (s.dev.qp q).st = .active)
    (hc : (s.dev.ctx (s.dev.qpCtx q)).st ≠ .resetting)
    (h1 : idxDiff v (s.dev.qp q).sqTail ≤ 2 ^ s.dev.sqLog q) (h2 : idxDiff v (s.dev.qp q).sqHead ≤ 2 ^ s.dev.sqLog q)
    (hne : v ≠ (s.dev.qp q).sqTail) : Ends (.doorbellSqTail q v) s (fun t =>
        s.frame [.qm, .host, .out] [] t ∧ (t.dev.qp q).sqTail = v ∧ (t.dev.qp q).sqHead = (s.dev.qp q).sqHead ∧
        (t.dev.qp q).bells = (s.dev.qp q).bells ++ [(v, s.tb.number,
          if s.tb.offset ≤ s.tb.point 140000 then s.tb.number + 1 else s.tb.number + 2)] ∧
        ∀ j, j ≠ q → t.dev.qp j = s.dev.qp j) := by
  have hno : ¬ (2 ^ s.dev.sqLog q < idxDiff v (s.dev.qp q).sqTail ∨ 2 ^ s.dev.sqLog q < idxDiff v (s.dev.qp q).sqHead) := by omega
  refine ends_onDev (ks := []) (f := sqDoorbell q v) rfl (((sqDoorbell_of q v hv hst hc).trans (if_neg hno)).trans (if_neg hne))
    ((only_setQp _ (by simp) _ _).trans (only_fetchNext _ _)) fun t ht hfr => ?_
  obtain ⟨r, hr⟩ := qp_fetchNext (s.dev.setQp q { s.dev.qp q with
    sqTail := v, bells := (s.dev.qp q).bells ++ [(v, s.tb.number, s.tb.eligibleFrom)] }) q
  rw [qp_setQp_self, ← qp_flush _ s.tb, ← ht] at hr
  refine ⟨hfr, by rw [hr], by rw [hr], by rw [hr]; rfl, fun j hj => ?_⟩
  rw [ht, qp_flush, qp_fetchNext_ne _ hj, qp_setQp_ne _ hj]

theorem cq_doorbell_taken (hv : v < 65536) (hst : (s.dev.qp q).st ≠ .disabled)
    (hc : (s.dev.ctx (s.dev.qpCtx q)).st ≠ .resetting) (hd : idxDiff v (s.dev.qp q).cqHead ≤ idxDiff (s.dev.qp q).cqTail (s.dev.qp q).cqHead)
    (hirq : s.dev.qpIrq q = false) (htext : ∀ p, p ∈ s.dev.qm.reqs → p.2.qp = q → p.2.textOut = []) :
    Ends (.doorbellCqHead q v) s (fun t => s.frame [.qm] [] t ∧
        t.dev.qm = { s.dev.qm with qps := s.dev.qm.qps.set q { s.dev.qp q with cqHead := v } }) := by
  have hnone : s.dev.qm.reqs.filter (fun p => p.2.qp == q && p.2.textOut != []) = [] := by
    refine List.filter_eq_nil_iff.mpr fun p hp => ?_
    by_cases hq : p.2.qp = q
    · simp [htext p hp hq]
    · simp [hq]
  have heff : cqDoorbell q v s.tb s.dev = s.dev.setQp q { s.dev.qp q with cqHead := v } := by
    have htexts : settleTexts s.tb q (s.dev.setQp q { s.dev.qp q with cqHead := v }) = s.dev.setQp q { s.dev.qp q with cqHead := v } := by
      unfold settleTexts
      rw [show (s.dev.setQp q { s.dev.qp q with cqHead := v }).qm.reqs = s.dev.qm.reqs from rfl, hnone]
      rfl
    have hirq' : (s.dev.setQp q { s.dev.qp q with cqHead := v }).qpIrq q = false := hirq
    unfold cqDoorbell
    dsimp only
    rw [if_neg (by simp [hst, hc, hv]), if_neg (Nat.not_lt.mpr hd), htexts, hirq', if_neg (by decide)]
  refine ends_onDev (f := cqDoorbell q v) rfl heff (only_setQp _ (by simp) _ _) fun t ht hfr => ⟨hfr, ?_⟩
  rw [ht, Device.flush_qm]
  rfl

end

/-! ### The fetch of a CANCEL (R385, R398) -/

/-- The descriptor of a CANCEL. -/
def cancelBytes (tag target : Nat) : List Byte :=
  sliceBytes (leBytes 4 3 ++ leBytes 4 tag ++ List.replicate 0x38 0 ++ leBytes 4 target) 0 256

theorem fieldLe_append {a b c : List Byte} : fieldLe (a ++ b ++ c) a.length b.length = ofLe b := by
  unfold fieldLe sliceBytes
  have h : ((a ++ b ++ c).drop a.length).take b.length = b := by simp
  rw [h]
  simp

theorem cancelBytes_eq (tag target : Nat) : cancelBytes tag target =
    leBytes 4 3 ++ leBytes 4 tag ++ List.replicate 0x38 0 ++ leBytes 4 target ++ List.replicate 188 0 := by
  have h : (leBytes 4 3 ++ leBytes 4 tag ++ List.replicate 0x38 0 ++ leBytes 4 target).length = 68 := by simp [leBytes_length]
  unfold cancelBytes sliceBytes
  dsimp only
  rw [List.drop_zero, List.take_of_length_le (by omega), h]

theorem length_cancelBytes (tag target : Nat) : (cancelBytes tag target).length = 256 := by
  rw [cancelBytes_eq]
  simp only [List.length_append, leBytes_length, List.length_replicate]

theorem fields_cancelBytes (tag target : Nat) : fieldLe (cancelBytes tag target) 0 1 = 3 ∧
    fieldLe (cancelBytes tag target) 4 4 = tag % 2 ^ 32 ∧ fieldLe (cancelBytes tag target) 0x40 4 = target % 2 ^ 32 := by
  rw [cancelBytes_eq]
  refine ⟨rfl, ?_, ?_⟩
  · have h := fieldLe_append (a := leBytes 4 3) (b := leBytes 4 tag) (c := List.replicate 0x38 0 ++ leBytes 4 target ++ List.replicate 188 0)
    rw [leBytes_length, leBytes_length, ofLe_leBytes, show 256 ^ 4 = 2 ^ 32 from rfl] at h
    simpa only [List.append_assoc] using h
  · have h := fieldLe_append (a := leBytes 4 3 ++ leBytes 4 tag ++ List.replicate 0x38 0) (b := leBytes 4 target) (c := List.replicate 188 0)
    rw [leBytes_length, ofLe_leBytes, show 256 ^ 4 = 2 ^ 32 from rfl] at h
    simpa [leBytes_length] using h

/-- A CANCEL waits for the boundary, with its target. -/
def Device.putCancel (d : Device) (j : CancelJob) : Device := { d with qm := { d.qm with cancels := d.qm.cancels ++ [j] } }

theorem only_putCancel {ps : List DevPart} {ks : List Nat} (hp : .qm ∈ ps) (d : Device) (j : CancelJob) : Device.Only ps ks d (d.putCancel j) :=
  .of_regs [.qm] rfl (by simpa using hp) rfl

section
variable {d : Device} {q tag target : Nat}

theorem cancelFetched_admitted (h : (d.qp q).st = .active) {rid : Nat} (ht : d.tagged q (target % 2 ^ 32) = some rid) :
    cancelFetched q tag target d =
      (if d.entered rid then d.cancelReq rid 0 else d).putCancel ⟨q, cancelBytes tag target, .admitted rid⟩ := by
  unfold cancelFetched
  rw [if_neg (by simp [h])]
  show cancelIn q (cancelBytes tag target) d = _
  unfold cancelIn
  dsimp only
  rw [(fields_cancelBytes tag target).2.2, ht]
  rfl

theorem cancelFetched_fetched (h : (d.qp q).st = .active) (ht : d.tagged q (target % 2 ^ 32) = none) {f : Desc}
    (hf : (d.qp q).fetched.find? (fun f => fieldLe f.bytes 4 4 == target % 2 ^ 32) = some f) : cancelFetched q tag target d =
      (d.setQp q { d.qp q with fetched := (d.qp q).fetched.erase f }).putCancel ⟨q, cancelBytes tag target, .fetched f.bytes⟩ := by
  unfold cancelFetched
  rw [if_neg (by simp [h])]
  show cancelIn q (cancelBytes tag target) d = _
  unfold cancelIn
  dsimp only
  rw [(fields_cancelBytes tag target).2.2, ht]
  dsimp only
  rw [hf]
  rfl

theorem cancelFetched_none (h : (d.qp q).st = .active) (ht : d.tagged q (target % 2 ^ 32) = none)
    (hf : (d.qp q).fetched.find? (fun f => fieldLe f.bytes 4 4 == target % 2 ^ 32) = none) : cancelFetched q tag target d =
      d.putCancel ⟨q, cancelBytes tag target, .none⟩ := by
  unfold cancelFetched
  rw [if_neg (by simp [h])]
  show cancelIn q (cancelBytes tag target) d = _
  unfold cancelIn
  dsimp only
  rw [(fields_cancelBytes tag target).2.2, ht]
  dsimp only
  rw [hf]
  rfl

end

/-- What a cancel leaves of a request, which it reaches where it is in force. -/
theorem req?_cancelReq (d : Device) (rid : Nat) (on : Bool) {k : Nat} {r : Request} (h : d.req? k = some r) :
    (if on then d.cancelReq rid 0 else d).req? k =
      some (if k = rid ∧ on = true ∧ r.cancel = none then { r with cancel := some 0, conds := r.conds ++ [(3, 0)] } else r) := by
  cases on with
  | false => simpa using h
  | true =>
    rw [if_pos rfl]
    unfold Device.cancelReq
    by_cases hk : k = rid
    · subst hk
      rw [req?_updReq _ _ _ h]
      cases hc : r.cancel with
      | none => simp
      | some x => simp
    · rw [req?_updReq_ne _ _ hk, h, if_neg fun hx => hk hx.1]

theorem only_cancelReq_ite {ps : List DevPart} {ks : List Nat} (hp : .qm ∈ ps) (d : Device) (rid : Nat) (on : Bool) :
    Device.Only ps ks d (if on then d.cancelReq rid 0 else d) := by
  split
  · exact .of_regs [.qm] rfl (by simpa using hp) rfl
  · exact .refl d

section
variable {s : State} (q tag target : Nat)

theorem cancel_fetched (hst : (s.dev.qp q).st = .active) : Ends (.cancel q tag target) s (fun t => s.frame [.qm] [] t ∧
      ∃ j, t.dev.qm.cancels = s.dev.qm.cancels ++ [j] ∧ j.qp = q ∧ j.bytes.length = 256 ∧ fieldLe j.bytes 0 1 = 3 ∧
        fieldLe j.bytes 4 4 = tag % 2 ^ 32 ∧ fieldLe j.bytes 0x40 4 = target % 2 ^ 32 ∧
        (∀ rid, s.dev.tagged q (target % 2 ^ 32) = some rid → j.target = .admitted rid ∧ t.dev.qm.qps = s.dev.qm.qps ∧
          ∀ k r, s.dev.req? k = some r → t.dev.req? k = some
            (if k = rid ∧ s.dev.entered rid = true ∧ r.cancel = none then { r with cancel := some 0, conds := r.conds ++ [(3, 0)] }
             else r)) ∧
        (s.dev.tagged q (target % 2 ^ 32) = none →
          (∀ f, (s.dev.qp q).fetched.find? (fun f => fieldLe f.bytes 4 4 == target % 2 ^ 32) = some f → j.target = .fetched f.bytes ∧
            t.dev.qm.reqs = s.dev.qm.reqs ∧ t.dev.qp q = { s.dev.qp q with fetched := (s.dev.qp q).fetched.erase f }) ∧
          ((s.dev.qp q).fetched.find? (fun f => fieldLe f.bytes 4 4 == target % 2 ^ 32) = none → j.target = .none ∧
            t.dev.qm = { s.dev.qm with cancels := s.dev.qm.cancels ++ [j] }))) := by
  have hadmitted := fun rid => cancelFetched_admitted (tag := tag) (target := target) hst (rid := rid)
  have hfetched := fun f h => cancelFetched_fetched (tag := tag) (target := target) hst h (f := f)
  have hnone := cancelFetched_none (tag := tag) (target := target) hst
  obtain ⟨hop, htag, htarget⟩ := fields_cancelBytes tag target
  have hlen := length_cancelBytes tag target
  generalize cancelBytes tag target = b at *
  cases hadm : s.dev.tagged q (target % 2 ^ 32) with
  | some rid =>
    refine ends_onDev (f := fun _ d => cancelFetched q tag target d) rfl (hadmitted rid hadm)
      ((only_cancelReq_ite (by simp) _ _ _).trans (only_putCancel (by simp) _ _))
      fun t ht hfr => ⟨hfr, ⟨q, b, .admitted rid⟩, ?_, rfl, hlen, hop, htag, htarget, fun r hr => ⟨?_, ?_, fun k x hk => ?_⟩, fun h => absurd h (by simp)⟩
    · rw [ht, Device.flush_qm]
      split
      · rfl
      · rfl
    · exact congrArg _ (Option.some.inj hr)
    · rw [ht, Device.flush_qm]
      split
      · rfl
      · rfl
    · obtain rfl := Option.some.inj hr
      rw [← req?_cancelReq s.dev rid _ hk, ht]
      unfold Device.req?
      rw [Device.flush_qm]
      rfl
  | none =>
    cases hwait : (s.dev.qp q).fetched.find? (fun f => fieldLe f.bytes 4 4 == target % 2 ^ 32) with
    | some f =>
      refine ends_onDev (f := fun _ d => cancelFetched q tag target d) rfl (hfetched f hadm hwait)
        ((only_setQp _ (by simp) _ _).trans (only_putCancel (by simp) _ _))
        fun t ht hfr => ⟨hfr, ⟨q, b, .fetched f.bytes⟩, ?_, rfl, hlen, hop, htag, htarget, fun r hr => absurd hr (by simp),
          fun _ => ⟨fun g hg => ⟨?_, ?_, ?_⟩, fun h => absurd h (by simp)⟩⟩
      · rw [ht, Device.flush_qm]
        rfl
      · rw [Option.some.inj hg]
      · rw [ht, Device.flush_qm]
        rfl
      · rw [ht, qp_flush, ← Option.some.inj hg]
        exact qp_setQp_self ..
    | none =>
      refine ends_onDev (f := fun _ d => cancelFetched q tag target d) rfl (hnone hadm hwait)
        (only_putCancel (by simp) _ _)
        fun t ht hfr => ⟨hfr, ⟨q, b, .none⟩, ?_, rfl, hlen, hop, htag, htarget, fun r hr => absurd hr (by simp),
          fun _ => ⟨fun g hg => absurd hg (by simp), fun _ => ⟨rfl, ?_⟩⟩⟩
      · rw [ht, Device.flush_qm]
        rfl
      · rw [ht, Device.flush_qm]
        rfl

end

end Sys2Proof.Machine
end

section
/-! PROOFS of the beginning of a PIPELINE and of a queue pair's control (R376, R384, R399, R502). -/
namespace Sys2Proof.Machine

/-! ### The stages that may start (R384) -/

/-- What starting stages of a request leaves: of its record its stages alone change, and jobs join the text queue. -/
structure StagesStarted (rid : Nat) (a b : Device) : Prop where
  eq : ∃ x l m, b = { a with
    qm := x
    text := { a.text with queue := a.text.queue ++ l }
    pasm := { a.pasm with queue := m } }
  others : ∀ j, j ≠ rid → b.req? j = a.req? j
  own : ∀ q, a.req? rid = some q → ∃ l, b.req? rid = some { q with stages := l }

section
variable {rid : Nat} {a b c : Device}

theorem StagesStarted.refl (a : Device) : StagesStarted rid a a :=
  ⟨⟨_, [], _, by rw [List.append_nil]⟩, fun _ _ => rfl, fun q h => ⟨q.stages, h⟩⟩

theorem StagesStarted.trans (h : StagesStarted rid a b) (g : StagesStarted rid b c) : StagesStarted rid a c where
  eq := by
    obtain ⟨x, l, m, rfl⟩ := h.eq
    obtain ⟨x', l', m', rfl⟩ := g.eq
    exact ⟨x', l ++ l', m', by rw [← List.append_assoc]⟩
  others j hj := (g.others j hj).trans (h.others j hj)
  own q hq := by
    obtain ⟨l, hl⟩ := h.own q hq
    obtain ⟨m, hm⟩ := g.own _ hl
    exact ⟨m, hm⟩

theorem StagesStarted.only (h : StagesStarted rid a b) {ks : List Nat} : Device.Only [.qm, .text, .pasm] ks a b := by
  obtain ⟨x, l, m, rfl⟩ := h.eq
  exact .of_regs [.qm, .text, .pasm] rfl (by simp) rfl

theorem req?_setReq (d : Device) (k j : Nat) (q : Request) : (d.setReq k q).req? j = if k = j then some q else d.req? j := Tbl.get?_set ..

/-- A request is stored with its stages, and the units' queues take its work. -/
theorem stagesStarted_one {q : Request} (h : a.req? rid = some q) (k : Nat) (f : Stage → Stage) (l : List SegJob) (m : List (Nat × Nat)) :
    StagesStarted rid a { a.setReq rid (q.setStage k f) with
      text := { a.text with queue := a.text.queue ++ l }
      pasm := { a.pasm with queue := m } } where
  eq := ⟨_, l, m, rfl⟩
  others j hj := (req?_setReq a rid j _).trans (if_neg hj.symm)
  own p hp := by
    obtain rfl := Option.some.inj (h.symm.trans hp)
    exact ⟨_, (req?_setReq a rid rid _).trans (if_pos rfl)⟩

theorem stagesStarted_asm {q : Request} (h : a.req? rid = some q) (k : Nat) (f : Stage → Stage) (m : List (Nat × Nat)) :
    StagesStarted rid a { a.setReq rid (q.setStage k f) with pasm := { a.pasm with queue := m } } := by
  have h1 := stagesStarted_one h k f [] m
  rwa [List.append_nil] at h1

theorem stagesStarted (fuel : Nat) (d : Device) : StagesStarted rid d (startStages rid fuel d) := by
  induction fuel generalizing d with
  | zero => exact .refl d
  | succ n ih =>
    unfold startStages
    split
    · exact .refl d
    · rename_i q hq
      split
      · exact .refl d
      · split
        · exact .refl d
        · rename_i k t _
          dsimp only
          split
          · exact (stagesStarted_asm hq k _ _).trans (ih _)
          · exact (stagesStarted_one hq k _ _ d.pasm.queue).trans (ih _)

end

section
variable {s : State}

/-- A PIPELINE begins, with its user segments queued. -/
def pipelineBegun (rid : Nat) (q : Request) (d : Device) : Device :=
  { d.setReq rid { q with begun := true, userSegs := q.userSegCount == 0 } with
    text := { d.text with queue := d.text.queue ++ (List.range q.userSegCount).map fun i => SegJob.mk rid i none } }

theorem pipelineBegin_of {rid : Nat} {q : Request} {d : Device} (hq : d.req? rid = some q) (hp : q.isPipeline = true)
    (hb : q.begun = false) (hc : q.cancel = none) : pipelineBegin rid d = startStages rid 33 (pipelineBegun rid q d) := by
  unfold pipelineBegin
  rw [hq]
  exact if_neg (by simp [hp, hb, hc])

theorem pipeline_begins (rid : Nat) (q : Request) (hq : s.dev.req? rid = some q) (hp : q.isPipeline = true)
    (hb : q.begun = false) (hc : q.cancel = none) : Ends (.pipeline rid) s (fun t => s.frame [.qm, .text, .pasm] [] t ∧
      (∃ q', t.dev.req? rid = some q' ∧ q'.begun = true ∧ q'.userSegs = (q.userSegCount == 0)) ∧
      (∀ j, j ≠ rid → t.dev.req? j = s.dev.req? j) ∧
      ∃ l, t.dev.text.queue = s.dev.text.queue ++ (List.range q.userSegCount).map (fun i => ⟨rid, i, none⟩) ++ l) := by
  have hst := stagesStarted (rid := rid) 33 (pipelineBegun rid q s.dev)
  have hbegun : Device.Only [.qm, .text, .pasm] [] s.dev (pipelineBegun rid q s.dev) := .of_regs [.qm, .text] rfl (by simp) rfl
  have hown : (pipelineBegun rid q s.dev).req? rid = some { q with begun := true, userSegs := q.userSegCount == 0 } :=
    (req?_setReq s.dev rid rid _).trans (if_pos rfl)
  have hreq (t : State) (ht : t.dev = (startStages rid 33 (pipelineBegun rid q s.dev)).flush s.tb) (j : Nat) :
      t.dev.req? j = (startStages rid 33 (pipelineBegun rid q s.dev)).req? j := by
    unfold Device.req?
    rw [ht, Device.flush_qm]
  refine ends_onDev (f := fun _ d => pipelineBegin rid d) rfl (pipelineBegin_of hq hp hb hc) (hbegun.trans hst.only)
    fun t ht hfr => ⟨hfr, ?_, fun j hj => ?_, ?_⟩
  · obtain ⟨l, hl⟩ := hst.own _ hown
    exact ⟨_, (hreq t ht rid).trans hl, rfl, rfl⟩
  · rw [hreq t ht, hst.others j hj]
    exact (req?_setReq s.dev rid j _).trans (if_neg hj.symm)
  · obtain ⟨x, l, m, he⟩ := hst.eq
    exact ⟨l, by rw [ht, Device.flush_text, he]; rfl⟩

/-! ### Control (R376, R399, R502) -/

theorem qpReg_notEvent {q : Nat} : qpReg R.QM_QP_CTRL q ∉ eventRegs := by
  have h : ∀ k ∈ eventRegs, k < R.QM_QP_CTRL := by decide
  exact fun hm => absurd (h _ hm) (Nat.not_lt.mpr (Nat.le_add_right _ _))

theorem qp_dropPend (d : Device) (q : Nat) : d.dropPend.qp q = d.qp q := rfl

variable (q : Nat) (hph : s.dev.power.phase ≠ .rom)
include hph

theorem qp_enabled (hst : (s.dev.qp q).st = .disabled) :
    Ends (.qpEnable q) s (fun t => s.frame [.port, .qm] [qpReg R.QM_QP_CTRL q] t ∧
      t.dev.fld (qpReg R.QM_QP_CTRL q) 31 31 = 1 ∧ t.dev.qm = { s.dev.qm with
        qps := s.dev.qm.qps.set q { offQp with st := .active, armed := s.dev.qpIrq q } }) := by
  have heff : qpEnable q s.dev.dropPend = (s.dev.dropPend.setFld (qpReg R.QM_QP_CTRL q) 31 31 1).setQp q
      { offQp with st := .active, armed := s.dev.qpIrq q } := if_neg (by simp [qp_dropPend, hst])
  refine ends_onReg rfl hph (by simp) (f := fun _ d => qpEnable q d) heff
    (((Device.Only.refl _).setFld _ _ _ (by simp)).trans (only_setQp _ (by simp) _ _)) fun t ht hfr =>
    ⟨hfr, fld_of_setFld ht rfl qpReg_notEvent (by decide) (by decide) (by decide), ?_⟩
  rw [ht, Device.flush_qm]
  rfl

theorem qp_disabled (m : Nat) (hst : (s.dev.qp q).st = .active) (hf : (s.dev.qp q).fetched = []) : Ends (.qpDisable q m) s (fun t =>
      s.frame [.port, .qm, .host] [qpReg R.QM_QP_CTRL q] t ∧ t.dev.fld (qpReg R.QM_QP_CTRL q) 31 31 = 0 ∧
      t.dev.qm = { s.dev.qm with
        qps := s.dev.qm.qps.set q
          { s.dev.qp q with st := .draining, abort := m % 2 == 1, bells := [], fetched := [], requested := (s.dev.qp q).sqHead } }) := by
  have heff : qpDisable q (m % 2 == 1) s.tb s.dev.dropPend =
      (((s.dev.dropPend.setFld (qpReg R.QM_QP_CTRL q) 31 31 0).setFld (qpReg R.QM_QP_CTRL q) 30 30 (boolBit (m % 2 == 1))).setQp q
        { s.dev.qp q with st := .draining, abort := m % 2 == 1, bells := [], fetched := [], requested := (s.dev.qp q).sqHead }).deadReads q := by
    unfold qpDisable
    dsimp only
    rw [qp_dropPend, hst, if_pos (by decide), hf]
    rfl
  refine ends_onReg rfl hph (by simp) (f := qpDisable q (m % 2 == 1)) heff
    (((((Device.Only.refl _).setFld _ _ _ (by simp)).setFld _ _ _ (by simp)).trans (only_setQp _ (by simp) _ _)).trans
      (only_deadReads _ (by simp) _)) fun t ht hfr => ⟨hfr, ?_, ?_⟩
  · rw [ht, fld_flush _ _ qpReg_notEvent]
    refine (fld_setFld_other (s.dev.dropPend.setFld (qpReg R.QM_QP_CTRL q) 31 31 0) (by decide) (by decide) _ (by decide)
      (regRst_lt _) (by decide)).trans ?_
    exact fld_setFld _ _ (by decide) (by decide) 0
  · rw [ht, Device.flush_qm]
    rfl

theorem qp_disarmed : Ends (.qpIrqArm q 0) s (fun t => s.frame [.port, .qm] [qpReg R.QM_QP_CTRL q] t ∧
      t.dev.fld (qpReg R.QM_QP_CTRL q) 27 27 = 0 ∧ t.dev.qp q = { s.dev.qp q with armed := false }) := by
  have heff : qpIrqWrite q 0 s.dev.dropPend =
      (s.dev.dropPend.setFld (qpReg R.QM_QP_CTRL q) 27 27 0).setQp q { s.dev.qp q with armed := false } := rfl
  refine ends_onReg rfl hph (by simp) (f := fun _ d => qpIrqWrite q 0 d) heff
    (((Device.Only.refl _).setFld _ _ _ (by simp)).trans (only_setQp _ (by simp) _ _)) fun t ht hfr =>
    ⟨hfr, fld_of_setFld ht rfl qpReg_notEvent (by decide) (by decide) (by decide), ?_⟩
  rw [ht, qp_flush]
  exact qp_setQp_self ..

theorem qp_armed (hst : (s.dev.qp q).st = .active) (hidle : (s.dev.qp q).cqTail = (s.dev.qp q).cqHead) :
    Ends (.qpIrqArm q 1) s (fun t => s.frame [.port, .qm] [qpReg R.QM_QP_CTRL q] t ∧
      t.dev.fld (qpReg R.QM_QP_CTRL q) 27 27 = 1 ∧ t.dev.qp q = { s.dev.qp q with armed := true }) := by
  have heff : qpIrqWrite q 1 s.dev.dropPend =
      (s.dev.dropPend.setFld (qpReg R.QM_QP_CTRL q) 27 27 1).setQp q { s.dev.qp q with armed := true } := by
    have hqp : (s.dev.dropPend.setFld (qpReg R.QM_QP_CTRL q) 27 27 1).qp q = s.dev.qp q := rfl
    unfold qpIrqWrite
    dsimp only
    rw [if_neg (by decide), hqp, if_pos (by rw [hst]; decide)]
    unfold armQp
    dsimp only
    rw [hqp]
    exact if_pos (beq_iff_eq.mpr hidle)
  refine ends_onReg rfl hph (by simp) (f := fun _ d => qpIrqWrite q 1 d) heff
    (((Device.Only.refl _).setFld _ _ _ (by simp)).trans (only_setQp _ (by simp) _ _)) fun t ht hfr =>
    ⟨hfr, fld_of_setFld ht rfl qpReg_notEvent (by decide) (by decide) (by decide), ?_⟩
  rw [ht, qp_flush]
  exact qp_setQp_self ..

end

/-- Settles O53: doorbells, CANCEL, the beginning of a PIPELINE and the control of a queue pair, each from its effect on the queue pair. -/
theorem queuePairCommands : Obligations.QueuePairCommands := by
  unfold Obligations.QueuePairCommands
  refine ⟨fun s q v hset => ⟨fun h => ?_, fun hv hst hc => ⟨fun h => ?_, fun h1 h2 hne => ?_⟩, fun h => ?_, fun hv hst hc hd hirq htext => ?_,
    fun tag target hst => cancel_fetched q tag target hst⟩, fun s rid q hq hp hb hc => pipeline_begins rid q hq hp hb hc,
    fun s q _ hph => ⟨fun hst => qp_enabled q hph hst, fun m hst hf => qp_disabled q hph m hst hf, qp_disarmed q hph,
      fun hst hidle => qp_armed q hph hst hidle⟩⟩
  · exact doorbell_discarded q hset (f := sqDoorbell q v) rfl (sqDoorbell_discarded q v h)
  · exact sq_doorbell_errs q v hset hv hst hc h
  · exact sq_doorbell_taken q v hv hst hc h1 h2 hne
  · exact (doorbell_discarded q hset (f := cqDoorbell q v) rfl (cqDoorbell_discarded q v h)).imp fun t ⟨hfr, hr, _⟩ => ⟨hfr, hr⟩
  · exact cq_doorbell_taken q v hv hst hc hd hirq htext

end Sys2Proof.Machine
end

section
/-! PROOFS of segments and assemblies (R326, R327, R341, R343). -/
namespace Sys2Proof.Machine

/-! ### Writes through the background port -/

section
variable {d : Device} {own : Option Nat} {a : Nat} {data : List Byte}

/-- A write that the background port discards. -/
def bgForeign (d : Device) (own : Option Nat) (a : Nat) (data : List Byte) : Bool :=
  d.inImage none a data.length || d.plots.handoffs.any fun p => own != some p.1 && overlaps a data.length p.2.addr p.2.len

theorem bgWrite_of (h : bgForeign d own a data = false) : d.bgWrite own a data = { d with mem := d.mem.writeBytes a data } :=
  if_neg (by simpa [bgForeign] using h)

theorem bgWrite_discarded (h : bgForeign d own a data = true) : d.bgWrite own a data = d.raise 0x0303 [] := if_pos h

/-- The background port writes memory alone, or raises an event. -/
theorem bgWrite_eq (d : Device) (own : Option Nat) (a : Nat) (data : List Byte) : d.bgWrite own a data =
    { d with
      mem := if bgForeign d own a data then d.mem else d.mem.writeBytes a data
      ev := if bgForeign d own a data then (d.raise 0x0303 []).ev else d.ev } := by
  cases h : bgForeign d own a data with
  | true => exact bgWrite_discarded h
  | false => exact bgWrite_of h

end

/-- A context's write finds its range in a window that it may write. -/
def winMay (d : Device) (c w off : Nat) (data : List Byte) : Bool := ((d.ctx c).win w).holds off data.length && ((d.ctx c).win w).perm

theorem winWrite_eq (d : Device) (c w off : Nat) (data : List Byte) : d.winWrite c w off data =
    if winMay d c w off data then d.bgWrite none (((d.ctx c).win w).base + off) data else d := rfl

/-- The memory and the events of a write through a window. -/
theorem winWrite_mem (d : Device) (c w off : Nat) (data : List Byte) : ∃ m e, d.winWrite c w off data = { d with mem := m, ev := e } := by
  rw [winWrite_eq]
  split
  · rw [bgWrite_eq]
    exact ⟨_, _, rfl⟩
  · exact ⟨_, _, rfl⟩

/-- A write through a window depends on windows, plots and memory alone. -/
theorem winWrite_mem_congr {d e : Device} (hqm : e.qm = d.qm) (hpl : e.plots = d.plots) (hmem : e.mem = d.mem)
    (c w off : Nat) (data : List Byte) : (e.winWrite c w off data).mem = (d.winWrite c w off data).mem := by
  have hctx : e.ctx c = d.ctx c := by
    unfold Device.ctx
    rw [hqm]
  rw [winWrite_eq, winWrite_eq]
  have hmay : winMay e c w off data = winMay d c w off data := by
    unfold winMay
    rw [hctx]
  rw [hmay, hctx]
  split
  · rw [bgWrite_eq, bgWrite_eq]
    have hfor : bgForeign e none (((d.ctx c).win w).base + off) data = bgForeign d none (((d.ctx c).win w).base + off) data := by
      unfold bgForeign Device.inImage
      rw [hpl]
    rw [hfor, hmem]
  · exact hmem

/-! ### Segments (R326, R327) -/

section
variable {s : State}

theorem segment_starts (l : Nat) (j : SegJob) (rest : List SegJob) (hdom : s.dev.domOn 22 = true)
    (hl : s.dev.text.lanes.leastFree 0 8 = some l) (hj : sortBy (segBefore s.dev) s.dev.text.queue = j :: rest) :
    Ends .segmentStart s (fun t => s.frame [.text] [] t ∧ t.dev.text = { s.dev.text with
      queue := s.dev.text.queue.erase j, lanes := s.dev.text.lanes.set l j }) := by
  have heff : segmentStart s.dev =
      { s.dev with text := { s.dev.text with queue := s.dev.text.queue.erase j, lanes := s.dev.text.lanes.set l j } } := by
    unfold segmentStart
    rw [hl, hj]
    exact if_pos hdom
  refine ends_onDev (f := fun _ d => segmentStart d) rfl heff (.of_regs [.text] rfl (by simp) rfl) fun t ht hfr => ⟨hfr, ?_⟩
  rw [ht, Device.flush_text]

end

/-- What the work of a text unit leaves: the parts that it may change, its registers aside. -/
def textParts : List DevPart := [.mem, .qm, .text, .pasm]

section
variable {ks : List Nat} (d : Device)

theorem only_winWrite (c w off : Nat) (data : List Byte) : Device.Only textParts ks d (d.winWrite c w off data) := by
  obtain ⟨m, e, h⟩ := winWrite_mem d c w off data
  rw [h]
  exact .of_regs [.mem] rfl (by simp [textParts]) rfl

theorem only_textWork (x : QueueUnit) (ev : EventUnit) (y : TextUnit) (z : PasmUnit) :
    Device.Only textParts ks d { d with qm := x, ev := ev, text := y, pasm := z } :=
  .of_regs [.qm, .text, .pasm] rfl (by simp [textParts]) rfl

theorem only_updReq_text (r : Nat) (f : Request → Request) : Device.Only textParts ks d (d.updReq r f) :=
  .of_regs [.qm] rfl (by simp [textParts]) rfl

theorem only_started {rid : Nat} {a b : Device} (h : StagesStarted rid a b) : Device.Only textParts ks a b :=
  h.only.mono (by simp [textParts]) (fun _ hk => hk)

theorem reportInvalid_eq (rid : Nat) (q : Request) (n : Nat) : ∃ x e, d.reportInvalid rid q n = { d with qm := x, ev := e } := by
  unfold Device.reportInvalid
  split
  · exact ⟨_, _, rfl⟩
  · exact ⟨_, _, rfl⟩

theorem endStage_started (rid k : Nat) : StagesStarted rid d (d.endStage rid k) := by
  refine StagesStarted.trans (b := d.updReq rid fun q => q.setStage k fun t => { t with ended := 1 }) ?_ (stagesStarted 33 _)
  refine ⟨⟨_, [], _, by rw [List.append_nil]; rfl⟩, fun j hj => req?_updReq_ne d _ hj, fun q hq => ?_⟩
  exact ⟨_, req?_updReq d rid _ hq⟩

/-- The end of a segment leaves lanes, memory and registers as they are. -/
theorem segEnded_eq (j : SegJob) : ∃ x l m, segEnded j d = { d with
    qm := x
    text := { d.text with queue := d.text.queue ++ l }
    pasm := { d.pasm with queue := m } } := by
  unfold segEnded
  dsimp only
  split
  · exact ⟨_, [], _, by rw [List.append_nil]⟩
  · split
    · exact (endStage_started d _ _).eq
    · exact (stagesStarted 33 (d.updReq j.req fun q => { q with userSegs := true })).eq

end

/-- A segment's list, with the counters of its text (R326, R346). -/
def segmentCounted (kept inv carries : Nat) (d : Device) : Device :=
  (((d.inc R.TEXT_SEGMENTS).incBy R.TEXT_TOKENS_OUT kept).incBy R.TEXT_INVALID_SEQ inv).incBy R.TEXT_CARRIES carries

theorem only_segmentCounted (kept inv carries : Nat) (d : Device) : Device.Only textParts
    [R.TEXT_SEGMENTS, R.TEXT_TOKENS_OUT, R.TEXT_INVALID_SEQ, R.TEXT_CARRIES] d (segmentCounted kept inv carries d) :=
  ((((Device.Only.refl d).inc (by simp)).incBy _ (by simp)).incBy _ (by simp)).incBy _ (by simp)

theorem reg_segmentCounted (kept inv carries : Nat) (d : Device) :
    (segmentCounted kept inv carries d).reg R.TEXT_SEGMENTS = min (d.reg R.TEXT_SEGMENTS + 1) 0xFFFFFFFF := by
  unfold segmentCounted
  rw [reg_incBy_ne _ _ (by decide), reg_incBy_ne _ _ (by decide), reg_incBy_ne _ _ (by decide)]
  exact reg_incBy_self _ _ _

/-- The token list that a segment comes to. -/
def segmentList (d : Device) (q : Request) (v : VocSlot) (idx : Nat) : List Byte :=
  let r := q.segRef d.mem idx
  let ps := segmentPieces (d.segBuffers q.ctx r)
  let toks := tokenizePieces d v false ps.1
  tokenList (toks.take (fieldLe r 4 4)) toks.length (ps.1.filter (fun p => !p.ok)).length (boolBit (fieldLe r 4 4 < toks.length)) q.vocab

/-- A segment's list is written where its reference says. -/
def segmentWritten (d : Device) (q : Request) (v : VocSlot) (idx : Nat) : Device :=
  d.winWrite q.ctx (fieldLe (q.segRef d.mem idx) 2 1) (fieldLe (q.segRef d.mem idx) 8 8) (segmentList d q v idx)

theorem tokenizeSegment_of {j : SegJob} {d : Device} {q : Request} {v : VocSlot} (hq : d.req? j.req = some q) (hv : d.voc? q.vocab = some v) :
    ∃ kept inv carries, tokenizeSegment j d = (segmentCounted kept inv carries (segmentWritten d q v j.idx)).reportInvalid j.req q inv := by
  unfold tokenizeSegment
  rw [hq]
  dsimp only
  rw [hv]
  exact ⟨_, _, _, rfl⟩

/-- A lane is free again. -/
def laneFreed (lane : Nat) (d : Device) : Device := { d with text := { d.text with lanes := d.text.lanes.del lane } }

theorem segmentList_laneFreed (d : Device) (lane : Nat) (q : Request) (v : VocSlot) (idx : Nat) :
    segmentList (laneFreed lane d) q v idx = segmentList d q v idx := rfl

section
variable {d : Device} {lane : Nat} {j : SegJob} {q : Request} {v : VocSlot} (hlane : d.text.lanes.get? lane = some j)
  (hq : d.req? j.req = some q) (hv : d.voc? q.vocab = some v)
include hlane hq hv

theorem segmentDone_eq : ∃ kept inv carries x ev l m, segmentDone lane d =
    { segmentCounted kept inv carries (segmentWritten (laneFreed lane d) q v j.idx) with
      qm := x
      ev := ev
      text := { (laneFreed lane d).text with queue := d.text.queue ++ l }
      pasm := { d.pasm with queue := m } } := by
  obtain ⟨kept, inv, carries, htok⟩ := tokenizeSegment_of (d := laneFreed lane d) (j := j) (v := v) hq hv
  obtain ⟨mem, ev, hw⟩ := winWrite_mem (laneFreed lane d) q.ctx (fieldLe (q.segRef d.mem j.idx) 2 1) (fieldLe (q.segRef d.mem j.idx) 8 8)
    (segmentList (laneFreed lane d) q v j.idx)
  have hwritten : segmentWritten (laneFreed lane d) q v j.idx = { laneFreed lane d with mem := mem, ev := ev } := hw
  obtain ⟨x, ev', hr⟩ := reportInvalid_eq (segmentCounted kept inv carries (segmentWritten (laneFreed lane d) q v j.idx)) j.req q inv
  obtain ⟨x', l, m, he⟩ := segEnded_eq (tokenizeSegment j (laneFreed lane d)) j
  refine ⟨kept, inv, carries, x', ev', l, m, ?_⟩
  have hdone : segmentDone lane d = segEnded j (tokenizeSegment j (laneFreed lane d)) := by
    unfold segmentDone
    rw [hlane]
    rfl
  rw [hdone, he, htok, hr, hwritten]
  rfl

theorem only_segmentDone : Device.Only textParts [R.TEXT_SEGMENTS, R.TEXT_TOKENS_OUT, R.TEXT_INVALID_SEQ, R.TEXT_CARRIES] d
    (segmentDone lane d) := by
  obtain ⟨kept, inv, carries, x, ev, l, m, he⟩ := segmentDone_eq hlane hq hv
  rw [he]
  have hfree : Device.Only textParts [R.TEXT_SEGMENTS, R.TEXT_TOKENS_OUT, R.TEXT_INVALID_SEQ, R.TEXT_CARRIES] d (laneFreed lane d) :=
    .of_regs [.text] rfl (by simp [textParts]) rfl
  exact ((hfree.trans (only_winWrite _ _ _ _ _)).trans (only_segmentCounted _ _ _ _)).trans
    (only_textWork _ _ _ _ _)

end

section
variable {s : State}

theorem segment_ends (lane : Nat) (j : SegJob) (q : Request) (v : VocSlot) (hlane : s.dev.text.lanes.get? lane = some j)
    (hq : s.dev.req? j.req = some q) (hv : s.dev.voc? q.vocab = some v) :
    let r := q.segRef s.dev.mem j.idx
    let ps := segmentPieces (s.dev.segBuffers q.ctx r)
    let toks := tokenizePieces s.dev v false ps.1
    let inv := (ps.1.filter (fun p => !p.ok)).length
    Ends (.segmentDone lane) s (fun t => t.pending = s.pending ∧ t.tb = s.tb ∧
      s.regsBut [R.TEXT_SEGMENTS, R.TEXT_TOKENS_OUT, R.TEXT_INVALID_SEQ, R.TEXT_CARRIES] t ∧
      (∀ p : DevPart, p ≠ .regs → p ≠ .ev → p ≠ .mem → p ≠ .qm → p ≠ .text → p ≠ .pasm → p.same s.dev t.dev) ∧
      t.dev.text.lanes = s.dev.text.lanes.del lane ∧
      t.dev.reg R.TEXT_SEGMENTS = min (s.dev.reg R.TEXT_SEGMENTS + 1) 0xFFFFFFFF ∧
      t.dev.mem = (s.dev.winWrite q.ctx (fieldLe r 2 1) (fieldLe r 8 8)
        (tokenList (toks.take (fieldLe r 4 4)) toks.length inv (boolBit (fieldLe r 4 4 < toks.length)) q.vocab)).mem) := by
  intro r ps toks inv
  obtain ⟨kept, bad, carries, x, ev, l, m, he⟩ := segmentDone_eq hlane hq hv
  have honly := only_segmentDone hlane hq hv
  have hmem : (segmentWritten (laneFreed lane s.dev) q v j.idx).mem = (s.dev.winWrite q.ctx (fieldLe r 2 1) (fieldLe r 8 8)
      (segmentList s.dev q v j.idx)).mem := by
    rw [← segmentList_laneFreed s.dev lane]
    exact winWrite_mem_congr (d := s.dev) (e := laneFreed lane s.dev) rfl rfl rfl _ _ _ _
  have hreg : (segmentWritten (laneFreed lane s.dev) q v j.idx).reg R.TEXT_SEGMENTS = s.dev.reg R.TEXT_SEGMENTS :=
    (only_winWrite (ks := []) (laneFreed lane s.dev) _ _ _ _).regs _ (by simp) (by decide)
  refine ends_onDev (f := fun _ d => segmentDone lane d) rfl he (he ▸ honly)
    fun t ht ⟨htb, hpend, hregs, hparts⟩ => ⟨hpend, htb, hregs, fun p h1 h2 h3 h4 h5 h6 =>
      hparts p (by simp [textParts, h3, h4, h5, h6]) h1 h2, ?_, ?_, ?_⟩
  · rw [ht, Device.flush_text]
    rfl
  · rw [ht, reg_flush _ _ (by decide), ← hreg, ← reg_segmentCounted kept bad carries]
    rfl
  · rw [ht, Device.flush_mem]
    exact hmem

end

/-! ### Assemblies (R341, R343) -/

section
variable {s : State}

theorem assembly_starts (j : Nat × Nat) (hcur : s.dev.pasm.cur = none) (hdom : s.dev.domOn 22 = true) (hq : s.dev.pasm.queue = [j]) :
    Ends .assemblyStart s (fun t => s.frame [.pasm] [] t ∧ t.dev.pasm = { s.dev.pasm with queue := [], cur := some j }) := by
  have heff : assemblyStart s.dev = { s.dev with pasm := { s.dev.pasm with queue := [], cur := some j } } := by
    unfold assemblyStart
    rw [hcur, hdom, if_neg (by decide), hq]
    dsimp only [sortBy, List.foldl, insertBy]
    rw [List.erase_cons_head]
  refine ends_onDev (f := fun _ d => assemblyStart d) rfl heff (.of_regs [.pasm] rfl (by simp) rfl) fun t ht hfr => ⟨hfr, ?_⟩
  rw [ht, Device.flush_pasm]

end

/-- A request takes note of its prompt. -/
def Request.prompted (q : Request) (r : Assembled) : Request :=
  { q with
    promptTokens := r.toks.length
    passages := r.placed
    cut := q.cut || 0 < r.cut
    conds := if r.ovf then q.conds ++ [(5, 0x7C)] else q.conds }

/-- The list that an assembly writes. -/
def promptWritten (q : Request) (x : Template) (r : Assembled) (d : Device) : Device :=
  d.winWrite q.ctx (q.f 0x2C 1) (q.f 0x30 8)
    (tokenList (r.toks.take (q.f 0x38 4)) r.toks.length 0 (boolBit (q.f 0x38 4 < r.toks.length)) x.vocab)

/-- The counters of an assembly. -/
def promptCounted (r : Assembled) (d : Device) : Device := ((d.inc R.PASM_PROMPTS).incBy R.PASM_PLACED r.placed).incBy R.PASM_CUT r.cut

/-- R342: the directives did not fit. -/
def promptOver (c : Nat) (r : Assembled) (d : Device) : Device := if r.ovf then (d.inc R.PASM_OVER).raiseCtx 0x0908 c [] else d

/-- What an assembly's result leaves, before its stage ends. -/
def promptDone (rid : Nat) (q : Request) (x : Template) (r : Assembled) (d : Device) : Device :=
  promptOver q.ctx r (promptCounted r ((promptWritten q x r d).updReq rid fun q => q.prompted r))

theorem runAssembly_eq (rid k : Nat) (q : Request) (st : Stage) (x : Template) (d : Device) {r : Assembled}
    (hr : assemble x (q.budget x) (fun i => if i < q.userSegCount then some (d.segTokens q i) else none) (rankedPassages d q st) = r) :
    runAssembly rid k q st x d = (promptDone rid q x r d).endStage rid k := by
  unfold runAssembly
  dsimp only
  rw [hr]
  rfl

end Sys2Proof.Machine
end

section
/-! PROOFS of the end of an assembly, of masks, of waits for blocks and of the table's words (R337, R341, R353, R372). -/
namespace Sys2Proof.Machine

/-! ### The end of an assembly (R341, R342) -/

section
variable (rid : Nat) (q : Request) (x : Template) (r : Assembled) (d : Device)

theorem only_promptCounted : Device.Only textParts [R.PASM_PROMPTS, R.PASM_PLACED, R.PASM_CUT, R.PASM_OVER] d (promptCounted r d) :=
  (((Device.Only.refl d).inc (by simp)).incBy _ (by simp)).incBy _ (by simp)

theorem only_promptDone : Device.Only textParts [R.PASM_PROMPTS, R.PASM_PLACED, R.PASM_CUT, R.PASM_OVER] d (promptDone rid q x r d) := by
  have hcount : Device.Only textParts [R.PASM_PROMPTS, R.PASM_PLACED, R.PASM_CUT, R.PASM_OVER] d
      (promptCounted r ((promptWritten q x r d).updReq rid fun q => q.prompted r)) :=
    ((only_winWrite d _ _ _ _).trans (only_updReq_text _ rid _)).trans (only_promptCounted r _)
  unfold promptDone promptOver
  split
  · exact (hcount.inc (by simp)).raiseCtx _ _ _
  · exact hcount

theorem promptOver_eq (c : Nat) (e : Device) : (promptOver c r e).mem = e.mem ∧ (promptOver c r e).pasm = e.pasm ∧ (promptOver c r e).qm = e.qm ∧
    (promptOver c r e).reg R.PASM_PROMPTS = e.reg R.PASM_PROMPTS := by
  unfold promptOver
  split
  · exact ⟨rfl, rfl, rfl, reg_incBy_ne _ _ (by decide)⟩
  · exact ⟨rfl, rfl, rfl, rfl⟩

theorem mem_promptDone : (promptDone rid q x r d).mem = (promptWritten q x r d).mem := (promptOver_eq r q.ctx _).1

theorem pasm_promptDone : (promptDone rid q x r d).pasm = d.pasm := by
  refine (promptOver_eq r q.ctx _).2.1.trans ?_
  obtain ⟨m, e, h⟩ := winWrite_mem d q.ctx (q.f 0x2C 1) (q.f 0x30 8)
    (tokenList (r.toks.take (q.f 0x38 4)) r.toks.length 0 (boolBit (q.f 0x38 4 < r.toks.length)) x.vocab)
  show (d.winWrite _ _ _ _).pasm = _
  rw [h]

theorem req_promptDone {p : Request} (hp : d.req? rid = some p) : (promptDone rid q x r d).req? rid = some (p.prompted r) := by
  obtain ⟨m, e, h⟩ := winWrite_mem d q.ctx (q.f 0x2C 1) (q.f 0x30 8)
    (tokenList (r.toks.take (q.f 0x38 4)) r.toks.length 0 (boolBit (q.f 0x38 4 < r.toks.length)) x.vocab)
  have hw : (promptWritten q x r d).req? rid = some p := by
    show (d.winWrite _ _ _ _).qm.reqs.get? rid = _
    rw [h]
    exact hp
  refine Eq.trans ?_ (req?_updReq _ rid (fun q => q.prompted r) hw)
  unfold Device.req?
  rw [promptDone, (promptOver_eq r q.ctx _).2.2.1]
  rfl

theorem reg_promptDone : (promptDone rid q x r d).reg R.PASM_PROMPTS = min (d.reg R.PASM_PROMPTS + 1) 0xFFFFFFFF := by
  refine (promptOver_eq r q.ctx _).2.2.2.trans ?_
  unfold promptCounted
  rw [reg_incBy_ne _ _ (by decide), reg_incBy_ne _ _ (by decide)]
  refine (reg_incBy_self _ _ _).trans ?_
  have h : (promptWritten q x r d).reg R.PASM_PROMPTS = d.reg R.PASM_PROMPTS :=
    (only_winWrite (ks := []) d _ _ _ _).regs _ (by simp) (by decide)
  rw [← h]
  rfl

end

/-- The unit takes no assembly. -/
def asmIdle (d : Device) : Device := { d with pasm := { d.pasm with cur := none } }

section
variable {s : State}

theorem assembly_ends (rid k : Nat) (q : Request) (st : Stage) (x : Template) (hcur : s.dev.pasm.cur = some (rid, k))
    (hq : s.dev.req? rid = some q) (hst : q.stages[k]? = some st) (hx : s.dev.tpl? q.template = some x) :
    let r := assemble x (q.budget x) (fun i => if i < q.userSegCount then some (s.dev.segTokens q i) else none)
      (rankedPassages s.dev q st)
    Ends .assemblyDone s (fun t => t.pending = s.pending ∧ t.tb = s.tb ∧
      s.regsBut [R.PASM_PROMPTS, R.PASM_PLACED, R.PASM_CUT, R.PASM_OVER] t ∧
      (∀ p : DevPart, p ≠ .regs → p ≠ .ev → p ≠ .mem → p ≠ .qm → p ≠ .text → p ≠ .pasm → p.same s.dev t.dev) ∧
      t.dev.pasm.cur = none ∧ t.dev.pasm.tpls = s.dev.pasm.tpls ∧
      t.dev.reg R.PASM_PROMPTS = min (s.dev.reg R.PASM_PROMPTS + 1) 0xFFFFFFFF ∧
      t.dev.mem = (s.dev.winWrite q.ctx (q.f 0x2C 1) (q.f 0x30 8) (tokenList (r.toks.take (q.f 0x38 4)) r.toks.length 0
        (boolBit (q.f 0x38 4 < r.toks.length)) x.vocab)).mem ∧
      ∃ q', t.dev.req? rid = some q' ∧ q'.promptTokens = r.toks.length ∧ q'.passages = r.placed) := by
  intro r
  have hr : assemble x (q.budget x) (fun i => if i < q.userSegCount then some ((asmIdle s.dev).segTokens q i) else none)
      (rankedPassages (asmIdle s.dev) q st) = r := rfl
  clear_value r
  obtain ⟨y, l, m, he⟩ := (endStage_started (promptDone rid q x r (asmIdle s.dev)) rid k).eq
  have hown := (endStage_started (promptDone rid q x r (asmIdle s.dev)) rid k).own _ (req_promptDone rid q x r (asmIdle s.dev) hq)
  have heff : assemblyDone s.dev = (promptDone rid q x r (asmIdle s.dev)).endStage rid k := by
    rw [← runAssembly_eq rid k q st x (asmIdle s.dev) hr]
    unfold assemblyDone
    rw [hcur]
    dsimp only
    rw [show ({ s.dev with pasm := { s.dev.pasm with cur := none } } : Device) = asmIdle s.dev from rfl,
      show (asmIdle s.dev).req? rid = s.dev.req? rid from rfl, hq]
    dsimp only
    rw [hst, show (asmIdle s.dev).tpl? q.template = s.dev.tpl? q.template from rfl, hx]
  have hidle : Device.Only textParts [R.PASM_PROMPTS, R.PASM_PLACED, R.PASM_CUT, R.PASM_OVER] s.dev (asmIdle s.dev) :=
    .of_regs [.pasm] rfl (by simp [textParts]) rfl
  refine ends_onDev (f := fun _ d => assemblyDone d) rfl heff
    ((hidle.trans (only_promptDone rid q x r _)).trans (only_started (endStage_started _ _ _)))
    fun t ht ⟨htb, hpend, hregs, hparts⟩ => ⟨hpend, htb, hregs, fun p h1 h2 h3 h4 h5 h6 =>
      hparts p (by simp [textParts, h3, h4, h5, h6]) h1 h2, ?_, ?_, ?_, ?_, ?_⟩
  · rw [ht, Device.flush_pasm, he]
    show (promptDone rid q x r (asmIdle s.dev)).pasm.cur = none
    rw [pasm_promptDone]
    rfl
  · rw [ht, Device.flush_pasm, he]
    show (promptDone rid q x r (asmIdle s.dev)).pasm.tpls = _
    rw [pasm_promptDone]
    rfl
  · rw [ht, reg_flush _ _ (by decide), he]
    exact reg_promptDone rid q x r (asmIdle s.dev)
  · rw [ht, Device.flush_mem, he]
    refine (mem_promptDone rid q x r (asmIdle s.dev)).trans ?_
    exact winWrite_mem_congr (d := s.dev) (e := asmIdle s.dev) rfl rfl rfl _ _ _ _
  · obtain ⟨n, hn⟩ := hown
    refine ⟨{ q.prompted r with stages := n }, ?_, rfl, rfl⟩
    rw [ht]
    unfold Device.req?
    rw [Device.flush_qm]
    exact hn

end

/-! ### Masks (R337) -/

theorem areaWrite_eq (d : Device) (m off : Nat) (data : List Byte) : ∃ mem ev, d.areaWrite m off data = { d with mem := mem, ev := ev } := by
  unfold Device.areaWrite
  split
  · split
    · rw [bgWrite_eq]
      exact ⟨_, _, rfl⟩
    · exact ⟨_, _, rfl⟩
  · exact ⟨_, _, rfl⟩

theorem areaWrite_mem_congr {d e : Device} (hr : e.regs = d.regs) (hst : e.store = d.store) (hpl : e.plots = d.plots) (hmem : e.mem = d.mem)
    (m off : Nat) (data : List Byte) : (e.areaWrite m off data).mem = (d.areaWrite m off data).mem := by
  have hobj : e.obj? (e.mdlArea m) = d.obj? (d.mdlArea m) := by
    unfold Device.obj? Device.mdlArea Device.fld Device.reg
    rw [hst, hr]
  have hfor (a : Nat) : bgForeign e none a data = bgForeign d none a data := by
    unfold bgForeign Device.inImage
    rw [hpl]
  unfold Device.areaWrite
  rw [hobj]
  split
  · split
    · rw [bgWrite_eq, bgWrite_eq, hfor, hmem]
    · exact hmem
  · exact hmem

/-- A mask is complete: its engine is free and its sequence waits for it no more. -/
def maskTaken (i m : Nat) (e : SeqEnt) (d : Device) : Device :=
  ({ d with esp := { d.esp with engines := d.esp.engines.del m } } : Device).setEnt i { e with maskDue := false }

/-- The mask is written at the end of the sequence's record. -/
def maskWritten (e : SeqEnt) (v : VocSlot) (ok : Nat → Bool) (d : Device) : Device :=
  d.areaWrite e.model (e.record * d.recLen e.model + d.recLen e.model - d.maskLen e.model) (maskBytes v.tokens (d.maskLen e.model) ok)

/-- The unit's counters after a mask. -/
def maskCounted (n longest : Nat) (d : Device) : Device :=
  ((d.inc R.ESP_MASKS).incBy R.ESP_DEP_TOKENS n).setFld R.ESP_MASK_MAX 11 0 longest

section
variable {d : Device} (tb : Timebase) (i m : Nat) (j : MaskJob) (e : SeqEnt) (q : Request) (v : VocSlot)
  (heng : d.esp.engines.find? (fun p => p.2.ast == i) = some (m, j)) (hqueue : d.esp.queue = []) (he : d.ent? i = some e)
  (hq : d.req? e.req = some q) (hv : d.voc? (d.mdlVocab e.model) = some v)
include heng hqueue he hq hv

theorem espMaskDone_of (hany : (List.range v.tokens).any (d.seqMask q v e.autoSt e.autoStack).1 = true) :
    ∃ n longest, espMaskDone i tb d =
      maskCounted n longest (maskWritten e v (d.seqMask q v e.autoSt e.autoStack).1 (maskTaken i m e d)) := by
  have hfree : d.freeEngine m = { d with esp := { d.esp with engines := d.esp.engines.del m } } := by
    unfold Device.freeEngine
    rw [hqueue]
  have hent : ({ d with esp := { d.esp with engines := d.esp.engines.del m } } : Device).ent? i = some e := he
  have hreq : (maskTaken i m e d).req? e.req = some q := hq
  have hvoc : (maskTaken i m e d).voc? ((maskTaken i m e d).mdlVocab e.model) = some v := hv
  have hmask : (maskTaken i m e d).seqMask q v e.autoSt e.autoStack = d.seqMask q v e.autoSt e.autoStack := rfl
  unfold espMaskDone
  rw [heng]
  dsimp only
  rw [hfree, hent]
  dsimp only
  rw [← maskTaken]
  rw [hreq, hvoc]
  dsimp only
  rw [hmask, if_pos (by rw [hany]; rfl)]
  exact ⟨_, _, rfl⟩

end

theorem only_maskCounted (n longest : Nat) (d : Device) :
    Device.Only [.mem, .esp, .seq] [R.ESP_MASKS, R.ESP_DEP_TOKENS, R.ESP_MASK_MAX] d (maskCounted n longest d) :=
  (((Device.Only.refl d).inc (by simp)).incBy _ (by simp)).setFld _ _ _ (by simp)

theorem reg_maskCounted (n longest : Nat) (d : Device) :
    (maskCounted n longest d).reg R.ESP_MASKS = min (d.reg R.ESP_MASKS + 1) 0xFFFFFFFF := by
  unfold maskCounted
  rw [reg_setFld_ne _ _ _ _ (by decide), reg_incBy_ne _ _ (by decide)]
  exact reg_incBy_self _ _ _

section
variable {s : State}

theorem mask_ends (i m : Nat) (j : MaskJob) (e : SeqEnt) (q : Request) (v : VocSlot)
    (heng : s.dev.esp.engines.find? (fun p => p.2.ast == i) = some (m, j)) (hqueue : s.dev.esp.queue = []) (he : s.dev.ent? i = some e)
    (hq : s.dev.req? e.req = some q) (hv : s.dev.voc? (s.dev.mdlVocab e.model) = some v) :
    let ok := (s.dev.seqMask q v e.autoSt e.autoStack).1
    let len := s.dev.maskLen e.model
    (List.range v.tokens).any ok = true →
    Ends (.espMaskDone i) s (fun t => s.frame [.mem, .esp, .seq] [R.ESP_MASKS, R.ESP_DEP_TOKENS, R.ESP_MASK_MAX] t ∧
      t.dev.esp = { s.dev.esp with engines := s.dev.esp.engines.del m } ∧
      t.dev.ent? i = some { e with maskDue := false } ∧
      t.dev.reg R.ESP_MASKS = min (s.dev.reg R.ESP_MASKS + 1) 0xFFFFFFFF ∧
      t.dev.mem = (s.dev.areaWrite e.model (e.record * s.dev.recLen e.model + s.dev.recLen e.model - len)
        (maskBytes v.tokens len ok)).mem) := by
  intro ok len hany
  obtain ⟨n, longest, heff⟩ := espMaskDone_of s.tb i m j e q v heng hqueue he hq hv hany
  have hmem : (maskWritten e v ok (maskTaken i m e s.dev)).mem = (s.dev.areaWrite e.model
      (e.record * s.dev.recLen e.model + s.dev.recLen e.model - len) (maskBytes v.tokens len ok)).mem :=
    areaWrite_mem_congr (d := s.dev) (e := maskTaken i m e s.dev) rfl rfl rfl rfl _ _ _
  obtain ⟨mem, ev, hw⟩ := areaWrite_eq (maskTaken i m e s.dev) e.model
    (e.record * (maskTaken i m e s.dev).recLen e.model + (maskTaken i m e s.dev).recLen e.model - (maskTaken i m e s.dev).maskLen e.model)
    (maskBytes v.tokens ((maskTaken i m e s.dev).maskLen e.model) ok)
  have hw' : maskWritten e v ok (maskTaken i m e s.dev) = { maskTaken i m e s.dev with mem := mem, ev := ev } := hw
  rw [hw'] at heff hmem
  have honly : Device.Only [.mem, .esp, .seq] [R.ESP_MASKS, R.ESP_DEP_TOKENS, R.ESP_MASK_MAX] s.dev
      { maskTaken i m e s.dev with mem := mem, ev := ev } := .of_regs [.mem, .esp, .seq] rfl (by simp) rfl
  refine ends_onDev (f := espMaskDone i) rfl heff (honly.trans (only_maskCounted _ _ _)) fun t ht hfr => ⟨hfr, ?_, ?_, ?_, ?_⟩
  · rw [ht, Device.flush_esp]
    rfl
  · rw [ht]
    unfold Device.ent?
    rw [Device.flush_seq]
    exact Tbl.get?_set_self ..
  · rw [ht, reg_flush _ _ (by decide)]
    exact reg_maskCounted n longest _
  · rw [ht, Device.flush_mem]
    exact hmem

end

/-! ### A sequence that waited too long (R353) -/

/-- What the end of a request leaves: memory and the sequences. -/
structure KeepsSeqs (a b : Device) : Prop where
  mem : b.mem = a.mem
  seq : b.seq = a.seq

theorem KeepsSeqs.refl (a : Device) : KeepsSeqs a a := ⟨rfl, rfl⟩

theorem KeepsSeqs.trans {a b c : Device} (h : KeepsSeqs a b) (g : KeepsSeqs b c) : KeepsSeqs a c :=
  ⟨g.mem.trans h.mem, g.seq.trans h.seq⟩

theorem keepsSeqs_writeEntry (d : Device) (q : Nat) (entry : List Byte) : KeepsSeqs d (d.writeEntry q entry) := by
  obtain ⟨x, h, o, he⟩ := writeEntry_eq d q entry
  rw [he]
  exact ⟨rfl, rfl⟩

theorem keepsSeqs_setReq (d : Device) (rid : Nat) (q : Request) : KeepsSeqs d (d.setReq rid q) := ⟨rfl, rfl⟩

theorem keepsSeqs_updReq (d : Device) (rid : Nat) (f : Request → Request) : KeepsSeqs d (d.updReq rid f) := ⟨rfl, rfl⟩

theorem keepsSeqs_inc (d : Device) (k : Nat) : KeepsSeqs d (d.inc k) := ⟨rfl, rfl⟩

theorem KeepsSeqs.ite {a b c : Device} (p : Prop) [Decidable p] (h : KeepsSeqs a b) (g : KeepsSeqs a c) :
    KeepsSeqs a (if p then b else c) := by
  split
  · exact h
  · exact g

theorem keepsSeqs_writeText (rid fuel : Nat) (d : Device) : KeepsSeqs d (writeText rid fuel d) := by
  induction fuel generalizing d with
  | zero => exact .refl d
  | succ n ih =>
    unfold writeText
    split
    · exact .refl d
    · dsimp only
      split
      · exact .refl d
      · refine KeepsSeqs.trans ?_ (ih _)
        exact (keepsSeqs_setReq d rid _).trans (keepsSeqs_writeEntry _ _ _)

theorem keepsSeqs_complete (tb : Timebase) (d : Device) (r : Request) : KeepsSeqs d (complete tb d r) := by
  unfold complete
  refine KeepsSeqs.trans ?_ (keepsSeqs_writeEntry _ _ _)
  refine KeepsSeqs.trans (b := if (statusOf r.conds).1 == 3 then d.inc R.QM_CANCELS else d) (.ite _ ⟨rfl, rfl⟩ (.refl d)) ?_
  exact .ite _ ⟨rfl, rfl⟩ (.refl _)

theorem keepsSeqs_completeReq (tb : Timebase) (rid : Nat) (d : Device) : KeepsSeqs d (completeReq tb rid d) := by
  unfold completeReq
  split
  · exact .refl d
  · split
    · exact .refl d
    · unfold endReq
      split
      · exact .refl d
      · exact KeepsSeqs.trans (b := { d with qm := { d.qm with reqs := d.qm.reqs.del rid } }) ⟨rfl, rfl⟩ (keepsSeqs_complete _ _ _)

theorem keepsSeqs_settleGen (tb : Timebase) (rid : Nat) (d : Device) : KeepsSeqs d (settleGen tb rid d) := by
  unfold settleGen
  dsimp only
  refine (keepsSeqs_writeText rid 4097 d).trans ?_
  split
  · exact .refl _
  · split
    · exact keepsSeqs_completeReq _ _ _
    · exact .refl _

theorem stage_endText (e : SeqEnt) : e.endText.1.stage = e.stage := by
  unfold SeqEnt.endText
  split
  · rfl
  · rfl

/-- A sequence's entry is free; its blocks are freed at once where no stage works on them. -/
def seqFreed (i : Nat) (e : SeqEnt) (d : Device) : Device :=
  { d with seq := { d.seq with
      ast := d.seq.ast.del i
      freeing := match e.stage.filter (fun g => d.seq.stages.has g) with
        | some g => d.seq.freeing ++ e.blocks.map (fun b => (e.model, e.part, b, g))
        | none => d.seq.freeing } }

theorem freeing_seqFreed {e : SeqEnt} (h : e.stage = none) (i : Nat) (d : Device) : (seqFreed i e d).seq.freeing = d.seq.freeing := by
  unfold seqFreed
  rw [h]
  rfl

theorem keepsSeqs_finishSeq (tb : Timebase) (i : Nat) (d : Device) (e : SeqEnt) (h : d.ent? i = some e) :
    KeepsSeqs (seqFreed i e.endText.1 (d.incBy R.TEXT_INVALID_SEQ e.endText.2)) (finishSeq tb i d) := by
  unfold finishSeq
  rw [h]
  dsimp only
  generalize e.endText = y
  refine KeepsSeqs.trans ?_ (keepsSeqs_settleGen tb _ _)
  refine KeepsSeqs.ite _ (.trans ?_ (keepsSeqs_inc _ _)) ?_
  · exact keepsSeqs_updReq (seqFreed i y.1 (d.incBy R.TEXT_INVALID_SEQ y.2)) _ _
  · exact keepsSeqs_updReq (seqFreed i y.1 (d.incBy R.TEXT_INVALID_SEQ y.2)) _ _

section
variable {s : State}

theorem kv_wait_ends (i : Nat) (e : SeqEnt) (he : s.dev.ent? i = some e) (hord : risingKeys s.dev.seq.ast) (hwait : e.kvWait = true)
    (hlim : max 1 (s.dev.fld R.SEQ_CTRL 15 8) < e.wait) :
    Ends (.kvWaitExpiry i) s (fun t => t.pending = s.pending ∧ t.tb = s.tb ∧ t.dev.mem = s.dev.mem ∧ t.dev.ent? i = none ∧
      (∀ k, k ≠ i → t.dev.ent? k = s.dev.ent? k) ∧ (e.stage = none → t.dev.seq.freeing = s.dev.seq.freeing)) := by
  intro hl
  obtain ⟨y, hy⟩ : ∃ y : SeqEnt, y = { e with ends := some (5, 0x83) } := ⟨_, rfl⟩
  obtain ⟨x, hx⟩ : ∃ x, x = (s.dev.setEnt i y).raise 0x0A02 [(1, e.model), (1, e.part)] := ⟨_, rfl⟩
  have heff : kvWaitExpiry i s.tb s.dev = finishSeq s.tb i x := by
    unfold kvWaitExpiry
    rw [he]
    dsimp only
    rw [hx, hy, if_pos (by simp [hwait, hlim])]
  have hent : x.ent? i = some y := by
    rw [hx]
    exact Tbl.get?_set_self ..
  have hkeep := keepsSeqs_finishSeq s.tb i x y hent
  have hast : (finishSeq s.tb i x).seq.ast = (s.dev.seq.ast.set i y).del i := by
    rw [hkeep.seq, hx]
    rfl
  have hdev : (s.onDev (kvWaitExpiry i)).dev = (finishSeq s.tb i x).flush s.tb := by
    rw [s.onDev_of _ hl, heff]
  refine ⟨_, rfl, s.onDev_pending _, s.onDev_tb _, ?_, ?_, fun k hk => ?_, fun hst => ?_⟩
  · rw [hdev, Device.flush_mem, hkeep.mem, hx]
    rfl
  · unfold Device.ent?
    rw [hdev, Device.flush_seq, hast]
    exact get?_del_self (risingKeys_set hord i y) i
  · unfold Device.ent?
    rw [hdev, Device.flush_seq, hast, Tbl.get?_del_ne _ hk.symm, Tbl.get?_set_ne _ _ hk.symm]
  · rw [hdev, Device.flush_seq, hkeep.seq, freeing_seqFreed ((stage_endText y).trans (by rw [hy]; exact hst)), hx]
    rfl

/-! ### The words of the table (R372, R454) -/

theorem only_port (d : Device) (x : RegPort) : Device.Only [.port] [] d { d with port := x } := .of_regs [.port] rfl (by simp) rfl

theorem ast_reads :
    (s.dev.power.phase ≠ .rom → Ends .astData0Read s (fun t => s.frame [.port, .seq] [] t ∧
      t.dev.seq = { s.dev.seq with astCap := s.dev.astBytes (s.dev.fld R.SEQ_AST_SEL 12 0) } ∧
      t.dev.port = { s.dev.port with
        pendLo := none, rdata := BitVec.ofNat 32 (fieldLe (s.dev.astBytes (s.dev.fld R.SEQ_AST_SEL 12 0)) 0 4) })) ∧
    (s.dev.power.phase = .rom → Ends .astData0Read s (fun t => s.frame [.port] [] t ∧
      t.dev.port = { s.dev.port with pendLo := none, rdata := 0 })) := by
  refine ⟨fun hph => ?_, fun hph => ?_⟩
  · have he : exec .astData0Read s = .next (s.onAon fun _ d => astData0Read d) := congrArg Host.Outcome.next (if_neg (by simpa using hph))
    refine ends_onAon (f := fun _ d => astData0Read d) he (by simp) rfl (.of_regs [.port, .seq] rfl (by simp) rfl)
      fun t ht hfr => ⟨hfr, ?_, ?_⟩
    · rw [ht, Device.flush_seq]
      rfl
    · rw [ht, Device.flush_port]
      rfl
  · intro hl
    refine ⟨_, congrArg Host.Outcome.next ((if_pos (by simp [hph])).trans (s.live_of _ hl)), ⟨rfl, rfl, fun _ _ _ => rfl, ?_⟩, rfl⟩
    exact (only_port s.dev _).parts

end

/-- Settles O52: a clause for each unit's work, each from what its command leaves of lanes, requests, sequences and memory. -/
theorem textAndSequencesMoveOn : Obligations.TextAndSequencesMoveOn := by
  unfold Obligations.TextAndSequencesMoveOn
  exact ⟨fun s l j rest hdom hl hj => segment_starts l j rest hdom hl hj, fun s lane j q v hl hq hv => segment_ends lane j q v hl hq hv,
    fun s j hcur hdom hq => assembly_starts j hcur hdom hq, fun s rid k q st x hcur hq hst hx => assembly_ends rid k q st x hcur hq hst hx,
    fun s i m j e q v heng hqueue he hq hv => mask_ends i m j e q v heng hqueue he hq hv,
    fun s i e he hord hw hlim => kv_wait_ends i e he hord hw hlim, fun s => ast_reads⟩

end Sys2Proof.Machine
end

section
/-! PROOFS of the slots up to the mount: insertion, pull, power, authentication and training (R409, R411, R412, R485, R517). -/
namespace Sys2Proof.Machine

/-! ### What a slot's change leaves -/

section
variable {s t : State} {d e : Device} {n : Nat} {x : FlashSlot}

/-- R476: the storing of a slot raises at most the change of its power. -/
theorem ev_setSlot (d : Device) (n : Nat) (x : FlashSlot) :
    (d.setSlot n x).ev = d.ev ∨ (d.setSlot n x).ev = (d.raise 0x0E04 [(1, 26 + n)]).ev := by
  unfold Device.setSlot
  dsimp only
  generalize (if x.st.power == 0 then { x with vcartOpen := false } else x) = y
  unfold cartPower
  split
  · exact .inl rfl
  · exact .inr rfl

/-- An event that is raised once a slot is stored. -/
theorem raised_of_slot {r : EventReq} (hr : r.code ≠ 0x0E04) (hd : d.ev = s.dev.ev) (hset : s.settled)
    (he : e.ev = ((d.setSlot n x).raiseReq r).ev) (ht : t.dev = e.flush s.tb) : s.raised r t := by
  have hnone : d.ev.raised = [] := hd ▸ hset
  rcases ev_setSlot d n x with h | h
  · refine raised_of_ev (he.trans ?_) hset ht
    unfold Device.raiseReq
    rw [h, hd]
  · have hev : e.ev = ((d.raise 0x0E04 [(1, 26 + n)]).raiseReq r).ev := by
      rw [he]
      unfold Device.raiseReq
      rw [h]
    have hraised : e.ev.raised = [r, ⟨0x0E04, 4, none, [(1, 26 + n)]⟩] := by
      rw [hev]
      exact congrArg (fun l => r :: (⟨0x0E04, 4, none, [(1, 26 + n)]⟩ :: l)) hnone
    refine raised_of_pair (by rw [hev, ← hd]; rfl) (by rw [hev, ← hd]; rfl) (by rw [hraised]; simp) ?_ (by rw [hraised]; simp) ht
    rw [hraised]
    simp [raisesOf, Ne.symm hr]

/-- A command that leaves one slot changed. -/
theorem slotIs_of {ks : List Nat} {P : FlashSlot → Prop} (hfr : s.frame [.flash] ks t) (ht : t.dev = e.flush s.tb) (hn : P (e.slot n))
    (ho : ∀ m, m ≠ n → e.slot m = s.dev.slot m) : State.slotIs n ks P s t := by
  refine ⟨hfr, ?_, fun m hm => ?_⟩
  · rw [ht, slot_flush]
    exact hn
  · rw [ht, slot_flush, ho m hm]

/-- A command that stores one slot. -/
theorem ends_setSlot {c : Instr} {f : Timebase → Device → Device} (he : exec c s = .next (s.onDev f)) (hf : f s.tb s.dev = s.dev.setSlot n x)
    {P : FlashSlot → Prop} (hn : P ((s.dev.setSlot n x).slot n)) : Ends c s (State.slotIs n [] P s) :=
  ends_onDev he hf (only_setSlot _ _ _ (by simp)) fun _ ht hfr => slotIs_of hfr ht hn fun _ hm => slot_setSlot_ne _ _ _ hm

/-- A command that stores one slot and raises an event. -/
theorem ends_setSlot_raise {c : Instr} {f : Timebase → Device → Device} (hset : s.settled) (he : exec c s = .next (s.onDev f)) {r : EventReq}
    (hr : r.code ≠ 0x0E04) (hf : f s.tb s.dev = (s.dev.setSlot n x).raiseReq r) {P : FlashSlot → Prop}
    (hn : P ((s.dev.setSlot n x).slot n)) : Ends c s (fun t => State.slotIs n [] P s t ∧ s.raised r t) :=
  ends_onDev he hf ((only_setSlot _ _ _ (by simp)).raiseReq _) fun _ ht hfr =>
    ⟨slotIs_of hfr ht hn fun _ hm => slot_setSlot_ne _ _ _ hm, raised_of_slot hr rfl hset rfl ht⟩

end

/-! ### Insertion and pull (R412, R517) -/

section
variable {s : State}

theorem onPins_eq_onDev (hl : s.dev.power.porst = true) (f : Timebase → Device → Device) : s.onPins f = s.onDev f :=
  (s.live_of (fun s => s.onPins f) hl).symm

/-- A pin's command out of reset ends as any command does. -/
theorem ends_onPins {c : Instr} {f : Timebase → Device → Device} (he : exec c s = .next (s.onPins f)) {P : State → Prop}
    (h : exec c s = .next (s.onDev f) → Ends c s P) : Ends c s P :=
  fun hl => h (he.trans (congrArg _ (onPins_eq_onDev hl f))) hl

/-- The cartridge that stands in a slot: one that was pulled before, or a new one. -/
def insertedCart (d : Device) (id : CartIdent) (life tw : Nat) (foreign blank : Bool) : Cart :=
  (d.flash.pulled.find? fun c => c.serial == BitVec.ofNat 64 id.serial).getD (newCart id life tw foreign blank)

/-- The cartridges that are left out of the module. -/
def pulledOthers (d : Device) (id : CartIdent) : Device :=
  { d with flash := { d.flash with pulled := d.flash.pulled.filter fun c => c.serial != BitVec.ofNat 64 id.serial } }

theorem cartInsert_of {d : Device} {n life tw : Nat} {id : CartIdent} {foreign blank : Bool} (hn : n < 4) (hst : (d.slot n).st = .empty)
    (hc : (d.slot n).cart = none) (hp : d.power.porst = true) : cartInsert n id life tw foreign blank d =
    ((pulledOthers d id).setSlot n { emptySlot with
      st := .detected, cart := some (insertedCart d id life tw foreign blank), failReason := (d.slot n).failReason }).raise 0x0C01 [(1, n)] := by
  have hcart : insertedCart d id life tw foreign blank = (match d.flash.pulled.find? fun c => c.serial == BitVec.ofNat 64 id.serial with
      | some c => c
      | none => newCart id life tw foreign blank) := by
    unfold insertedCart
    split
    · next h => rw [h]; rfl
    · next h => rw [h]; rfl
  unfold cartInsert
  dsimp only
  rw [if_neg (by simp [hst, hc]; omega), hcart, if_neg (by simp [hp])]
  rfl

theorem cart_inserted (n life tw : Nat) (id : CartIdent) (foreign blank : Bool) (x : FlashSlot) (hset : s.settled)
    (hx : x = s.dev.slot n) (hn : n < 4) (hst : x.st = .empty) (hc : x.cart = none) : Ends (.cartInsert n id life tw foreign blank) s (fun t =>
      State.slotIs n [] (fun y => y = { emptySlot with
        st := .detected, failReason := x.failReason, cart := some ((s.dev.flash.pulled.find? (fun c =>
          c.serial == BitVec.ofNat 64 id.serial)).getD (newCart id life tw foreign blank)) }) s t ∧
      s.raised ⟨0x0C01, 4, none, [(1, n)]⟩ t) := by
  subst hx
  refine ends_onPins (f := fun _ d => cartInsert n id life tw foreign blank d) rfl fun he hl => ?_
  have hothers : Device.Only [.flash] [] s.dev (pulledOthers s.dev id) := .of_regs [.flash] rfl (by simp) rfl
  have hslot (m : Nat) : (pulledOthers s.dev id).slot m = s.dev.slot m := rfl
  refine ends_onDev he (cartInsert_of hn hst hc hl) ((hothers.trans (only_setSlot _ _ _ (by simp))).raise _ _)
    (fun t ht hfr => ⟨slotIs_of hfr ht ?_ fun m hm => ?_, raised_of_slot (d := pulledOthers s.dev id) (by simp) rfl hset rfl ht⟩) hl
  · rw [slot_raise, slot_setSlot_off _ _ _ rfl, if_pos rfl]
    rfl
  · rw [slot_raise, slot_setSlot_ne _ _ _ hm, hslot]

/-- What a pull leaves beside its slot: its reads have failed, and the cartridge is kept as it is. -/
def cartOut (n : Nat) (d : Device) : Device :=
  { failReads n 0x91 d with flash := { (failReads n 0x91 d).flash with pulled := (failReads n 0x91 d).flash.pulled ++ (d.slot n).cart.toList } }

/-- A slot whose cartridge is pulled. -/
def pulledSlot (x : FlashSlot) : FlashSlot := { emptySlot with failReason := x.failReason }

theorem cartPull_of {d : Device} {n : Nat} {c : Cart} (hc : (d.slot n).cart = some c) : cartPull n d =
    if (d.slot n).st == .removable || (d.slot n).st == .failed || (d.slot n).st == .empty then (cartOut n d).setSlot n (pulledSlot (d.slot n))
    else ((cartOut n d).setSlot n (pulledSlot (d.slot n))).raise 0x0C06 [(1, n)] := by
  unfold cartPull
  dsimp only
  rw [if_neg (by simp [hc])]
  rfl

theorem only_cartOut (n : Nat) (d : Device) : Device.Only [.flash] [] d (cartOut n d) := by
  have h : cartOut n d = { d with flash := (cartOut n d).flash } := by
    unfold cartOut
    rw [(failReads_spec d n 0x91).1]
  exact .of_merge [.flash] (by rw [h]; rfl) (by simp) fun k _ _ => by rw [h]; rfl

theorem slot_cartOut (n m : Nat) (d : Device) : (cartOut n d).slot m = d.slot m := by
  unfold Device.slot cartOut
  rw [← (failReads_spec d n 0x91).2.1]

theorem cart_pulled (n : Nat) (x : FlashSlot) (c : Cart) (hset : s.settled) (hx : x = s.dev.slot n) (hc : x.cart = some c) :
    Ends (.cartPull n) s (fun t =>
      State.slotIs n [] (fun y => y = { emptySlot with failReason := x.failReason }) s t ∧
      t.dev.flash.pulled = s.dev.flash.pulled ++ [c] ∧ (∀ r, r ∈ t.dev.flash.reads → r.slot ≠ n) ∧
      (x.st ≠ .removable → x.st ≠ .failed → x.st ≠ .empty → s.raised ⟨0x0C06, 4, none, [(1, n)]⟩ t)) := by
  subst hx
  refine ends_onPins (f := fun _ d => cartPull n d) rfl fun he => ?_
  have hspec := failReads_spec s.dev n 0x91
  have hev : (cartOut n s.dev).ev = s.dev.ev := by
    unfold cartOut
    rw [hspec.1]
  obtain ⟨e, hdef⟩ : ∃ e, e = (cartOut n s.dev).setSlot n (pulledSlot (s.dev.slot n)) := ⟨_, rfl⟩
  have hslot : e.slot n = pulledSlot (s.dev.slot n) := by
    rw [hdef, slot_setSlot_off _ _ _ rfl, if_pos rfl]
    rfl
  have hothers (m : Nat) (hm : m ≠ n) : e.slot m = s.dev.slot m := by
    rw [hdef, slot_setSlot_ne _ _ _ hm, slot_cartOut]
  have hflash : e.flash.pulled = s.dev.flash.pulled ++ [c] ∧ ∀ r, r ∈ e.flash.reads → r.slot ≠ n := by
    rw [hdef, setSlot_eq]
    refine ⟨?_, fun r hr => ?_⟩
    · show s.dev.flash.pulled ++ (s.dev.slot n).cart.toList = _
      rw [hc]
      rfl
    · have hr' : r ∈ s.dev.flash.reads.filter fun r => !(r.slot == n) := hspec.2.2 ▸ hr
      simpa using (List.mem_filter.mp hr').2
  have honly : Device.Only [.flash] [] s.dev e := hdef ▸ (only_cartOut n s.dev).trans (only_setSlot _ _ _ (by simp))
  have hparts (t : State) (ht : t.dev.flash = e.flash) : t.dev.flash.pulled = s.dev.flash.pulled ++ [c] ∧
      ∀ r, r ∈ t.dev.flash.reads → r.slot ≠ n := by
    rw [ht]
    exact hflash
  have heff := cartPull_of hc
  rw [← hdef] at heff
  by_cases hq : ((s.dev.slot n).st == .removable || (s.dev.slot n).st == .failed || (s.dev.slot n).st == .empty) = true
  · rw [if_pos hq] at heff
    refine ends_onDev he heff honly fun t ht hfr => ?_
    obtain ⟨h1, h2⟩ := hparts t (by rw [ht, Device.flush_flash])
    refine ⟨slotIs_of hfr ht hslot hothers, h1, h2, fun n1 n2 n3 => ?_⟩
    simp [n1, n2, n3] at hq
  · rw [if_neg hq] at heff
    refine ends_onDev he heff (honly.raise _ _) fun t ht hfr => ?_
    obtain ⟨h1, h2⟩ := hparts t (by rw [ht, Device.flush_flash]; rfl)
    exact ⟨slotIs_of hfr ht hslot hothers, h1, h2, fun _ _ _ =>
      raised_of_slot (by simp) hev hset (by rw [hdef]; rfl) ht⟩

/-! ### Power and authentication (R409, R411, R485) -/

/-- A slot whose power is good. -/
def poweredSlot (x : FlashSlot) : FlashSlot := { x with st := .authenticating, authDone := false, challenge := none }

theorem poweredSlot_st (x : FlashSlot) : (poweredSlot x).st = .authenticating := rfl

theorem sendChallenge_of {d : Device} {n : Nat} (hst : (d.slot n).st = .authenticating) (hc : (d.slot n).challenge = none) :
    sendChallenge n d = if d.rngOk then { d.setSlot n { d.slot n with challenge := some d.draw48 } with freeCount := d.freeCount + 6 } else d := by
  unfold sendChallenge
  cases h : d.rngOk with
  | true =>
    rw [if_neg (by simp [hst, hc])]
    rfl
  | false => rfl

theorem slot_powered (n : Nat) (x : FlashSlot) (hset : s.settled) (hx : x = s.dev.slot n) (hst : x.st = .powering) :
    Ends (.slotPowerGood n) s (fun t =>
      s.frame [.flash, .free] [] t ∧ (∀ m, m ≠ n → t.dev.slot m = s.dev.slot m) ∧
      t.dev.slot n = { x with
        st := .authenticating, authDone := false, challenge := if s.dev.rngOk then some s.dev.draw48 else none } ∧
      s.raised ⟨0x0E04, 4, none, [(1, 26 + n)]⟩ t) := by
  subst hx
  obtain ⟨e, hdef⟩ : ∃ e, e = s.dev.setSlot n (poweredSlot (s.dev.slot n)) := ⟨_, rfl⟩
  have hslot : e.slot n = poweredSlot (s.dev.slot n) := by
    rw [hdef, slot_setSlot_on _ _ _ (by rw [poweredSlot_st]; decide), if_pos rfl]
  have hev : e.ev = (s.dev.raise 0x0E04 [(1, 26 + n)]).ev := by
    rw [hdef]
    exact setSlot_new_power _ _ _ (by rw [hst, poweredSlot_st]; decide) (by rw [poweredSlot_st]; decide)
  have honly : Device.Only [.flash, .free] [] s.dev e := hdef ▸ only_setSlot _ _ _ (by simp)
  have heff : slotPowerGood n s.dev = sendChallenge n e := by
    unfold slotPowerGood
    rw [hst, if_pos (by decide), hdef]
    rfl
  rw [sendChallenge_of (by rw [hslot]; rfl) (by rw [hslot]; rfl)] at heff
  have hrng : e.rngOk = s.dev.rngOk := by
    rw [hdef]
    unfold Device.rngOk Device.fld Device.reg
    rw [Device.setSlot_regs]
  have hdraw : e.draw48 = s.dev.draw48 := by
    rw [hdef]
    unfold Device.draw48
    rw [Device.setSlot_sec, Device.setSlot_freeCount]
  rw [hrng, hdraw] at heff
  cases h : s.dev.rngOk with
  | false =>
    rw [h, if_neg (by decide)] at heff
    refine ends_onDev (f := fun _ d => slotPowerGood n d) rfl heff honly
      fun t ht hfr => ⟨hfr, fun m hm => ?_, ?_, raised_of_ev hev hset ht⟩
    · rw [ht, slot_flush, hdef, slot_setSlot_ne _ _ _ hm]
    · rw [ht, slot_flush, hslot]
      rfl
  | true =>
    rw [h, if_pos rfl] at heff
    have hpow : ({ e.slot n with challenge := some s.dev.draw48 } : FlashSlot).st.power ≠ 0 := by
      rw [hslot]
      show SlotState.authenticating.power ≠ 0
      decide
    have hfree : Device.Only [.flash, .free] [] e
        { e.setSlot n { e.slot n with challenge := some s.dev.draw48 } with freeCount := e.freeCount + 6 } :=
      (only_setSlot e n { e.slot n with challenge := some s.dev.draw48 } (by simp)).trans (.of_regs [.free] rfl (by simp) rfl)
    refine ends_onDev (f := fun _ d => slotPowerGood n d) rfl heff (honly.trans hfree)
      fun t ht hfr => ⟨hfr, fun m hm => ?_, ?_, raised_of_ev ?_ hset ht⟩
    · rw [ht, slot_flush]
      exact (slot_setSlot_ne _ _ _ hm).trans (by rw [hdef, slot_setSlot_ne _ _ _ hm])
    · rw [ht, slot_flush]
      refine ((slot_setSlot_on _ _ _ hpow n).trans (if_pos rfl)).trans ?_
      rw [hslot]
      rfl
    · exact (setSlot_same_power e n { e.slot n with challenge := some s.dev.draw48 } rfl).trans hev

/-- The state of a slot whose cartridge is refused (R409). -/
def failedSlot (x : FlashSlot) (reason : Nat) : FlashSlot := { x.volatileOff with st := .failed, failReason := reason }

theorem authFail_eq (n r : Nat) (d : Device) :
    authFail n r d = (d.setSlot n (failedSlot (d.slot n) r)).raiseReq ⟨0x0C02, 4, none, [(1, n), (1, r)]⟩ := rfl

theorem slot_failed (d : Device) (n r : Nat) : ∃ y, (d.setSlot n (failedSlot (d.slot n) r)).slot n = y ∧
    y.st = .failed ∧ y.failReason = r ∧ y.cart = (d.slot n).cart ∧ y.map = [] := by
  obtain ⟨b, hb⟩ := slot_setSlot_self d n (failedSlot (d.slot n) r)
  exact ⟨_, hb, rfl, rfl, rfl, rfl⟩

/-- A command that refuses the cartridge of a slot. -/
theorem ends_authFail {c : Instr} {f : Timebase → Device → Device} (hset : s.settled) (he : exec c s = .next (s.onDev f)) {n r : Nat}
    (hf : f s.tb s.dev = authFail n r s.dev) : Ends c s (fun t =>
      State.slotIs n [] (fun y => y.st = .failed ∧ y.failReason = r ∧ y.cart = (s.dev.slot n).cart ∧ y.map = []) s t ∧
      s.raised ⟨0x0C02, 4, none, [(1, n), (1, r)]⟩ t) := by
  obtain ⟨y, hy, hst, hr, hc, hm⟩ := slot_failed s.dev n r
  exact ends_setSlot_raise hset he (by simp) (hf.trans (authFail_eq n r s.dev)) (by rw [hy]; exact ⟨hst, hr, hc, hm⟩)

theorem authReason_zero (c : Cart) (ch : List Byte) (g : CartSig) :
    c.authReason ch g = 0 ↔ c.chainOk = true ∧ c.sigOk ch g = true ∧ c.ident.paramsOk = true := by
  unfold Cart.authReason
  cases c.chainOk with
  | false => simp
  | true =>
    cases c.sigOk ch g with
    | false => simp
    | true =>
      cases c.ident.paramsOk with
      | false => simp
      | true => simp

theorem authReason_chains (c : Cart) (ch : List Byte) (g : CartSig) :
    (∀ k, c.ident.chain = [k] → (c.authReason ch g = 0 ↔ k.form = true ∧ k.digitalSignature = true ∧
        k.serial = c.ident.serial ∧ k.signer = 0 ∧ g.key = k.key ∧ g.digest = sha384 (ch ++ leBytes 8 c.ident.serial) ∧
        c.ident.paramsOk = true)) ∧
      (∀ k m, c.ident.chain = [k, m] → (c.authReason ch g = 0 ↔ k.form = true ∧ k.digitalSignature = true ∧
        k.serial = c.ident.serial ∧ k.signer = m.key ∧ m.form = true ∧ m.signer = 0 ∧ g.key = k.key ∧
        g.digest = sha384 (ch ++ leBytes 8 c.ident.serial) ∧ c.ident.paramsOk = true)) := by
  refine ⟨fun k hk => ?_, fun k m hk => ?_⟩
  · rw [authReason_zero]
    unfold Cart.chainOk Cart.sigOk Cart.authDigest
    dsimp only
    rw [hk]
    simp only [Bool.and_eq_true, beq_iff_eq]
    simp only [and_assoc]
  · rw [authReason_zero]
    unfold Cart.chainOk Cart.sigOk Cart.authDigest
    dsimp only
    rw [hk]
    simp only [Bool.and_eq_true, beq_iff_eq]
    exact ⟨fun ⟨⟨⟨⟨⟨⟨hf, hds⟩, hser⟩, hmf⟩, hsign⟩, hroot⟩, ⟨hkey, hdig⟩, hpar⟩ => ⟨hf, hds, hser, hsign, hmf, hroot, hkey, hdig, hpar⟩,
      fun ⟨hf, hds, hser, hsign, hmf, hroot, hkey, hdig, hpar⟩ => ⟨⟨⟨⟨⟨⟨hf, hds⟩, hser⟩, hmf⟩, hsign⟩, hroot⟩, ⟨hkey, hdig⟩, hpar⟩⟩

theorem authDone_of {d : Device} {n : Nat} {g : CartSig} {ch : List Byte} {c : Cart} (hst : (d.slot n).st = .authenticating)
    (hno : (d.slot n).authDone = false) (hsup : (d.slot n).supplied = true) (hch : (d.slot n).challenge = some ch) (hc : (d.slot n).cart = some c) :
    authDone n g d = if c.authReason ch g = 0 then d.updSlot n (fun x => { x with authDone := true }) else authFail n (c.authReason ch g) d := by
  unfold authDone
  dsimp only
  rw [hch, hc]
  dsimp only
  rw [if_neg (by simp [hst, hno, hsup])]
  simp only [beq_iff_eq]

theorem cart_answers (n : Nat) (x : FlashSlot) (hset : s.settled) (hx : x = s.dev.slot n) (c : Cart) (ch : List Byte) (g : CartSig)
    (hc : x.cart = some c) (hst : x.st = .authenticating) (hno : x.authDone = false) (hsup : x.supplied = true) (hch : x.challenge = some ch) :
    (c.authReason ch g = 0 → Ends (.authDone n g) s (State.slotIs n [] (fun y => y = { x with authDone := true }) s)) ∧
        (∀ r, c.authReason ch g = r → r ≠ 0 → Ends (.authDone n g) s (fun t =>
          State.slotIs n [] (fun y => y.st = .failed ∧ y.failReason = r ∧ y.cart = x.cart ∧ y.map = []) s t ∧
          s.raised ⟨0x0C02, 4, none, [(1, n), (1, r)]⟩ t)) := by
  subst hx
  have heff := authDone_of (g := g) hst hno hsup hch hc
  refine ⟨fun h => ?_, fun r hr h => ?_⟩
  · refine ends_setSlot (f := fun _ d => authDone n g d) rfl (heff.trans (if_pos h)) ?_
    rw [slot_setSlot_on _ _ _ (by simp [hst, SlotState.power]), if_pos rfl]
  · subst hr
    exact ends_authFail hset (f := fun _ d => authDone n g d) rfl (heff.trans (if_neg h))

theorem cart_silent (n : Nat) (x : FlashSlot) (hset : s.settled) (hx : x = s.dev.slot n) (hst : x.st = .authenticating)
    (hno : x.authDone = false) : Ends (.authTimeout n) s (fun t =>
        State.slotIs n [] (fun y => y.st = .failed ∧ y.failReason = 1 ∧ y.cart = x.cart ∧ y.map = []) s t ∧
        s.raised ⟨0x0C02, 4, none, [(1, n), (1, 1)]⟩ t) := by
  subst hx
  refine ends_authFail hset (f := fun _ d => authTimeout n d) rfl (if_neg ?_)
  simp [hst, hno]

theorem onfi_trained (n : Nat) (x : FlashSlot) (hx : x = s.dev.slot n) (hst : x.st = .authenticating) (hdone : x.authDone = true)
    (hsup : x.supplied = true) : Ends (.onfiTrainingDone n) s (State.slotIs n [] (fun y => y = { x with st := .mounting }) s) := by
  subst hx
  refine ends_setSlot (x := { s.dev.slot n with st := .mounting }) (f := fun _ d => onfiTrainingDone n d) rfl
    (if_pos (by simp [hst, hdone, hsup])) ?_
  exact (slot_setSlot_on _ _ _ (by show SlotState.mounting.power ≠ 0; decide) n).trans (if_pos rfl)

theorem switch_opens (n : Nat) (x : FlashSlot) (hx : x = s.dev.slot n) (hp : x.st.power ≠ 0) :
    Ends (.vcartSwitchOpen n) s (State.slotIs n [] (fun y => y = { x with vcartOpen := true }) s) := by
  subst hx
  refine ends_setSlot (f := fun _ d => vcartSwitchOpen n d) rfl (if_neg (by simpa using hp)) ?_
  exact (slot_setSlot_on s.dev n { s.dev.slot n with vcartOpen := true } hp n).trans (if_pos rfl)

theorem reset_over (n : Nat) (x : FlashSlot) (hx : x = s.dev.slot n) : Ends (.slotResetOffDone n) s (State.slotIs n [] (fun y =>
      y.resetting = false ∧ y.st = x.st ∧ y.cart = x.cart ∧ y.map = x.map) s) := by
  subst hx
  refine ends_setSlot (f := fun _ d => slotResetOffDone n d) rfl rfl ?_
  obtain ⟨b, hb⟩ := slot_setSlot_self s.dev n { s.dev.slot n with resetting := false }
  rw [hb]
  exact ⟨rfl, rfl, rfl, rfl⟩

end

end Sys2Proof.Machine
end

section
/-! PROOFS of the mount of a cartridge (R413, R420, R430, R486, R487). -/
namespace Sys2Proof.Machine

/-! ### The objects of the directory -/

/-- The registers that a mount may count in. -/
def mountRegs (n : Nat) : List Nat := [R.SEC_UNWRAP_FAILS, inst R.FLASH_FOLD_RESTARTS n]

/-- A part of a mount that does not report its end: slots, objects and the mount's counters alone; the slot keeps its state, and its
cartridge its pages and its system key. -/
structure MountKeeps (n : Nat) (a b : Device) : Prop where
  only : Device.Only [.flash, .store] (mountRegs n) a b
  counts : b.ev.counts = a.ev.counts
  raised : raisesOf 0x0C03 b.ev.raised = raisesOf 0x0C03 a.ev.raised
  st : (b.slot n).st = (a.slot n).st
  cart : ∀ c, (a.slot n).cart = some c → ∃ z, (b.slot n).cart = some z ∧ z.pages = c.pages ∧ z.sysKey = c.sysKey

section
variable {n : Nat} {a b c : Device}

theorem MountKeeps.refl (a : Device) : MountKeeps n a a := ⟨.refl a, rfl, rfl, rfl, fun c h => ⟨c, h, rfl, rfl⟩⟩

theorem MountKeeps.trans (h : MountKeeps n a b) (g : MountKeeps n b c) : MountKeeps n a c := by
  refine ⟨h.only.trans g.only, g.counts.trans h.counts, g.raised.trans h.raised, g.st.trans h.st, fun x hx => ?_⟩
  obtain ⟨y, hy, hp, hk⟩ := h.cart x hx
  obtain ⟨z, hz, hp', hk'⟩ := g.cart y hy
  exact ⟨z, hz, hp'.trans hp, hk'.trans hk⟩

theorem MountKeeps.foldl {α : Type} {f : Device → α → Device} (hf : ∀ e x, (e.slot n).st = .mounting → MountKeeps n e (f e x)) (l : List α)
    (hm : (a.slot n).st = .mounting) : MountKeeps n a (l.foldl f a) := by
  induction l generalizing a with
  | nil => exact .refl a
  | cons x l ih =>
    have h := hf a x hm
    exact h.trans (ih (h.st.trans hm))

theorem raisesOf_cons_ne {code : Nat} {r : EventReq} (h : r.code ≠ code) (l : List EventReq) : raisesOf code (r :: l) = raisesOf code l := by
  simp [raisesOf, h]

theorem mountKeeps_raise (d : Device) (code : Nat) (pay : List (Nat × Nat)) (h : code ≠ 0x0C03) : MountKeeps n d (d.raise code pay) :=
  ⟨(Device.Only.refl d).raise _ _, rfl, raisesOf_cons_ne h _, rfl, fun c hc => ⟨c, hc, rfl, rfl⟩⟩

theorem mountKeeps_store (d : Device) (x : StoreUnit) : MountKeeps n d { d with store := x } :=
  ⟨.of_regs [.store] rfl (by simp) rfl, rfl, rfl, rfl, fun c hc => ⟨c, hc, rfl, rfl⟩⟩

/-- The events of a stored slot are none of the mount's end. -/
theorem mountEvents_setSlot (d : Device) (m : Nat) (x : FlashSlot) : (d.setSlot m x).ev.counts = d.ev.counts ∧
    raisesOf 0x0C03 (d.setSlot m x).ev.raised = raisesOf 0x0C03 d.ev.raised := by
  rcases ev_setSlot d m x with h | h
  · rw [h]
    exact ⟨rfl, rfl⟩
  · rw [h]
    exact ⟨rfl, raisesOf_cons_ne (by simp) _⟩

theorem mountKeeps_updSlot (d : Device) (m : Nat) (f : FlashSlot → FlashSlot)
    (h : m = n → (f (d.slot n)).st = (d.slot n).st ∧ ∀ c, (d.slot n).cart = some c →
      ∃ z, (f (d.slot n)).cart = some z ∧ z.pages = c.pages ∧ z.sysKey = c.sysKey) : MountKeeps n d (d.updSlot m f) := by
  obtain ⟨hc, hr⟩ := mountEvents_setSlot d m (f (d.slot m))
  have hslot : ((d.updSlot m f).slot n).st = (d.slot n).st ∧ ∀ c, (d.slot n).cart = some c →
      ∃ z, ((d.updSlot m f).slot n).cart = some z ∧ z.pages = c.pages ∧ z.sysKey = c.sysKey := by
    by_cases hm : m = n
    · subst hm
      obtain ⟨v, hv⟩ := slot_setSlot_self d m (f (d.slot m))
      have hv' : (d.updSlot m f).slot m = { f (d.slot m) with vcartOpen := v } := hv
      rw [hv']
      exact h rfl
    · have hv : (d.updSlot m f).slot n = d.slot n := slot_setSlot_ne _ _ _ (Ne.symm hm)
      rw [hv]
      exact ⟨rfl, fun c hcart => ⟨c, hcart, rfl, rfl⟩⟩
  exact ⟨only_setSlot _ _ _ (by simp), hc, hr, hslot.1, hslot.2⟩

theorem forget_of_mounting {x : FlashSlot} (h : x.st = .mounting) (s id : Nat) (o : Obj) : x.forget s id o = x := by
  have hno : x.mounted = false := by
    unfold FlashSlot.mounted
    rw [h]
    rfl
  unfold FlashSlot.forget
  rw [hno]

theorem mountKeeps_discardObj (d : Device) (id : Nat) (hst : (d.slot n).st = .mounting) : MountKeeps n d (d.discardObj id) := by
  have hunmap (o : Obj) : MountKeeps n d (d.unmapObj id o) := by
    unfold Device.unmapObj
    refine MountKeeps.foldl (fun e m he => mountKeeps_updSlot e m _ fun hm => ?_) _ hst
    rw [forget_of_mounting he]
    exact ⟨rfl, fun c hc => ⟨c, hc, rfl, rfl⟩⟩
  have hdone (e : Device) (l : List TierOp) (he : (e.slot n).st = .mounting) : MountKeeps n e (l.foldl (fun d _ => tierDone id 7 d) e) :=
    MountKeeps.foldl (fun d _ _ => mountKeeps_raise d _ _ (by decide)) l he
  unfold Device.discardObj
  cases h : d.obj? id with
  | none => exact (mountKeeps_store d _).trans (hdone _ _ hst)
  | some o =>
    exact (((hunmap o).trans (mountKeeps_store _ _)).trans (mountKeeps_store _ _)).trans (hdone _ _ ((hunmap o).st.trans hst))

/-- A record that leaves the directory of the slot's cartridge. -/
theorem mountKeeps_unlist (d : Device) (id : Nat) : MountKeeps n d (d.updSlot n fun x => x.unlist id) :=
  mountKeeps_updSlot d n _ fun _ => ⟨rfl, fun c hc => by
    refine ⟨_, congrArg (Option.map _) hc, rfl, rfl⟩⟩

/-- What the mount makes of an object of the directory; `p` tells that it is reported as not found. -/
theorem mountObj_eq (n : Nat) (d : Device) (e : Nat × Obj) : ∃ p : Bool, mountObj n d e =
    if p then d.raise 0x0C0D [(1, n), (2, e.1)]
    else if e.2.st == .building || e.2.st == .sealing then ((d.discardObj e.1).updSlot n (fun x => x.unlist e.1)).raise 0x0C0E [(1, n), (2, e.1)]
    else if (d.obj? e.1).isSome then d
    else if e.2.st == .sealed then d.setObj e.1 e.2
    else d.updSlot n (fun x => x.unlist e.1) := ⟨_, rfl⟩

theorem mountKeeps_mountObj (d : Device) (e : Nat × Obj) (hst : (d.slot n).st = .mounting) : MountKeeps n d (mountObj n d e) := by
  obtain ⟨p, hp⟩ := mountObj_eq n d e
  rw [hp]
  split
  · exact mountKeeps_raise d _ _ (by decide)
  · split
    · exact ((mountKeeps_discardObj d _ hst).trans (mountKeeps_unlist _ _)).trans (mountKeeps_raise _ _ _ (by decide))
    · split
      · exact .refl d
      · split
        · exact mountKeeps_store d _
        · exact mountKeeps_unlist d _

/-- An object that is neither being built nor sealed leaves the other slots. -/
theorem slot_mountObj_ne (d : Device) (e : Nat × Obj) (he : e.2.st ≠ .building ∧ e.2.st ≠ .sealing) {m : Nat} (hm : m ≠ n) :
    (mountObj n d e).slot m = d.slot m := by
  obtain ⟨p, hp⟩ := mountObj_eq n d e
  rw [hp]
  split
  · rfl
  · rw [if_neg (by simp [he.1, he.2])]
    split
    · rfl
    · split
      · rfl
      · exact slot_setSlot_ne _ _ _ hm

theorem slot_mountObjs_ne (l : List (Nat × Obj)) (d : Device) (hl : ∀ e, e ∈ l → e.2.st ≠ .building ∧ e.2.st ≠ .sealing) {m : Nat} (hm : m ≠ n) :
    (l.foldl (mountObj n) d).slot m = d.slot m := by
  induction l generalizing d with
  | nil => rfl
  | cons e l ih =>
    rw [List.foldl_cons, ih _ fun x hx => hl x (by simp [hx]), slot_mountObj_ne _ _ (hl e (by simp)) hm]

end

/-! ### The slot once its map is rebuilt -/

/-- The same pages and directory: what becomes of superblocks and of wear aside. -/
def Cart.SameMap (a b : Cart) : Prop := ∃ u v w z, b = { a with
  sbs := u
  life := v
  wearBase := w
  stats := z }

theorem Cart.SameMap.refl (a : Cart) : Cart.SameMap a a := ⟨_, _, _, _, rfl⟩

theorem Cart.SameMap.trans {a b c : Cart} (h : Cart.SameMap a b) (g : Cart.SameMap b c) : Cart.SameMap a c := by
  obtain ⟨u, v, w, z, rfl⟩ := h
  obtain ⟨u', v', w', z', rfl⟩ := g
  exact ⟨u', v', w', z', rfl⟩

theorem Cart.SameMap.rebuild {a b : Cart} (h : Cart.SameMap a b) (s : Nat) (k : Ckpt) (spares : List (Nat × List Byte)) :
    b.rebuild s k spares = a.rebuild s k spares := by
  obtain ⟨u, v, w, z, rfl⟩ := h
  rfl

theorem Cart.SameMap.kept {a b : Cart} (h : Cart.SameMap a b) : b.pages = a.pages ∧ b.sysKey = a.sysKey := by
  obtain ⟨u, v, w, z, rfl⟩ := h
  exact ⟨rfl, rfl⟩

theorem sameMap_updSb (c : Cart) (k : Nat) (f : Superblock → Superblock) : Cart.SameMap c (c.updSb k f) := ⟨_, _, _, _, rfl⟩

theorem sameMap_updSbs (l : List Nat) (f : Superblock → Superblock) (c : Cart) : Cart.SameMap c (l.foldl (fun c k => c.updSb k f) c) := by
  induction l generalizing c with
  | nil => exact .refl c
  | cons k l ih => exact (sameMap_updSb c k f).trans (ih _)

/-- What the rest of a mount leaves of a slot whose map is rebuilt. -/
structure MountedKeeps (n : Nat) (a b : Device) : Prop extends MountKeeps n a b where
  others : ∀ m, m ≠ n → b.slot m = a.slot m
  offline : (b.slot n).offline = (a.slot n).offline
  map : (b.slot n).map = (a.slot n).map
  same : ∀ c, (a.slot n).cart = some c → ∃ z, (b.slot n).cart = some z ∧ Cart.SameMap c z

section
variable {n : Nat} {a b c : Device}

theorem MountedKeeps.refl (a : Device) : MountedKeeps n a a :=
  ⟨.refl a, fun _ _ => rfl, rfl, rfl, fun c h => ⟨c, h, .refl c⟩⟩

theorem MountedKeeps.trans (h : MountedKeeps n a b) (g : MountedKeeps n b c) : MountedKeeps n a c := by
  refine ⟨h.toMountKeeps.trans g.toMountKeeps, fun m hm => (g.others m hm).trans (h.others m hm), g.offline.trans h.offline, g.map.trans h.map,
    fun x hx => ?_⟩
  obtain ⟨y, hy, hs⟩ := h.same x hx
  obtain ⟨z, hz, hs'⟩ := g.same y hy
  exact ⟨z, hz, hs.trans hs'⟩

theorem MountedKeeps.foldl {α : Type} {f : Device → α → Device} (hf : ∀ e x, MountedKeeps n e (f e x)) (l : List α) (a : Device) :
    MountedKeeps n a (l.foldl f a) := by
  induction l generalizing a with
  | nil => exact .refl a
  | cons x l ih => exact (hf a x).trans (ih _)

theorem mountedKeeps_raise (d : Device) (code : Nat) (pay : List (Nat × Nat)) (h : code ≠ 0x0C03) : MountedKeeps n d (d.raise code pay) :=
  ⟨mountKeeps_raise d code pay h, fun _ _ => rfl, rfl, rfl, fun c hc => ⟨c, hc, .refl c⟩⟩

theorem mountedKeeps_inc (d : Device) {k : Nat} (h : k ∈ mountRegs n) : MountedKeeps n d (d.inc k) :=
  ⟨⟨(Device.Only.refl d).inc h, rfl, rfl, rfl, fun c hc => ⟨c, hc, rfl, rfl⟩⟩, fun _ _ => rfl, rfl, rfl, fun c hc => ⟨c, hc, .refl c⟩⟩

theorem mountedKeeps_setSlot (d : Device) (x : FlashSlot) (hst : x.st = (d.slot n).st) (hoff : x.offline = (d.slot n).offline)
    (hmap : x.map = (d.slot n).map) (hsame : ∀ c, (d.slot n).cart = some c → ∃ z, x.cart = some z ∧ Cart.SameMap c z) :
    MountedKeeps n d (d.setSlot n x) := by
  obtain ⟨v, hv⟩ := slot_setSlot_self d n x
  obtain ⟨hc, hr⟩ := mountEvents_setSlot d n x
  refine ⟨⟨only_setSlot _ _ _ (by simp), hc, hr, ?_, fun c hcart => ?_⟩, fun m hm => slot_setSlot_ne _ _ _ hm, ?_, ?_, ?_⟩
  · rw [hv, ← hst]
  · obtain ⟨z, hz, hs⟩ := hsame c hcart
    rw [hv]
    exact ⟨z, hz, hs.kept⟩
  · rw [hv, ← hoff]
  · rw [hv, ← hmap]
  · rw [hv]
    exact hsame

theorem MountedKeeps.ite {a b c : Device} (p : Prop) [Decidable p] (h : MountedKeeps n a b) (g : MountedKeeps n a c) :
    MountedKeeps n a (if p then b else c) := by
  split
  · exact h
  · exact g

theorem mountedKeeps_lifeCheck (d : Device) : MountedKeeps n d (lifeCheck n d) := by
  unfold lifeCheck
  dsimp only
  split
  · exact .refl d
  · rename_i c hc
    refine MountedKeeps.trans ?_ (.ite _ (mountedKeeps_raise _ _ _ (by decide)) (.refl _))
    refine MountedKeeps.trans ?_ (.ite _ (mountedKeeps_raise _ _ _ (by decide)) (.refl _))
    refine mountedKeeps_setSlot d _ rfl rfl rfl fun y hy => ⟨_, rfl, ?_⟩
    obtain rfl := Option.some.inj (hc.symm.trans hy)
    exact ⟨_, _, _, _, rfl⟩

theorem mountedKeeps_foldBegin (d : Device) (ch : Nat) : MountedKeeps n d (foldBegin n ch d) := by
  unfold foldBegin
  dsimp only
  split
  · exact .refl d
  · rename_i c hc
    split
    · exact .refl d
    · split
      · exact .refl d
      · refine MountedKeeps.trans (b := { d with flash := { d.flash with nextFold := d.flash.nextFold + 1 } }) ?_ ?_
        · exact ⟨⟨.of_regs [.flash] rfl (by simp) rfl, rfl, rfl, rfl, fun c hc => ⟨c, hc, rfl, rfl⟩⟩, fun _ _ => rfl, rfl, rfl,
            fun c hc => ⟨c, hc, .refl c⟩⟩
        · refine MountedKeeps.trans ?_ (mountedKeeps_lifeCheck _)
          refine mountedKeeps_setSlot _ _ rfl rfl rfl fun y hy => ⟨_, rfl, ?_⟩
          obtain rfl := Option.some.inj (hc.symm.trans hy)
          exact (sameMap_updSbs _ _ _).trans (sameMap_updSb _ _ _)

end

/-! ### The mount that succeeds (R420, R430) -/

/-- The cartridge as a mount leaves it, before folds begin anew. -/
def recovered (d : Device) (n : Nat) (c : Cart) (map : Tbl Nat) : Cart :=
  (((c.recoverSbs map).raiseWear (d.slcRegion n)).bump 0x6C 1).bump 0x64 c.openFolds.length

theorem sameMap_recovered (d : Device) (n : Nat) (c : Cart) (map : Tbl Nat) : Cart.SameMap c (recovered d n c map) := ⟨_, _, _, _, rfl⟩

/-- The slot is READY, with its map, its locked namespaces and its keys. -/
def readySlot (d : Device) (n : Nat) (c : Cart) (map : Tbl Nat) (chans : Tbl FlashChan) (locked : List Nat) (keys : Tbl (List Byte)) : Device :=
  d.updSlot n fun x => { x with
    st := .ready
    cart := some (recovered d n c map)
    map := map
    chans := chans
    locked := locked
    keys := keys
    offline := false
    force := false }

/-- Namespaces whose keys failed their check, and folds that begin anew. -/
def mountReports (n : Nat) (locked : List Nat) (folds : List (Nat × Nat)) (d : Device) : Device :=
  let d := locked.foldl (fun d k => (d.inc R.SEC_UNWRAP_FAILS).raise 0x0F03 [(1, n), (2, k)]) d
  let d := folds.foldl (fun d f => (d.inc (slotReg R.FLASH_FOLD_RESTARTS n)).raise 0x0C0C [(1, n), (1, f.1), (4, f.2)]) d
  ((folds.map (·.1)).eraseDups).foldl (fun d ch => foldBegin n ch d) d

theorem mountedKeeps_reports (n : Nat) (locked : List Nat) (folds : List (Nat × Nat)) (d : Device) :
    MountedKeeps n d (mountReports n locked folds d) :=
  ((MountedKeeps.foldl (fun _ _ => (mountedKeeps_inc _ (by simp [mountRegs])).trans (mountedKeeps_raise _ _ _ (by decide))) locked d).trans
    (.foldl (fun _ _ => (mountedKeeps_inc _ (by simp [mountRegs, slotReg])).trans (mountedKeeps_raise _ _ _ (by decide))) folds _)).trans
    (.foldl (fun _ _ => mountedKeeps_foldBegin _ _) _ _)

theorem mountOk_eq {n : Nat} {found : MountRead} {k : Ckpt} {c0 c : Cart} {d : Device}
    (h : ((c0.dir.foldl (mountObj n) d).slot n).cart = some c) : ∃ chans keys, mountOk n found k c0 d =
      lifeCheck n ((mountReports n (c.lockedNss found) c.openFolds (readySlot (c0.dir.foldl (mountObj n) d) n c (c.rebuild n k found.spares)
        chans (c.lockedNss found) keys)).raise 0x0C03 [(1, n)]) := by
  unfold mountOk
  dsimp only
  rw [h]
  exact ⟨_, _, rfl⟩

/-- What a mount that succeeds leaves. -/
structure Mounts (n : Nat) (c : Cart) (k : Ckpt) (spares : List (Nat × List Byte)) (a b : Device) : Prop where
  only : Device.Only [.flash, .store] (mountRegs n) a b
  counts : b.ev.counts = a.ev.counts
  raised : raisesOf 0x0C03 b.ev.raised = raisesOf 0x0C03 a.ev.raised + 1
  others : (∀ e, e ∈ c.dir → e.2.st ≠ .building ∧ e.2.st ≠ .sealing) → ∀ m, m ≠ n → b.slot m = a.slot m
  ready : (b.slot n).st = .ready ∧ (b.slot n).offline = false
  cart : ∃ z, (b.slot n).cart = some z ∧ z.sysKey = c.sysKey ∧ z.pages = c.pages ∧ (b.slot n).map = z.rebuild n k spares

theorem mounts_of {n : Nat} {found : MountRead} {k : Ckpt} {c : Cart} {d : Device} (hst : (d.slot n).st = .mounting)
    (hc : (d.slot n).cart = some c) : Mounts n c k found.spares d (mountOk n found k c d) := by
  have hobjs : MountKeeps n d (c.dir.foldl (mountObj n) d) := MountKeeps.foldl (fun e x he => mountKeeps_mountObj e x he) _ hst
  obtain ⟨c1, hc1, hpages, hkey⟩ := hobjs.cart c hc
  obtain ⟨chans, keys, he⟩ := mountOk_eq (found := found) (k := k) hc1
  obtain ⟨d1, hd1⟩ : ∃ d1, d1 = c.dir.foldl (mountObj n) d := ⟨_, rfl⟩
  obtain ⟨d2, hd2⟩ : ∃ d2, d2 = readySlot d1 n c1 (c1.rebuild n k found.spares) chans (c1.lockedNss found) keys := ⟨_, rfl⟩
  obtain ⟨d3, hd3⟩ : ∃ d3, d3 = mountReports n (c1.lockedNss found) c1.openFolds d2 := ⟨_, rfl⟩
  rw [← hd1] at he hobjs
  rw [← hd2, ← hd3] at he
  have hreports : MountedKeeps n d2 d3 := hd3 ▸ mountedKeeps_reports n _ _ d2
  have hlife : MountedKeeps n (d3.raise 0x0C03 [(1, n)]) (mountOk n found k c d) := he ▸ mountedKeeps_lifeCheck _
  have hslot : (d2.slot n).st = .ready ∧ (d2.slot n).offline = false ∧ (d2.slot n).map = c1.rebuild n k found.spares ∧
      (d2.slot n).cart = some (recovered d1 n c1 (c1.rebuild n k found.spares)) := by
    obtain ⟨v, hv⟩ := slot_setSlot_self d1 n { d1.slot n with
      st := .ready, cart := some (recovered d1 n c1 (c1.rebuild n k found.spares)), map := c1.rebuild n k found.spares
      chans := chans, locked := c1.lockedNss found, keys := keys, offline := false, force := false }
    rw [hd2]
    rw [show (readySlot d1 n c1 (c1.rebuild n k found.spares) chans (c1.lockedNss found) keys).slot n = _ from hv]
    exact ⟨rfl, rfl, rfl, rfl⟩
  obtain ⟨hst2, hoff2, hmap2, hcart2⟩ := hslot
  obtain ⟨c3, hc3, hs3⟩ := hreports.same _ hcart2
  obtain ⟨z, hz, hsz⟩ := hlife.same c3 hc3
  have hsame : Cart.SameMap c1 z := ((sameMap_recovered _ _ _ _).trans hs3).trans hsz
  have hready : (d2.ev.counts = d1.ev.counts ∧ raisesOf 0x0C03 d2.ev.raised = raisesOf 0x0C03 d1.ev.raised) := by
    rw [hd2]
    exact mountEvents_setSlot _ _ _
  have honly : Device.Only [.flash, .store] (mountRegs n) d1 d2 := by
    rw [hd2]
    exact only_setSlot _ _ _ (by simp)
  refine ⟨(((hobjs.only.trans honly).trans hreports.only).raise _ _).trans hlife.only, ?_, ?_, fun hdir m hm => ?_, ⟨?_, ?_⟩, z, hz, ?_, ?_, ?_⟩
  · rw [hlife.counts]
    exact hreports.counts.trans (hready.1.trans hobjs.counts)
  · have hone (l : List EventReq) : raisesOf 0x0C03 (⟨0x0C03, 4, none, [(1, n)]⟩ :: l) = raisesOf 0x0C03 l + 1 := by simp [raisesOf]
    rw [hlife.raised]
    refine (hone _).trans ?_
    rw [hreports.raised, hready.2, hobjs.raised]
  · rw [hlife.others m hm]
    refine (hreports.others m hm).trans ?_
    rw [hd2]
    refine (slot_setSlot_ne _ _ _ hm).trans ?_
    rw [hd1]
    exact slot_mountObjs_ne _ _ hdir hm
  · rw [hlife.st]
    exact hreports.st.trans hst2
  · rw [hlife.offline]
    exact hreports.offline.trans hoff2
  · rw [hsame.kept.2, hkey]
  · rw [hsame.kept.1, hpages]
  · rw [hlife.map, hsame.rebuild]
    exact hreports.map.trans hmap2

/-! ### The cases of a mount (R420, R486, R487) -/

/-- A blank cartridge with the system key that it gets. -/
def blankCart (d : Device) (c : Cart) : Cart :=
  { c with
    sysKey := some d.flash.nextKey
    sysForeign := false
    sysBlob := kwWrap (wrapKey c.ident.serial) d.drawKey
    unerased := true
    sbs := c.sbs.mapVals (fun _ b => { b with st := .erase, refresh := false })
    pages := []
    data := []
    nss := []
    dir := []
    dirSlot := []
    born := []
    ckpts := []
    commits := [] }

section
variable {n : Nat} {found : MountRead} {k : Ckpt} {c : Cart} {d : Device} (hst : (d.slot n).st = .mounting) (hc : (d.slot n).cart = some c)
include hst hc

theorem mountDone_keyed {i : Nat} (hkey : c.sysKey = some i) (hown : c.sysForeign = false) (hsup : (d.slot n).supplied = true)
    (hk : c.readableCkpt found.segs = some k) : mountDone n found d = mountOk n found k c d := by
  unfold mountDone
  dsimp only
  rw [hc]
  dsimp only
  rw [if_neg (by simp [hst]), if_neg (by simp [hown]), if_neg (by simp [hsup]), if_neg (by simp [hkey])]
  rw [if_neg (by simp [hkey]), hc]
  simp only [Option.bind_some]
  rw [hk]
  rfl

theorem slot_initBlank : (initBlank n d).slot n = { d.slot n with cart := some (blankCart d c) } ∧
    (∀ m, m ≠ n → (initBlank n d).slot m = d.slot m) ∧ (initBlank n d).ev = d.ev := by
  have hfl (m : Nat) : ({ d with flash := { d.flash with nextKey := d.flash.nextKey + 1 } } : Device).slot m = d.slot m := rfl
  have hcart : ((d.slot n).onCart fun c => blankCart d c) = { d.slot n with cart := some (blankCart d c) } := by
    unfold FlashSlot.onCart
    rw [hc]
    rfl
  have he : initBlank n d = ({ d with flash := { d.flash with nextKey := d.flash.nextKey + 1 } } : Device).setSlot n
      { d.slot n with cart := some (blankCart d c) } := by
    rw [← hcart]
    rfl
  rw [he]
  refine ⟨(slot_setSlot_on _ _ _ (by simp [hst, SlotState.power]) n).trans (if_pos rfl), fun m hm => slot_setSlot_ne _ _ _ hm, ?_⟩
  exact setSlot_same_power _ _ _ rfl

theorem mountDone_blank (hkey : c.sysKey = none) (hrng : d.rngOk = true) (hsup : (d.slot n).supplied = true) :
    mountDone n found d = mountOk n found ⟨[], []⟩ (blankCart d c) (initBlank n d) := by
  have hcart : ((initBlank n d).slot n).cart = some (blankCart d c) := by
    rw [(slot_initBlank hst hc).1]
  unfold mountDone
  dsimp only
  rw [hc]
  dsimp only
  rw [if_neg (by simp [hst]), if_neg (by simp [hkey]), if_neg (by simp [hsup]), if_neg (by simp [hrng])]
  rw [if_pos (by simp [hkey]), hcart]
  rfl

theorem mountDone_fails (h : (c.sysKey ≠ none ∧ (c.sysForeign = true ∨ c.readableCkpt found.segs = none)) ∨ (d.slot n).supplied = false) :
    mountDone n found d = mountFail n (c.sysKey.isSome && c.sysForeign) d := by
  unfold mountDone
  dsimp only
  rw [hc]
  dsimp only
  rw [if_neg (by simp [hst])]
  cases hf : c.sysKey.isSome && c.sysForeign with
  | true => rfl
  | false =>
    rw [if_neg (by decide)]
    cases hs : (d.slot n).supplied with
    | false => rfl
    | true =>
      rw [hs] at h
      obtain ⟨hkey, hbad⟩ := h.resolve_right (by decide)
      have hsome : c.sysKey.isSome = true := Option.isSome_iff_ne_none.mpr hkey
      have hread := hbad.resolve_left fun hx => by simp [hsome, hx] at hf
      have hnone : c.sysKey.isNone = false := by simp [hsome]
      rw [if_neg (by decide), hnone, if_neg (by simp), if_neg (by decide), hc]
      simp only [Option.bind_some]
      rw [hread]
      rfl

end

theorem only_initBlank (n : Nat) (d : Device) : Device.Only [.flash, .store] (mountRegs n) d (initBlank n d) := by
  have hkey : Device.Only [.flash, .store] (mountRegs n) d { d with flash := { d.flash with nextKey := d.flash.nextKey + 1 } } :=
    .of_regs [.flash] rfl (by simp) rfl
  exact hkey.trans (only_setSlot _ n _ (by simp))

section
variable {s : State}

/-- A mount that succeeds, from what it leaves of the device. -/
theorem ends_mounts {n : Nat} {found : MountRead} {k : Ckpt} {c : Cart} {d : Device} (heff : mountDone n found s.dev = mountOk n found k c d)
    (hm : Mounts n c k found.spares d (mountOk n found k c d)) (honly : Device.Only [.flash, .store] (mountRegs n) s.dev d)
    (hev : d.ev = s.dev.ev) (hset : s.settled) {P : State → Prop}
    (h : ∀ t : State, s.frame [.flash, .store] (mountRegs n) t → s.counted 0x0C03 t →
      ((∀ e, e ∈ c.dir → e.2.st ≠ .building ∧ e.2.st ≠ .sealing) → ∀ m, m ≠ n → t.dev.slot m = d.slot m) →
      (t.dev.slot n).st = .ready → (t.dev.slot n).offline = false →
      (∃ z, (t.dev.slot n).cart = some z ∧ z.sysKey = c.sysKey ∧ z.pages = c.pages ∧ (t.dev.slot n).map = z.rebuild n k found.spares) → P t) :
    Ends (.mountDone n found) s P := by
  refine ends_onDev (f := fun _ d => mountDone n found d) rfl heff (honly.trans hm.only) fun t ht hfr => ?_
  have hslot (m : Nat) : t.dev.slot m = (mountOk n found k c d).slot m := by rw [ht, slot_flush]
  refine h t hfr (counted_of ?_ ?_ ht) (fun hdir m hmn => ?_) ?_ ?_ ?_
  · rw [hm.counts, hev]
  · rw [hm.raised, hev, hset]
    rfl
  · rw [hslot, hm.others hdir m hmn]
  · rw [hslot, hm.ready.1]
  · rw [hslot, hm.ready.2]
  · rw [hslot]
    exact hm.cart

theorem mount_succeeds (n : Nat) (x : FlashSlot) (c : Cart) (hset : s.settled) (hx : x = s.dev.slot n) (hst : x.st = .mounting)
    (hc : x.cart = some c) (hsup : x.supplied = true)
    (hkey : (∃ k, c.sysKey = some k ∧ c.sysForeign = false) ∨ (c.sysKey = none ∧ s.dev.rngOk = true)) (found : MountRead) (k : Ckpt)
    (hk : if c.sysKey = none then k = ⟨[], []⟩ else c.readableCkpt found.segs = some k) :
    Ends (.mountDone n found) s (fun t =>
          s.frame [.flash, .store] [R.SEC_UNWRAP_FAILS, inst R.FLASH_FOLD_RESTARTS n] t ∧ s.counted 0x0C03 t ∧
          ((∀ e, e ∈ c.dir → e.2.st ≠ .building ∧ e.2.st ≠ .sealing) → ∀ m, m ≠ n → t.dev.slot m = s.dev.slot m) ∧
          (t.dev.slot n).st = .ready ∧ (t.dev.slot n).offline = false ∧
          ∃ z, (t.dev.slot n).cart = some z ∧ z.sysKey = some (c.sysKey.getD s.dev.flash.nextKey) ∧
            z.pages = (if c.sysKey = none then [] else c.pages) ∧ (t.dev.slot n).map = z.rebuild n k found.spares) := by
  subst hx
  rcases hkey with ⟨i, hi, hown⟩ | ⟨hnone, hrng⟩
  · rw [if_neg (by simp [hi])] at hk
    refine ends_mounts (mountDone_keyed hst hc hi hown hsup hk) (mounts_of hst hc) (.refl _) rfl hset
      fun t hfr hcount hothers hready hoff ⟨z, hz, hzk, hzp, hzm⟩ => ⟨hfr, hcount, hothers, hready, hoff, z, hz, ?_, ?_, hzm⟩
    · rw [hzk, hi]
      rfl
    · rw [hzp, if_neg (by simp [hi])]
  · rw [if_pos hnone] at hk
    subst hk
    obtain ⟨hslot, hothers', hev⟩ := slot_initBlank hst hc
    refine ends_mounts (mountDone_blank hst hc hnone hrng hsup) (mounts_of (by rw [hslot]; exact hst) (by rw [hslot]))
      (only_initBlank n s.dev) hev hset fun t hfr hcount hothers hready hoff ⟨z, hz, hzk, hzp, hzm⟩ =>
        ⟨hfr, hcount, fun _ m hm => ?_, hready, hoff, z, hz, ?_, ?_, hzm⟩
    · rw [hothers (fun e he => absurd he (by simp [blankCart])) m hm, hothers' m hm]
    · rw [hzk, hnone]
      rfl
    · rw [hzp, if_pos hnone]
      rfl

/-- A slot whose mount failed. -/
def unmountedSlot (x : FlashSlot) (key : Bool) : FlashSlot := { x.volatileOff with st := .failed, failReason := 5, unwrapFail := key }

theorem mountFail_eq (n : Nat) (key : Bool) (d : Device) : mountFail n key d =
    if key then (((d.setSlot n (unmountedSlot (d.slot n) key)).raise 0x0C04 [(1, n)]).inc R.SEC_UNWRAP_FAILS).raise 0x0F03 [(1, n), (2, 0)]
    else (d.setSlot n (unmountedSlot (d.slot n) key)).raise 0x0C04 [(1, n)] := rfl

/-- A mount that failed is counted once, with what else it reports. -/
theorem failsCounted (n : Nat) (key : Bool) (d : Device) (h : d.ev.raised = []) : (mountFail n key d).ev.counts = d.ev.counts ∧
    raisesOf 0x0C04 (mountFail n key d).ev.raised = 1 := by
  have hstored : (d.setSlot n (unmountedSlot (d.slot n) key)).ev.counts = d.ev.counts ∧
      raisesOf 0x0C04 (d.setSlot n (unmountedSlot (d.slot n) key)).ev.raised = 0 := by
    rcases ev_setSlot d n (unmountedSlot (d.slot n) key) with he | he
    · rw [he, h]
      exact ⟨rfl, rfl⟩
    · rw [he]
      refine ⟨rfl, ?_⟩
      show raisesOf 0x0C04 (_ :: d.ev.raised) = 0
      rw [h]
      rfl
  have hone : raisesOf 0x0C04 ((d.setSlot n (unmountedSlot (d.slot n) key)).raise 0x0C04 [(1, n)]).ev.raised = 1 := by
    have hadd (l : List EventReq) : raisesOf 0x0C04 (⟨0x0C04, 4, none, [(1, n)]⟩ :: l) = raisesOf 0x0C04 l + 1 := by simp [raisesOf]
    exact (hadd _).trans (congrArg (· + 1) hstored.2)
  rw [mountFail_eq]
  cases key with
  | false => exact ⟨hstored.1, hone⟩
  | true => exact ⟨hstored.1, (raisesOf_cons_ne (by simp) _).trans hone⟩

theorem mount_fails (n : Nat) (x : FlashSlot) (c : Cart) (hset : s.settled) (hx : x = s.dev.slot n) (hst : x.st = .mounting)
    (hc : x.cart = some c) (found : MountRead)
    (h : (c.sysKey ≠ none ∧ (c.sysForeign = true ∨ c.readableCkpt found.segs = none)) ∨ x.supplied = false) :
    Ends (.mountDone n found) s (fun t => s.counted 0x0C04 t ∧ State.slotIs n [R.SEC_UNWRAP_FAILS] (fun y =>
          y.st = .failed ∧ y.failReason = 5 ∧ y.cart = x.cart ∧ y.map = [] ∧
          (y.unwrapFail = true ↔ c.sysKey ≠ none ∧ c.sysForeign = true)) s t) := by
  subst hx
  obtain ⟨key, hkey⟩ : ∃ key, key = (c.sysKey.isSome && c.sysForeign) := ⟨_, rfl⟩
  have heff := mountDone_fails hst hc h
  rw [← hkey] at heff
  obtain ⟨hcounts, hraised⟩ := failsCounted n key s.dev hset
  have honly : Device.Only [.flash] [R.SEC_UNWRAP_FAILS] s.dev (mountFail n key s.dev) := by
    rw [mountFail_eq]
    have hbase := ((only_setSlot (ks := [R.SEC_UNWRAP_FAILS]) s.dev n (unmountedSlot (s.dev.slot n) key) (ps := [.flash]) (by simp)).raise
      0x0C04 [(1, n)])
    split
    · exact (hbase.inc (by simp)).raise _ _
    · exact hbase
  have hslot (m : Nat) : (mountFail n key s.dev).slot m = (s.dev.setSlot n (unmountedSlot (s.dev.slot n) key)).slot m := by
    rw [mountFail_eq]
    split
    · rfl
    · rfl
  refine ends_onDev (f := fun _ d => mountDone n found d) rfl heff honly fun t ht hfr => ⟨counted_of hcounts hraised ht,
    slotIs_of hfr ht ?_ fun m hm => ?_⟩
  · obtain ⟨v, hv⟩ := slot_setSlot_self s.dev n (unmountedSlot (s.dev.slot n) key)
    rw [hslot, hv]
    refine ⟨rfl, rfl, rfl, rfl, ?_⟩
    show key = true ↔ _
    rw [hkey, Bool.and_eq_true, Option.isSome_iff_ne_none]
  · rw [hslot, slot_setSlot_ne _ _ _ hm]

end

end Sys2Proof.Machine
end

section
/-! PROOFS of removal, reset, temperature and health of a slot (R412, R428, R429, R431). -/
namespace Sys2Proof.Machine

/-! ### The end of a drain (R412) -/

section
variable (n : Nat) (d : Device)

/-- R410: the life of a slot's cartridge, brought up to date. -/
def newLife (c : Cart) : Nat := min 1000 (max c.life (c.lifeUsed (d.slcRegion n)))

/-- R410: the cartridge comes close to the end of its life. -/
def lifeWarns (c : Cart) : Bool := 900 ≤ newLife n d c && !(d.slot n).lifeWarned

/-- R410: the cartridge comes to be read only. -/
def lifeCloses (c : Cart) : Bool :=
  (newLife n d c == 1000 || (List.range 16).any (fun ch => 3800 < d.slcRegion n + c.usedCount ch (d.slcRegion n) + 32
    && ((d.slot n).chan ch).moving.isNone)) && !(d.slot n).readOnly

/-- The slot once its cartridge's life was checked. -/
def lifeSlot (c : Cart) : FlashSlot :=
  { d.slot n with
    cart := some { c with life := newLife n d c }
    lifeWarned := (d.slot n).lifeWarned || lifeWarns n d c
    readOnly := (d.slot n).readOnly || lifeCloses n d c }

def lifeStored (c : Cart) : Device :=
  if lifeWarns n d c then (d.setSlot n (lifeSlot n d c)).raise 0x0C09 [(1, n)] else d.setSlot n (lifeSlot n d c)

theorem lifeCheck_eq {c : Cart} (hc : (d.slot n).cart = some c) :
    lifeCheck n d = if lifeCloses n d c then (lifeStored n d c).raise 0x0C0A [(1, n)] else lifeStored n d c := by
  unfold lifeCheck
  dsimp only
  rw [hc]
  rfl

theorem lifeCheck_none (hc : (d.slot n).cart = none) : lifeCheck n d = d := by
  unfold lifeCheck
  dsimp only
  rw [hc]

/-- A check of a cartridge's life that reports no code of the drain. -/
structure LifeChecked (a b : Device) : Prop where
  only : Device.Only [.flash] [] a b
  reads : b.flash.reads = a.flash.reads
  counts : b.ev.counts = a.ev.counts
  raised : raisesOf 0x0C05 b.ev.raised = raisesOf 0x0C05 a.ev.raised

theorem LifeChecked.refl (a : Device) : LifeChecked a a := ⟨.refl a, rfl, rfl, rfl⟩

theorem LifeChecked.trans {a b c : Device} (h : LifeChecked a b) (g : LifeChecked b c) : LifeChecked a c :=
  ⟨h.only.trans g.only, g.reads.trans h.reads, g.counts.trans h.counts, g.raised.trans h.raised⟩

theorem lifeChecked_raise (code : Nat) (pay : List (Nat × Nat)) (h : code ≠ 0x0C05) : LifeChecked d (d.raise code pay) :=
  ⟨(Device.Only.refl d).raise _ _, rfl, rfl, raisesOf_cons_ne h _⟩

theorem reads_setSlot (x : FlashSlot) : (d.setSlot n x).flash.reads = d.flash.reads := by rw [setSlot_eq]

theorem lifeChecked_setSlot (x : FlashSlot) : LifeChecked d (d.setSlot n x) := by
  refine ⟨only_setSlot _ _ _ (by simp), reads_setSlot n d x, ?_, ?_⟩
  · exact (mountEvents_setSlot d n x).1
  · rcases ev_setSlot d n x with h | h
    · rw [h]
    · rw [h]
      exact raisesOf_cons_ne (by simp) _

theorem LifeChecked.ite {a b c : Device} (p : Prop) [Decidable p] (h : LifeChecked a b) (g : LifeChecked a c) :
    LifeChecked a (if p then b else c) := by
  split
  · exact h
  · exact g

theorem lifeChecked : LifeChecked d (lifeCheck n d) := by
  cases hc : (d.slot n).cart with
  | none =>
    rw [lifeCheck_none n d hc]
    exact .refl d
  | some c =>
    have hstored : LifeChecked d (lifeStored n d c) :=
      .ite _ ((lifeChecked_setSlot n d _).trans (lifeChecked_raise _ _ _ (by decide))) (lifeChecked_setSlot n d _)
    rw [lifeCheck_eq n d hc]
    exact .ite _ (hstored.trans (lifeChecked_raise _ _ _ (by decide))) hstored

/-- What a check of its life leaves of a slot's cartridge. -/
theorem cart_lifeCheck {c : Cart} (hc : (d.slot n).cart = some c) :
    ∃ z, ((lifeCheck n d).slot n).cart = some z ∧ z.pages = c.pages ∧ z.ckpts = c.ckpts := by
  obtain ⟨v, hv⟩ := slot_setSlot_self d n (lifeSlot n d c)
  have hstored : (lifeStored n d c).slot n = (d.setSlot n (lifeSlot n d c)).slot n := by
    unfold lifeStored
    split
    · rfl
    · rfl
  have hslot : (lifeCheck n d).slot n = (lifeStored n d c).slot n := by
    rw [lifeCheck_eq n d hc]
    split
    · rfl
    · rfl
  rw [hslot, hstored, hv]
  exact ⟨_, rfl, rfl, rfl⟩

end

/-- A slot that is removable. -/
def removableSlot (x : FlashSlot) : FlashSlot := { x.volatileOff with st := .removable }

section
variable {s : State}

theorem drain_ends (n : Nat) (x : FlashSlot) (hset : s.settled) (hx : x = s.dev.slot n) (hst : x.st = .draining) :
    (s.dev.drained n = true → Ends (.drainDone n) s (fun t => s.counted 0x0C05 t ∧
        (∀ r, r ∈ t.dev.flash.reads → r.slot ≠ n) ∧ (x.force = false → x.dirty = []) ∧
        State.slotIs n [] (fun y => y.st = .removable ∧ y.map = [] ∧
          ∀ c, x.cart = some c → ∃ z, y.cart = some z ∧ z.pages = c.pages ∧ z.ckpts = c.ckpts) s t)) ∧
      (s.dev.drained n = false → Ends (.drainDone n) s (s.frame [] [])) := by
  subst hx
  refine ⟨fun hd => ?_, fun hd => ?_⟩
  · have heff : drainDone n s.dev = ((lifeCheck n s.dev).setSlot n (removableSlot ((lifeCheck n s.dev).slot n))).raise 0x0C05 [(1, n)] := by
      unfold drainDone
      rw [if_neg (by simp [hst, hd])]
      rfl
    have hlife := (lifeChecked n s.dev).trans (lifeChecked_setSlot n _ (removableSlot ((lifeCheck n s.dev).slot n)))
    obtain ⟨v, hv⟩ := slot_setSlot_self (lifeCheck n s.dev) n (removableSlot ((lifeCheck n s.dev).slot n))
    simp only [Device.drained, Bool.and_eq_true, Bool.not_eq_true', Bool.or_eq_true] at hd
    obtain ⟨⟨hreads, -⟩, hclean⟩ := hd
    refine ends_onDev (f := fun _ d => drainDone n d) rfl heff (hlife.only.raise _ _) fun t ht hfr =>
      ⟨counted_of ?_ ?_ ht, fun r hr => ?_, fun hf => ?_, slotIs_of hfr ht ?_ fun m hm => ?_⟩
    · exact hlife.counts
    · have hone (l : List EventReq) : raisesOf 0x0C05 (⟨0x0C05, 4, none, [(1, n)]⟩ :: l) = raisesOf 0x0C05 l + 1 := by simp [raisesOf]
      refine (hone _).trans ?_
      rw [hlife.raised, hset]
      rfl
    · rw [ht, Device.flush_flash] at hr
      have hr' : r ∈ s.dev.flash.reads := hlife.reads ▸ hr
      have hno := List.any_eq_false.mp hreads r hr'
      simpa using hno
    · have h := hclean.resolve_left (by simp [hf])
      simpa using h.2
    · rw [slot_raise, hv]
      refine ⟨rfl, rfl, fun c hc => ?_⟩
      exact cart_lifeCheck n s.dev hc
    · rw [slot_raise, slot_setSlot_ne _ _ _ hm]
      exact (mountedKeeps_lifeCheck (n := n) s.dev).others m hm
  · exact ends_onDev (f := fun _ d => drainDone n d) rfl (if_pos (by simp [hd])) (.refl s.dev) fun t _ hfr => hfr

/-! ### Temperature (R428) -/

/-- A slot whose hottest die reads a temperature. -/
def FlashSlot.heated (x : FlashSlot) (t : Nat) : FlashSlot :=
  { x with temp := t % 256 }.onCart (fun c => { c with
    maxTemp := if toSigned 8 c.maxTemp < toSigned 8 t || c.maxTemp == 0x80 then t % 256 else c.maxTemp })

/-- A slot that is heated and held, or is no longer. -/
def heldSlot (n tp : Nat) (hold : Bool) (d : Device) : Device :=
  (d.setSlot n ((d.slot n).heated tp)).setSlot n { (d.setSlot n ((d.slot n).heated tp)).slot n with tempHold := hold }

theorem heldSlot_spec (n tp : Nat) (hold : Bool) (d : Device) : (heldSlot n tp hold d).ev = d.ev ∧
    Device.Only [.flash] [] d (heldSlot n tp hold d) ∧ (∀ m, m ≠ n → (heldSlot n tp hold d).slot m = d.slot m) ∧
    ((heldSlot n tp hold d).slot n).tempHold = hold ∧ ((heldSlot n tp hold d).slot n).temp = tp % 256 ∧
    ((heldSlot n tp hold d).slot n).st = (d.slot n).st := by
  obtain ⟨v, hv⟩ := slot_setSlot_self d n ((d.slot n).heated tp)
  obtain ⟨w, hw⟩ := slot_setSlot_self (d.setSlot n ((d.slot n).heated tp)) n
    { (d.setSlot n ((d.slot n).heated tp)).slot n with tempHold := hold }
  unfold heldSlot
  refine ⟨?_, (only_setSlot _ _ _ (by simp)).trans (only_setSlot _ _ _ (by simp)), fun m hm => ?_, ?_, ?_, ?_⟩
  · refine Eq.trans ?_ (setSlot_same_power d n ((d.slot n).heated tp) rfl)
    exact setSlot_same_power _ n { (d.setSlot n ((d.slot n).heated tp)).slot n with tempHold := hold } rfl
  · rw [slot_setSlot_ne _ _ _ hm, slot_setSlot_ne _ _ _ hm]
  · rw [hw]
  · rw [hw, hv]
    rfl
  · rw [hw, hv]
    rfl

section
variable {d : Device} {n tp : Nat}

theorem tempHold_unread (h : (d.slot n).authentic = none) : tempHoldEnter n tp d = d ∧ tempHoldExit n tp d = d := by
  have hnone : (d.slot n).authentic.isNone = true := by rw [h]; rfl
  constructor
  · unfold tempHoldEnter
    dsimp only
    split
    · rfl
    · exact if_pos (by rw [hnone]; simp)
  · unfold tempHoldExit
    dsimp only
    split
    · rfl
    · exact if_pos (by rw [hnone]; simp)

theorem cart_of_authentic {x : FlashSlot} {c : Cart} (h : x.authentic = some c) : x.cart = some c := by
  unfold FlashSlot.authentic at h
  split at h
  · exact h
  · cases h

theorem tempHoldEnter_of {c : Cart} (h : (d.slot n).authentic = some c) (hno : (d.slot n).tempHold = false)
    (hot : toSigned 8 c.tWriteMax < toSigned 8 tp) : tempHoldEnter n tp d = (heldSlot n tp true d).raiseReq ⟨0x0C0B, 4, none, [(1, n)]⟩ := by
  unfold tempHoldEnter
  dsimp only
  rw [cart_of_authentic h]
  dsimp only
  rw [if_neg (by simp [h, hno, hot])]
  rfl

theorem tempHoldExit_of {c : Cart} (h : (d.slot n).authentic = some c) (hyes : (d.slot n).tempHold = true)
    (cool : toSigned 8 tp + 5 ≤ toSigned 8 c.tWriteMax) : tempHoldExit n tp d = heldSlot n tp false d := by
  unfold tempHoldExit
  dsimp only
  rw [cart_of_authentic h]
  dsimp only
  rw [if_neg (by simp [h, hyes, cool])]
  rfl

end

theorem temp_unread (n tp : Nat) (x : FlashSlot) (hset : s.settled) (hx : x = s.dev.slot n) (h : x.authentic = none) :
    Ends (.tempHoldEnter n tp) s (fun t => t = s) ∧ Ends (.tempHoldExit n tp) s (fun t => t = s) := by
  subst hx
  obtain ⟨h1, h2⟩ := tempHold_unread (tp := tp) h
  exact ⟨ends_same (f := fun _ d => tempHoldEnter n tp d) rfl h1 hset, ends_same (f := fun _ d => tempHoldExit n tp d) rfl h2 hset⟩

theorem temp_holds (n tp : Nat) (x : FlashSlot) (c : Cart) (hset : s.settled) (hx : x = s.dev.slot n) (h : x.authentic = some c) :
    (x.tempHold = false → toSigned 8 c.tWriteMax < toSigned 8 tp → Ends (.tempHoldEnter n tp) s (fun t =>
        State.slotIs n [] (fun y => y.tempHold = true ∧ y.temp = tp % 256 ∧ y.st = x.st) s t ∧
        s.raised ⟨0x0C0B, 4, none, [(1, n)]⟩ t)) ∧
      (x.tempHold = true → toSigned 8 tp + 5 ≤ toSigned 8 c.tWriteMax → Ends (.tempHoldExit n tp) s
        (State.slotIs n [] (fun y => y.tempHold = false ∧ y.temp = tp % 256 ∧ y.st = x.st) s)) := by
  subst hx
  refine ⟨fun hno hot => ?_, fun hyes cool => ?_⟩
  · obtain ⟨hev, honly, hothers, hh, ht', hst⟩ := heldSlot_spec n tp true s.dev
    refine ends_onDev (f := fun _ d => tempHoldEnter n tp d) rfl (tempHoldEnter_of h hno hot) (honly.raiseReq _)
      fun t ht hfr => ⟨slotIs_of hfr ht ⟨hh, ht', hst⟩ hothers, raised_of_ev ?_ hset ht⟩
    unfold Device.raiseReq
    rw [hev]
  · obtain ⟨-, honly, hothers, hh, ht', hst⟩ := heldSlot_spec n tp false s.dev
    exact ends_onDev (f := fun _ d => tempHoldExit n tp d) rfl (tempHoldExit_of h hyes cool) honly
      fun t ht hfr => slotIs_of hfr ht ⟨hh, ht', hst⟩ hothers

/-! ### Removal and reset (R412, R429) -/

theorem st_drain (x : FlashSlot) (f : Bool) : (x.drain f).st = .draining := by
  have hend (y : FlashSlot) : y.ckptEnd.st = y.st := by
    unfold FlashSlot.ckptEnd
    split
    · split
      · rfl
      · rfl
    · rfl
  unfold FlashSlot.drain
  cases f with
  | true => rfl
  | false =>
    show (FlashSlot.ckptBegin _).st = _
    unfold FlashSlot.ckptBegin
    rw [hend]

theorem only_port_flash (d : Device) (n : Nat) (x : FlashSlot) : Device.Only [.flash, .port] [] d (d.setSlot n x) := only_setSlot _ _ _ (by simp)

theorem slot_removed (n : Nat) (x : FlashSlot) (hph : s.dev.power.phase ≠ .rom) (hn : n = s.dev.slotSel) (hx : x = s.dev.slot n)
    (hst : x.st = .ready) (htr : s.dev.inTransit = false) (f : Bool) : Ends (if f then .forceRemove else .remove) s (fun t =>
      s.frame [.flash, .port] [] t ∧ (∀ m, m ≠ n → t.dev.slot m = s.dev.slot m) ∧ t.dev.slot n = x.drain f) := by
  subst hx
  subst hn
  have heff : removeSlot f s.dev.dropPend = s.dev.dropPend.setSlot s.dev.slotSel ((s.dev.slot s.dev.slotSel).drain f) := by
    have htr' : s.dev.dropPend.inTransit = false := htr
    have hst' : (s.dev.dropPend.slot s.dev.dropPend.slotSel).st = .ready := hst
    unfold removeSlot
    dsimp only
    rw [if_neg (by simp [htr', hst'])]
    rfl
  have he : exec (if f then .forceRemove else .remove) s = .next (s.onReg fun _ d => removeSlot f d) := by
    cases f with
    | true => rfl
    | false => rfl
  refine ends_onReg he hph (by simp) heff (only_port_flash _ _ _) fun t ht hfr => ⟨hfr, fun m hm => ?_, ?_⟩
  · rw [ht, slot_flush, slot_setSlot_ne _ _ _ hm]
    rfl
  · rw [ht, slot_flush, slot_setSlot_on _ _ _ (by rw [st_drain]; decide), if_pos rfl]

/-- A slot under reset. -/
def resetSlotOf (x : FlashSlot) : FlashSlot :=
  { x.dropFolds.volatileOff with
    st := .detected
    resetting := true
    readOnly := false
    temp := 0x80 }

theorem pages_updSbs (l : List Nat) (f : Superblock → Superblock) (c : Cart) : (l.foldl (fun c k => c.updSb k f) c).pages = c.pages :=
  (sameMap_updSbs l f c).kept.1

theorem cart_dropFolds {x : FlashSlot} {c : Cart} (h : x.cart = some c) : ∃ z, x.dropFolds.cart = some z ∧ z.pages = c.pages :=
  ⟨_, congrArg (Option.map _) h, pages_updSbs _ _ _⟩

theorem slot_reset (n : Nat) (x : FlashSlot) (hph : s.dev.power.phase ≠ .rom) (hn : n = s.dev.slotSel) (hx : x = s.dev.slot n)
    (hst : x.st ≠ .empty) : Ends .slotReset s (fun t =>
      s.frame [.flash, .port] [] t ∧ (∀ m, m ≠ n → t.dev.slot m = s.dev.slot m) ∧
      (t.dev.slot n).st = .detected ∧ (t.dev.slot n).resetting = true ∧ (t.dev.slot n).map = [] ∧
      (t.dev.slot n).chans = [] ∧ (t.dev.slot n).readOnly = false ∧
      (∀ c, x.cart = some c → ∃ z, (t.dev.slot n).cart = some z ∧ z.pages = c.pages) ∧
      ∀ r, r ∈ t.dev.flash.reads → r.slot ≠ n) := by
  subst hx
  subst hn
  obtain ⟨k, hk⟩ : ∃ k, k = s.dev.slotSel := ⟨_, rfl⟩
  rw [← hk] at hst ⊢
  obtain ⟨hfail, hslots, hreads⟩ := failReads_spec s.dev.dropPend k 0x91
  have hslot (m : Nat) : (failReads k 0x91 s.dev.dropPend).slot m = s.dev.slot m := by
    unfold Device.slot
    rw [hslots]
    rfl
  have heff : resetSlot s.dev.dropPend.slotSel s.dev.dropPend = (failReads k 0x91 s.dev.dropPend).setSlot k (resetSlotOf (s.dev.slot k)) := by
    rw [show s.dev.dropPend.slotSel = k from hk.symm]
    unfold resetSlot
    have hst' : (s.dev.dropPend.slot k).st ≠ .empty := hst
    rw [if_neg (by simpa using hst'), ← hslot k]
    rfl
  have honly : Device.Only [.flash, .port] [] s.dev.dropPend (failReads k 0x91 s.dev.dropPend) := by
    rw [hfail]
    exact .of_regs [.flash] rfl (by simp) rfl
  obtain ⟨v, hv⟩ := slot_setSlot_self (failReads k 0x91 s.dev.dropPend) k (resetSlotOf (s.dev.slot k))
  refine ends_onReg (f := fun _ d => resetSlot d.slotSel d) rfl hph (by simp) heff (honly.trans (only_port_flash _ _ _))
    fun t ht hfr => ?_
  have hnew : t.dev.slot k = { resetSlotOf (s.dev.slot k) with vcartOpen := v } := by rw [ht, slot_flush, hv]
  refine ⟨hfr, fun m hm => ?_, by rw [hnew]; rfl, by rw [hnew]; rfl, by rw [hnew]; rfl, by rw [hnew]; rfl, by rw [hnew]; rfl, fun c hc => ?_,
    fun r hr => ?_⟩
  · rw [ht, slot_flush, slot_setSlot_ne _ _ _ hm, hslot]
  · rw [hnew]
    exact cart_dropFolds hc
  · rw [ht, Device.flush_flash, reads_setSlot, hreads] at hr
    simpa using (List.mem_filter.mp hr).2

/-! ### Health (R431) -/

theorem ofLe_lt (l : List Byte) : ofLe l < 256 ^ l.length := by
  induction l with
  | nil => simp [ofLe]
  | cons b t ih =>
    have hb : b.toNat < 256 := b.isLt
    rw [ofLe, List.length_cons, Nat.pow_succ]
    omega

theorem fieldLe_lt (l : List Byte) (off n : Nat) : fieldLe l off n < 256 ^ n := by
  have hlen : (sliceBytes l off n).length = n := by
    unfold sliceBytes
    dsimp only
    rw [List.length_append, List.length_replicate]
    exact Nat.add_sub_cancel' (List.length_take_le ..)
  have h := ofLe_lt (sliceBytes l off n)
  rwa [hlen] at h

/-- The words of a record are stored in a row of registers. -/
def storeWords (a : Nat) (v : Nat → Nat) (l : List Nat) (d : Device) : Device := l.foldl (fun d w => d.setReg (a + 4 * w) (v w)) d

theorem reg_storeWords (a : Nat) (v : Nat → Nat) (n w : Nat) (d : Device) (h : w < n) :
    (storeWords a v (List.range n) d).reg (a + 4 * w) = v w % 2 ^ 32 := by
  induction n with
  | zero => omega
  | succ n ih =>
    unfold storeWords at ih ⊢
    rw [List.range_succ, List.foldl_append]
    by_cases hw : w = n
    · subst hw
      exact reg_setReg_self _ _ _
    · exact (reg_setReg_ne _ _ (by omega)).trans (ih (by omega))

theorem only_storeWords {ps : List DevPart} {ks : List Nat} (a : Nat) (v : Nat → Nat) (l : List Nat) (hk : ∀ w ∈ l, a + 4 * w ∈ ks) (d : Device) :
    Device.Only ps ks d (storeWords a v l d) := by
  induction l generalizing d with
  | nil => exact .refl d
  | cons w l ih =>
    exact ((Device.Only.refl d).setReg _ (hk w (by simp))).trans (ih (fun x hx => hk x (by simp [hx])) _)

theorem health_notEvent (w : Nat) : R.FLASH_HEALTH0 + 4 * w ∉ eventRegs := by
  have h : ∀ k ∈ eventRegs, k < R.FLASH_HEALTH0 := by decide
  exact fun hm => absurd (h _ hm) (Nat.not_lt.mpr (Nat.le_add_right _ _))

theorem health_read (n : Nat) (hph : s.dev.power.phase ≠ .rom) (hn : n = s.dev.slotSel) :
    Ends .health s (fun t => s.frame [.port] ((List.range 64).map (fun w => R.FLASH_HEALTH0 + 4 * w)) t ∧
      ∀ w, w < 64 → t.dev.reg (R.FLASH_HEALTH0 + 4 * w) = fieldLe (healthRecord s.dev n) (4 * w) 4) := by
  have heff : health s.dev.dropPend = storeWords R.FLASH_HEALTH0 (fun w => fieldLe (healthRecord s.dev n) (4 * w) 4) (List.range 64) s.dev.dropPend := by
    rw [hn]
    rfl
  refine ends_onReg (f := fun _ d => health d) rfl hph (by simp) heff
    (only_storeWords _ _ _ (fun w hw => List.mem_map.mpr ⟨w, hw, rfl⟩) _) fun t ht hfr => ⟨hfr, fun w hw => ?_⟩
  rw [ht, reg_flush _ _ (health_notEvent w), reg_storeWords _ _ _ _ _ hw]
  exact Nat.mod_eq_of_lt (fieldLe_lt _ _ 4)

end

/-- Settles O56: each command's clause from what it stores of its slot; a mount from its objects, its recovery and its folds in turn. -/
theorem cartridgeSlots : Obligations.CartridgeSlots := by
  unfold Obligations.CartridgeSlots
  refine ⟨fun s n life tw id foreign blank x hset hx hn hst hc => cart_inserted n life tw id foreign blank x hset hx hn hst hc,
    fun s n x c hset hx hc => cart_pulled n x c hset hx hc, fun s n x hset hx => ?_, fun s n x hph hn hx => ?_⟩
  · refine ⟨slot_powered n x hset hx, fun c ch g hc => ?_, cart_silent n x hset hx, onfi_trained n x hx, fun c hst hc => ⟨?_, ?_⟩,
      switch_opens n x hx, fun hst => drain_ends n x hset hx hst, reset_over n x hx, fun tp h => temp_unread n tp x hset hx h,
      fun c tp h => temp_holds n tp x c hset hx h⟩
    · obtain ⟨hone, htwo⟩ := authReason_chains c ch g
      exact ⟨hone, htwo, fun hst hno hsup hch => cart_answers n x hset hx c ch g hc hst hno hsup hch⟩
    · exact fun hsup hkey found k hk => mount_succeeds n x c hset hx hst hc hsup hkey found k hk
    · exact fun found h => mount_fails n x c hset hx hst hc found h
  · exact ⟨fun hst htr f => slot_removed n x hph hn hx hst htr f, slot_reset n x hph hn hx, health_read n hph hn⟩

end Sys2Proof.Machine
end

section
/-! PROOFS of the landing and the harvest of searches (R254). -/
namespace Sys2Proof.Machine

/-! ### Work on one handoff -/

/-- Work on one handoff: memory, handoffs, the counters of late and of filtered items and events alone, and no other handoff. -/
structure HandoffWork (h : Nat) (a b : Device) : Prop where
  only : Device.Only [.mem, .plots] [R.ARR_SOW_LATE_ITEMS, R.SIEVE_FILTER_SHORT] a b
  others : ∀ k, k ≠ h → b.handoff? k = a.handoff? k

theorem HandoffWork.refl (h : Nat) (a : Device) : HandoffWork h a a := ⟨.refl a, fun _ _ => rfl⟩

theorem HandoffWork.trans {h : Nat} {a b c : Device} (g : HandoffWork h a b) (k : HandoffWork h b c) : HandoffWork h a c :=
  ⟨g.only.trans k.only, fun j hj => (k.others j hj).trans (g.others j hj)⟩

section
variable (d : Device) (h : Nat)

theorem handoff_updHandoff (k : Nat) (f : Handoff → Handoff) {ho : Handoff} (hk : d.handoff? h = some ho) :
    (d.updHandoff h f).handoff? k = if k = h then some (f ho) else d.handoff? k := by
  unfold Device.updHandoff Device.handoff?
  by_cases hkh : k = h
  · subst hkh
    rw [if_pos rfl, Tbl.upd_of_some hk]
    exact Tbl.get?_set_self ..
  · rw [if_neg hkh]
    exact Tbl.get?_upd_ne _ _ (Ne.symm hkh)

theorem handoff_bgWrite (own : Option Nat) (a : Nat) (data : List Byte) (k : Nat) :
    (d.bgWrite own a data).handoff? k = d.handoff? k := by
  rw [bgWrite_eq]
  rfl

theorem work_updHandoff (f : Handoff → Handoff) : HandoffWork h d (d.updHandoff h f) :=
  ⟨.of_regs [.plots] rfl (by simp) rfl, fun _ hk => Tbl.get?_upd_ne _ _ (Ne.symm hk)⟩

theorem work_bgWrite (own : Option Nat) (a : Nat) (data : List Byte) : HandoffWork h d (d.bgWrite own a data) := by
  refine ⟨?_, fun k _ => handoff_bgWrite d own a data k⟩
  rw [bgWrite_eq]
  exact .of_regs [.mem] rfl (by simp) rfl

theorem work_raiseReq (r : EventReq) : HandoffWork h d (d.raiseReq r) := ⟨(Device.Only.refl d).raiseReq r, fun _ _ => rfl⟩

theorem work_lateItem : HandoffWork h d (d.lateItem h) := by
  have hinc : HandoffWork h d (d.inc R.ARR_SOW_LATE_ITEMS) := ⟨(Device.Only.refl d).inc (by simp), fun _ _ => rfl⟩
  unfold Device.lateItem
  dsimp only
  split
  · exact hinc.trans (work_raiseReq _ h _)
  · exact hinc.trans (work_raiseReq _ h _)
  · exact hinc.trans (work_raiseReq _ h _)

/-- The bytes of an item and its bit. -/
def itemWritten (h i : Nat) (ho : Handoff) (data : List Byte) (d : Device) : Device :=
  let d := d.bgWrite (some h) (ho.itemAddr i) (data.take ho.stride)
  d.bgWrite (some h) (ho.addr + 64 + i / 8) [(d.mem.read (ho.addr + 64 + i / 8)) ||| BitVec.ofNat 8 (2 ^ (i % 8))]

theorem work_itemWritten (i : Nat) (ho : Handoff) (data : List Byte) : HandoffWork h d (itemWritten h i ho data d) :=
  (work_bgWrite d h ..).trans (work_bgWrite _ h ..)

theorem work_landItem (i : Nat) (data : List Byte) : HandoffWork h d (d.landItem h i data) := by
  unfold Device.landItem
  split
  · exact work_lateItem d h
  · split
    · exact work_lateItem d h
    · split
      · exact .refl h d
      · exact (work_itemWritten d h i _ data).trans (work_updHandoff _ h _)

theorem work_filterShort : HandoffWork h d ((d.inc R.SIEVE_FILTER_SHORT).flagHandoff h 0 0x6C) := by
  have hinc : HandoffWork h d (d.inc R.SIEVE_FILTER_SHORT) := ⟨(Device.Only.refl d).inc (by simp), fun _ _ => rfl⟩
  unfold Device.flagHandoff
  dsimp only
  split
  · exact hinc.trans (work_updHandoff _ h _)
  · exact hinc.trans (work_updHandoff _ h _)

theorem work_landSearch (se : Search) : HandoffWork h d (landSearch h se d) := by
  unfold landSearch
  split
  · exact .refl h d
  · dsimp only
    split
    · exact (work_filterShort d h).trans (work_landItem _ h ..)
    · exact work_landItem d h ..

end

/-! ### A list lands (R80, R254) -/

section
variable {d : Device} {h : Nat} {ho : Handoff} (hh : d.handoff? h = some ho) (hcut : ho.cutoff = false)
include hh hcut

/-- FILTER_SHORT of a handoff that is open (R80, R84). -/
theorem handoff_filterShort : ∃ l, ((d.inc R.SIEVE_FILTER_SHORT).flagHandoff h 0 0x6C).handoff? h = some { ho with
    flags := Nat.lor ho.flags 1
    flagDetails := l } := by
  have hh' : (d.inc R.SIEVE_FILTER_SHORT).handoff? h = some ho := hh
  unfold Device.flagHandoff
  dsimp only
  rw [hh']
  dsimp only
  rw [if_neg (by simp)]
  refine ⟨if ho.flagDetails.has 0 then ho.flagDetails else ho.flagDetails.set 0 0x6C, (handoff_updHandoff _ h h _ hh').trans ?_⟩
  rw [if_pos rfl, if_neg (by simp [hcut])] <;> rfl

theorem handoff_landItem {i : Nat} (hwork : ho.noWork = false) (hi : i < ho.itemsMax) (hnew : i ∉ ho.landedItems) (data : List Byte) :
    (d.landItem h i data).handoff? h = some { ho with landedItems := ho.landedItems ++ [i] } := by
  unfold Device.landItem
  rw [hh]
  dsimp only
  rw [if_neg (by simp [hcut]), if_neg (by simp [hwork, hnew, hi])]
  exact (handoff_updHandoff _ h h _ ((handoff_bgWrite ..).trans ((handoff_bgWrite ..).trans hh))).trans (if_pos rfl)

theorem handoff_landSearch (se : Search) (hwork : ho.noWork = false) (hi : se.item < ho.itemsMax) (hnew : se.item ∉ ho.landedItems) :
    ∃ ho', (landSearch h se d).handoff? h = some ho' ∧ ho'.cutoff = false ∧ ho'.landedItems = ho.landedItems ++ [se.item] ∧
      ho'.flags = if se.filtered = true ∧ se.coll.length < se.k then Nat.lor ho.flags 1 else ho.flags := by
  unfold landSearch
  rw [hh]
  dsimp only
  by_cases hs : se.filtered = true ∧ se.coll.length < se.k
  · obtain ⟨l, hl⟩ := handoff_filterShort hh hcut
    rw [if_pos (by simpa using hs), if_pos hs]
    exact ⟨_, handoff_landItem hl hcut hwork hi hnew _, hcut, rfl, rfl⟩
  · rw [if_neg (by simpa using hs), if_neg hs]
    exact ⟨_, handoff_landItem hh hcut hwork hi hnew _, hcut, rfl, rfl⟩

end

/-! ### The counts of a search join its handoff's -/

theorem sieveDetail_length (t : List Nat) : (sieveDetail t).length = 16 := by simp [sieveDetail, leBytes_length]

/-- What the counts of a search that ends change. -/
theorem work_tallySearch (h how : Nat) (se : Search) (d : Device) : ∃ t p, tallySearch h how se d = { d with
    sieve := { d.sieve with tally := t }
    plots := p } ∧ ∀ k, k ≠ h → (tallySearch h how se d).handoff? k = d.handoff? k :=
  ⟨_, _, rfl, fun _ hk => (work_updHandoff _ h _).others _ hk⟩

/-- The first counts of a handoff: those of a search that finished. -/
theorem handoff_tallySearch {d : Device} {h : Nat} {ho : Handoff} (hh : d.handoff? h = some ho) (hcut : ho.cutoff = false)
    (hnone : d.sieve.tally.get? h = none) (se : Search) : (tallySearch h 0 se d).handoff? h = some { ho with
      detail := sieveDetail [1, 0, 0, boolBit (se.ctxs.any (·.onBudget)), se.codes, se.reads] } := by
  unfold tallySearch Device.setDetail
  dsimp only
  refine (handoff_updHandoff _ h h _ (show Device.handoff? _ h = some ho from hh)).trans ?_
  rw [if_pos rfl, if_neg (by simp [hcut])]
  have hgetD : d.sieve.tally.getD h (List.replicate 6 0) = List.replicate 6 0 := by simp [Tbl.getD, hnone]
  have hslice (t : List Nat) : sliceBytes (sieveDetail t) 0 16 = sieveDetail t := by
    simp [sliceBytes, sieveDetail_length, List.take_of_length_le (Nat.le_of_eq (sieveDetail_length t))]
  rw [hslice, hgetD]
  cases se.ctxs.any (·.onBudget) <;> simp [addAt, boolBit, List.replicate]

/-! ### The commands (R254, R285) -/

/-- SEARCH_LAND of a search of a handoff. -/
theorem searchLand_of {c h : Nat} {se : Search} {d : Device} (tb : Timebase) (hc : d.search? c = some se) (hstop : se.allStopped = true)
    (hshard : se.shard = none) (hhand : se.handoff = some h) :
    searchLand c tb d = tallySearch h 0 se (landSearch h se (d.dropSearch c)) := by
  unfold searchLand endSearch
  rw [hc]
  simp [hstop, hshard, hhand]

theorem lands (s : State) (c h : Nat) (se : Search) (ho : Handoff) (hc : s.dev.search? c = some se) (hstop : se.allStopped = true)
    (hshard : se.shard = none) (hhand : se.handoff = some h) (hh : s.dev.handoff? h = some ho) (hcut : ho.cutoff = false)
    (hwork : ho.noWork = false) (hi : se.item < ho.itemsMax) (hnew : se.item ∉ ho.landedItems)
    (hnone : s.dev.sieve.tally.get? h = none) :
    Ends (.searchLand c) s (fun t => t.pending = s.pending ∧ t.tb = s.tb ∧
      t.dev.sieve.searches = s.dev.sieve.searches.del c ∧
      (∀ p : DevPart, p ≠ .regs → p ≠ .ev → p ≠ .plots → p ≠ .mem → p ≠ .sieve → p.same s.dev t.dev) ∧
      (∀ k, k ≠ h → t.dev.handoff? k = s.dev.handoff? k) ∧
      ∃ ho', t.dev.handoff? h = some ho' ∧ ho'.landedItems = ho.landedItems ++ [se.item] ∧
        ho'.detail = sieveDetail [1, 0, 0, boolBit (se.ctxs.any (·.onBudget)), se.codes, se.reads] ∧
        ho'.flags = (if se.filtered = true ∧ se.coll.length < se.k then Nat.lor ho.flags 1 else ho.flags)) := by
  have heff := searchLand_of s.tb hc hstop hshard hhand
  have hland := work_landSearch (s.dev.dropSearch c) h se
  obtain ⟨ho', hho', hcut', hitems, hflags⟩ := handoff_landSearch (d := s.dev.dropSearch c) hh hcut se hwork hi hnew
  have hdrop : Device.Only [.sieve, .mem, .plots] [R.ARR_SOW_LATE_ITEMS, R.SIEVE_FILTER_SHORT] s.dev (s.dev.dropSearch c) :=
    .of_regs [.sieve] rfl (by simp) rfl
  generalize landSearch h se (s.dev.dropSearch c) = e at heff hland hho'
  have hsieve : e.sieve = (s.dev.dropSearch c).sieve := hland.only.part .sieve (by decide)
  have hdet := handoff_tallySearch hho' hcut' (by rw [hsieve]; exact hnone) se
  obtain ⟨tl, p, htl, hoth⟩ := work_tallySearch h 0 se e
  generalize tallySearch h 0 se e = g at heff hdet htl hoth
  have htally : Device.Only [.sieve, .mem, .plots] [R.ARR_SOW_LATE_ITEMS, R.SIEVE_FILTER_SHORT] e g := by
    rw [htl]
    exact .of_regs [.sieve, .plots] rfl (by simp) rfl
  have hsearches : g.sieve.searches = s.dev.sieve.searches.del c := by
    rw [htl]
    exact congrArg SieveUnit.searches hsieve
  refine ends_onDev rfl heff (hdrop.trans ((hland.only.mono (by simp) (by simp)).trans htally)) fun t ht hfr => ?_
  obtain ⟨htb, hpend, -, hparts⟩ := hfr
  have hhoff (k : Nat) : t.dev.handoff? k = g.handoff? k := by
    unfold Device.handoff?
    rw [ht, Device.flush_plots]
  refine ⟨hpend, htb, ?_, fun p hr he hp hm hs => hparts p (by simp [hp, hm, hs]) hr he, fun k hk => ?_, _,
    (hhoff h).trans hdet, hitems, rfl, hflags⟩
  · rw [ht, Device.flush_sieve, hsearches]
  · rw [hhoff k, hoth k hk, hland.others k hk]
    rfl

/-! ### The harvest point -/

/-- The searches that run and those that wait are as they were. -/
structure SearchesKept (a b : Device) : Prop where
  run : b.sieve.searches = a.sieve.searches
  wait : b.sieve.waiting = a.sieve.waiting

theorem SearchesKept.trans {a b c : Device} (h : SearchesKept a b) (g : SearchesKept b c) : SearchesKept a c :=
  ⟨g.run.trans h.run, g.wait.trans h.wait⟩

theorem SearchesKept.of_sieve {a b : Device} (h : b.sieve = a.sieve) : SearchesKept a b := ⟨by rw [h], by rw [h]⟩

theorem SearchesKept.foldl {α : Type} {f : Device → α → Device} (hf : ∀ d x, SearchesKept d (f d x)) (l : List α) (d : Device) :
    SearchesKept d (l.foldl f d) := by
  induction l generalizing d with
  | nil => exact .of_sieve rfl
  | cons x l ih => exact (hf d x).trans (ih _)

section
variable (d : Device)

theorem sieve_brxSend (tb : Timebase) (cls dst tag : Nat) (pl : List Byte) : (brxSend tb cls dst tag pl d).sieve = d.sieve := by
  unfold brxSend
  dsimp only
  split <;> rfl

theorem sieve_foldl_brxSend {α : Type} (tb : Timebase) (cls dst tag : Nat) (pl : Device → α → List Byte) (l : List α) :
    (l.foldl (fun d x => brxSend tb cls dst tag (pl d x) d) d).sieve = d.sieve := by
  induction l generalizing d with
  | nil => rfl
  | cons x l ih => exact (ih _).trans (sieve_brxSend ..)

theorem sieve_sendResult (tb : Timebase) (how : Nat) (se : Search) : (sendResult tb how se d).sieve = d.sieve := by
  unfold sendResult
  split
  · rfl
  · split
    · rfl
    · dsimp only
      have hshort : (if (se.filtered && decide (se.coll.length < se.k) && how != 2) = true then d.inc R.SIEVE_FILTER_SHORT else d).sieve = d.sieve := by
        split <;> rfl
      refine Eq.trans ?_ hshort
      unfold Device.dropJob
      split
      · rfl
      · exact sieve_brxSend ..

theorem sieve_landSearch (h : Nat) (se : Search) : (landSearch h se d).sieve = d.sieve :=
  (work_landSearch d h se).only.part .sieve (by decide)

theorem searchesKept_tallySearch (h how : Nat) (se : Search) : SearchesKept d (tallySearch h how se d) := by
  obtain ⟨t, p, heq, -⟩ := work_tallySearch h how se d
  rw [heq]
  exact ⟨rfl, rfl⟩

theorem searchesKept_endSearch (harvest : Bool) (se : Search) : SearchesKept d (endSearch harvest se d) := by
  unfold endSearch
  split
  · exact .of_sieve rfl
  · next h _ =>
    split
    · exact (SearchesKept.of_sieve (sieve_landSearch d h se)).trans (searchesKept_tallySearch _ h 0 se)
    · dsimp only
      have hcount (k : Nat) : SearchesKept d ((d.raiseCtx 0x0602 se.owner [(2, se.slot)]).inc k) := .of_sieve rfl
      split
      · exact (hcount _).trans ((SearchesKept.of_sieve (sieve_landSearch _ h se)).trans (searchesKept_tallySearch _ h 1 se))
      · exact (hcount _).trans (searchesKept_tallySearch _ h 2 se)

theorem searchesKept_harvestOne (tb : Timebase) (se : Search) : SearchesKept d (harvestOne tb d se) := by
  unfold harvestOne
  split
  · dsimp only
    have hcount (k : Nat) : SearchesKept d ((d.raiseCtx 0x0602 se.owner [(2, se.slot)]).inc k) := .of_sieve rfl
    split
    · exact (hcount _).trans (.of_sieve (sieve_sendResult _ tb 1 se))
    · exact (hcount _).trans (.of_sieve (sieve_sendResult _ tb 2 se))
  · exact searchesKept_endSearch d true se

theorem sieve_serveText (last : Bool) (tb : Timebase) : (serveText last tb d).sieve = d.sieve := by
  unfold serveText
  generalize d.brx.jobs.filter (fun p => p.2.kind == 1) = jobs
  induction jobs generalizing d with
  | nil => rfl
  | cons p jobs ih =>
    refine (ih _).trans ?_
    dsimp only
    split
    · rfl
    · split
      · rfl
      · split
        · unfold Device.dropJob
          split
          · exact (sieve_brxSend ..).trans (sieve_foldl_brxSend ..)
          · exact sieve_foldl_brxSend ..
        · exact sieve_foldl_brxSend ..

end

/-- What the harvest point leaves of the searches, before those that it ends are told of. -/
def harvestLeft (tb : Timebase) (shard : Bool) (d : Device) : Device :=
  { d with sieve := { d.sieve with
    searches := d.sieve.searches.filter (fun p => !harvestDue tb shard p.2)
    waiting := d.sieve.waiting.filter (fun s => !harvestDue tb shard s) } }

/-- The device at the end of the harvest point: text goes out too where it is that of the shards. -/
def harvested (shard : Bool) (tb : Timebase) (d : Device) : Device :=
  if shard then serveText true tb (searchHarvest shard tb d) else searchHarvest shard tb d

theorem searchesKept_harvested (shard : Bool) (tb : Timebase) (d : Device) :
    SearchesKept (harvestLeft tb shard d) (harvested shard tb d) := by
  have h : SearchesKept (harvestLeft tb shard d) (searchHarvest shard tb d) :=
    .foldl (fun e x => searchesKept_harvestOne e tb x) _ _
  unfold harvested
  split
  · exact h.trans (.of_sieve (sieve_serveText ..))
  · exact h

section
variable {d : Device} {se : Search} {h : Nat} {tb : Timebase} (hhand : se.handoff = some h)
include hhand

/-- A search with PARTIAL lands as it stands, and is counted. -/
theorem endSearch_partial (hpart : bit 0 (se.dsc 1 1) = true) : (endSearch true se d).reg R.SIEVE_HARVESTED =
    min (d.reg R.SIEVE_HARVESTED + 1) 0xFFFFFFFF := by
  unfold endSearch
  rw [hhand]
  dsimp only
  rw [if_neg (by simp), if_pos hpart]
  obtain ⟨t, p, heq, -⟩ := work_tallySearch h 1 se
    (landSearch h se ((d.raiseCtx 0x0602 se.owner [(2, se.slot)]).inc R.SIEVE_HARVESTED))
  rw [heq]
  have hland := (work_landSearch ((d.raiseCtx 0x0602 se.owner [(2, se.slot)]).inc R.SIEVE_HARVESTED) h se).only.regs R.SIEVE_HARVESTED
    (by decide) (by decide)
  exact hland.trans (reg_incBy_self _ _ 1)

/-- A search without PARTIAL is abandoned: nothing lands. -/
theorem endSearch_abandoned (hpart : bit 0 (se.dsc 1 1) = false) : ∃ t p, endSearch true se d =
    { (d.raiseCtx 0x0602 se.owner [(2, se.slot)]).inc R.SIEVE_ABANDONED with
      sieve := { d.sieve with tally := t }
      plots := p } := by
  unfold endSearch
  rw [hhand]
  dsimp only
  rw [if_neg (by simp), if_neg (by simp [hpart])]
  obtain ⟨t, p, heq, -⟩ := work_tallySearch h 2 se ((d.raiseCtx 0x0602 se.owner [(2, se.slot)]).inc R.SIEVE_ABANDONED)
  exact ⟨t, p, heq⟩

end

/-- One search of a handoff is all that is due. -/
theorem harvested_one {d : Device} {se : Search} {c : Nat} {shard : Bool} {tb : Timebase}
    (hrun : d.sieve.searches.filter (fun p => harvestDue tb shard p.2) = [(c, se)])
    (hwait : d.sieve.waiting.filter (harvestDue tb shard) = []) (hshard : se.shard = none) :
    harvested shard tb d = endSearch true se (harvestLeft tb shard d) := by
  have hdue : harvestDue tb shard se = true :=
    (List.mem_filter.mp (hrun ▸ List.mem_singleton.mpr rfl : (c, se) ∈ d.sieve.searches.filter fun p => harvestDue tb shard p.2)).2
  have hsh : shard = false := by
    simp only [harvestDue, hshard, Option.isSome_none, Bool.and_eq_true, beq_iff_eq] at hdue
    exact hdue.2.symm
  subst hsh
  unfold harvested searchHarvest
  rw [if_neg (by simp), hrun, hwait]
  show harvestOne tb (harvestLeft tb false d) se = _
  unfold harvestOne
  rw [if_neg (by simp [hshard])]

theorem harvests (s : State) (shard : Bool) :
    Ends (.searchHarvest shard) s (fun t => t.pending = s.pending ∧
      t.tb = { s.tb with offset := max s.tb.offset (s.tb.point (if shard then 100000 else 120000)) } ∧
      t.dev.sieve.searches = s.dev.sieve.searches.filter (fun p => !harvestDue s.tb shard p.2) ∧
      t.dev.sieve.waiting = s.dev.sieve.waiting.filter (fun x => !harvestDue s.tb shard x) ∧
      ∀ c se h, s.dev.sieve.searches.filter (fun p => harvestDue s.tb shard p.2) = [(c, se)] →
        s.dev.sieve.waiting.filter (harvestDue s.tb shard) = [] → se.shard = none → se.handoff = some h →
        (bit 0 (se.dsc 1 1) = true → t.dev.reg R.SIEVE_HARVESTED = min (s.dev.reg R.SIEVE_HARVESTED + 1) 0xFFFFFFFF) ∧
        (bit 0 (se.dsc 1 1) = false → s.settled →
          t.dev.reg R.SIEVE_ABANDONED = min (s.dev.reg R.SIEVE_ABANDONED + 1) 0xFFFFFFFF ∧
          s.raised ⟨0x0602, 4, some se.owner, [(2, se.slot)]⟩ t ∧ t.dev.mem = s.dev.mem)) := by
  intro hl
  have hpoint := s.atPoint_of (f := harvested shard) (s.tb.point (if shard then 100000 else 120000)) hl
  obtain ⟨tb, htb⟩ : ∃ tb, tb = s.tb.goto (s.tb.point (if shard then 100000 else 120000)) := ⟨_, rfl⟩
  rw [← htb] at hpoint
  have hkept := searchesKept_harvested shard tb s.dev
  have hone := fun c se => harvested_one (d := s.dev) (se := se) (c := c) (shard := shard) (tb := tb)
  have hdue : harvestDue s.tb shard = harvestDue tb shard := by
    rw [htb]
    rfl
  refine ⟨_, congrArg Host.Outcome.next hpoint, rfl, htb, ?_, ?_, fun c se h hrun hwait hshard hhand => ?_⟩
  · rw [Device.flush_sieve, hkept.run, hdue]
    rfl
  · rw [Device.flush_sieve, hkept.wait, hdue]
    rfl
  · rw [hdue] at hrun hwait
    rw [hone c se hrun hwait hshard]
    constructor
    · intro hpart
      rw [reg_flush _ _ (by decide), endSearch_partial hhand hpart]
      rfl
    · intro hpart hset
      obtain ⟨tl, p, heq⟩ := endSearch_abandoned (d := harvestLeft tb shard s.dev) hhand hpart
      rw [heq]
      refine ⟨?_, ?_, ?_⟩
      · rw [reg_flush _ _ (by decide)]
        exact reg_incBy_self _ _ 1
      · exact raised_of_ev (s := { s with tb := tb }) (by rfl) hset rfl
      · rw [Device.flush_mem]
        rfl

/-- Settles O45: a search lands in its handoff alone, and the harvest point ends the searches that are due. -/
theorem searchesLandOrAreHarvested : Obligations.SearchesLandOrAreHarvested := ⟨lands, harvests⟩

end Sys2Proof.Machine
end

section
/-! PROOFS of what the contexts of a search do (R237, R248 to R253). -/
namespace Sys2Proof.Machine

/-! ### What the score of an entry may change -/

/-- Memory and the table of searches are as they were. -/
structure SearchesStay (a b : Device) : Prop where
  mem : b.mem = a.mem
  searches : b.sieve.searches = a.sieve.searches

theorem SearchesStay.refl (a : Device) : SearchesStay a a := ⟨rfl, rfl⟩

theorem SearchesStay.trans {a b c : Device} (h : SearchesStay a b) (g : SearchesStay b c) : SearchesStay a c :=
  ⟨g.mem.trans h.mem, g.searches.trans h.searches⟩

theorem SearchesStay.foldl {α : Type} {f : Device → α → Device} (hf : ∀ d x, SearchesStay d (f d x)) (l : List α) (d : Device) :
    SearchesStay d (l.foldl f d) := by
  induction l generalizing d with
  | nil => exact .refl d
  | cons x l ih => exact (hf d x).trans (ih _)

/-- Of a search only its collector, its counts and what it noted of errors change, and the collector keeps within K (R238). -/
structure Scored (a b : Work) : Prop where
  dev : SearchesStay a.1 b.1
  search : ∃ cl co n m, b.2.1 = { a.2.1 with
    coll := cl
    codes := co
    nanSeen := n
    media := m }
  coll : a.2.1.coll.length ≤ a.2.1.k → b.2.1.coll.length ≤ a.2.1.k

theorem Scored.trans {a b c : Work} (h : Scored a b) (g : Scored b c) : Scored a c := by
  obtain ⟨cl, co, n, m, hs⟩ := h.search
  obtain ⟨cl', co', n', m', gs⟩ := g.search
  have hk : b.2.1.k = a.2.1.k := by
    rw [hs]
    rfl
  refine ⟨h.dev.trans g.dev, ⟨cl', co', n', m', ?_⟩, fun ha => ?_⟩
  · rw [gs, hs]
  · exact hk ▸ g.coll (hk ▸ h.coll ha)

/-- Where the search itself is as it was. -/
theorem Scored.of_search {a b : Work} (h : SearchesStay a.1 b.1) (hs : b.2.1 = a.2.1) : Scored a b :=
  ⟨h, ⟨_, _, _, _, hs⟩, fun ha => hs ▸ ha⟩

theorem Scored.refl (a : Work) : Scored a a := .of_search (.refl a.1) rfl

/-- The context alone changes. -/
theorem Scored.ctx (d : Device) (s : Search) (x y : SieveCtx) : Scored (d, s, x) (d, s, y) := .of_search (.refl d) rfl

theorem insertRank_length (e : Nat × Nat) (l : List (Nat × Nat)) : (insertRank e l).length = l.length + 1 := by
  induction l with
  | nil => rfl
  | cons x l ih =>
    unfold insertRank
    split
    · rw [List.length_cons, ih, List.length_cons]
    · rfl

/-- R238: a collector never holds more than K entries. -/
theorem collOffer_length {k : Nat} {l : List (Nat × Nat)} (e : Nat × Nat) (h : l.length ≤ k) : (collOffer k l e).length ≤ k := by
  unfold collOffer
  split
  · split
    · exact List.length_take_le ..
    · exact h
  · exact List.length_take_le ..

theorem scored_checkFrom (step v sc : Nat) (w : Work) : Scored w (checkFrom step v sc w) := by
  obtain ⟨d, s, x⟩ := w
  unfold checkFrom
  dsimp only
  split
  · exact .of_search (.refl d) rfl
  · split
    · exact .of_search (.refl d) rfl
    · exact ⟨.refl d, ⟨_, _, _, _, rfl⟩, fun h => collOffer_length _ h⟩

theorem scored_offerEntry (v attr sc : Nat) (w : Work) : Scored w (offerEntry v attr sc w) := by
  unfold offerEntry
  dsimp only
  split
  · exact .refl w
  · exact scored_checkFrom 0 v sc w

theorem scored_scoreOne (code : List Byte) (bias : Option Nat) (w : Work) : Scored w (scoreOne code bias w).2 := by
  obtain ⟨d, s, x⟩ := w
  unfold scoreOne
  dsimp only
  split
  · exact ⟨⟨rfl, rfl⟩, ⟨_, _, _, _, rfl⟩, id⟩
  · refine ⟨?_, ⟨_, _, _, _, rfl⟩, id⟩
    dsimp only
    split
    · exact ⟨rfl, rfl⟩
    · exact ⟨rfl, rfl⟩

/-- A code is scored, and where it has a score the work goes on with it. -/
theorem scored_scoredThen (code : List Byte) (bias : Option Nat) (w : Work) {f : Nat → Work → Work} (hf : ∀ sc w, Scored w (f sc w)) :
    Scored w (match (scoreOne code bias w).1 with
      | none => (scoreOne code bias w).2
      | some sc => f sc (scoreOne code bias w).2) := by
  split
  · exact scored_scoreOne code bias w
  · exact (scored_scoreOne code bias w).trans (hf _ _)

theorem scored_visit (v attr : Nat) (code : List Byte) (w : Work) : Scored w (visit v attr code w) := by
  unfold visit
  dsimp only
  split
  · exact .refl w
  · refine Scored.trans (.ctx w.1 w.2.1 w.2.2 _) (scored_scoredThen code none (w.1, w.2.1, _)
      (f := fun sc w => offerEntry v attr sc (w.1, w.2.1, { w.2.2 with
        beam := (insertBeam (sc, v, false) w.2.2.beam).take (w.2.1.dsc 0x38 2) })) fun sc w => ?_)
    exact Scored.trans (.ctx w.1 w.2.1 w.2.2 _) (scored_offerEntry ..)

theorem scored_scoreEntry (w : Work) : Scored w (scoreEntry w) := by
  obtain ⟨d, s, x⟩ := w
  unfold scoreEntry
  dsimp only
  split
  · exact .of_search (.refl d) rfl
  · split
    · exact Scored.trans (.ctx d s x _) (scored_visit ..)
    · exact Scored.trans (.ctx d s x _) (scored_scoredThen _ _ (d, s, _) fun sc w => scored_offerEntry _ _ sc w)

theorem scored_walkOn (w : Work) : Scored w (walkOn w) := by
  obtain ⟨d, s, x⟩ := w
  unfold walkOn
  dsimp only
  split
  · exact .of_search (.refl d) rfl
  · split
    · exact .of_search (.refl d) rfl
    · split
      · exact .of_search (.refl d) rfl
      · exact .of_search (.refl d) rfl

theorem scored_nextPart (w : Work) : Scored w (nextPart w) := by
  obtain ⟨d, s, x⟩ := w
  unfold nextPart
  dsimp only
  split
  · exact Scored.trans (.ctx d s x _) (scored_walkOn _)
  · split
    · exact .of_search (.refl d) rfl
    · exact .of_search (.refl d) rfl

theorem scored_scoreOn (n : Nat) (w : Work) : Scored w (scoreOn n w) := by
  induction n generalizing w with
  | zero =>
    unfold scoreOn
    split
    · exact .of_search (.refl w.1) rfl
    · exact scored_nextPart w
  | succ n ih =>
    unfold scoreOn
    split
    · exact .of_search (.refl w.1) rfl
    · exact (scored_scoreEntry w).trans (ih _)

theorem scored_work (w : Work) : Scored w (work w) := scored_scoreOn _ w

/-! ### A context that worked is ready or has stopped -/

/-- The context is ready for its next read or lookup, or has stopped. -/
def SieveCtx.Settled (x : SieveCtx) : Prop := x.st = .ready ∨ x.st = .stopped

theorem settled_stopCtx (b : Bool) (x : SieveCtx) : (stopCtx b x).Settled := .inr rfl

theorem settled_scanOn (d : Device) (s : Search) (ps : List (Nat × Nat)) (x : SieveCtx) : (scanOn d s ps x).Settled := by
  induction ps generalizing x with
  | nil => exact settled_stopCtx ..
  | cons p ps ih =>
    unfold scanOn
    dsimp only
    split
    · exact ih _
    · split
      · exact settled_stopCtx ..
      · exact .inl rfl

theorem settled_walkOn (w : Work) : (walkOn w).2.2.Settled := by
  obtain ⟨d, s, x⟩ := w
  unfold walkOn
  dsimp only
  split
  · exact settled_stopCtx ..
  · split
    · exact settled_stopCtx ..
    · split
      · exact .inl rfl
      · exact .inl rfl

theorem settled_nextPart (w : Work) : (nextPart w).2.2.Settled := by
  obtain ⟨d, s, x⟩ := w
  unfold nextPart
  dsimp only
  split
  · exact settled_walkOn _
  · split
    · exact settled_scanOn ..
    · exact settled_scanOn ..

theorem settled_scoreOn (n : Nat) (w : Work) : (scoreOn n w).2.2.Settled := by
  induction n generalizing w with
  | zero =>
    unfold scoreOn
    split
    · exact .inl rfl
    · exact settled_nextPart w
  | succ n ih =>
    unfold scoreOn
    split
    · exact .inl rfl
    · exact ih _

theorem settled_work (w : Work) : (work w).2.2.Settled := settled_scoreOn _ w

/-- With no entry left nothing is scored. -/
theorem work_search_of_none_left {w : Work} (h : w.2.1.entriesLeft w.2.2 = 0) : (work w).2.1 = w.2.1 := by
  obtain ⟨d, s, x⟩ := w
  unfold work
  rw [h]
  unfold scoreOn
  split
  · rfl
  · unfold nextPart
    dsimp only
    split
    · unfold walkOn
      dsimp only
      split
      · rfl
      · split
        · rfl
        · split
          · rfl
          · rfl
    · split
      · rfl
      · rfl

end Sys2Proof.Machine
end

section
/-! PROOFS of the commands by which a search's contexts move on (R239, R240, R248). -/
namespace Sys2Proof.Machine

/-! ### What of the device a context's work leaves as it was -/

section
variable (d : Device)

theorem stay_inc (k : Nat) : SearchesStay d (d.inc k) := ⟨rfl, rfl⟩

theorem stay_useRange (tb : Timebase) (a n : Nat) : SearchesStay d (Device.useRange tb d a n) := by
  unfold Device.useRange
  refine SearchesStay.foldl (fun e p => ?_) _ d
  exact ⟨rfl, rfl⟩

theorem stay_usesHeader (tb : Timebase) (s : Search) : SearchesStay d (s.usesHeader tb d) := by
  unfold Search.usesHeader
  split
  · exact .refl d
  · exact stay_useRange ..

theorem stay_flagHandoff (h b det : Nat) : SearchesStay d (d.flagHandoff h b det) := by
  have hun (ho : Handoff) : SearchesStay d (d.unpromise ho) := by
    unfold Device.unpromise
    refine SearchesStay.foldl (fun e r => ?_) _ d
    exact ⟨rfl, rfl⟩
  unfold Device.flagHandoff
  dsimp only
  split
  · split
    · exact (hun _).trans ⟨rfl, rfl⟩
    · exact ⟨rfl, rfl⟩
  · exact ⟨rfl, rfl⟩

theorem stay_updSlot (n : Nat) (f : FlashSlot → FlashSlot) : SearchesStay d (d.updSlot n f) :=
  have h : Device.Only [.flash] [] d (d.updSlot n f) := only_updSlot d n (List.mem_singleton.mpr rfl) f
  ⟨h.part .mem (by decide), h.part .sieve (by decide) |> congrArg SieveUnit.searches⟩

theorem stay_walkRead (slot p lpn ns cls temp : Nat) (tb : Timebase) : SearchesStay d (walkRead slot p lpn ns cls temp tb d) := by
  unfold walkRead countRead
  dsimp only
  refine SearchesStay.trans (stay_updSlot d slot (fun x => match x.cart with
    | some c => x.setLun p ((c.readSets p temp tb).getD (min cls 3) 0)
    | none => x)) (SearchesStay.trans ?_ (stay_updSlot _ _ _))
  split
  · exact ⟨rfl, rfl⟩
  · exact ⟨rfl, rfl⟩

/-- R426: a read that took retries is counted and told of. -/
theorem stay_retried {d e : Device} (h : SearchesStay d e) (c : Bool) :
    SearchesStay d (if c then (e.inc R.SIEVE_READ_RETRIES).raise 0x0603 [] else e) := by
  split
  · exact h.trans ⟨rfl, rfl⟩
  · exact h

end

theorem scored_searchMedia (det ch : Nat) (d : Device) (s : Search) (x : SieveCtx) :
    Scored (d, s, x) ((searchMedia det ch d s).1, (searchMedia det ch d s).2, x) := by
  refine ⟨?_, ⟨_, _, _, _, rfl⟩, id⟩
  unfold searchMedia
  dsimp only
  split
  · exact SearchesStay.trans (b := d.raiseCtx 0x0604 s.owner [(2, s.slot), (1, ch)]) ⟨rfl, rfl⟩ (stay_flagHandoff ..)
  · exact ⟨rfl, rfl⟩

theorem Scored.of_stay {d e : Device} (h : SearchesStay d e) (s : Search) (x y : SieveCtx) : Scored (d, s, x) (e, s, y) := .of_search h rfl

/-! ### What a context does -/

/-- R248. -/
theorem scored_beginCtx (num : Nat) (tb : Timebase) (w : Work) : Scored w (beginCtx num tb w) ∧ (beginCtx num tb w).2.2.Settled := by
  obtain ⟨d, s, x⟩ := w
  have huse : SearchesStay d (s.usesHeader tb (Device.useRange tb d s.tableBase (512 * s.hdr 5 1))) :=
    (stay_useRange ..).trans (stay_usesHeader ..)
  unfold beginCtx
  dsimp only
  split
  · exact ⟨(Scored.of_stay huse s x _).trans ((scored_visit ..).trans (scored_work _)), settled_work _⟩
  · exact ⟨(Scored.of_stay huse s x _).trans (scored_work _), settled_work _⟩

/-- What arrives is scored, or its error is noted and the walk goes on without it. -/
theorem scored_delivered {d e : Device} (he : SearchesStay d e) (ch : Nat) (s : Search) (x y : SieveCtx) (bad : Option Nat) :
    let w := match bad with
      | some det => work ((searchMedia det ch e s).1, (searchMedia det ch e s).2, x)
      | none => work (e, s, y)
    Scored (d, s, x) w ∧ w.2.2.Settled := by
  cases bad with
  | some det => exact ⟨(Scored.of_stay he s x x).trans ((scored_searchMedia ..).trans (scored_work _)), settled_work _⟩
  | none => exact ⟨(Scored.of_stay he s x y).trans (scored_work _), settled_work _⟩

/-- R250, R256. -/
theorem scored_nodeArrives (cls temp : Nat) (tb : Timebase) (w : Work) :
    Scored w (nodeArrives cls temp tb w) ∧ (nodeArrives cls temp tb w).2.2.Settled := by
  obtain ⟨d, s, x⟩ := w
  unfold nodeArrives
  dsimp only
  split
  · exact ⟨.ctx .., settled_stopCtx ..⟩
  · next o _ =>
    refine scored_delivered (stay_retried ?_ _) _ s x _ _
    split
    · split
      · exact .refl d
      · exact SearchesStay.trans (b := d.use tb s.data) ⟨rfl, rfl⟩ ((stay_walkRead ..).trans ⟨rfl, rfl⟩)
    · exact .refl d

/-- R251, R252. -/
theorem scored_lookArrives (k : Look) (d : Device) (s : Search) (x : SieveCtx) :
    Scored (d, { s with looked := s.looked + 1 }, x) (lookArrives k (d, s, x)) ∧ (lookArrives k (d, s, x)).2.2.Settled := by
  unfold lookArrives
  dsimp only
  split
  · split
    · exact ⟨(Scored.ctx d _ x _).trans ((scored_checkFrom ..).trans (scored_work _)), settled_work _⟩
    · exact ⟨(Scored.ctx d _ x _).trans (scored_work _), settled_work _⟩
  · split
    · exact ⟨(Scored.of_stay (stay_inc d _) _ x _).trans (scored_work _), settled_work _⟩
    · split
      · exact ⟨.ctx .., .inl rfl⟩
      · exact ⟨(Scored.ctx d _ x _).trans ((scored_checkFrom ..).trans (scored_work _)), settled_work _⟩

/-! ### A search once a context has moved on -/

/-- The contexts of a search that LOOKUPS may stop (R252). -/
def stoppedBySpent (s : Search) : Search :=
  if s.spent then { s with ctxs := s.ctxs.map (fun x => if x.st == .stopped then x else stopCtx true x) } else s

/-- R252, R253: the search as it goes on. -/
def settledSearch (d : Device) (s : Search) : Search :=
  let s := stoppedBySpent s
  if s.allStopped && !s.graph && !s.extra && s.filtered && s.coll.length < s.k && 0 < s.dsc 0x32 2 && !s.spent
    then dealProbes d { s with extra := true } (s.dsc 0x30 2) (s.dsc 0x32 2) else s

theorem settleSearch_eq (d : Device) (c : Nat) (s : Search) : settleSearch d c s = d.setSearch c (settledSearch d s) := rfl

/-- LOOKUPS and the extra probes change neither the collector nor what was looked up. -/
theorem settledSearch_kept (d : Device) (s : Search) : (settledSearch d s).coll = s.coll ∧ (settledSearch d s).looked = s.looked := by
  unfold settledSearch dealProbes stoppedBySpent
  dsimp only
  split
  · split
    · exact ⟨rfl, rfl⟩
    · exact ⟨rfl, rfl⟩
  · split
    · exact ⟨rfl, rfl⟩
    · exact ⟨rfl, rfl⟩

theorem settled_stoppedBySpent {s : Search} {w : Nat} {x : SieveCtx} (hx : s.ctxs[w]? = some x) (hset : x.Settled) :
    ∃ y, (stoppedBySpent s).ctxs[w]? = some y ∧ y.Settled := by
  unfold stoppedBySpent
  split
  · refine ⟨if x.st == .stopped then x else stopCtx true x, ?_, ?_⟩
    · exact (List.getElem?_map ..).trans (by rw [hx]; rfl)
    · split
      · exact hset
      · exact settled_stopCtx ..
  · exact ⟨x, hx, hset⟩

/-- The extra probes of a search all of whose contexts have stopped (R253). -/
theorem settled_dealProbes (d : Device) {s : Search} (first n : Nat) {w : Nat} {x : SieveCtx} (hx : s.ctxs[w]? = some x) (hset : x.Settled) :
    ∃ y, (dealProbes d s first n).ctxs[w]? = some y ∧ y.Settled := by
  have hcopy : ¬ (x.st == .copying) = true := by
    rcases hset with h | h <;> simp [h]
  unfold dealProbes
  dsimp only
  rw [List.getElem?_mapIdx, hx]
  refine ⟨_, rfl, ?_⟩
  dsimp only
  rw [if_neg hcopy]
  exact settled_scanOn ..

theorem settled_settledSearch (d : Device) {s : Search} {w : Nat} {x : SieveCtx} (hx : s.ctxs[w]? = some x) (hset : x.Settled) :
    ∃ y, (settledSearch d s).ctxs[w]? = some y ∧ y.Settled := by
  obtain ⟨y, hy, hyset⟩ := settled_stoppedBySpent hx hset
  unfold settledSearch
  dsimp only
  split
  · exact settled_dealProbes d _ _ hy hyset
  · exact ⟨y, hy, hyset⟩

/-! ### A context of a search works -/

/-- The search once its context has worked. -/
def workedSearch (w : Nat) (r : Work) : Search := settledSearch r.1 { r.2.1 with ctxs := r.2.1.ctxs.set w r.2.2 }

theorem ctxWork_of {c w : Nat} {want : SctxSt} {d : Device} {s : Search} {x : SieveCtx} (f : Work → Work) (hc : d.search? c = some s)
    (hx : s.ctxs[w]? = some x) (hst : x.st = want) (hsp : s.spent = false) :
    ctxWork c w want f d = (f (d, s, x)).1.setSearch c (workedSearch w (f (d, s, x))) := by
  unfold ctxWork
  rw [hc]
  dsimp only
  rw [hx]
  dsimp only
  rw [if_neg (by simp [hst, hsp]), settleSearch_eq]
  rfl

/-- What a command by which a context works does: `s0` is the search as the work finds it. -/
theorem movesOn {i : Instr} {s : State} {c w : Nat} {want : SctxSt} {f : Work → Work} {g : Timebase → Device → Device} {se s0 : Search} {x : SieveCtx}
    {r : Work} (hi : exec i s = .next (s.onDev g)) (hg : g s.tb s.dev = ctxWork c w want f s.dev) (hc : s.dev.search? c = some se)
    (hx : se.ctxs[w]? = some x) (hst : x.st = want) (hsp : se.spent = false) (hr : f (s.dev, se, x) = r)
    (hsc : Scored (s.dev, s0, x) r) (hset : r.2.2.Settled) (h0 : s0.ctxs = se.ctxs ∧ s0.coll = se.coll ∧ s0.k = se.k)
    {P : Search → Prop} (hP : P (workedSearch w r)) :
    Ends i s (fun t => t.pending = s.pending ∧ t.tb = s.tb ∧ t.dev.mem = s.dev.mem ∧
      (∀ j, j ≠ c → t.dev.search? j = s.dev.search? j) ∧
      ∃ se', t.dev.search? c = some se' ∧ (se.coll.length ≤ se.k → se'.coll.length ≤ se.k) ∧
        (∃ x', se'.ctxs[w]? = some x' ∧ (x'.st = .ready ∨ x'.st = .stopped)) ∧ P se') := by
  intro hl
  obtain ⟨hctxs, hcoll, hk⟩ := h0
  have heff := hg.trans (ctxWork_of f hc hx hst hsp)
  rw [hr] at heff
  have hsearches (j : Nat) : ((r.1.setSearch c (workedSearch w r)).flush s.tb).search? j =
      (s.dev.sieve.searches.set c (workedSearch w r)).get? j := by
    unfold Device.search?
    rw [Device.flush_sieve]
    show (r.1.sieve.searches.set c _).get? j = _
    rw [hsc.dev.searches]
  obtain ⟨cl, co, n, m, hse⟩ := hsc.search
  have hw : w < r.2.1.ctxs.length := by
    rw [hse]
    show w < s0.ctxs.length
    rw [hctxs]
    exact (List.getElem?_eq_some_iff.mp hx).1
  have ht : s.onDev g = { s with dev := (r.1.setSearch c (workedSearch w r)).flush s.tb } := by rw [s.onDev_of g hl, heff]
  refine ⟨_, hi.trans (congrArg Host.Outcome.next ht), rfl, rfl, ?_, fun j hj => ?_,
    workedSearch w r, ?_, fun hlen => ?_, ?_, hP⟩
  · rw [Device.flush_mem]
    exact hsc.dev.mem
  · exact (hsearches j).trans (Tbl.get?_set_ne _ _ (Ne.symm hj))
  · exact (hsearches c).trans (Tbl.get?_set_self ..)
  · rw [workedSearch, (settledSearch_kept ..).1]
    exact hk ▸ hsc.coll (by rw [hcoll, hk]; exact hlen)
  · exact settled_settledSearch r.1 (x := r.2.2) (List.getElem?_set_self hw) hset

end Sys2Proof.Machine
end

section
/-! PROOFS of the deliveries to a search's contexts (R239, R240, R248). -/
namespace Sys2Proof.Machine

section
variable {s : State} {c w : Nat} {se : Search} {x : SieveCtx} (hc : s.dev.search? c = some se) (hx : se.ctxs[w]? = some x)

/-! ### TABLE_COPY_DONE (R248) -/

/-- A scan's context takes up the first of its probes that has a group left. -/
theorem scanOn_cons {d : Device} {s : Search} {p : Nat × Nat} {l : List (Nat × Nat)} {x : SieveCtx}
    (hgroup : x.group < d.mem.readLe (s.hdrBase + 0x1000 + 16 * p.1 + 8) 4)
    (hlim : x.groups < (s.dsc 0x34 4 + s.dsc 0xC 1 - 1) / s.dsc 0xC 1) : scanOn d s (p :: l) x = { x with
      st := .ready
      probes := p :: l } := by
  unfold scanOn
  dsimp only
  rw [if_neg (by omega), if_neg (by omega)]

/-- With nothing to look up and nothing held, a context of a scan takes up its next group. -/
theorem work_of_idle_scan {d : Device} {s : Search} {x : SieveCtx} (hg : s.graph = false) (hlook : x.look = none) (hstream : x.stream = []) :
    work (d, s, x) = (d, s, scanOn d s x.probes { x with
      stream := []
      entry := 0 }) := by
  unfold work
  have h0 : s.entriesLeft x = 0 := by simp [Search.entriesLeft, hstream]
  rw [h0]
  unfold scoreOn nextPart
  simp [hlook, hg, hstream]

/-- A context that is ready keeps a search from ending. -/
theorem settledSearch_of_ready (d : Device) {s : Search} {w : Nat} {x : SieveCtx} (hx : s.ctxs[w]? = some x) (hst : x.st = .ready)
    (hsp : s.spent = false) : settledSearch d s = s := by
  have hall : s.allStopped = false := by
    unfold Search.allStopped
    have : s.ctxs.all (fun x => x.st == .stopped) = false :=
      List.all_eq_false.mpr ⟨x, List.mem_of_getElem? hx, by simp [hst]⟩
    rw [this, Bool.and_false]
  simp [settledSearch, stoppedBySpent, hsp, hall]

include hc hx in
theorem tableCopied (hst : x.st = .copying) (hsp : se.spent = false) (hlook : x.look = none) (hstream : x.stream = []) :
    Ends (.tableCopyDone c w) s (fun t => t.pending = s.pending ∧ t.tb = s.tb ∧ t.dev.mem = s.dev.mem ∧
      (∀ j, j ≠ c → t.dev.search? j = s.dev.search? j) ∧
      ∃ se', t.dev.search? c = some se' ∧ (se.coll.length ≤ se.k → se'.coll.length ≤ se.k) ∧
        (∃ x', se'.ctxs[w]? = some x' ∧ (x'.st = .ready ∨ x'.st = .stopped)) ∧
        (se.graph = false → ∀ p l, x.probes = p :: l → x.group < s.dev.mem.readLe (se.hdrBase + 0x1000 + 16 * p.1 + 8) 4 →
          x.groups < (se.dsc 0x34 4 + se.dsc 0xC 1 - 1) / se.dsc 0xC 1 →
          se' = { se with ctxs := se.ctxs.set w { x with
            st := .ready, entry := 0, table := s.dev.mem.readBytes se.tableBase (512 * se.hdr 5 1) } })) := by
  obtain ⟨hsc, hset⟩ := scored_beginCtx w s.tb (s.dev, se, x)
  refine movesOn (s0 := se) rfl rfl hc hx hst hsp rfl hsc hset ⟨rfl, rfl, rfl⟩ fun hg p l hp hgroup hlim => ?_
  obtain ⟨e, he⟩ : ∃ e, e = se.usesHeader s.tb (Device.useRange s.tb s.dev se.tableBase (512 * se.hdr 5 1)) := ⟨_, rfl⟩
  have hmem : e.mem = s.dev.mem := by
    rw [he]
    exact ((stay_useRange ..).trans (stay_usesHeader ..)).mem
  have hbegin : beginCtx w s.tb (s.dev, se, x) = (e, se, { x with
      st := .ready
      entry := 0
      table := s.dev.mem.readBytes se.tableBase (512 * se.hdr 5 1) }) := by
    unfold beginCtx
    dsimp only
    rw [if_neg (by simp [hg]), ← he, hmem]
    refine (work_of_idle_scan (d := e) (s := se) (x := { x with
      table := s.dev.mem.readBytes se.tableBase (512 * se.hdr 5 1) }) hg hlook hstream).trans ?_
    have hscan := scanOn_cons (d := e) (s := se) (p := p) (l := l) (x := { x with
      stream := []
      entry := 0
      table := s.dev.mem.readBytes se.tableBase (512 * se.hdr 5 1) }) (by rw [hmem]; exact hgroup) hlim
    rw [← hp] at hscan
    refine (congrArg (fun y => (e, se, y)) hscan).trans ?_
    rw [← hstream]
  rw [hbegin]
  exact settledSearch_of_ready e (List.getElem?_set_self (List.getElem?_eq_some_iff.mp hx).1) rfl hsp

/-! ### FLASH_PAGE_DELIVERED (R239) -/

include hc hx in
theorem pageDelivered {cls : Nat} (temp : Nat) (hst : x.st = .reading) (hsp : se.spent = false) (hg : se.graph = true) (hcls : cls ≤ 4) :
    Ends (.flashPageDelivered c w cls temp) s (fun t => t.pending = s.pending ∧ t.tb = s.tb ∧ t.dev.mem = s.dev.mem ∧
      (∀ j, j ≠ c → t.dev.search? j = s.dev.search? j) ∧
      ∃ se', t.dev.search? c = some se' ∧ (se.coll.length ≤ se.k → se'.coll.length ≤ se.k) ∧
        ∃ x', se'.ctxs[w]? = some x' ∧ (x'.st = .ready ∨ x'.st = .stopped)) := by
  obtain ⟨hsc, hset⟩ := scored_nodeArrives cls temp s.tb (s.dev, se, x)
  have hg' : (match s.dev.search? c with
      | some x => if x.graph && cls ≤ 4 then ctxWork c w .reading (nodeArrives cls temp s.tb) s.dev else s.dev
      | none => s.dev) = ctxWork c w .reading (nodeArrives cls temp s.tb) s.dev := by
    rw [hc]
    exact if_pos (by simp [hg, hcls])
  refine (movesOn (s0 := se) rfl hg' hc hx hst hsp rfl hsc hset ⟨rfl, rfl, rfl⟩ (P := fun _ => True) trivial).imp fun t ht => ?_
  obtain ⟨hpend, htb, hmem, hoth, se', hse, hcoll, hctx, -⟩ := ht
  exact ⟨hpend, htb, hmem, hoth, se', hse, hcoll, hctx⟩

/-! ### LPDDR_READ_DELIVERED (R240) -/

/-- The device once what a context reads is in use (R152). -/
def readUsed (tb : Timebase) (se : Search) (x : SieveCtx) (d : Device) : Device :=
  match nextAccess d se x with
  | some (a, _) => se.usesHeader tb (d.useRange tb a 64)
  | none => d

theorem stay_readUsed (tb : Timebase) (se : Search) (x : SieveCtx) (d : Device) : SearchesStay d (readUsed tb se x d) := by
  unfold readUsed
  split
  · exact (stay_useRange ..).trans (stay_usesHeader ..)
  · exact .refl d

/-- A list read that arrives. -/
theorem readArrives_list (tb : Timebase) {d : Device} {se : Search} {x : SieveCtx} (h : x.look = none) :
    readArrives none tb (d, se, x) = work (readUsed tb se x d, se, { x with
      stream := (readUsed tb se x d).mem.readBytes (groupAddr (readUsed tb se x d) se x) (16 * se.hdr 5 1 + 128)
      entry := 0 }) := by
  unfold readArrives
  dsimp only
  rw [h]
  rfl

/-- A lookup that arrives. -/
theorem readArrives_look (tb : Timebase) {d : Device} {se : Search} {x : SieveCtx} {k : Look} (h : x.look = some k) :
    readArrives none tb (d, se, x) = lookArrives k (readUsed tb se x d, se, x) := by
  unfold readArrives
  dsimp only
  rw [h]
  rfl

/-- An offer after the filter's lookup. -/
theorem checkFrom_two (v sc : Nat) (d : Device) (se : Search) (x : SieveCtx) : checkFrom 2 v sc (d, se, x) =
    (d, { se with coll := collOffer se.k se.coll (sc, se.passage v) }, { x with offered := x.offered + 1 }) := by
  simp [checkFrom]

/-- What a filter lookup makes of the collector, where the context holds no entry. -/
theorem coll_lookArrives {d : Device} {se : Search} {x : SieveCtx} {k : Look} (hk : k.step = 1) (hleft : se.entriesLeft x = 0) :
    (lookArrives k (d, se, x)).2.1.coll = if bit (k.v % 8) (d.mem.read (se.lookAddr k)).toNat == (se.dsc 0x42 1 == 1)
      then collOffer se.k se.coll (k.sc, se.passage k.v) else se.coll := by
  unfold lookArrives
  dsimp only
  rw [if_pos (by simp [hk])]
  split
  · next h =>
    rw [checkFrom_two]
    refine Eq.trans ?_ (if_pos h).symm
    exact congrArg Search.coll (work_search_of_none_left (w := (d, { se with
      looked := se.looked + 1
      coll := collOffer se.k se.coll (k.sc, se.passage k.v) }, { x with
      look := none
      offered := x.offered + 1 })) hleft)
  · next h =>
    refine Eq.trans ?_ (if_neg h).symm
    have hkept := congrArg Search.coll
      (work_search_of_none_left (w := (d, { se with looked := se.looked + 1 }, { x with look := none })) hleft)
    exact hkept

include hc hx in
theorem listDelivered (hst : x.st = .reading) (hsp : se.spent = false) (hg : se.graph = false) :
    Ends (.lpddrReadDelivered c w none) s (fun t => t.pending = s.pending ∧ t.tb = s.tb ∧ t.dev.mem = s.dev.mem ∧
      (∀ j, j ≠ c → t.dev.search? j = s.dev.search? j) ∧
      ∃ se', t.dev.search? c = some se' ∧ (se.coll.length ≤ se.k → se'.coll.length ≤ se.k) ∧
        (∃ x', se'.ctxs[w]? = some x' ∧ (x'.st = .ready ∨ x'.st = .stopped)) ∧
        (x.look = none → se'.looked = se.looked) ∧
        ∀ k, x.look = some k → se'.looked = se.looked + 1 ∧
          (k.step = 1 → se.entriesLeft x = 0 →
            let pass := bit (k.v % 8) (s.dev.mem.read (se.lookAddr k)).toNat = (se.dsc 0x42 1 == 1)
            (¬ pass → se'.coll = se.coll) ∧ (pass → se'.coll = collOffer se.k se.coll (k.sc, se.passage k.v)))) := by
  have hg' : (match s.dev.search? c with
      | some x =>
        if !x.graph || ((x.ctxs[w]?).bind (·.look)).isSome then ctxWork c w .reading (readArrives none s.tb) s.dev else s.dev
      | none => s.dev) = ctxWork c w .reading (readArrives none s.tb) s.dev := by
    rw [hc]
    exact if_pos (by simp [hg])
  have hstay := stay_readUsed s.tb se x s.dev
  cases hlook : x.look with
  | none =>
    refine movesOn (s0 := se) rfl hg' hc hx hst hsp (readArrives_list s.tb hlook)
      ((Scored.of_stay hstay se x _).trans (scored_work _)) (settled_work _) ⟨rfl, rfl, rfl⟩ ⟨fun _ => ?_, nofun⟩
    rw [workedSearch, (settledSearch_kept ..).2]
    obtain ⟨cl, co, n, m, heq⟩ := (scored_work (readUsed s.tb se x s.dev, se, { x with
      stream := (readUsed s.tb se x s.dev).mem.readBytes (groupAddr (readUsed s.tb se x s.dev) se x) (16 * se.hdr 5 1 + 128)
      entry := 0 })).search
    rw [heq]
  | some k =>
    obtain ⟨hsc, hset⟩ := scored_lookArrives k (readUsed s.tb se x s.dev) se x
    refine movesOn (s0 := { se with looked := se.looked + 1 }) rfl hg' hc hx hst hsp (readArrives_look s.tb hlook)
      ((Scored.of_stay hstay _ x x).trans hsc) hset ⟨rfl, rfl, rfl⟩ ⟨nofun, fun k' hk' => ?_⟩
    obtain rfl := Option.some.inj hk'
    obtain ⟨cl, co, n, m, heq⟩ := hsc.search
    refine ⟨?_, fun hstep hleft => ?_⟩
    · rw [workedSearch, (settledSearch_kept ..).2, heq]
    · have hcoll := coll_lookArrives (d := readUsed s.tb se x s.dev) (se := se) (x := x) hstep hleft
      rw [hstay.mem] at hcoll
      rw [workedSearch, (settledSearch_kept ..).1]
      dsimp only
      exact ⟨fun hp => hcoll.trans (if_neg (mt beq_iff_eq.mp hp)), fun hp => hcoll.trans (if_pos (beq_iff_eq.mpr hp))⟩

end

end Sys2Proof.Machine
end

section
/-! PROOFS of the issue of an engine and of the read rounds (R237, R239). -/
namespace Sys2Proof.Machine

/-! ### The nearest of a list -/

/-- The nearer of what was found and the next. -/
def nearer {α : Type} (dist : α → Nat) (b : Option α) (x : α) : Option α :=
  match b with
  | none => some x
  | some y => if dist x < dist y then some x else some y

/-- The first of the nearest. -/
theorem foldl_nearer {α : Type} (dist : α → Nat) (l : List α) (b : Option α) (h : l ≠ [] ∨ b ≠ none) :
    ∃ m, l.foldl (nearer dist) b = some m ∧ (m ∈ l ∨ b = some m) ∧ ∀ y, y ∈ l ∨ b = some y → dist m ≤ dist y := by
  induction l generalizing b with
  | nil =>
    obtain ⟨m, hm⟩ := Option.ne_none_iff_exists'.mp (h.resolve_left (not_not_intro rfl))
    refine ⟨m, hm, .inr hm, fun y hy => ?_⟩
    rcases hy with hy | hy
    · cases hy
    · exact (Option.some.inj (hm.symm.trans hy)) ▸ Nat.le_refl _
  | cons x l ih =>
    have hsome : nearer dist b x ≠ none := by
      unfold nearer
      split
      · simp
      · split <;> simp
    obtain ⟨m, hm, hmem, hmin⟩ := ih (nearer dist b x) (.inr hsome)
    have hnext : ∃ z, nearer dist b x = some z ∧ (z = x ∨ b = some z) ∧ dist z ≤ dist x ∧ ∀ y, b = some y → dist z ≤ dist y := by
      unfold nearer
      split
      · exact ⟨x, rfl, .inl rfl, Nat.le_refl _, nofun⟩
      · next y =>
        split
        · next hlt => exact ⟨x, rfl, .inl rfl, Nat.le_refl _, fun z hz => Option.some.inj hz ▸ Nat.le_of_lt hlt⟩
        · next hge => exact ⟨y, rfl, .inr rfl, Nat.not_lt.mp hge, fun z hz => Option.some.inj hz ▸ Nat.le_refl _⟩
    obtain ⟨z, hz, hfrom, hzx, hzb⟩ := hnext
    have hmz : dist m ≤ dist z := hmin z (.inr hz)
    refine ⟨m, hm, ?_, fun y hy => ?_⟩
    · rcases hmem with hmem | hmem
      · exact .inl (List.mem_cons_of_mem x hmem)
      · obtain rfl := Option.some.inj (hz.symm.trans hmem)
        rcases hfrom with rfl | hb
        · exact .inl List.mem_cons_self
        · exact .inr hb
    · rcases hy with hy | hy
      · rcases List.mem_cons.mp hy with rfl | hy
        · exact Nat.le_trans hmz hzx
        · exact hmin y (.inl hy)
      · exact Nat.le_trans hmz (hzb y hy)

/-! ### ENGINE_ISSUE (R237) -/

/-- The contexts of an engine that can issue. -/
def issuable (d : Device) (e : Nat) : List (Nat × Nat × SieveCtx) :=
  (d.engCtxs e).filter (fun x => match d.search? x.1 with | some s => canIssue d s x.2.2 | none => false)

/-- The distance of a context from the one that its engine issued from last. -/
def issueDist (d : Device) (e : Nat) (x : Nat × Nat × SieveCtx) : Nat := (x.2.2.num + 31 - d.sieve.lastCtx.getD e 31) % 32

theorem mem_issuable {d : Device} {e : Nat} {y : Nat × Nat × SieveCtx} : y ∈ issuable d e ↔
    y ∈ d.engCtxs e ∧ ∃ se, d.search? y.1 = some se ∧ canIssue d se y.2.2 = true := by
  unfold issuable
  rw [List.mem_filter]
  refine and_congr_right fun _ => ?_
  cases d.search? y.1 with
  | none => simp
  | some se => simp

/-- The device once a context has issued, and its engine notes it. -/
def issuedFrom (e c w : Nat) (x : SieveCtx) (se : Search) (d : Device) : Device :=
  let d := issueCtx c w x se d
  { d with sieve := { d.sieve with lastCtx := d.sieve.lastCtx.set e x.num } }

theorem foldl_pointwise {α β : Type} {f g : β → α → β} (l : List α) (b : β) (h : ∀ b a, a ∈ l → f b a = g b a) : l.foldl f b = l.foldl g b := by
  induction l generalizing b with
  | nil => rfl
  | cons a l ih =>
    rw [List.foldl_cons, List.foldl_cons, h b a List.mem_cons_self]
    exact ih _ fun b a ha => h b a (List.mem_cons_of_mem _ ha)

theorem engineIssue_of {d : Device} {e c w : Nat} {x : SieveCtx} {se : Search} (hon : d.domOn (if e < 32 then 20 else 21) = true)
    (hbest : (issuable d e).foldl (nearer (issueDist d e)) none = some (c, w, x)) (hc : d.search? c = some se) :
    engineIssue e d = issuedFrom e c w x se d := by
  unfold engineIssue
  rw [if_neg (by simp [hon])]
  dsimp only
  split
  · next h =>
    have hb := h.symm.trans ((foldl_pointwise _ none fun b y _ => by cases b <;> rfl).trans hbest)
    cases hb
  · next c' w' x' h =>
    have hb := h.symm.trans ((foldl_pointwise _ none fun b y _ => by cases b <;> rfl).trans hbest)
    obtain ⟨rfl, rfl, rfl⟩ : c' = c ∧ w' = w ∧ x' = x := by simpa using hb
    rw [hc]
    rfl

/-- The device once what an access reads is taken of its amounts. -/
def accessed (se : Search) (a : Option (Nat × Nat)) (d : Device) : Device :=
  match a with
  | some (a, n) => d.takeUnits se a n
  | none => d

theorem accessed_eq (se : Search) (a : Option (Nat × Nat)) (d : Device) : ∃ st uu, accessed se a d = { d with
    store := st
    sieve := { d.sieve with usedUnits := uu } } := by
  unfold accessed
  split
  · unfold Device.takeUnits
    dsimp only
    split
    · exact ⟨_, _, rfl⟩
    · exact ⟨_, _, rfl⟩
  · exact ⟨_, _, rfl⟩

/-- A search once context `w` of it has issued. -/
def issuedSearch (w : Nat) (x : SieveCtx) (se : Search) : Search :=
  { se with
    lookups := se.lookups + boolBit x.look.isSome
    ctxs := se.ctxs.set w { x with st := if x.look.isSome || !se.graph then .reading else .asked } }

/-- What an issue takes and counts, and how it stands in the search. -/
theorem issuedFrom_eq (e c w : Nat) (x : SieveCtx) (se : Search) (d : Device) : ∃ st uu, issuedFrom e c w x se d =
    { (if x.look.isSome then d.inc R.SIEVE_LOOKUPS else d) with
      store := st
      sieve := { d.sieve with
        usedUnits := uu
        searches := d.sieve.searches.set c (issuedSearch w x se)
        lastCtx := d.sieve.lastCtx.set e x.num } } := by
  obtain ⟨st, uu, hacc⟩ := accessed_eq se
    (nextAccess d se { x with st := if x.look.isSome || !se.graph then .reading else .asked }) d
  have h : issueCtx c w x se d =
      (let d := accessed se (nextAccess d se { x with st := if x.look.isSome || !se.graph then .reading else .asked }) d
      (if x.look.isSome then d.inc R.SIEVE_LOOKUPS else d).setSearch c (issuedSearch w x se)) := rfl
  refine ⟨st, uu, ?_⟩
  unfold issuedFrom
  rw [h, hacc]
  cases x.look.isSome <;> rfl

theorem only_issuedFrom (e c w : Nat) (x : SieveCtx) (se : Search) (d : Device) :
    Device.Only [.sieve, .store] [R.SIEVE_LOOKUPS] d (issuedFrom e c w x se d) := by
  obtain ⟨st, uu, h⟩ := issuedFrom_eq e c w x se d
  rw [h]
  have hinc : Device.Only [.sieve, .store] [R.SIEVE_LOOKUPS] d (if x.look.isSome then d.inc R.SIEVE_LOOKUPS else d) := by
    split
    · exact (Device.Only.refl d).inc (by simp)
    · exact .refl d
  generalize (if x.look.isSome then d.inc R.SIEVE_LOOKUPS else d) = b at hinc
  exact hinc.trans (.of_regs [.sieve, .store] rfl (by simp) rfl)

theorem engineIssues (s : State) (e : Nat) (hon : s.dev.engineOn e = true)
    (hsome : ∃ y se, y ∈ s.dev.engCtxs e ∧ s.dev.search? y.1 = some se ∧ canIssue s.dev se y.2.2 = true) :
    Ends (.engineIssue e) s (fun t => s.frame [.sieve, .store] [R.SIEVE_LOOKUPS] t ∧ ∃ c w x se, (c, w, x) ∈ s.dev.engCtxs e ∧
      s.dev.search? c = some se ∧ canIssue s.dev se x = true ∧
      (∀ y se', y ∈ s.dev.engCtxs e → s.dev.search? y.1 = some se' → canIssue s.dev se' y.2.2 = true →
        (x.num + 31 - s.dev.sieve.lastCtx.getD e 31) % 32 ≤ (y.2.2.num + 31 - s.dev.sieve.lastCtx.getD e 31) % 32) ∧
      (∀ j, j ≠ c → t.dev.search? j = s.dev.search? j) ∧ t.dev.sieve.lastCtx.getD e 31 = x.num ∧
      t.dev.search? c = some { se with
        lookups := se.lookups + boolBit x.look.isSome,
        ctxs := se.ctxs.set w { x with st := if x.look.isSome || !se.graph then .reading else .asked } }) := by
  obtain ⟨y, se, hy, hse, hcan⟩ := hsome
  have hmem : y ∈ issuable s.dev e := mem_issuable.mpr ⟨hy, se, hse, hcan⟩
  obtain ⟨⟨c, w, x⟩, hbest, hfrom, hmin⟩ := foldl_nearer (issueDist s.dev e) (issuable s.dev e) none (.inl (List.ne_nil_of_mem hmem))
  obtain ⟨hx, se, hc, hcan⟩ := mem_issuable.mp (hfrom.resolve_right nofun)
  have hdom : s.dev.domOn (if e < 32 then 20 else 21) = true := by
    unfold Device.engineOn Device.funcOn at hon
    simpa using (Bool.and_eq_true_iff.mp hon).1
  refine ends_onDev rfl (engineIssue_of hdom hbest hc) (only_issuedFrom e c w x se s.dev) fun t ht hfr => ?_
  obtain ⟨st, uu, heq⟩ := issuedFrom_eq e c w x se s.dev
  have hsieve : t.dev.sieve = { s.dev.sieve with
      usedUnits := uu
      searches := s.dev.sieve.searches.set c (issuedSearch w x se)
      lastCtx := s.dev.sieve.lastCtx.set e x.num } := by
    rw [ht, Device.flush_sieve, heq]
  refine ⟨hfr, c, w, x, se, hx, hc, hcan, fun y se' hy hse' hcan' => hmin y (.inl (mem_issuable.mpr ⟨hy, se', hse', hcan'⟩)),
    fun j hj => ?_, ?_, ?_⟩
  · unfold Device.search?
    rw [hsieve]
    exact Tbl.get?_set_ne _ _ (Ne.symm hj)
  · rw [hsieve]
    exact (Tbl.getD_set ..).trans (if_pos rfl)
  · unfold Device.search?
    rw [hsieve]
    exact Tbl.get?_set_self ..

/-! ### READ_ROUND (R239) -/

/-- At most 12 reads of a channel in a round, and at most 21 in a furrow, of those that the rounds issue. -/
def RoundBound (old : Tbl Nat) (d : Device) : Prop :=
  ∀ ch, d.sieve.chanRound.getD ch 0 ≤ 12 ∧ d.sieve.chanReads.getD ch 0 ≤ max 21 (old.getD ch 0)

/-- What a read that is served leaves: one more read of its channel. -/
def servedSieve (v : SieveUnit) (k ch : Nat) : SieveUnit :=
  { v with
    usedReads := v.usedReads.set k (v.usedReads.getD k 0 + 1)
    chanRound := v.chanRound.set ch (v.chanRound.getD ch 0 + 1)
    chanReads := v.chanReads.set ch (v.chanReads.getD ch 0 + 1) }

/-- The search once the read of its context is issued. -/
def servedSearch (w : Nat) (x : SieveCtx) (src : ReadSrc) (se : Search) : Search :=
  { se with
    reads := se.reads + 1
    ctxs := se.ctxs.set w { x with
      st := .reading
      src := src } }

/-- The device once a read is served. -/
def servedRead (a : Ask) (se : Search) (x : SieveCtx) (d : Device) : Device :=
  (({ d with sieve := servedSieve d.sieve (64 * se.account + a.ch) a.ch } : Device).inc R.SIEVE_PAGE_READS).setSearch a.coll
    (servedSearch a.w x (d.walkSrc se x) se)

theorem serveAsk_served {d : Device} {a : Ask} {se : Search} {x : SieveCtx} (hc : d.search? a.coll = some se) (hx : se.ctxs[a.w]? = some x)
    (hfit : d.readFits se a.ch = true) (hround : d.sieve.chanRound.getD a.ch 0 < 12) (hreads : d.sieve.chanReads.getD a.ch 0 < 21) :
    serveAsk d a = servedRead a se x d := by
  unfold serveAsk
  rw [hc]
  dsimp only
  rw [hx]
  dsimp only
  rw [if_neg (by simp [hfit]), if_pos (by simp [hround, hreads])]
  rfl

/-- A read is served, the wish is told of, or nothing happens. -/
theorem serveAsk_cases (d : Device) (a : Ask) : serveAsk d a = d ∨ serveAsk d a = d.raise 0x0603 [] ∨
    ∃ se x, serveAsk d a = servedRead a se x d ∧ d.sieve.chanRound.getD a.ch 0 < 12 ∧ d.sieve.chanReads.getD a.ch 0 < 21 := by
  unfold serveAsk
  split
  · exact .inl rfl
  · next se _ =>
    split
    · exact .inl rfl
    · next x _ =>
      dsimp only
      split
      · exact .inl rfl
      · split
        · next h =>
          simp only [Bool.and_eq_true, decide_eq_true_eq] at h
          exact .inr (.inr ⟨se, x, rfl, h.1, h.2⟩)
        · exact .inr (.inl rfl)

theorem only_serveAsk (d : Device) (a : Ask) : Device.Only [.sieve] [R.SIEVE_PAGE_READS] d (serveAsk d a) := by
  rcases serveAsk_cases d a with h | h | ⟨se, x, h, -, -⟩
  · rw [h]
    exact .refl d
  · rw [h]
    exact (Device.Only.refl d).raise _ _
  · rw [h]
    have hs : Device.Only [.sieve] [R.SIEVE_PAGE_READS] d { d with sieve := servedSieve d.sieve (64 * se.account + a.ch) a.ch } :=
      .of_regs [.sieve] rfl (by simp) rfl
    exact (hs.inc (by simp)).trans (.of_regs [.sieve] rfl (by simp) rfl)

theorem round_serveAsk (d : Device) (a : Ask) : (serveAsk d a).sieve.round = d.sieve.round := by
  rcases serveAsk_cases d a with h | h | ⟨se, x, h, -, -⟩
  · rw [h]
  · rw [h]
    rfl
  · rw [h]
    rfl

theorem roundBound_serveAsk {old : Tbl Nat} {d : Device} (hd : RoundBound old d) (a : Ask) : RoundBound old (serveAsk d a) := by
  rcases serveAsk_cases d a with h | h | ⟨se, x, h, hround, hreads⟩
  · rw [h]
    exact hd
  · rw [h]
    exact hd
  · rw [h]
    intro ch
    show (d.sieve.chanRound.set a.ch _).getD ch 0 ≤ 12 ∧ (d.sieve.chanReads.set a.ch _).getD ch 0 ≤ _
    rw [Tbl.getD_set, Tbl.getD_set]
    obtain ⟨h1, h2⟩ := hd ch
    split
    · omega
    · exact ⟨h1, h2⟩

/-- The wishes of all walkers. -/
def roundAsks (d : Device) : List Ask :=
  (d.sieve.searches.flatMap (fun p => ((p.2.ctxs.zipIdx).filter (fun x => x.1.st == .asked)).map (fun x =>
    (⟨p.2.deadline, p.2.issue, x.1.eng, x.1.num, p.1, x.2, d.walkChannel p.2 x.1⟩ : Ask)))).foldl (fun l a => insertAsk a l) []

/-- The device as a round begins. -/
def roundBegun (d : Device) : Device :=
  { d with sieve := { d.sieve with
    chanRound := []
    round := d.sieve.round + 1 } }

theorem readRound_eq (d : Device) : readRound d = (roundAsks d).foldl serveAsk (roundBegun d) := rfl

theorem only_readRound (d : Device) : Device.Only [.sieve] [R.SIEVE_PAGE_READS] d (readRound d) :=
  Device.Only.foldl only_serveAsk _ (.of_regs [.sieve] rfl (by simp) rfl)

theorem roundBound_readRound (d : Device) : RoundBound d.sieve.chanReads (readRound d) := by
  rw [readRound_eq]
  have h0 : RoundBound d.sieve.chanReads (roundBegun d) := fun ch => ⟨Nat.zero_le _, Nat.le_max_right ..⟩
  generalize roundAsks d = l at *
  generalize roundBegun d = e at *
  induction l generalizing e with
  | nil => exact h0
  | cons a l ih => exact ih _ (roundBound_serveAsk h0 a)

theorem round_readRound (d : Device) : (readRound d).sieve.round = d.sieve.round + 1 := by
  rw [readRound_eq]
  show _ = (roundBegun d).sieve.round
  generalize roundAsks d = l
  generalize roundBegun d = e
  induction l generalizing e with
  | nil => rfl
  | cons a l ih => exact (ih _).trans (round_serveAsk e a)

/-- One walker asks. -/
theorem readRound_one {d : Device} {c : Nat} {se : Search} {x : SieveCtx} (hs : d.sieve.searches = [(c, se)]) (hx : se.ctxs = [x])
    (hst : x.st = .asked) (hreads : d.sieve.chanReads.getD (d.walkChannel se x) 0 < 21) (hfit : d.readFits se (d.walkChannel se x) = true) :
    readRound d = servedRead ⟨se.deadline, se.issue, x.eng, x.num, c, 0, d.walkChannel se x⟩ se x (roundBegun d) := by
  have hasks : roundAsks d = [⟨se.deadline, se.issue, x.eng, x.num, c, 0, d.walkChannel se x⟩] := by
    unfold roundAsks
    simp [hs, hx, hst, insertAsk]
  rw [readRound_eq, hasks]
  refine serveAsk_served (d := roundBegun d) ?_ ?_ hfit ?_ hreads
  · show d.sieve.searches.get? c = some se
    rw [hs]
    simp [Tbl.get?]
  · rw [hx]
    rfl
  · show (0 : Nat) < 12
    decide

/-- The device to which the rounds of this furrow were counted so far. -/
def roundCounted (n : Nat) (d : Device) : Device := { d with sieve := { d.sieve with round := if n == 0 then 0 else 1 } }

theorem readRoundStarts (s : State) (n : Nat) (hn : roundPoint s.tb s.dev = some n) :
    Ends .readRound s (fun t => t.pending = s.pending ∧
      t.tb = { s.tb with offset := max s.tb.offset n } ∧ s.regsBut [R.SIEVE_PAGE_READS] t ∧
      (∀ p : DevPart, p ≠ .regs → p ≠ .ev → p ≠ .sieve → p.same s.dev t.dev) ∧
      t.dev.sieve.round = (if n = 0 then 1 else 2) ∧
      (∀ ch, t.dev.sieve.chanRound.getD ch 0 ≤ 12 ∧
        t.dev.sieve.chanReads.getD ch 0 ≤ max 21 (s.dev.sieve.chanReads.getD ch 0)) ∧
      ∀ c se x, s.dev.sieve.searches = [(c, se)] → se.ctxs = [x] → x.st = .asked →
        s.dev.sieve.chanReads.getD (s.dev.walkChannel se x) 0 < 21 → s.dev.readFits se (s.dev.walkChannel se x) = true →
        t.dev.search? c = some { se with reads := se.reads + 1, ctxs := [{ x with st := .reading, src := s.dev.walkSrc se x }] } ∧
        t.dev.reg R.SIEVE_PAGE_READS = min (s.dev.reg R.SIEVE_PAGE_READS + 1) 0xFFFFFFFF) := by
  intro hl
  have hpoint := s.atPoint_of (f := fun _ d => readRound (roundCounted n d)) n hl
  have hexec : exec .readRound s = .next (s.atPoint n fun _ d => readRound (roundCounted n d)) := by
    show execReadRound s = _
    unfold execReadRound
    rw [hn]
    rfl
  have honly : Device.Only [.sieve] [R.SIEVE_PAGE_READS] s.dev (readRound (roundCounted n s.dev)) :=
    Device.Only.trans (b := roundCounted n s.dev) (.of_regs [.sieve] rfl (by simp) rfl) (only_readRound _)
  have hfl := honly.flush (s.tb.goto n)
  refine ⟨_, hexec.trans (congrArg Host.Outcome.next hpoint), rfl, rfl, hfl.regs,
    fun p hr he hs => hfl.parts p (by simpa using hs) hr he, ?_, fun ch => ?_, fun c se x hs hx hst hreads hfit => ?_⟩
  · rw [Device.flush_sieve, round_readRound]
    show (if n == 0 then 0 else 1) + 1 = _
    by_cases h : n = 0 <;> simp [h]
  · rw [Device.flush_sieve]
    exact roundBound_readRound (roundCounted n s.dev) ch
  · have hone := readRound_one (d := roundCounted n s.dev) hs hx hst hreads hfit
    constructor
    · unfold Device.search?
      rw [Device.flush_sieve, hone]
      refine (Tbl.get?_set_self ..).trans ?_
      unfold servedSearch
      rw [hx]
      rfl
    · rw [reg_flush _ _ (by decide), hone]
      exact reg_incBy_self _ _ 1

theorem readRounds (s : State) : (roundPoint s.tb s.dev = none → Ends .readRound s (fun t => t = s)) ∧
    (∀ n, roundPoint s.tb s.dev = some n → Ends .readRound s (fun t => t.pending = s.pending ∧
      t.tb = { s.tb with offset := max s.tb.offset n } ∧ s.regsBut [R.SIEVE_PAGE_READS] t ∧
      (∀ p : DevPart, p ≠ .regs → p ≠ .ev → p ≠ .sieve → p.same s.dev t.dev) ∧
      t.dev.sieve.round = (if n = 0 then 1 else 2) ∧
      (∀ ch, t.dev.sieve.chanRound.getD ch 0 ≤ 12 ∧
        t.dev.sieve.chanReads.getD ch 0 ≤ max 21 (s.dev.sieve.chanReads.getD ch 0)) ∧
      ∀ c se x, s.dev.sieve.searches = [(c, se)] → se.ctxs = [x] → x.st = .asked →
        s.dev.sieve.chanReads.getD (s.dev.walkChannel se x) 0 < 21 → s.dev.readFits se (s.dev.walkChannel se x) = true →
        t.dev.search? c = some { se with reads := se.reads + 1, ctxs := [{ x with st := .reading, src := s.dev.walkSrc se x }] } ∧
        t.dev.reg R.SIEVE_PAGE_READS = min (s.dev.reg R.SIEVE_PAGE_READS + 1) 0xFFFFFFFF)) := by
  refine ⟨fun hnone _ => ⟨s, ?_, rfl⟩, readRoundStarts s⟩
  show execReadRound s = _
  unfold execReadRound
  rw [hnone]

/-- Settles O44: a context's work keeps to its search and leaves the context ready or stopped; an engine issues from the nearest
context that can; a round keeps the reads of a channel within their bounds. -/
theorem sieveContextsWork : Obligations.SieveContextsWork :=
  ⟨fun _ _ _ _ _ hc hx hst hsp hlook hstream => tableCopied hc hx hst hsp hlook hstream, engineIssues, readRounds,
    fun _ _ _ _ temp _ _ hc hx hst hsp hg hcls => pageDelivered hc hx temp hst hsp hg hcls,
    fun _ _ _ _ _ hc hx hst hsp hg _ => listDelivered hc hx hst hsp hg⟩

end Sys2Proof.Machine
end

section
/-! PROOFS of the records of build batches (R307, R308). -/
namespace Sys2Proof.Machine

/-! ### Records are applied (R308) -/

/-- What records that are applied leave: memory, the objects' marks and two counters change, and each record is counted once. -/
structure Applied (a b : Device × List Nat × List (Nat × Nat)) (n : Nat) : Prop where
  only : Device.Only [.mem, .store] [R.GATH_RECORDS, R.GATH_REJECTS] a.1 b.1
  count : b.2.1.length + b.2.2.length = a.2.1.length + a.2.2.length + n

theorem applied_foldl {α : Type} {f : Device × List Nat × List (Nat × Nat) → α → Device × List Nat × List (Nat × Nat)}
    (hf : ∀ a x, Applied a (f a x) 1) (l : List α) (a : Device × List Nat × List (Nat × Nat)) : Applied a (l.foldl f a) l.length := by
  induction l generalizing a with
  | nil => exact ⟨.refl a.1, rfl⟩
  | cons x l ih =>
    have h1 := hf a x
    have h2 := ih (f a x)
    refine ⟨h1.only.trans h2.only, ?_⟩
    have hc := h2.count
    rw [h1.count] at hc
    rw [List.foldl_cons, hc, List.length_cons]
    omega

theorem only_writeRecord (t r : Nat) (row : List Byte) (d : Device) :
    Device.Only [.mem, .store] [R.GATH_RECORDS, R.GATH_REJECTS] d (writeRecord t r row d) := by
  unfold writeRecord
  dsimp only
  split
  · exact .refl d
  · split
    · exact .refl d
    · exact .of_regs [.mem, .store] rfl (by simp) rfl

theorem applied_applyRecords (t : Nat) (owner : Bool) (recs : List (Nat × List Byte)) (d : Device) :
    Applied (d, [], []) (applyRecords t owner recs d) recs.length := by
  unfold applyRecords
  rw [← List.length_zipIdx (l := recs) (i := 0)]
  refine applied_foldl (fun a x => ?_) recs.zipIdx (d, [], [])
  obtain ⟨d, ok, no⟩ := a
  obtain ⟨⟨r, row⟩, pos⟩ := x
  dsimp only
  split
  · refine ⟨(only_writeRecord t r row d).inc (by simp), ?_⟩
    simp only [List.length_append, List.length_singleton]
    omega
  · refine ⟨?_, ?_⟩
    · split
      · exact ((Device.Only.refl d).inc (by simp)).raise _ _
      · exact (Device.Only.refl d).inc (by simp)
    · simp only [List.length_append, List.length_singleton]
      omega

/-! ### A batch ends (R307) -/

/-- The result area of a batch. -/
def resultBody (b : Batch) : List Byte :=
  leBytes 4 b.accepted ++ leBytes 4 b.rejects.length ++ leBytes 4 b.overwritten ++ leBytes 4 b.missed
    ++ (b.rejects.map (fun x => leBytes 4 x.1 ++ leBytes 4 x.2)).flatten

/-- The device once the result area of a batch is written. -/
def resultWritten (tb : Timebase) (b : Batch) (body : List Byte) (d : Device) : Device :=
  match d.obj? b.dst with
  | some o =>
    if o.st == ObjState.shareObject then d.bgWrite none (o.base + b.dstOff) body
    else if o.st == ObjState.building && o.tier == 2 then
      { d with mem := d.mem.writeBytes (o.base + b.dstOff) body }.updObj b.dst (fun o => o.mark b.dstOff body.length)
    else if o.st == ObjState.building && o.tier == 3 && !d.unwritable o then
      ((d.queuePages b.dst o tb b.dstOff body).updObj b.dst (fun o => o.mark b.dstOff body.length)).syncDir b.dst
    else d
  | none => d

/-- The device without a batch that ended. -/
def batchLeft (b : Batch) (d : Device) : Device := { d with gath := { d.gath with batches := d.gath.batches.filter (fun x => x.seq != b.seq) } }

theorem finishBatch_eq (tb : Timebase) (b : Batch) (d : Device) : finishBatch tb b d =
    (batchLeft b (resultWritten tb b (resultBody b) d)).raise 0x0802
      [(4, b.seq), (4, b.accepted), (4, b.rejects.length), (4, b.overwritten), (4, b.missed)] := rfl

theorem only_queuePages (id : Nat) (o : Obj) (tb : Timebase) (off : Nat) (data : List Byte) (d : Device) :
    Device.Only [.mem, .store, .flash] [] d (d.queuePages id o tb off data) := by
  unfold Device.queuePages
  exact .foldl (fun e p => only_setSlot e _ _ (by simp)) _ (.refl d)

theorem only_syncDir (id : Nat) (d : Device) : Device.Only [.mem, .store, .flash] [] d (d.syncDir id) := by
  unfold Device.syncDir
  split
  · exact .refl d
  · split
    · exact .refl d
    · exact .foldl (fun e p => only_updSlot e _ (by simp) _) _ (.refl d)

theorem only_resultWritten (tb : Timebase) (b : Batch) (body : List Byte) (d : Device) :
    Device.Only [.mem, .store, .flash] [] d (resultWritten tb b body d) := by
  have hupd (e : Device) (f : Obj → Obj) : Device.Only [.mem, .store, .flash] [] e (e.updObj b.dst f) :=
    .of_regs [.store] rfl (by simp) rfl
  unfold resultWritten
  split
  · split
    · rw [bgWrite_eq]
      exact .of_regs [.mem] rfl (by simp) rfl
    · split
      · exact .of_regs [.mem, .store] rfl (by simp) rfl
      · split
        · exact (only_queuePages ..).trans ((hupd _ _).trans (only_syncDir ..))
        · exact .refl d
  · exact .refl d

theorem only_finishBatch (tb : Timebase) (b : Batch) (d : Device) :
    Device.Only [.mem, .store, .flash, .gath] [] d (finishBatch tb b d) := by
  rw [finishBatch_eq]
  exact (((only_resultWritten tb b _ d).mono (by simp) (by simp)).trans
    (.of_regs (b := batchLeft b (resultWritten tb b (resultBody b) d)) [.gath] rfl (by simp) rfl)).raise _ _

theorem gath_finishBatch (tb : Timebase) (b : Batch) (d : Device) :
    (finishBatch tb b d).gath = { d.gath with batches := d.gath.batches.filter (fun x => x.seq != b.seq) } := by
  rw [finishBatch_eq]
  have h : (resultWritten tb b (resultBody b) d).gath = d.gath := (only_resultWritten tb b _ d).part .gath (by simp)
  show (batchLeft b _).gath = _
  unfold batchLeft
  rw [h]

theorem mem_finishBatch (tb : Timebase) (b : Batch) (d : Device) : (finishBatch tb b d).mem = (resultWritten tb b (resultBody b) d).mem := rfl

/-! ### GO (R307) -/

section
variable {d : Device}

/-- A batch that is out of range is refused with 1. -/
theorem buildGo_refused (h : 63 < buildWord d 0 ∨ (buildWord d 2 + 2 ^ 32 * buildWord d 3) % 8 ≠ 0 ∨ buildWord d 5 % 64 ≠ 0) :
    buildGo d = d.setFld R.GATH_BUILD_STATUS 31 24 1 := by
  have hbad (x y : Bool) : (63 < buildWord d 0 || (buildWord d 2 + 2 ^ 32 * buildWord d 3) % 8 != 0 || buildWord d 5 % 64 != 0 || x || y) = true := by
    generalize buildWord d 2 + 2 ^ 32 * buildWord d 3 = so at h ⊢
    rcases h with h | h | h <;> simp [h]
  unfold buildGo
  dsimp only
  rw [hbad]
  rfl

/-- A batch that is accepted. -/
theorem buildGo_accepted {o p : Obj} (ht : buildWord d 0 < 64) (hso : (buildWord d 2 + 2 ^ 32 * buildWord d 3) % 8 = 0)
    (hro : buildWord d 5 % 64 = 0) (ho : d.obj? (bits 15 0 (buildWord d 1)) = some o) (hos : o.st = .sealed ∨ o.st = .shareObject)
    (hofit : buildWord d 2 + 2 ^ 32 * buildWord d 3 + buildWord d 4 * (8 + d.tblStride (buildWord d 0)) ≤ o.size)
    (hp : d.obj? (bits 31 16 (buildWord d 1)) = some p) (hps : p.st = .building ∨ p.st = .shareObject)
    (hpfit : buildWord d 5 + (16 + 8 * buildWord d 4) ≤ p.size) (hroom : d.gath.batches.length < 16) :
    buildGo d = (let seq := (d.fld R.GATH_BUILD_STATUS 23 0 + 1) % 2 ^ 24
      { d.setReg R.GATH_BUILD_STATUS seq with gath := { d.gath with
        batches := d.gath.batches ++ [⟨seq, buildWord d 0, bits 15 0 (buildWord d 1), bits 31 16 (buildWord d 1),
          buildWord d 2 + 2 ^ 32 * buildWord d 3, buildWord d 5, buildWord d 4, false, 0, [], 0, 0, []⟩] } }) := by
  have hsrc : objSt d (bits 15 0 (buildWord d 1)) = some o.st := by simp [objSt, ho]
  have hdst : objSt d (bits 31 16 (buildWord d 1)) = some p.st := by simp [objSt, hp]
  have hnone : firstFail [(63 < buildWord d 0 || (buildWord d 2 + 2 ^ 32 * buildWord d 3) % 8 != 0 || buildWord d 5 % 64 != 0
        || decide (o.size < buildWord d 2 + 2 ^ 32 * buildWord d 3 + buildWord d 4 * (8 + d.tblStride (buildWord d 0)))
        || decide (p.size < buildWord d 5 + (16 + 8 * buildWord d 4)), 1), (16 ≤ d.gath.batches.length, 6),
      (!(some o.st == some ObjState.sealed || some o.st == some .shareObject)
        || !(some p.st == some ObjState.building || some p.st == some .shareObject), 3)] = none := by
    have h1 : ¬ 63 < buildWord d 0 := by omega
    have h2 : ¬ 16 ≤ d.gath.batches.length := by omega
    simp only [firstFail, h1, hso, hro, Nat.not_lt.mpr hofit, Nat.not_lt.mpr hpfit, h2, List.find?, decide_false, bne_self_eq_false, Bool.or_self]
    rcases hos with hos | hos <;> rcases hps with hps | hps <;> simp [hos, hps]
  unfold buildGo
  dsimp only
  rw [ho, hp, hsrc, hdst]
  dsimp only
  rw [hnone]
  rfl

end

theorem buildGoes (s : State) (hph : s.dev.power.phase ≠ .rom) :
    let w := buildWord s.dev
    let t0 := w 0
    let src := bits 15 0 (w 1)
    let dst := bits 31 16 (w 1)
    let so := w 2 + 2 ^ 32 * w 3
    let seq := (s.dev.fld R.GATH_BUILD_STATUS 23 0 + 1) % 2 ^ 24
    (t0 < 64 → so % 8 = 0 → w 5 % 64 = 0 → (∃ o, s.dev.obj? src = some o ∧ (o.st = .sealed ∨ o.st = .shareObject) ∧
        so + w 4 * (8 + s.dev.tblStride t0) ≤ o.size) →
      (∃ o, s.dev.obj? dst = some o ∧ (o.st = .building ∨ o.st = .shareObject) ∧ w 5 + (16 + 8 * w 4) ≤ o.size) →
      s.dev.gath.batches.length < 16 →
      Ends .gathBuildGo s (fun t => s.frame [.port, .gath] [R.GATH_BUILD_STATUS] t ∧ t.dev.reg R.GATH_BUILD_STATUS = seq ∧
        t.dev.gath = { s.dev.gath with
          batches := s.dev.gath.batches ++ [⟨seq, t0, src, dst, so, w 5, w 4, false, 0, [], 0, 0, []⟩] })) ∧
    (63 < t0 ∨ so % 8 ≠ 0 ∨ w 5 % 64 ≠ 0 →
      Ends .gathBuildGo s (fun t => s.frame [.port] [R.GATH_BUILD_STATUS] t ∧ t.dev.fld R.GATH_BUILD_STATUS 31 24 = 1)) := by
  refine ⟨fun ht hso hro ⟨o, ho, hos, hofit⟩ ⟨p, hp, hps, hpfit⟩ hroom => ?_, fun h => ?_⟩
  · refine ends_onReg (ps := [.port, .gath]) (ks := [R.GATH_BUILD_STATUS]) rfl hph (by simp) (buildGo_accepted (d := s.dev.dropPend) ht hso hro ho hos hofit hp hps hpfit hroom) ?_ fun t ht hfr => ?_
    · exact Device.Only.trans (b := s.dev.dropPend.setReg R.GATH_BUILD_STATUS ((s.dev.dropPend.fld R.GATH_BUILD_STATUS 23 0 + 1) % 2 ^ 24))
        ((Device.Only.refl _).setReg _ (by simp)) (.of_regs [.gath] rfl (by simp) rfl)
    · refine ⟨hfr, ?_, ?_⟩
      · rw [ht, reg_flush _ _ (by decide)]
        refine (reg_setReg_self ..).trans (Nat.mod_eq_of_lt ?_)
        exact Nat.lt_trans (Nat.mod_lt _ (by decide)) (by decide)
      · rw [ht, Device.flush_gath]
        rfl
  · refine ends_onReg (ps := [.port]) (ks := [R.GATH_BUILD_STATUS]) rfl hph (by simp) (buildGo_refused (d := s.dev.dropPend) h) ((Device.Only.refl _).setFld _ _ _ (by simp)) fun t ht hfr => ?_
    exact ⟨hfr, fld_of_setFld ht rfl (by decide) (by decide) (by decide) (by decide)⟩

end Sys2Proof.Machine
end

section
/-! PROOFS of the end of build batches and of their mirror writes (R307, R310, R311). -/
namespace Sys2Proof.Machine

/-! ### Fields that records leave as they were -/

section
variable {a b : Device} {ks : List Nat} {ps : List DevPart}

/-- The registers of a table are none of the counters. -/
theorem tblFld_of_only (h : Device.Only ps ks a b) (k t hi lo : Nat) (hk : tblReg k t ∉ ks) (he : tblReg k t ∉ eventRegs) :
    b.fld (tblReg k t) hi lo = a.fld (tblReg k t) hi lo := by
  unfold Device.fld
  rw [h.regs _ hk he]

/-- The module's identity is no counter. -/
theorem mirrorPeer_of_only (h : Device.Only ps ks a b) (hk : R.BRX_ID ∉ ks) : b.mirrorPeer = a.mirrorPeer := by
  unfold Device.mirrorPeer Device.identity Device.fld
  rw [h.regs _ hk (by decide)]

theorem tblReg_not_mem {l : List Nat} (k t : Nat) (h : ∀ x ∈ l, k % 2 ^ 32 ≠ x % 2 ^ 32) : tblReg k t ∉ l :=
  fun hm => inst_ne t (h _ hm) rfl

end

/-! ### The end of a batch (R307) -/

section
variable {s : State} {b : Batch} {l : List Batch} (hb : s.dev.gath.batches = b :: l)

/-- The device once the front batch has what is left of its records in the capacity of the furrow. -/
def batchMoved (b : Batch) (d : Device) : Device :=
  let d := d.takeSpare (d.batchNeed b (b.count - d.gath.moved))
  { d with gath := { d.gath with moved := 0 } }

/-- A batch whose records are applied. -/
def appliedBatch (b : Batch) (ow : Nat) (ok : List Nat) (no : List (Nat × Nat)) : Batch :=
  { b with
    applied := true
    accepted := ok.length
    rejects := no
    overwritten := ow }

/-- The records accepted that a later one of the batch wrote over. -/
def overwrittenOf (recs : List (Nat × List Byte)) (ok : List Nat) : Nat :=
  let rowOf (p : Nat) : Nat := (recs.getD p (0, [])).1
  ok.length - (ok.filter (fun p => !ok.any (fun q => p < q && rowOf q == rowOf p))).length

theorem batchDone_of {tb : Timebase} {d e : Device} {ok : List Nat} {no : List (Nat × Nat)} (hb : d.gath.batches = b :: l)
    (happ : b.applied = false) (hfit : d.batchFits tb.number.toNat b (b.count - d.gath.moved) = true)
    (hr : applyRecords b.table ((batchMoved b d).ownsRange b.table) (d.batchRecs b) (batchMoved b d) = (e, ok, no))
    (hm : e.tblMirrored b.table = false) :
    batchDone tb d = finishBatch tb (appliedBatch b (overwrittenOf (d.batchRecs b) ok) ok no) e := by
  unfold batchDone
  rw [hb]
  dsimp only
  rw [if_neg (by simp [happ, hfit])]
  refine (if_pos ?_).trans ?_
  · show (!(applyRecords b.table ((batchMoved b d).ownsRange b.table) (d.batchRecs b) (batchMoved b d)).1.tblMirrored b.table || _) = true
    rw [hr, hm]
    rfl
  · show finishBatch tb (appliedBatch b
        (overwrittenOf (d.batchRecs b) (applyRecords b.table ((batchMoved b d).ownsRange b.table) (d.batchRecs b) (batchMoved b d)).2.1)
        (applyRecords b.table ((batchMoved b d).ownsRange b.table) (d.batchRecs b) (batchMoved b d)).2.1
        (applyRecords b.table ((batchMoved b d).ownsRange b.table) (d.batchRecs b) (batchMoved b d)).2.2)
      (applyRecords b.table ((batchMoved b d).ownsRange b.table) (d.batchRecs b) (batchMoved b d)).1 = _
    rw [hr]

theorem only_batchMoved (b : Batch) (d : Device) : Device.Only [.mem, .store, .flash, .gath] [R.GATH_RECORDS, R.GATH_REJECTS] d (batchMoved b d) :=
  .of_regs [.store, .gath] rfl (by simp) rfl

theorem tblMirrored_of_only {a b : Device} {ps : List DevPart} (h : Device.Only ps [R.GATH_RECORDS, R.GATH_REJECTS] a b) (t : Nat) :
    b.tblMirrored t = a.tblMirrored t := by
  unfold Device.tblMirrored Device.tblPlane
  rw [tblFld_of_only h _ t _ _ (tblReg_not_mem _ _ (by decide)) (tblReg_not_mem _ _ (by decide)),
    tblFld_of_only h _ t _ _ (tblReg_not_mem _ _ (by decide)) (tblReg_not_mem _ _ (by decide))]

include hb in
theorem batchesEnd (happ : b.applied = false) (hm : s.dev.tblMirrored b.table = false)
    (hfit : s.dev.batchFits s.tb.number.toNat b (b.count - s.dev.gath.moved) = true) :
    Ends .gathBatchDone s (fun t => t.pending = s.pending ∧ t.tb = s.tb ∧
      (∀ p : DevPart, p ≠ .regs → p ≠ .ev → p ≠ .mem → p ≠ .store → p ≠ .gath → p ≠ .flash → p.same s.dev t.dev) ∧
      t.dev.gath = { s.dev.gath with moved := 0, batches := (b :: l).filter (fun x => x.seq != b.seq) } ∧
      s.regsBut [R.GATH_RECORDS, R.GATH_REJECTS] t ∧
      ∃ d e ok no ow, d = s.dev.takeSpare (s.dev.batchNeed b (b.count - s.dev.gath.moved)) ∧
        applyRecords b.table (d.ownsRange b.table) (s.dev.batchRecs b) { d with gath := { d.gath with moved := 0 } } = (e, ok, no) ∧
        ow ≤ ok.length ∧ ok.length + no.length = b.count ∧ (e.obj? b.dst = none → t.dev.mem = e.mem) ∧
        ∀ o, e.obj? b.dst = some o → o.st = .shareObject → t.dev.mem = (e.bgWrite none (o.base + b.dstOff)
          (leBytes 4 ok.length ++ leBytes 4 no.length ++ leBytes 4 ow ++ leBytes 4 b.missed
            ++ (no.map (fun x => leBytes 4 x.1 ++ leBytes 4 x.2)).flatten)).mem) := by
  obtain ⟨⟨e, ok, no⟩, hr⟩ : ∃ r, applyRecords b.table ((batchMoved b s.dev).ownsRange b.table) (s.dev.batchRecs b) (batchMoved b s.dev) = r :=
    ⟨_, rfl⟩
  have happl := applied_applyRecords b.table ((batchMoved b s.dev).ownsRange b.table) (s.dev.batchRecs b) (batchMoved b s.dev)
  rw [hr] at happl
  have honly : Device.Only [.mem, .store, .flash, .gath] [R.GATH_RECORDS, R.GATH_REJECTS] s.dev e :=
    (only_batchMoved b s.dev).trans (happl.only.mono (by simp) (by simp))
  have hgath : e.gath = (batchMoved b s.dev).gath := happl.only.part .gath (by simp)
  have hcount : ok.length + no.length = b.count := by
    have h := happl.count
    simpa [Device.batchRecs] using h
  have heff := batchDone_of hb happ hfit hr ((tblMirrored_of_only honly b.table).trans hm)
  have how : overwrittenOf (s.dev.batchRecs b) ok ≤ ok.length := Nat.sub_le ..
  generalize overwrittenOf (s.dev.batchRecs b) ok = z at heff how
  refine ends_onDev rfl heff (honly.trans ((only_finishBatch ..).mono (by simp) (by simp))) fun t ht hfr => ?_
  obtain ⟨htb, hpend, hregs, hparts⟩ := hfr
  have hmem : t.dev.mem = (resultWritten s.tb (appliedBatch b z ok no) (resultBody (appliedBatch b z ok no)) e).mem := by
    rw [ht, Device.flush_mem, mem_finishBatch]
  refine ⟨hpend, htb, fun p hr he hm hs hg hf => hparts p (by simp [hm, hs, hg, hf]) hr he, ?_, hregs,
    _, e, ok, no, z, rfl, hr, how, hcount, fun hnone => ?_, fun o ho hst => ?_⟩
  · rw [ht, Device.flush_gath, gath_finishBatch, hgath]
    show ({ s.dev.gath with
      moved := 0
      batches := s.dev.gath.batches.filter _ } : GatherUnit) = _
    rw [hb]
    rfl
  · rw [hmem]
    unfold resultWritten
    have hdst : e.obj? (appliedBatch b z ok no).dst = none := hnone
    rw [hdst]
  · rw [hmem]
    unfold resultWritten
    have hdst : e.obj? (appliedBatch b z ok no).dst = some o := ho
    rw [hdst]
    exact congrArg Device.mem (if_pos (by simp [hst]))

/-! ### Mirror writes (R310) -/

/-- Records that count as missed. -/
def missedDev (t n : Nat) (d : Device) : Device :=
  (List.range n).foldl (fun d _ => (d.inc R.GATH_REJECTS).raise 0x0804 [(1, t), (2, d.mirrorPeer)]) d

theorem mirrorMissed_eq (t n : Nat) (b : Batch) (d : Device) : mirrorMissed t n b d = (missedDev t n d, { b with missed := b.missed + n }) := rfl

theorem only_missedDev (t n : Nat) (d : Device) : Device.Only [] [R.GATH_REJECTS] d (missedDev t n d) :=
  Device.Only.foldl (fun e _ => ((Device.Only.refl e).inc (by simp)).raise _ _) _ (.refl d)

theorem reg_missedDev (t n : Nat) (d : Device) : (missedDev t n d).reg R.GATH_REJECTS = min (d.reg R.GATH_REJECTS + n) 0xFFFFFFFF := by
  unfold missedDev
  generalize hl : List.range n = l
  have hn : n = l.length := by rw [← hl, List.length_range]
  rw [hn]
  clear hl hn
  induction l generalizing d with
  | nil => exact (Nat.min_eq_left (Nat.lt_succ_iff.mp (reg_lt d _ (regRst_lt _)))).symm
  | cons x l ih =>
    rw [List.foldl_cons, ih]
    show min ((d.inc R.GATH_REJECTS).reg R.GATH_REJECTS + l.length) _ = _
    rw [Device.inc, reg_incBy_self, List.length_cons]
    omega

theorem mirrorTimeout_of {tb : Timebase} {d : Device} (hb : d.gath.batches = b :: l) (happ : b.applied = true) (hout : b.out ≠ [])
    (hdue : ∀ p, p ∈ b.out → furLt tb.number (furAdd p.at_ 2) = false) : mirrorTimeout tb d =
      finishBatch tb { b with
        out := []
        missed := b.missed + (b.out.map (fun p => p.rows.length)).sum } (missedDev b.table (b.out.map (fun p => p.rows.length)).sum d) := by
  have hany : b.out.any (fun p => furLt tb.number (furAdd p.at_ 2)) = false := List.any_eq_false.mpr fun p hp => by simp [hdue p hp]
  have hempty : b.out.isEmpty = false := by simpa using hout
  unfold mirrorTimeout
  rw [hb]
  dsimp only
  rw [if_neg (by simp [happ, hempty, hany])]
  rfl

include hb in
theorem mirrorsTimeOut (happ : b.applied = true) (hout : b.out ≠ []) (hdue : ∀ p, p ∈ b.out → furLt s.tb.number (furAdd p.at_ 2) = false) :
    Ends .mirrorAckTimeout s (fun t => t.pending = s.pending ∧ t.tb = s.tb ∧
        t.dev.gath = { s.dev.gath with batches := (b :: l).filter (fun x => x.seq != b.seq) } ∧
        t.dev.reg R.GATH_REJECTS =
          min (s.dev.reg R.GATH_REJECTS + (b.out.map (fun p => p.rows.length)).sum) 0xFFFFFFFF) := by
  have heff := mirrorTimeout_of hb happ hout hdue
  generalize (b.out.map (fun p => p.rows.length)).sum = n at heff ⊢
  have hmiss := only_missedDev b.table n s.dev
  have hreg := reg_missedDev b.table n s.dev
  generalize missedDev b.table n s.dev = e at heff hmiss hreg
  have hfin := only_finishBatch s.tb { b with
    out := []
    missed := b.missed + n } e
  refine ends_onDev (ps := [.mem, .store, .flash, .gath]) (ks := [R.GATH_REJECTS]) rfl heff
    ((hmiss.mono (by simp) (by simp)).trans (hfin.mono (by simp) (by simp))) fun t ht hfr => ?_
  obtain ⟨htb, hpend, -, -⟩ := hfr
  refine ⟨hpend, htb, ?_, ?_⟩
  · have hgath : e.gath = s.dev.gath := hmiss.part .gath (by simp)
    rw [ht, Device.flush_gath, gath_finishBatch, hgath, hb]
  · rw [ht, reg_flush _ _ (by decide), hfin.regs _ (by simp) (by decide), hreg]

/-! ### Acknowledgements (R310) -/

/-- The packet that an acknowledgement settles: the oldest with as many records. -/
theorem tableAckArrives_of {pkt : List Byte} {x : MirrorPkt} {rest : List MirrorPkt} {tb : Timebase} {d : Device} (hb : d.gath.batches = b :: l)
    (hout : b.out = x :: rest) (hsrc : pktSrc pkt = d.mirrorPeer) (htag : pktTag pkt = b.seq)
    (hrows : fieldLe (pktPayload pkt) 0 4 + fieldLe (pktPayload pkt) 4 4 = x.rows.length) :
    tableAckArrives pkt tb d = (if rest.isEmpty
      then finishBatch tb { b with
        out := rest
        missed := b.missed + fieldLe (pktPayload pkt) 4 4 } (missedDev b.table (fieldLe (pktPayload pkt) 4 4) d)
      else (missedDev b.table (fieldLe (pktPayload pkt) 4 4) d).setBatch { b with
        out := rest
        missed := b.missed + fieldLe (pktPayload pkt) 4 4 }) := by
  have hfind : b.out.find? (fun o => o.rows.length == fieldLe (pktPayload pkt) 0 4 + fieldLe (pktPayload pkt) 4 4) = some x := by
    rw [hout, hrows]
    simp
  have herase : b.out.erase x = rest := by
    rw [hout]
    simp
  unfold tableAckArrives
  rw [hb]
  dsimp only
  rw [hfind]
  dsimp only
  rw [if_neg (by simp [hsrc, htag]), herase]
  rfl

include hb in
theorem acksSettle {pkt : List Byte} {x : MirrorPkt} {rest : List MirrorPkt} (htakes : s.takes 0x13 pkt) (hout : b.out = x :: rest)
    (hsrc : pktSrc pkt = s.dev.mirrorPeer) (htag : pktTag pkt = b.seq)
    (hrows : fieldLe (pktPayload pkt) 0 4 + fieldLe (pktPayload pkt) 4 4 = x.rows.length) :
    Ends (.tableAck pkt) s (fun t => t.pending = s.pending ∧ t.tb = s.tb ∧ s.regsBut [R.BRX_RX_PKTS, R.GATH_REJECTS] t ∧
        t.dev.reg R.GATH_REJECTS = min (s.dev.reg R.GATH_REJECTS + fieldLe (pktPayload pkt) 4 4) 0xFFFFFFFF ∧
        (rest = [] → t.dev.gath = { s.dev.gath with batches := (b :: l).filter (fun y => y.seq != b.seq) }) ∧
        (rest ≠ [] → t.dev.mem = s.dev.mem ∧ t.dev.gath.batches = (b :: l).map (fun y =>
          if y.seq == b.seq then { b with out := rest, missed := b.missed + fieldLe (pktPayload pkt) 4 4 } else y))) := by
  have hb' : (s.dev.inc R.BRX_RX_PKTS).gath.batches = b :: l := hb
  have heff := (brxReceive_of_takes htakes (tableAckArrives pkt)).trans (tableAckArrives_of hb' hout
    (hsrc.trans (mirrorPeer_of_only (only_received [] s.dev) (by decide)).symm) htag hrows)
  generalize fieldLe (pktPayload pkt) 4 4 = n at heff ⊢
  have hrx : Device.Only [.mem, .store, .flash, .gath] [R.BRX_RX_PKTS, R.GATH_REJECTS] s.dev (s.dev.inc R.BRX_RX_PKTS) :=
    (Device.Only.refl _).inc (by simp)
  have hmiss := only_missedDev b.table n (s.dev.inc R.BRX_RX_PKTS)
  have hreg := reg_missedDev b.table n (s.dev.inc R.BRX_RX_PKTS)
  rw [show (s.dev.inc R.BRX_RX_PKTS).reg R.GATH_REJECTS = s.dev.reg R.GATH_REJECTS from reg_incBy_ne _ _ (by decide)] at hreg
  generalize missedDev b.table n (s.dev.inc R.BRX_RX_PKTS) = e at heff hmiss hreg
  have he := hrx.trans (hmiss.mono (qs := [.mem, .store, .flash, .gath]) (by simp) (by simp))
  have hgath : e.gath = s.dev.gath := hmiss.part .gath (by simp)
  have hmem : e.mem = s.dev.mem := hmiss.part .mem (by simp)
  by_cases hrest : rest = []
  · rw [if_pos (by simp [hrest])] at heff
    have hfin := only_finishBatch s.tb { b with
      out := rest
      missed := b.missed + n } e
    refine ends_onDev rfl heff (he.trans (hfin.mono (by simp) (by simp))) fun t ht hfr => ?_
    obtain ⟨htb, hpend, hregs, -⟩ := hfr
    refine ⟨hpend, htb, hregs, ?_, fun _ => ?_, fun h => absurd hrest h⟩
    · rw [ht, reg_flush _ _ (by decide), hfin.regs _ (by simp) (by decide), hreg]
    · rw [ht, Device.flush_gath, gath_finishBatch, hgath, hb]
  · rw [if_neg (by simpa using hrest)] at heff
    refine ends_onDev rfl heff (he.trans (.of_regs [.gath] rfl (by simp) rfl)) fun t ht hfr => ?_
    obtain ⟨htb, hpend, hregs, -⟩ := hfr
    refine ⟨hpend, htb, hregs, ?_, fun h => absurd h hrest, fun _ => ⟨?_, ?_⟩⟩
    · rw [ht, reg_flush _ _ (by decide)]
      exact hreg
    · rw [ht, Device.flush_mem]
      exact hmem
    · rw [ht, Device.flush_gath]
      show e.gath.batches.map _ = _
      rw [hgath, hb]

end

/-! ### What is sent -/

/-- The class of a packet is its first byte. -/
theorem pktClass_makePkt (tb : Timebase) (d : Device) {cls : Nat} (h : cls < 256) (dst tag : Nat) (payload : List Byte) :
    pktClass (makePkt tb d cls dst tag payload) = cls := by
  have hbyte : (BitVec.ofNat 8 cls).toNat = cls := by
    rw [BitVec.toNat_ofNat]
    exact Nat.mod_eq_of_lt h
  unfold pktClass makePkt fieldLe
  simp [leBytes, sliceBytes, ofLe, hbyte]

section
variable (tb : Timebase) (cls dst tag : Nat) (pl : List Byte) (d : Device)

theorem only_brxSend : Device.Only [.brx] [R.BRX_TX_PKTS] d (brxSend tb cls dst tag pl d) := by
  unfold brxSend
  dsimp only
  split
  · exact .refl d
  · have hsent (q : List BrxSent) : Device.Only [.brx] [R.BRX_TX_PKTS] d { d with brx := { d.brx with sent := q } } :=
      .of_regs [.brx] rfl (by simp) rfl
    exact (hsent _).inc (by simp)

/-- A module with a port UP sends. -/
theorem brxSend_sent (hup : d.upPorts ≠ []) : ∃ p, (brxSend tb cls dst tag pl d).brx.sent = d.brx.sent ++ [⟨p, makePkt tb d cls dst tag pl⟩] := by
  unfold brxSend
  dsimp only
  rw [if_neg (by simpa using hup)]
  exact ⟨_, rfl⟩

/-- The packet that is sent has the class given. -/
theorem brxSend_class (hup : d.upPorts ≠ []) (hcls : cls < 256) : ∃ x, (brxSend tb cls dst tag pl d).brx.sent = d.brx.sent ++ [x] ∧
    pktClass x.pkt = cls := by
  obtain ⟨p, hp⟩ := brxSend_sent tb cls dst tag pl d hup
  exact ⟨⟨p, makePkt tb d cls dst tag pl⟩, hp, pktClass_makePkt tb d hcls dst tag pl⟩

end

/-! ### Table writes (R311) -/

section
variable {s : State} {pkt : List Byte}

/-- The records of a TABLE_WRITE. -/
def writtenRecs (q : List Byte) (len : Nat) : List (Nat × List Byte) :=
  (List.range (fieldLe q 8 4)).map (fun i => (fieldLe q (16 + len * i) 8, sliceBytes q (24 + len * i) (len - 8)))

theorem tblStride_of_only {a b : Device} {ps : List DevPart} {ks : List Nat} (h : Device.Only ps ks a b)
    (hk : ∀ x ∈ ks, R.GATH_TBL_CFG % 2 ^ 32 ≠ x % 2 ^ 32) (t : Nat) : b.tblStride t = a.tblStride t := by
  have hfld (hi lo : Nat) : b.fld (tblReg R.GATH_TBL_CFG t) hi lo = a.fld (tblReg R.GATH_TBL_CFG t) hi lo :=
    tblFld_of_only h _ t hi lo (tblReg_not_mem _ _ hk) (tblReg_not_mem _ _ (by decide))
  unfold Device.tblStride Device.tblCode4 Device.tblDim
  rw [hfld, hfld]

/-- A TABLE_WRITE of another module than the mirror's is refused whole. -/
theorem tableWriteArrives_refused {tb : Timebase} {d : Device} (h : pktSrc pkt ≠ d.mirrorPeer) : ∃ pl,
    tableWriteArrives pkt tb d =
      brxSend tb 0x13 (pktSrc pkt) (pktTag pkt) pl (d.incBy R.GATH_REJECTS (fieldLe (pktPayload pkt) 8 4)) := by
  unfold tableWriteArrives
  dsimp only
  rw [if_pos (by simpa using h)]
  exact ⟨_, rfl⟩

/-- One of the mirror's is applied and acknowledged. -/
theorem tableWriteArrives_applied {tb : Timebase} {d : Device} (h : pktSrc pkt = d.mirrorPeer) : ∃ pl,
    tableWriteArrives pkt tb d = brxSend tb 0x13 (pktSrc pkt) (pktTag pkt) pl (applyRecords (fieldLe (pktPayload pkt) 0 1 % 64) true
      (writtenRecs (pktPayload pkt) (8 + d.tblStride (fieldLe (pktPayload pkt) 0 1 % 64))) d).1 := by
  unfold tableWriteArrives
  dsimp only
  rw [if_neg (by simp [h])]
  exact ⟨_, rfl⟩

theorem writesArrive (s : State) (pkt : List Byte) (htakes : s.takes 0x12 pkt) :
    let q := pktPayload pkt
    let t0 := fieldLe q 0 1 % 64
    let len := 8 + s.dev.tblStride t0
    let recs := (List.range (fieldLe q 8 4)).map (fun i => (fieldLe q (16 + len * i) 8, sliceBytes q (24 + len * i) (len - 8)))
    (pktSrc pkt ≠ s.dev.mirrorPeer → Ends (.tableWrite pkt) s (fun t =>
      s.frame [.brx] [R.BRX_RX_PKTS, R.BRX_TX_PKTS, R.GATH_REJECTS] t ∧
      t.dev.reg R.GATH_REJECTS = min (s.dev.reg R.GATH_REJECTS + fieldLe q 8 4) 0xFFFFFFFF)) ∧
    (pktSrc pkt = s.dev.mirrorPeer → Ends (.tableWrite pkt) s (fun t => t.pending = s.pending ∧ t.tb = s.tb ∧
      ∃ e ok no, applyRecords t0 true recs (s.dev.inc R.BRX_RX_PKTS) = (e, ok, no) ∧ t.dev.mem = e.mem ∧
        t.dev.store = e.store ∧ ok.length + no.length = fieldLe q 8 4 ∧
        (s.dev.upPorts ≠ [] → ∃ x, t.dev.brx.sent = s.dev.brx.sent ++ [x] ∧ pktClass x.pkt = 0x13))) := by
  have hrx := only_received [] s.dev
  have hpeer := mirrorPeer_of_only hrx (by decide)
  refine ⟨fun hsrc => ?_, fun hsrc => ?_⟩
  · obtain ⟨pl, harr⟩ := tableWriteArrives_refused (tb := s.tb) (fun h => hsrc (h.trans hpeer))
    have heff := (brxReceive_of_takes htakes (tableWriteArrives pkt)).trans harr
    have hsend := only_brxSend s.tb 0x13 (pktSrc pkt) (pktTag pkt) pl
      ((s.dev.inc R.BRX_RX_PKTS).incBy R.GATH_REJECTS (fieldLe (pktPayload pkt) 8 4))
    have hcount : Device.Only [.brx] [R.BRX_RX_PKTS, R.BRX_TX_PKTS, R.GATH_REJECTS] s.dev
        ((s.dev.inc R.BRX_RX_PKTS).incBy R.GATH_REJECTS (fieldLe (pktPayload pkt) 8 4)) :=
      ((Device.Only.refl _).inc (by simp)).incBy _ (by simp)
    refine ends_onDev rfl heff (hcount.trans (hsend.mono (by simp) (by simp))) fun t ht hfr => ⟨hfr, ?_⟩
    rw [ht, reg_flush _ _ (by decide), hsend.regs _ (by decide) (by decide), reg_incBy_self, Device.inc, reg_incBy_ne _ _ (by decide)]
  · obtain ⟨pl, harr⟩ := tableWriteArrives_applied (tb := s.tb) (hsrc.trans hpeer.symm)
    rw [tblStride_of_only hrx (by decide)] at harr
    have heff := (brxReceive_of_takes htakes (tableWriteArrives pkt)).trans harr
    have happl := applied_applyRecords (fieldLe (pktPayload pkt) 0 1 % 64) true
      (writtenRecs (pktPayload pkt) (8 + s.dev.tblStride (fieldLe (pktPayload pkt) 0 1 % 64))) (s.dev.inc R.BRX_RX_PKTS)
    obtain ⟨⟨e, ok, no⟩, hr⟩ : ∃ r, applyRecords (fieldLe (pktPayload pkt) 0 1 % 64) true
        (writtenRecs (pktPayload pkt) (8 + s.dev.tblStride (fieldLe (pktPayload pkt) 0 1 % 64))) (s.dev.inc R.BRX_RX_PKTS) = r := ⟨_, rfl⟩
    rw [hr] at happl heff
    have hsend := only_brxSend s.tb 0x13 (pktSrc pkt) (pktTag pkt) pl e
    have hbrx : e.brx = s.dev.brx := happl.only.part .brx (by simp)
    refine ends_onDev (ps := [.mem, .store, .brx]) (ks := [R.BRX_RX_PKTS, R.GATH_RECORDS, R.GATH_REJECTS, R.BRX_TX_PKTS]) rfl heff
      ((hrx.mono (by simp) (by simp)).trans ((happl.only.mono (by simp) (by simp)).trans (hsend.mono (by simp) (by simp))))
      fun t ht hfr => ?_
    obtain ⟨htb, hpend, -, -⟩ := hfr
    refine ⟨hpend, htb, e, ok, no, hr, ?_, ?_, ?_, fun hup => ?_⟩
    · rw [ht, Device.flush_mem]
      exact hsend.part .mem (by simp)
    · rw [ht, Device.flush_store]
      exact hsend.part .store (by simp)
    · have hc := happl.count
      simpa [writtenRecs] using hc
    · have hup' : e.upPorts ≠ [] := by
        unfold Device.upPorts Device.port'
        rw [hbrx]
        exact hup
      obtain ⟨x, hx, hcls⟩ := brxSend_class s.tb 0x13 (pktSrc pkt) (pktTag pkt) pl e hup' (by decide)
      refine ⟨x, ?_, hcls⟩
      rw [ht, Device.flush_brx, hx, hbrx]

end

/-- Settles O50: GO accepts or refuses; the front batch applies its records and leaves the result area; mirror writes are
acknowledged, missed or applied. -/
theorem buildBatchesApplyTheirRecords : Obligations.BuildBatchesApplyTheirRecords :=
  ⟨buildGoes, fun _ _ _ hb happ hm hfit => batchesEnd hb happ hm hfit,
    fun _ _ _ hb happ hout => ⟨mirrorsTimeOut hb happ hout, fun _ _ _ htakes hx hsrc htag hrows => acksSettle hb htakes hx hsrc htag hrows⟩,
    writesArrive⟩

end Sys2Proof.Machine
end

section
/-! PROOFS of the work that other modules ask for (R280, R285, R287, R301). -/
namespace Sys2Proof.Machine

/-- A command on the device, by what its effect is. -/
theorem ends_dev {s : State} {c : Instr} {f : Timebase → Device → Device} {e : Device} {P : State → Prop} (hc : exec c s = .next (s.onDev f))
    (hf : f s.tb s.dev = e) (h : ∀ t : State, t.dev = e.flush s.tb → t.pending = s.pending → t.tb = s.tb → P t) : Ends c s P := by
  intro hl
  refine ⟨{ s with dev := e.flush s.tb }, ?_, h _ rfl rfl rfl⟩
  rw [hc, s.onDev_of f hl, hf]

/-! ### A packet that was counted -/

section
variable (d : Device)

theorem identity_received : (d.inc R.BRX_RX_PKTS).identity = d.identity := by
  unfold Device.identity Device.fld
  rw [(only_received [] d).regs _ (by decide) (by decide)]

theorem serving_received : (d.inc R.BRX_RX_PKTS).serving = d.serving := by
  unfold Device.serving Device.fld
  rw [(only_received [] d).regs _ (by decide) (by decide)]
  rfl

/-- R285: reason 1. -/
theorem nackFirst_closed (h : d.selfFenced = true ∨ d.serving = false) (v : Bool) : nackFirst (d.inc R.BRX_RX_PKTS) v = some 1 := by
  have hs : ((d.inc R.BRX_RX_PKTS).selfFenced || !(d.inc R.BRX_RX_PKTS).serving) = true := by
    rw [serving_received]
    rcases h with h | h
    · exact Bool.or_eq_true_iff.mpr (.inl h)
    · simp [h]
  unfold nackFirst
  rw [if_pos hs]

end

/-! ### NACK (R285) -/

section
variable {s : State} {pkt : List Byte} {d : Device} {tb : Timebase}

theorem queryArrives_closed (h : d.selfFenced = true ∨ d.serving = false)
    (hask : bit (indexOf d.identity % 8) (fieldLe (pktPayload pkt) (0x40 + indexOf d.identity / 8) 1) = true) :
    queryArrives pkt tb (d.inc R.BRX_RX_PKTS) = sendNack tb (pktSrc pkt) (pktTag pkt) 1 (d.inc R.BRX_RX_PKTS) := by
  unfold queryArrives
  dsimp only
  rw [identity_received, if_neg (by simp [hask]), nackFirst_closed d h]

theorem textReqArrives_closed (h : d.selfFenced = true ∨ d.serving = false) :
    textReqArrives pkt tb (d.inc R.BRX_RX_PKTS) = sendNack tb (pktSrc pkt) (pktTag pkt) 1 (d.inc R.BRX_RX_PKTS) := by
  unfold textReqArrives
  dsimp only
  rw [nackFirst_closed d h]

theorem gatherReqArrives_closed (h : d.selfFenced = true ∨ d.serving = false) :
    gatherReqArrives pkt tb (d.inc R.BRX_RX_PKTS) = sendNack tb (pktSrc pkt) (pktTag pkt) 1 (d.inc R.BRX_RX_PKTS) := by
  unfold gatherReqArrives
  dsimp only
  rw [nackFirst_closed d h]

/-- What a NACK that is sent changes. -/
theorem only_sendNack (tb : Timebase) (origin tag reason : Nat) (d : Device) :
    Device.Only [.brx] [R.BRX_RX_PKTS, R.BRX_TX_PKTS, R.BRX_NACKS_SENT] d (sendNack tb origin tag reason d) := by
  have hsend : Device.Only [.brx] [R.BRX_RX_PKTS, R.BRX_TX_PKTS, R.BRX_NACKS_SENT] d
      ((brxSend tb 8 origin tag (leBytes 1 reason) d).inc R.BRX_NACKS_SENT) :=
    ((only_brxSend ..).mono (by simp) (by simp)).inc (by simp)
  unfold sendNack
  dsimp only
  generalize (brxSend tb 8 origin tag (leBytes 1 reason) d).inc R.BRX_NACKS_SENT = e at hsend ⊢
  split
  · exact hsend
  · have hseen : Device.Only [.brx] [R.BRX_RX_PKTS, R.BRX_TX_PKTS, R.BRX_NACKS_SENT] e { e with brx := { e.brx with nackSeen := true } } :=
      .of_regs [.brx] rfl (by simp) rfl
    exact (hsend.trans hseen).raise _ _

theorem reg_sendNack (tb : Timebase) (origin tag reason : Nat) (d : Device) :
    (sendNack tb origin tag reason d).reg R.BRX_NACKS_SENT = min (d.reg R.BRX_NACKS_SENT + 1) 0xFFFFFFFF := by
  have hsend := (only_brxSend tb 8 origin tag (leBytes 1 reason) d).regs R.BRX_NACKS_SENT (by decide) (by decide)
  unfold sendNack
  dsimp only
  generalize brxSend tb 8 origin tag (leBytes 1 reason) d = e at hsend ⊢
  have hinc : (e.inc R.BRX_NACKS_SENT).reg R.BRX_NACKS_SENT = min (d.reg R.BRX_NACKS_SENT + 1) 0xFFFFFFFF := by
    rw [Device.inc, reg_incBy_self, hsend]
  split
  · exact hinc
  · exact hinc

theorem ev_brxSend (tb : Timebase) (cls dst tag : Nat) (pl : List Byte) (d : Device) : (brxSend tb cls dst tag pl d).ev = d.ev := by
  unfold brxSend
  dsimp only
  split <;> rfl

theorem nackSeen_brxSend (tb : Timebase) (cls dst tag : Nat) (pl : List Byte) (d : Device) :
    (brxSend tb cls dst tag pl d).brx.nackSeen = d.brx.nackSeen := by
  unfold brxSend
  dsimp only
  split <;> rfl

theorem jobs_brxSend (tb : Timebase) (cls dst tag : Nat) (pl : List Byte) (d : Device) :
    (brxSend tb cls dst tag pl d).brx.jobs = d.brx.jobs := by
  unfold brxSend
  dsimp only
  split <;> rfl

theorem jobs_sendNack (tb : Timebase) (origin tag reason : Nat) (d : Device) : (sendNack tb origin tag reason d).brx.jobs = d.brx.jobs := by
  refine Eq.trans ?_ (jobs_brxSend tb 8 origin tag (leBytes 1 reason) d)
  unfold sendNack
  dsimp only
  split <;> rfl

/-- The first NACK of a furrow is told of. -/
theorem ev_sendNack (tb : Timebase) (origin tag reason : Nat) {d : Device} (h : d.brx.nackSeen = false) :
    (sendNack tb origin tag reason d).ev = (d.raise 0x070B [(1, reason)]).ev := by
  have hseen := nackSeen_brxSend tb 8 origin tag (leBytes 1 reason) d
  have hev := ev_brxSend tb 8 origin tag (leBytes 1 reason) d
  unfold sendNack
  dsimp only
  generalize brxSend tb 8 origin tag (leBytes 1 reason) d = e at hseen hev ⊢
  rw [if_neg (by
    show ¬ e.brx.nackSeen = true
    simp [hseen, h])]
  exact raise_ev_congr hev _ _

theorem sent_sendNack (tb : Timebase) (origin tag reason : Nat) {d : Device} (hup : d.upPorts ≠ []) :
    ∃ x, (sendNack tb origin tag reason d).brx.sent = d.brx.sent ++ [x] ∧ pktClass x.pkt = 8 := by
  obtain ⟨x, hx, hcls⟩ := brxSend_class tb 8 origin tag (leBytes 1 reason) d hup (by decide)
  refine ⟨x, ?_, hcls⟩
  unfold sendNack
  dsimp only
  generalize brxSend tb 8 origin tag (leBytes 1 reason) d = e at hx ⊢
  split
  · exact hx
  · exact hx

/-- A request that is refused with reason 1. -/
theorem nacks {c : Instr} {f : Timebase → Device → Device} (hset : s.settled) (hup : s.dev.upPorts ≠ []) (hc : exec c s = .next (s.onDev f))
    (hf : f s.tb s.dev = sendNack s.tb (pktSrc pkt) (pktTag pkt) 1 (s.dev.inc R.BRX_RX_PKTS)) :
    Ends c s (fun t => s.frame [.brx] [R.BRX_RX_PKTS, R.BRX_TX_PKTS, R.BRX_NACKS_SENT] t ∧
      t.dev.reg R.BRX_NACKS_SENT = min (s.dev.reg R.BRX_NACKS_SENT + 1) 0xFFFFFFFF ∧
      (s.dev.brx.nackSeen = false → s.raised ⟨0x070B, 4, none, [(1, 1)]⟩ t) ∧
      ∃ x, t.dev.brx.sent = s.dev.brx.sent ++ [x] ∧ pktClass x.pkt = 8) := by
  obtain ⟨x, hx, hcls⟩ := sent_sendNack s.tb (pktSrc pkt) (pktTag pkt) 1 (d := s.dev.inc R.BRX_RX_PKTS) hup
  have hev := fun h => ev_sendNack s.tb (pktSrc pkt) (pktTag pkt) 1 (d := s.dev.inc R.BRX_RX_PKTS) h
  have hreg := reg_sendNack s.tb (pktSrc pkt) (pktTag pkt) 1 (s.dev.inc R.BRX_RX_PKTS)
  have honly := only_sendNack s.tb (pktSrc pkt) (pktTag pkt) 1 (s.dev.inc R.BRX_RX_PKTS)
  generalize sendNack s.tb (pktSrc pkt) (pktTag pkt) 1 (s.dev.inc R.BRX_RX_PKTS) = e at hx hev hreg honly hf
  rw [(only_received [] s.dev).regs _ (by decide) (by decide)] at hreg
  refine ends_onDev hc hf (Device.Only.trans ((Device.Only.refl _).inc (by simp)) honly) fun t ht hfr => ⟨hfr, ?_, fun hseen => ?_, x, ?_, hcls⟩
  · rw [ht, reg_flush _ _ (by decide), hreg]
  · exact raised_of_ev (hev hseen) hset ht
  · rw [ht, Device.flush_brx, hx]
    rfl

/-- A request of a module while this one is self-fenced or serves none. -/
theorem requestsRefused (s : State) (c : Instr) (cls : Nat) (pkt : List Byte) (hset : s.settled) (hrow : packetRow c = some (cls, pkt))
    (htakes : s.takes cls pkt) (hjobs : s.dev.noTextJobs)
    (hcls : cls = 6 ∨ cls = 0x10 ∨ (cls = 4 ∧ bit (indexOf s.dev.identity % 8)
      (fieldLe (pktPayload pkt) (0x40 + indexOf s.dev.identity / 8) 1) = true))
    (hclosed : s.dev.selfFenced = true ∨ s.dev.serving = false) (hup : s.dev.upPorts ≠ []) :
    Ends c s (fun t => s.frame [.brx] [R.BRX_RX_PKTS, R.BRX_TX_PKTS, R.BRX_NACKS_SENT] t ∧
      t.dev.reg R.BRX_NACKS_SENT = min (s.dev.reg R.BRX_NACKS_SENT + 1) 0xFFFFFFFF ∧
      (s.dev.brx.nackSeen = false → s.raised ⟨0x070B, 4, none, [(1, 1)]⟩ t) ∧
      ∃ x, t.dev.brx.sent = s.dev.brx.sent ++ [x] ∧ pktClass x.pkt = 8) := by
  unfold packetRow at hrow
  split at hrow
  case h_13 => exact absurd hrow (by simp)
  all_goals
    obtain ⟨rfl, rfl⟩ : _ = cls ∧ _ = pkt := by simpa using hrow
  case h_4 p =>
    obtain ⟨-, hask⟩ := (hcls.resolve_left (by decide)).resolve_left (by decide)
    exact nacks hset hup rfl ((brxReceive_of_takes htakes _).trans (queryArrives_closed hclosed hask))
  case h_6 p =>
    refine nacks (pkt := p) (f := fun tb d => serveText false tb (brxReceive 6 p (textReqArrives p) tb d)) hset hup rfl ?_
    have harr := (brxReceive_of_takes htakes _).trans (textReqArrives_closed (tb := s.tb) (pkt := p) hclosed)
    refine (congrArg (serveText false s.tb) harr).trans (serveText_none false s.tb fun x hx => hjobs x ?_)
    rwa [jobs_sendNack] at hx
  case h_9 p =>
    exact nacks hset hup rfl ((brxReceive_of_takes htakes _).trans (gatherReqArrives_closed hclosed))
  all_goals exact absurd hcls (by simp)

/-! ### Work that is taken (R285, R287, R301) -/

/-- A QUERY that is admitted. -/
theorem queryArrives_taken {d' : Device} {bind : Nat × Nat} {off per : Nat}
    (hask : bit (indexOf d.identity % 8) (fieldLe (pktPayload pkt) (0x40 + indexOf d.identity / 8) 1) = true) (hopen : nackFirst d true = none)
    (hbind : d.idxVersion d.corpusSlot (fieldLe (pktPayload pkt) 0 4) = some bind) : 
    let f := fieldLe (pktPayload pkt)
    let m := hdrM (d.slotHdr d.corpusSlot bind.1)
    let len := 512 * m + 8 * (f 0x14 2 + f 0x16 2)
    let ctx := d.fld R.BRX_SVC 9 0
    let dl : W48 := BitVec.ofNat 48 (f 8 8)
    let d1 := d.bgWrite none (d.serviceWin.base + off) (sliceBytes (pktPayload pkt) 0x340 len)
    let job : ShardJob := ⟨0, pktSrc pkt, pktTag pkt, f 7 1, dl, tb.number + 1, f 0 4, (off, len), 0, 0, 0, 0, [], false, per, 0⟩
    servicePlace d len = some off →
    sieveCheck d1 ctx (some (d1.slotHdr d.corpusSlot bind.1)) true (shardDesc d (pktPayload pkt) off m) (16 * f 4 2) 1 = none →
    admitShard tb (f 7 1) dl (ivfUnits m (f 0x18 4) (f 0x14 2) (f 0x16 2) (if f 0x1C 4 == 0 then 4 * f 4 2 else f 0x1C 4))
      (f 0x10 1) d1 = some (per, d') → tooLate tb dl = false →
    queryArrives pkt tb d = { d'.addJob job with sieve := { d'.sieve with
      waiting := d'.sieve.waiting ++ sieveSearches tb (d'.addJob job) ctx bind (shardDesc d (pktPayload pkt) off m) none
        (some d'.brx.nextJob) dl } } := by
  intro f m len ctx dl d1 job hplace hcheck hadmit hlate
  unfold queryArrives
  dsimp only
  rw [if_neg (by simp [hask]), hbind]
  dsimp only [Option.isSome_some]
  rw [hopen]
  dsimp only
  rw [hplace]
  dsimp only
  rw [hcheck]
  dsimp only
  rw [hadmit]
  dsimp only
  refine (if_neg (ne_true_of_eq_false hlate)).trans ?_
  rfl

/-- A job that was taken, and the searches that wait for it. -/
theorem queriesTaken (s : State) (pkt : List Byte) (d d1 d' : Device) (bind : Nat × Nat) (off per : Nat) (htakes : s.takes 4 pkt)
    (hd : d = s.dev.inc R.BRX_RX_PKTS) :
    let f := fieldLe (pktPayload pkt)
    let own := indexOf d.identity
    let m := hdrM (d.slotHdr d.corpusSlot bind.1)
    let len := 512 * m + 8 * (f 0x14 2 + f 0x16 2)
    let ctx := d.fld R.BRX_SVC 9 0
    let dl : W48 := BitVec.ofNat 48 (f 8 8)
    bit (own % 8) (f (0x40 + own / 8) 1) = true → nackFirst d true = none →
    d.idxVersion d.corpusSlot (f 0 4) = some bind → servicePlace d len = some off →
    d1 = d.bgWrite none (d.serviceWin.base + off) (sliceBytes (pktPayload pkt) 0x340 len) →
    sieveCheck d1 ctx (some (d1.slotHdr d.corpusSlot bind.1)) true (shardDesc d (pktPayload pkt) off m) (16 * f 4 2) 1 = none →
    admitShard s.tb (f 7 1) dl (ivfUnits m (f 0x18 4) (f 0x14 2) (f 0x16 2) (if f 0x1C 4 == 0 then 4 * f 4 2 else f 0x1C 4))
      (f 0x10 1) d1 = some (per, d') → tooLate s.tb dl = false →
    Ends (.query pkt) s (fun t => t.pending = s.pending ∧ t.tb = s.tb ∧ t.dev.mem = d'.mem ∧
      t.dev.brx.nextJob = d'.brx.nextJob + 1 ∧
      t.dev.brx.jobs.get? d'.brx.nextJob = some ⟨0, pktSrc pkt, pktTag pkt, f 7 1, dl, s.tb.number + 1, f 0 4, (off, len), 0, 0, 0,
        0, [], false, per, 0⟩ ∧
      t.dev.sieve.waiting = d'.sieve.waiting ++ sieveSearches s.tb
        (d'.addJob ⟨0, pktSrc pkt, pktTag pkt, f 7 1, dl, s.tb.number + 1, f 0 4, (off, len), 0, 0, 0, 0, [], false, per, 0⟩)
        ctx bind (shardDesc d (pktPayload pkt) off m) none (some d'.brx.nextJob) dl) := by
  intro f own m len ctx dl hask hopen hbind hplace hd1 hcheck hadmit hlate
  subst hd1
  have harr := queryArrives_taken (tb := s.tb) hask hopen hbind hplace hcheck hadmit hlate
  have heff := (brxReceive_of_takes htakes (queryArrives pkt)).trans ((congrArg (queryArrives pkt s.tb) hd.symm).trans harr)
  refine ends_dev rfl heff fun t ht hpend htb => ⟨hpend, htb, ?_, ?_, ?_, ?_⟩
  · rw [ht, Device.flush_mem]
    rfl
  · rw [ht, Device.flush_brx]
    rfl
  · rw [ht, Device.flush_brx]
    exact Tbl.get?_set_self ..
  · rw [ht, Device.flush_sieve]

/-- Text that a shard asks its flash for. -/
theorem askText_foldl (j id room : Nat) (l : List (Nat × Nat)) (d : Device) : ∃ q,
    l.foldl (fun d it => d.askText (.textReq j it.1) id (it.2 % 2 ^ 32) room) d = { d with flash := { d.flash with reads := q } } := by
  induction l generalizing d with
  | nil => exact ⟨_, rfl⟩
  | cons it l ih =>
    obtain ⟨q, hq⟩ := ih (d.askText (.textReq j it.1) id (it.2 % 2 ^ 32) room)
    exact ⟨q, hq⟩

/-- A TEXT_REQ that is taken. -/
theorem textReqArrives_taken
    (hopen : nackFirst d (d.idxVersion d.corpusSlot (fieldLe (pktPayload pkt) 0 4)).isSome = none)
    (hobj : (d.textObj (d.corpusText (fieldLe (pktPayload pkt) 0 4))).isSome = true)
    (hlate : tooLate tb (BitVec.ofNat 48 (fieldLe (pktPayload pkt) 4 8)) = false) : ∃ job q, textReqArrives pkt tb d =
      { d.addJob job with flash := { d.flash with reads := q } } := by
  unfold textReqArrives
  dsimp only
  rw [hopen]
  dsimp only
  rw [if_neg (by simpa [Option.isNone_iff_eq_none, Option.isSome_iff_ne_none] using hobj), if_neg (ne_true_of_eq_false hlate)]
  obtain ⟨q, hq⟩ := askText_foldl d.brx.nextJob (d.corpusText (fieldLe (pktPayload pkt) 0 4)) (fieldLe (pktPayload pkt) 0xC 4) _ _
  exact ⟨_, q, hq⟩

/-- Text that goes out leaves memory and the count of jobs as they were. -/
structure Served (a b : Device) : Prop where
  mem : b.mem = a.mem
  nextJob : b.brx.nextJob = a.brx.nextJob

theorem Served.trans {a b c : Device} (h : Served a b) (g : Served b c) : Served a c := ⟨g.mem.trans h.mem, g.nextJob.trans h.nextJob⟩

theorem served_brxSend (tb : Timebase) (cls dst tag : Nat) (pl : List Byte) (d : Device) : Served d (brxSend tb cls dst tag pl d) := by
  unfold brxSend
  dsimp only
  split
  · exact ⟨rfl, rfl⟩
  · exact ⟨rfl, rfl⟩

theorem Served.foldl {α : Type} {f : Device → α → Device} (hf : ∀ d x, Served d (f d x)) (l : List α) (d : Device) : Served d (l.foldl f d) := by
  induction l generalizing d with
  | nil => exact ⟨rfl, rfl⟩
  | cons x l ih => exact (hf d x).trans (ih _)

theorem served_serveText (last : Bool) (tb : Timebase) (d : Device) : Served d (serveText last tb d) := by
  unfold serveText
  refine Served.foldl (fun e p => ?_) _ d
  have hdrop (e : Device) : Served e (e.dropJob p.1) := ⟨rfl, rfl⟩
  dsimp only
  split
  · exact hdrop e
  · split
    · exact ⟨rfl, rfl⟩
    · split
      · split
        · exact (Served.foldl (fun e it => served_brxSend ..) _ e).trans ((served_brxSend ..).trans (hdrop _))
        · exact (Served.foldl (fun e it => served_brxSend ..) _ e).trans (hdrop _)
      · exact (Served.foldl (fun e it => served_brxSend ..) _ e).trans ⟨rfl, rfl⟩

theorem textsTaken (s : State) (pkt : List Byte) (d : Device) (htakes : s.takes 6 pkt) (hd : d = s.dev.inc R.BRX_RX_PKTS)
    (hopen : nackFirst d (d.idxVersion d.corpusSlot (fieldLe (pktPayload pkt) 0 4)).isSome = none)
    (hobj : (d.textObj (d.corpusText (fieldLe (pktPayload pkt) 0 4))).isSome = true)
    (hlate : tooLate s.tb (BitVec.ofNat 48 (fieldLe (pktPayload pkt) 4 8)) = false) :
    Ends (.textReq pkt) s (fun t => t.pending = s.pending ∧ t.tb = s.tb ∧ t.dev.mem = s.dev.mem ∧
      t.dev.brx.nextJob = s.dev.brx.nextJob + 1) := by
  obtain ⟨job, q, harr⟩ := textReqArrives_taken hopen hobj hlate
  have heff := (brxReceive_of_takes htakes (textReqArrives pkt)).trans ((congrArg (textReqArrives pkt s.tb) hd.symm).trans harr)
  have hserved := served_serveText false s.tb (brxReceive 6 pkt (textReqArrives pkt) s.tb s.dev)
  refine ends_dev (f := fun tb d => serveText false tb (brxReceive 6 pkt (textReqArrives pkt) tb d)) rfl rfl fun t ht hpend htb =>
    ⟨hpend, htb, ?_, ?_⟩
  · rw [ht, Device.flush_mem, hserved.mem, heff, hd]
    rfl
  · rw [ht, Device.flush_brx, hserved.nextJob, heff, hd]
    rfl

/-- A GATHER_REQ that is taken. -/
theorem gatherReqArrives_taken {d' : Device} {o per : Nat} :
    let f := fieldLe (pktPayload pkt)
    let rows := (List.range (f 4 4)).map (fun i => (f (24 + 12 * i) 4, f (28 + 12 * i) 8))
    nackFirst d true = none → d.tblVersion (f 0 1) (f 8 4) = some o → d.tblPlane (f 0 1) = true → d.tblPublic (f 0 1) = true →
    f 1 1 ≤ 3 → (∀ r, r ∈ rows → d.rowLocal (f 0 1) r.2 = true ∧ r.2 < d.tblRows (f 0 1)) →
    admitShard tb (f 2 1) (BitVec.ofNat 48 (f 16 8)) ((f 4 4 * d.rowWork (f 0 1) + 63) / 64) 0 d = some (per, d') →
    tooLate tb (BitVec.ofNat 48 (f 16 8)) = false →
    gatherReqArrives pkt tb d = d'.addJob ⟨2, pktSrc pkt, pktTag pkt, f 2 1, BitVec.ofNat 48 (f 16 8), tb.number + 1,
      f 8 4, (0, 0), o, f 0 1, f 1 1, 0, rows.map (fun r => (r.1, d.localRow (f 0 1) r.2)), false, per, 0⟩ := by
  intro f rows hopen hver hplane hpublic hfmt hrows hadmit hlate
  have hany : rows.any (fun r => !d.rowLocal (f 0 1) r.2 || d.tblRows (f 0 1) ≤ r.2) = false := by
    refine List.any_eq_false.mpr fun r hr => ?_
    obtain ⟨h1, h2⟩ := hrows r hr
    simp [h1, h2]
  have hfmt' : ¬ 3 < f 1 1 := by omega
  unfold gatherReqArrives
  dsimp only
  rw [hver]
  dsimp only [Option.isSome_some]
  rw [hopen]
  dsimp only
  refine (if_neg ?_).trans ?_
  · show ¬ (!(d.tblPlane (f 0 1) && d.tblPublic (f 0 1)) || decide (3 < f 1 1)
      || rows.any (fun r => !d.rowLocal (f 0 1) r.2 || d.tblRows (f 0 1) ≤ r.2)) = true
    rw [hany, hplane, hpublic]
    simpa using hfmt'
  · rw [hadmit]
    exact if_neg (ne_true_of_eq_false hlate)

theorem gathersTaken (s : State) (pkt : List Byte) (d d' : Device) (o per : Nat) (htakes : s.takes 0x10 pkt) (hd : d = s.dev.inc R.BRX_RX_PKTS) :
    let f := fieldLe (pktPayload pkt)
    let rows := (List.range (f 4 4)).map (fun i => (f (24 + 12 * i) 4, f (28 + 12 * i) 8))
    nackFirst d true = none → d.tblVersion (f 0 1) (f 8 4) = some o → d.tblPlane (f 0 1) = true → d.tblPublic (f 0 1) = true →
    f 1 1 ≤ 3 → (∀ r, r ∈ rows → d.rowLocal (f 0 1) r.2 = true ∧ r.2 < d.tblRows (f 0 1)) →
    admitShard s.tb (f 2 1) (BitVec.ofNat 48 (f 16 8)) ((f 4 4 * d.rowWork (f 0 1) + 63) / 64) 0 d = some (per, d') →
    tooLate s.tb (BitVec.ofNat 48 (f 16 8)) = false →
    Ends (.gatherReq pkt) s (fun t => t.pending = s.pending ∧ t.tb = s.tb ∧ t.dev.mem = d'.mem ∧
      t.dev.brx.jobs.get? d'.brx.nextJob = some ⟨2, pktSrc pkt, pktTag pkt, f 2 1, BitVec.ofNat 48 (f 16 8), s.tb.number + 1,
        f 8 4, (0, 0), o, f 0 1, f 1 1, 0, rows.map (fun r => (r.1, d.localRow (f 0 1) r.2)), false, per, 0⟩) := by
  intro f rows hopen hver hplane hpublic hfmt hrows hadmit hlate
  have harr := gatherReqArrives_taken (tb := s.tb) hopen hver hplane hpublic hfmt hrows hadmit hlate
  have heff := (brxReceive_of_takes htakes (gatherReqArrives pkt)).trans ((congrArg (gatherReqArrives pkt s.tb) hd.symm).trans harr)
  refine ends_dev rfl heff fun t ht hpend htb => ⟨hpend, htb, ?_, ?_⟩
  · rw [ht, Device.flush_mem]
    rfl
  · rw [ht, Device.flush_brx]
    exact Tbl.get?_set_self ..

/-! ### A row for another module (R301) -/

theorem only_serveRow (tb : Timebase) (d : Device) (obj t l : Nat) :
    Device.Only [.brx, .store] [R.GATH_ROWS_SERVED, R.GATH_NONFINITE, R.BRX_TX_PKTS] d (d.serveRow tb obj t l) :=
  .of_regs [.store] rfl (by simp) rfl

theorem only_countRow (d : Device) (row : List Byte) :
    Device.Only [.brx, .store] [R.GATH_ROWS_SERVED, R.GATH_NONFINITE, R.BRX_TX_PKTS] d (d.countRow row) := by
  unfold Device.countRow
  split
  · exact (Device.Only.refl d).inc (by simp)
  · exact .refl d

theorem brx_countRow (d : Device) (row : List Byte) : (d.countRow row).brx = d.brx := by
  unfold Device.countRow
  split <;> rfl

/-- The device once a row is sent to the module that asked. -/
def rowSent (tb : Timebase) (job : ShardJob) (it : Nat × Nat) (pl : List Byte) (d : Device) : Device :=
  ((brxSend tb 0x11 job.origin job.tag pl (d.serveRow tb job.obj job.table it.2)).countRow (d.readRow job.obj job.table it.2)).inc
    R.GATH_ROWS_SERVED

/-- A job whose next row was sent. -/
def jobServed (job : ShardJob) (rest : List (Nat × Nat)) (n : Nat) : ShardJob :=
  { job with
    items := rest
    work := job.work + n }

theorem servedRowRead_of {j : Nat} {job : ShardJob} {it : Nat × Nat} {rest : List (Nat × Nat)} (hj : d.brx.jobs.get? j = some job)
    (hitems : job.items = it :: rest) (hrest : rest ≠ []) (hkind : job.kind = 2) (hstart : furLt tb.number job.start = false)
    (hwork : job.work + d.rowWork job.table ≤ 64 * job.units) (hopen : shardOpen tb job.deadline = true) (hst : tb.st ≠ .unlocked)
    (hfit : d.chanFits (d.rowAddr job.obj job.table it.2) (d.rowWork job.table) = true) : ∃ pl, servedRowRead j none tb d =
      { rowSent tb job it pl d with brx := { (rowSent tb job it pl d).brx with
        jobs := (rowSent tb job it pl d).brx.jobs.set j (jobServed job rest (d.rowWork job.table)) } } := by
  obtain ⟨item, l⟩ := it
  have hw : ¬ 64 * job.units < job.work + d.rowWork job.table := by omega
  unfold servedRowRead
  rw [hj]
  dsimp only
  rw [hitems]
  dsimp only
  rw [if_neg (by simp [hkind, hstart, hw, hst, hfit]), if_neg (by simp [hopen]), if_neg (by simpa using hrest)]
  exact ⟨_, rfl⟩

theorem rowsServed (s : State) (j : Nat) (job : ShardJob) (it : Nat × Nat) (rest : List (Nat × Nat)) (hj : s.dev.brx.jobs.get? j = some job)
    (hitems : job.items = it :: rest) (hrest : rest ≠ []) (hkind : job.kind = 2) (hstart : furLt s.tb.number job.start = false)
    (hwork : job.work + s.dev.rowWork job.table ≤ 64 * job.units) (hopen : shardOpen s.tb job.deadline = true) (hst : s.tb.st ≠ .unlocked)
    (hfit : s.dev.chanFits (s.dev.rowAddr job.obj job.table it.2) (s.dev.rowWork job.table) = true) :
    Ends (.gatherRowRead true j none) s (fun t =>
      s.frame [.brx, .store] [R.GATH_ROWS_SERVED, R.GATH_NONFINITE, R.BRX_TX_PKTS] t ∧
      t.dev.reg R.GATH_ROWS_SERVED = min (s.dev.reg R.GATH_ROWS_SERVED + 1) 0xFFFFFFFF ∧
      t.dev.store = (s.dev.serveRow s.tb job.obj job.table it.2).store ∧
      t.dev.brx.jobs = s.dev.brx.jobs.set j { job with items := rest, work := job.work + s.dev.rowWork job.table } ∧
      (s.dev.upPorts ≠ [] → ∃ x, t.dev.brx.sent = s.dev.brx.sent ++ [x] ∧ pktClass x.pkt = 0x11)) := by
  obtain ⟨pl, heff⟩ := servedRowRead_of hj hitems hrest hkind hstart hwork hopen hst hfit
  have hserve := only_serveRow s.tb s.dev job.obj job.table it.2
  have hsend := only_brxSend s.tb 0x11 job.origin job.tag pl (s.dev.serveRow s.tb job.obj job.table it.2)
  have hjobs := jobs_brxSend s.tb 0x11 job.origin job.tag pl (s.dev.serveRow s.tb job.obj job.table it.2)
  have hclass := fun hup => brxSend_class s.tb 0x11 job.origin job.tag pl (s.dev.serveRow s.tb job.obj job.table it.2) hup (by decide)
  unfold rowSent at heff
  generalize brxSend s.tb 0x11 job.origin job.tag pl (s.dev.serveRow s.tb job.obj job.table it.2) = e at heff hsend hjobs hclass
  have hcount := only_countRow e (s.dev.readRow job.obj job.table it.2)
  have hbrx := brx_countRow e (s.dev.readRow job.obj job.table it.2)
  have hreg : (e.countRow (s.dev.readRow job.obj job.table it.2)).reg R.GATH_ROWS_SERVED = s.dev.reg R.GATH_ROWS_SERVED := by
    have h1 : (e.countRow (s.dev.readRow job.obj job.table it.2)).reg R.GATH_ROWS_SERVED = e.reg R.GATH_ROWS_SERVED := by
      unfold Device.countRow
      split
      · exact reg_incBy_ne _ _ (by decide)
      · rfl
    exact h1.trans (hsend.regs _ (by decide) (by decide))
  have hstore : (e.countRow (s.dev.readRow job.obj job.table it.2)).store = e.store := by
    unfold Device.countRow
    split <;> rfl
  generalize e.countRow (s.dev.readRow job.obj job.table it.2) = g at heff hcount hbrx hreg hstore
  have honly := ((hserve.trans (hsend.mono (by simp) (by simp))).trans hcount).inc (k := R.GATH_ROWS_SERVED) (by simp)
  refine ends_onDev (f := fun tb d => servedRowRead j none tb d) rfl heff
    (honly.trans (.of_regs [.brx] rfl (by simp) rfl)) fun t ht hfr => ⟨hfr, ?_, ?_, ?_, fun hup => ?_⟩
  · rw [ht, reg_flush _ _ (by decide), ← hreg]
    exact reg_incBy_self g _ 1
  · rw [ht, Device.flush_store]
    exact hstore.trans (hsend.part .store (by simp))
  · rw [ht, Device.flush_brx]
    show g.brx.jobs.set j _ = _
    rw [hbrx, hjobs]
    rfl
  · obtain ⟨x, hx, hcls⟩ := hclass hup
    refine ⟨x, ?_, hcls⟩
    rw [ht, Device.flush_brx]
    show g.brx.sent = _
    rw [hbrx, hx]
    rfl

end

end Sys2Proof.Machine
end

section
/-! PROOFS of replies and later sendings (R280 to R289, R300). -/
namespace Sys2Proof.Machine

/-! ### A handoff's record of other modules -/

section
variable (d : Device) (h : Nat) (r : Remote)

theorem remote_putRemote : (d.putRemote h r).remote? h = some r := Tbl.get?_set_self ..

theorem handoff_putRemote {ho : Handoff} (hh : d.handoff? h = some ho) :
    ∃ ho', (d.putRemote h r).handoff? h = some ho' ∧ ho'.landedItems = ho.landedItems := by
  have hset : (d.setRemote h r).handoff? h = some ho := hh
  unfold Device.putRemote Device.setDetail
  refine ⟨_, (handoff_updHandoff _ h h _ hset).trans (if_pos rfl), ?_⟩
  split <;> rfl

theorem regs_putRemote : (d.putRemote h r).regs = d.regs := rfl

theorem mem_putRemote : (d.putRemote h r).mem = d.mem := rfl

end

/-- An item lands and the record is kept: what a command leaves of the handoff and of the record. -/
theorem landed_putRemote {d e : Device} {h i : Nat} {ho : Handoff} {data : List Byte} (r : Remote) (hh : d.handoff? h = some ho)
    (hcut : ho.cutoff = false) (hwork : ho.noWork = false) (hi : i < ho.itemsMax) (hnew : i ∉ ho.landedItems)
    (he : e.plots = (d.landItem h i data).plots) : (e.putRemote h r).remote? h = some r ∧
      ∃ ho', (e.putRemote h r).handoff? h = some ho' ∧ ho'.landedItems = ho.landedItems ++ [i] := by
  have hland := handoff_landItem hh hcut hwork hi hnew data
  have heh : e.handoff? h = some { ho with landedItems := ho.landedItems ++ [i] } := by
    refine Eq.trans ?_ hland
    unfold Device.handoff?
    rw [he]
  exact ⟨remote_putRemote .., handoff_putRemote e h r heh⟩

/-! ### A local row (R300) -/

section
variable {s : State}

/-- A handoff's record once its next local row was delivered. -/
def rowDone (r : Remote) (rest : List (Nat × Nat)) (n : Nat) : Remote :=
  { r with
    locals := rest
    localDone := r.localDone + 1
    work := r.work + n }

theorem localRowRead_of {tb : Timebase} {d : Device} {hid : Nat} {h : Handoff} {r : Remote} {it : Nat × Nat} {rest : List (Nat × Nat)} {v : Reservation}
    (hh : d.handoff? hid = some h) (hr : d.remote? hid = some r) (hloc : r.locals = it :: rest) (hres : h.res = some v) (hkind : r.kind = 2)
    (hstart : r.started = true) (hwork : r.work + d.rowWork r.table ≤ 64 * v.units) (hcut : h.cutoff = false)
    (hfit : d.chanFits (d.rowAddr r.obj r.table it.2) (d.rowWork r.table) = true) : ∃ data, localRowRead hid none tb d =
      ((((d.serveRow tb r.obj r.table it.2).landItem hid it.1 data).countRow (d.readRow r.obj r.table it.2)).inc R.GATH_ROWS_LOCAL).putRemote hid
        (rowDone r rest (d.rowWork r.table)) := by
  obtain ⟨item, l⟩ := it
  have hw : ¬ 64 * v.units < r.work + d.rowWork r.table := by omega
  unfold localRowRead
  rw [hh, hr]
  simp only [hloc]
  rw [hres]
  dsimp only
  rw [if_neg (by simp [hkind, hstart, hw, hcut, hfit])]
  exact ⟨_, rfl⟩

theorem localRowsRead (s : State) (hid : Nat) (h : Handoff) (r : Remote) (it : Nat × Nat) (rest : List (Nat × Nat)) (v : Reservation)
    (hh : s.dev.handoff? hid = some h) (hr : s.dev.remote? hid = some r) (hloc : r.locals = it :: rest) (hres : h.res = some v) (hkind : r.kind = 2)
    (hstart : r.started = true) (hwork : r.work + s.dev.rowWork r.table ≤ 64 * v.units) (hcut : h.cutoff = false) (hno : h.noWork = false)
    (hfit : s.dev.chanFits (s.dev.rowAddr r.obj r.table it.2) (s.dev.rowWork r.table) = true)
    (hi : it.1 < h.itemsMax) (hnew : it.1 ∉ h.landedItems) :
    Ends (.gatherRowRead false hid none) s (fun t => t.pending = s.pending ∧ t.tb = s.tb ∧
      t.dev.reg R.GATH_ROWS_LOCAL = min (s.dev.reg R.GATH_ROWS_LOCAL + 1) 0xFFFFFFFF ∧
      t.dev.remote? hid = some { r with
        locals := rest, localDone := r.localDone + 1, work := r.work + s.dev.rowWork r.table } ∧
      ∃ h', t.dev.handoff? hid = some h' ∧ h'.landedItems = h.landedItems ++ [it.1]) := by
  obtain ⟨data, heff⟩ := localRowRead_of (tb := s.tb) hh hr hloc hres hkind hstart hwork hcut hfit
  have hserved : (s.dev.serveRow s.tb r.obj r.table it.2).handoff? hid = some h := hh
  have hreg := (work_landItem (s.dev.serveRow s.tb r.obj r.table it.2) hid it.1 data).only.regs R.GATH_ROWS_LOCAL (by decide) (by decide)
  have hlanded := fun e he => landed_putRemote (e := e) (data := data) (rowDone r rest (s.dev.rowWork r.table)) hserved hcut hno hi hnew he
  generalize (s.dev.serveRow s.tb r.obj r.table it.2).landItem hid it.1 data = e at heff hreg hlanded
  have hcount : (e.countRow (s.dev.readRow r.obj r.table it.2)).plots = e.plots ∧
      (e.countRow (s.dev.readRow r.obj r.table it.2)).reg R.GATH_ROWS_LOCAL = e.reg R.GATH_ROWS_LOCAL := by
    unfold Device.countRow
    split
    · exact ⟨rfl, reg_incBy_ne _ _ (by decide)⟩
    · exact ⟨rfl, rfl⟩
  generalize e.countRow (s.dev.readRow r.obj r.table it.2) = g at heff hcount
  obtain ⟨hplots, hcreg⟩ := hcount
  obtain ⟨hrem, ho', hho', hitems⟩ := hlanded (g.inc R.GATH_ROWS_LOCAL) hplots
  refine ends_dev (f := fun tb d => localRowRead hid none tb d) rfl heff fun t ht hpend htb => ⟨hpend, htb, ?_, ?_, ho', ?_, hitems⟩
  · rw [ht, reg_flush _ _ (by decide)]
    refine (reg_incBy_self g R.GATH_ROWS_LOCAL 1).trans ?_
    rw [hcreg, hreg]
    rfl
  · refine Eq.trans ?_ hrem
    unfold Device.remote?
    rw [ht, Device.flush_brx]
  · refine Eq.trans ?_ hho'
    unfold Device.handoff?
    rw [ht, Device.flush_plots]

/-! ### Replies (R283, R286, R287, R300) -/

section
variable {pkt : List Byte} {h : Handoff} {r : Remote} {u : RemoteUnit} {d : Device} {tb : Timebase}

theorem askedUnit_some (hu : askedUnit d pkt = some (h, r, u)) : d.handoff? (pktTag pkt) = some h ∧ d.remote? (pktTag pkt) = some r := by
  unfold askedUnit at hu
  split at hu
  · next ho re hho hre =>
    obtain ⟨x, -, hx⟩ := Option.map_eq_some_iff.mp hu
    obtain ⟨rfl, rfl, -⟩ : ho = h ∧ re = r ∧ x = u := by simpa using hx
    exact ⟨hho, hre⟩
  · cases hu

theorem replyUnit_some (hu : replyUnit d pkt = some (h, r, u)) : d.discards pkt = false ∧ askedUnit d pkt = some (h, r, u) := by
  unfold replyUnit at hu
  split at hu
  · cases hu
  · next hd => exact ⟨by simpa using hd, hu⟩

/-- The reply that came, as the record notes it. -/
def cameOf (tb : Timebase) (pkt : List Byte) (item : Nat) (harvested : Bool) (flags : List (Nat × Nat)) (d : Device) : Came :=
  ⟨item, tb.number, tb.offset, planeOf (pktSrc pkt), planeOf (pktSrc pkt) == d.primaryPlane (indexOf (pktSrc pkt)), harvested, flags⟩

/-- A unit that a reply was used of. -/
def unitUsed (item : Nat) (c : Came) (u : RemoteUnit) : RemoteUnit :=
  { u with
    replied := true
    got := u.got ++ [item]
    came := c :: u.came }

theorem takeReply_lands {item : Nat} (data : List Byte) (harvested : Bool) (flags : List (Nat × Nat)) (hy : u.yields tb pkt item = false) :
    takeReply tb pkt h item data harvested flags d u =
      (d.landItem h.id item data, unitUsed item (cameOf tb pkt item harvested flags d) u) := by
  unfold takeReply
  dsimp only
  rw [if_neg (ne_true_of_eq_false hy)]
  rfl

/-- What a reply that lands an item does: `e` is the device before the record is kept. -/
theorem replyLands {c : Instr} {f : Timebase → Device → Device} {e : Device} {i : Nat} {data : List Byte} {r' : Remote}
    (hc : exec c s = .next (s.onDev f)) (hf : f s.tb s.dev = e.putRemote h.id r') (hu : replyUnit (s.dev.inc R.BRX_RX_PKTS) pkt = some (h, r, u))
    (htag : h.id = pktTag pkt) (hcut : h.cutoff = false) (hwork : h.noWork = false) (hi : i < h.itemsMax) (hnew : i ∉ h.landedItems)
    (he : e.plots = ((s.dev.inc R.BRX_RX_PKTS).landItem h.id i data).plots) :
    Ends c s (fun t => t.pending = s.pending ∧ t.tb = s.tb ∧ (∀ k, k ∉ eventRegs → t.dev.reg k = e.reg k) ∧
      (∃ h', t.dev.handoff? h.id = some h' ∧ h'.landedItems = h.landedItems ++ [i]) ∧ t.dev.remote? h.id = some r') := by
  obtain ⟨hh, -⟩ := askedUnit_some (replyUnit_some hu).2
  rw [← htag] at hh
  obtain ⟨hrem, ho', hho', hitems⟩ := landed_putRemote r' hh hcut hwork hi hnew he
  refine ends_dev hc hf fun t ht hpend htb => ⟨hpend, htb, fun k hk => ?_, ⟨ho', ?_, hitems⟩, ?_⟩
  · rw [ht, reg_flush _ _ hk]
    rfl
  · refine Eq.trans ?_ hho'
    unfold Device.handoff?
    rw [ht, Device.flush_plots]
  · refine Eq.trans ?_ hrem
    unfold Device.remote?
    rw [ht, Device.flush_brx]

/-- A RESULT that is used. -/
theorem resultArrives_used (hu : replyUnit d pkt = some (h, r, u)) (hcut : h.cutoff = false) (hkind : r.kind = 0)
    (hy : u.yields tb pkt u.idx = false) (hidx : fieldLe (pktPayload pkt) 4 2 = u.idx) (hrep : u.replied = false) :
    ∃ data harvested flags, resultArrives pkt tb d =
      (d.landItem h.id u.idx data).putRemote h.id (r.setUnit (unitUsed u.idx (cameOf tb pkt u.idx harvested flags d) u)) := by
  unfold resultArrives
  rw [hu]
  dsimp only
  rw [if_neg (by simp [hkind, hidx]), if_neg (by simp [hcut])]
  unfold Device.hedged
  rw [hrep, if_neg (by simp)]
  simp only [Bool.false_eq_true, if_false]
  rw [takeReply_lands _ _ _ hy]
  exact ⟨_, _, _, rfl⟩

/-- A TEXT_DATA that is used. -/
theorem textDataArrives_used {it : Nat} (hu : replyUnit d pkt = some (h, r, u)) (hcut : h.cutoff = false) (hkind : r.kind = 1)
    (hit : it = fieldLe (pktPayload pkt) 0 4) (hall : it ≠ 0xFFFFFFFF) (hmine : ∃ x, x ∈ u.items ∧ x.1 = it)
    (hy : u.yields tb pkt it = false) (hgot : it ∉ u.got) : ∃ data harvested flags, textDataArrives pkt tb d =
      (d.landItem h.id it data).putRemote h.id (r.setUnit (unitUsed it (cameOf tb pkt it harvested flags d) u)) := by
  have hany : u.items.any (fun x => x.1 == it) = true := by
    obtain ⟨x, hx, hxi⟩ := hmine
    exact List.any_eq_true.mpr ⟨x, hx, by simp [hxi]⟩
  have hc : u.got.contains it = false := by simpa using hgot
  unfold textDataArrives
  dsimp only
  rw [← hit, hu]
  dsimp only
  rw [if_neg (by simp [hkind]), if_neg (by simpa using hall), if_neg (by simp [hcut]), if_neg (by rw [hany]; decide), hc]
  unfold Device.hedged
  rw [if_neg (by simp)]
  simp only [Bool.false_eq_true, if_false]
  rw [takeReply_lands _ _ _ hy]
  exact ⟨_, _, _, rfl⟩

/-- A GATHER_DATA of one row that is used. -/
theorem gatherDataArrives_used {it : Nat} (hu : replyUnit d pkt = some (h, r, u)) (hcut : h.cutoff = false) (hkind : r.kind = 2)
    (hone : fieldLe (pktPayload pkt) 0 4 = 1) (hit : it = fieldLe (pktPayload pkt) 8 4) (hmine : ∃ x, x ∈ u.items ∧ x.1 = it)
    (hy : u.yields tb pkt it = false) (hgot : it ∉ u.got) : ∃ data harvested flags, gatherDataArrives pkt tb d =
      ((d.landItem h.id it data).incBy R.GATH_ROWS_REMOTE 1).putRemote h.id
        (r.setUnit (unitUsed it (cameOf tb pkt it harvested flags d) u)) := by
  have hany : u.items.any (fun x => x.1 == it) = true := by
    obtain ⟨x, hx, hxi⟩ := hmine
    exact List.any_eq_true.mpr ⟨x, hx, by simp [hxi]⟩
  have hc : u.got.contains it = false := by simpa using hgot
  have hlen (c : Came) : (unitUsed it c u).got.length - u.got.length = 1 := by simp [unitUsed]
  unfold gatherDataArrives
  dsimp only
  rw [hu]
  dsimp only
  rw [if_neg (by simp [hkind]), hone]
  simp only [List.range_one, List.map_cons, List.map_nil, Nat.mul_zero, Nat.add_zero, ← hit, List.filter_cons, List.filter_nil, hany, hc,
    if_true, Bool.not_false, Bool.true_or, List.isEmpty_cons, List.any_cons, List.any_nil, Bool.or_self, List.foldl_cons, List.foldl_nil,
    takeReply_lands _ _ _ hy, hlen]
  rw [if_neg (by simp [hcut])]
  unfold Device.hedged
  rw [if_neg (by simp)]
  exact ⟨_, _, _, rfl⟩

/-! ### Replies that are discarded, and NACKs (R283) -/

theorem regs_relandItem (k i : Nat) (data : List Byte) (d : Device) : (d.relandItem k i data).regs = d.regs := by
  unfold Device.relandItem
  split
  · rfl
  · split
    · rfl
    · rw [bgWrite_eq]

/-- The record once a reply was discarded. -/
def discardNoted (r : Remote) : Remote := r.count 0 1

/-- The unit once a reply took the place of the other plane's. -/
def unitReplaced (c : Came) (u : RemoteUnit) : RemoteUnit := { u with came := c :: u.came.filter (fun x => x.item != u.idx) }

theorem takeReply_replaces (data : List Byte) (harvested : Bool) (flags : List (Nat × Nat)) (hy : u.yields tb pkt u.idx = true) :
    takeReply tb pkt h u.idx data harvested flags d u =
      (d.relandItem h.id u.idx data, unitReplaced (cameOf tb pkt u.idx harvested flags d) u) := by
  unfold takeReply
  dsimp only
  rw [if_pos hy]
  rfl

/-- A RESULT for an item that had one. -/
theorem resultArrives_again (hu : replyUnit d pkt = some (h, r, u)) (hcut : h.cutoff = false) (hkind : r.kind = 0)
    (hidx : fieldLe (pktPayload pkt) 4 2 = u.idx) (hrep : u.replied = true) :
    (u.yields tb pkt u.idx = false → resultArrives pkt tb d = (d.inc R.BRX_HEDGE_DISCARDS).putRemote h.id (discardNoted r)) ∧
    (u.yields tb pkt u.idx = true → ∃ data harvested flags, resultArrives pkt tb d =
      ((d.inc R.BRX_HEDGE_DISCARDS).relandItem h.id u.idx data).putRemote h.id ((discardNoted r).setUnit
        (unitReplaced (cameOf tb pkt u.idx harvested flags (d.inc R.BRX_HEDGE_DISCARDS)) u))) := by
  constructor
  · intro hy
    unfold resultArrives
    rw [hu]
    dsimp only
    rw [if_neg (by simp [hkind, hidx]), if_neg (by simp [hcut]), hy, hrep]
    rfl
  · intro hy
    unfold resultArrives
    rw [hu]
    dsimp only
    rw [if_neg (by simp [hkind, hidx]), if_neg (by simp [hcut]), hy, hrep]
    unfold Device.hedged
    rw [if_pos rfl]
    simp only [Bool.not_true, Bool.and_false, Bool.false_eq_true, if_false]
    rw [takeReply_replaces _ _ _ hy]
    exact ⟨_, _, _, rfl⟩

theorem repliesAgain (htakes : s.takes 5 pkt) (hu : replyUnit (s.dev.inc R.BRX_RX_PKTS) pkt = some (h, r, u)) (hcut : h.cutoff = false)
    (hkind : r.kind = 0) (hidx : fieldLe (pktPayload pkt) 4 2 = u.idx) (hrep : u.replied = true) :
    Ends (.result pkt) s (fun t => t.pending = s.pending ∧ t.tb = s.tb ∧
        t.dev.reg R.BRX_HEDGE_DISCARDS = min (s.dev.reg R.BRX_HEDGE_DISCARDS + 1) 0xFFFFFFFF ∧
        (u.yields s.tb pkt u.idx = false → t.dev.mem = s.dev.mem) ∧
        ∃ r', t.dev.remote? h.id = some r' ∧ ∀ u', u' ∈ r'.units → u'.idx = u.idx →
          (u.yields s.tb pkt u.idx = false → u' ∈ r.units) ∧
          (u.yields s.tb pkt u.idx = true → ∀ c, c ∈ u'.came → c.item = u.idx → c.plane = planeOf (pktSrc pkt))) := by
  obtain ⟨hno, hyes⟩ := resultArrives_again (tb := s.tb) hu hcut hkind hidx hrep
  have hrx : (s.dev.inc R.BRX_RX_PKTS).reg R.BRX_HEDGE_DISCARDS = s.dev.reg R.BRX_HEDGE_DISCARDS := reg_incBy_ne _ _ (by decide)
  have hreg {e : Device} (he : e.regs = ((s.dev.inc R.BRX_RX_PKTS).inc R.BRX_HEDGE_DISCARDS).regs) :
      e.reg R.BRX_HEDGE_DISCARDS = min (s.dev.reg R.BRX_HEDGE_DISCARDS + 1) 0xFFFFFFFF := by
    rw [← hrx]
    unfold Device.reg at *
    rw [he]
    exact reg_incBy_self (s.dev.inc R.BRX_RX_PKTS) R.BRX_HEDGE_DISCARDS 1
  cases hy : u.yields s.tb pkt u.idx with
  | false =>
    refine ends_dev rfl ((brxReceive_of_takes htakes (resultArrives pkt)).trans (hno hy)) fun t ht hpend htb =>
      ⟨hpend, htb, ?_, fun _ => ?_, discardNoted r, ?_, fun u' hu' hx => ⟨fun _ => hu', nofun⟩⟩
    · rw [ht, reg_flush _ _ (by decide)]
      exact hreg rfl
    · rw [ht, Device.flush_mem]
      rfl
    · unfold Device.remote?
      rw [ht, Device.flush_brx]
      exact Tbl.get?_set_self ..
  | true =>
    obtain ⟨data, harvested, flags, heff⟩ := hyes hy
    have hre := regs_relandItem h.id u.idx data ((s.dev.inc R.BRX_RX_PKTS).inc R.BRX_HEDGE_DISCARDS)
    have hplane : (cameOf s.tb pkt u.idx harvested flags ((s.dev.inc R.BRX_RX_PKTS).inc R.BRX_HEDGE_DISCARDS)).plane = planeOf (pktSrc pkt) := rfl
    generalize cameOf s.tb pkt u.idx harvested flags ((s.dev.inc R.BRX_RX_PKTS).inc R.BRX_HEDGE_DISCARDS) = c at heff hplane
    generalize ((s.dev.inc R.BRX_RX_PKTS).inc R.BRX_HEDGE_DISCARDS).relandItem h.id u.idx data = e at heff hre
    refine ends_dev rfl ((brxReceive_of_takes htakes (resultArrives pkt)).trans heff) fun t ht hpend htb =>
      ⟨hpend, htb, ?_, nofun, (discardNoted r).setUnit (unitReplaced c u), ?_, fun u' hu' hx => ⟨nofun, fun _ c' hc' hitem => ?_⟩⟩
    · rw [ht, reg_flush _ _ (by decide)]
      exact hreg hre
    · unfold Device.remote?
      rw [ht, Device.flush_brx]
      exact Tbl.get?_set_self ..
    · obtain ⟨x, -, rfl⟩ := List.mem_map.mp hu'
      by_cases hxi : (x.idx == u.idx) = true
      · rw [if_pos (show (x.idx == (unitReplaced c u).idx) = true from hxi)] at hc'
        rcases List.mem_cons.mp hc' with rfl | hold
        · exact hplane
        · exact absurd hitem (by simpa using (List.mem_filter.mp hold).2)
      · rw [if_neg (show ¬ (x.idx == (unitReplaced c u).idx) = true from hxi)] at hx
        exact absurd (beq_iff_eq.mpr hx) hxi

/-- A NACK is noted of its unit; a request of class 0 has no later sending. -/
theorem nackArrives_noted (hu : replyUnit d pkt = some (h, r, u)) (hcut : h.cutoff = false) (hcls : r.cls = 0) (hkind : r.kind ≠ 2) :
    nackArrives pkt tb d = (d.inc R.BRX_NACKS_RECV).putRemote h.id
      ((r.setUnit { u with nacks := u.nacks ++ [fieldLe (pktPayload pkt) 0 1] }).count 1 1) := by
  obtain ⟨hdis, hasked⟩ := replyUnit_some hu
  have habort : (d.inc R.BRX_NACKS_RECV).power.funcAbort.contains 18 = false := (Bool.or_eq_false_iff.mp hdis).2
  have hasked' : askedUnit (d.inc R.BRX_NACKS_RECV) pkt = some (h, r, u) := hasked
  unfold nackArrives
  dsimp only
  rw [if_neg (ne_true_of_eq_false habort), hasked']
  dsimp only
  have hk : (r.kind == 2) = false := by simpa using hkind
  simp only [hk, hcut, Bool.false_eq_true, if_false]
  rw [if_pos (by simp [Remote.setUnit, Remote.count, hcls])]

theorem nacksNoted (htakes : s.takes 8 pkt) (hu : replyUnit (s.dev.inc R.BRX_RX_PKTS) pkt = some (h, r, u)) (hcut : h.cutoff = false)
    (hcls : r.cls = 0) (hkind : r.kind ≠ 2) :
    Ends (.nack pkt) s (fun t => t.pending = s.pending ∧ t.tb = s.tb ∧ s.regsBut [R.BRX_RX_PKTS, R.BRX_NACKS_RECV] t ∧
        t.dev.reg R.BRX_NACKS_RECV = min (s.dev.reg R.BRX_NACKS_RECV + 1) 0xFFFFFFFF ∧ t.dev.mem = s.dev.mem ∧
        ∃ r', t.dev.remote? h.id = some r' ∧
          r'.units = (r.setUnit { u with nacks := u.nacks ++ [fieldLe (pktPayload pkt) 0 1] }).units) := by
  have honly : Device.Only [.brx, .plots] [R.BRX_RX_PKTS, R.BRX_NACKS_RECV] s.dev ((s.dev.inc R.BRX_RX_PKTS).inc R.BRX_NACKS_RECV) :=
    ((Device.Only.refl _).inc (by simp)).inc (by simp)
  have heff := (brxReceive_of_takes htakes (nackArrives pkt)).trans (nackArrives_noted hu hcut hcls hkind)
  refine ends_onDev rfl heff (honly.trans (.of_regs [.brx, .plots] rfl (by simp) rfl)) fun t ht hfr => ?_
  obtain ⟨htb, hpend, hregs, hparts⟩ := hfr
  refine ⟨hpend, htb, hregs, ?_, hparts .mem (by simp) (by simp) (by simp),
    (r.setUnit { u with nacks := u.nacks ++ [fieldLe (pktPayload pkt) 0 1] }).count 1 1, ?_, rfl⟩
  · rw [ht, reg_flush _ _ (by decide)]
    refine (reg_incBy_self (s.dev.inc R.BRX_RX_PKTS) R.BRX_NACKS_RECV 1).trans ?_
    rw [Device.inc, reg_incBy_ne _ _ (by decide)]
  · unfold Device.remote?
    rw [ht, Device.flush_brx]
    exact Tbl.get?_set_self ..

/-- Replies that are used, discarded or NACKs, as the handoff and the record stand. -/
theorem repliesArrive (s : State) (pkt : List Byte) (h : Handoff) (r : Remote) (u : RemoteUnit)
    (hu : replyUnit (s.dev.inc R.BRX_RX_PKTS) pkt = some (h, r, u)) (htag : h.id = pktTag pkt) (hcut : h.cutoff = false) :
    (s.takes 5 pkt → r.kind = 0 → u.yields s.tb pkt u.idx = false → fieldLe (pktPayload pkt) 4 2 = u.idx → u.replied = false → h.noWork = false →
      u.idx < h.itemsMax → u.idx ∉ h.landedItems →
      Ends (.result pkt) s (fun t => t.pending = s.pending ∧ t.tb = s.tb ∧
        (∃ h', t.dev.handoff? h.id = some h' ∧ h'.landedItems = h.landedItems ++ [u.idx]) ∧
        ∃ r' c, t.dev.remote? h.id = some r' ∧ c.item = u.idx ∧ c.plane = planeOf (pktSrc pkt) ∧ c.clk = s.tb.offset ∧
          r'.units = (r.setUnit { u with replied := true, got := u.got ++ [u.idx], came := c :: u.came }).units)) ∧
    (s.takes 7 pkt → r.kind = 1 → ∀ it, it = fieldLe (pktPayload pkt) 0 4 → it ≠ 0xFFFFFFFF → (∃ x, x ∈ u.items ∧ x.1 = it) →
      u.yields s.tb pkt it = false → it ∉ u.got → h.noWork = false → it < h.itemsMax → it ∉ h.landedItems →
      Ends (.textData pkt) s (fun t => t.pending = s.pending ∧ t.tb = s.tb ∧
        (∃ h', t.dev.handoff? h.id = some h' ∧ h'.landedItems = h.landedItems ++ [it]) ∧
        ∃ r' c, t.dev.remote? h.id = some r' ∧ c.item = it ∧ c.plane = planeOf (pktSrc pkt) ∧ c.clk = s.tb.offset ∧
          r'.units = (r.setUnit { u with replied := true, got := u.got ++ [it], came := c :: u.came }).units)) ∧
    (s.takes 0x11 pkt → r.kind = 2 → fieldLe (pktPayload pkt) 0 4 = 1 → ∀ it, it = fieldLe (pktPayload pkt) 8 4 →
      (∃ x, x ∈ u.items ∧ x.1 = it) → u.yields s.tb pkt it = false → it ∉ u.got → h.noWork = false → it < h.itemsMax → it ∉ h.landedItems →
      Ends (.gatherData pkt) s (fun t => t.pending = s.pending ∧ t.tb = s.tb ∧
        t.dev.reg R.GATH_ROWS_REMOTE = min (s.dev.reg R.GATH_ROWS_REMOTE + 1) 0xFFFFFFFF ∧
        (∃ h', t.dev.handoff? h.id = some h' ∧ h'.landedItems = h.landedItems ++ [it]) ∧
        ∃ r' c, t.dev.remote? h.id = some r' ∧ c.item = it ∧ c.plane = planeOf (pktSrc pkt) ∧ c.clk = s.tb.offset ∧
          r'.units = (r.setUnit { u with replied := true, got := u.got ++ [it], came := c :: u.came }).units)) ∧
    (s.takes 5 pkt → r.kind = 0 → fieldLe (pktPayload pkt) 4 2 = u.idx → u.replied = true →
      Ends (.result pkt) s (fun t => t.pending = s.pending ∧ t.tb = s.tb ∧
        t.dev.reg R.BRX_HEDGE_DISCARDS = min (s.dev.reg R.BRX_HEDGE_DISCARDS + 1) 0xFFFFFFFF ∧
        (u.yields s.tb pkt u.idx = false → t.dev.mem = s.dev.mem) ∧
        ∃ r', t.dev.remote? h.id = some r' ∧ ∀ u', u' ∈ r'.units → u'.idx = u.idx →
          (u.yields s.tb pkt u.idx = false → u' ∈ r.units) ∧
          (u.yields s.tb pkt u.idx = true → ∀ c, c ∈ u'.came → c.item = u.idx → c.plane = planeOf (pktSrc pkt)))) ∧
    (s.takes 8 pkt → r.cls = 0 → r.kind ≠ 2 →
      Ends (.nack pkt) s (fun t => t.pending = s.pending ∧ t.tb = s.tb ∧ s.regsBut [R.BRX_RX_PKTS, R.BRX_NACKS_RECV] t ∧
        t.dev.reg R.BRX_NACKS_RECV = min (s.dev.reg R.BRX_NACKS_RECV + 1) 0xFFFFFFFF ∧ t.dev.mem = s.dev.mem ∧
        ∃ r', t.dev.remote? h.id = some r' ∧
          r'.units = (r.setUnit { u with nacks := u.nacks ++ [fieldLe (pktPayload pkt) 0 1] }).units)) := by
  refine ⟨fun htakes hkind hy hidx hrep hwork hi hnew => ?_, fun htakes hkind it hit hall hmine hy hgot hwork hi hnew => ?_,
    fun htakes hkind hone it hit hmine hy hgot hwork hi hnew => ?_, fun htakes hkind hidx hrep => repliesAgain htakes hu hcut hkind hidx hrep,
    fun htakes hcls hkind => nacksNoted htakes hu hcut hcls hkind⟩
  · obtain ⟨data, harvested, flags, harr⟩ := resultArrives_used (tb := s.tb) hu hcut hkind hy hidx hrep
    refine (replyLands rfl ((brxReceive_of_takes htakes (resultArrives pkt)).trans harr) hu htag hcut hwork hi hnew rfl).imp fun t ht => ?_
    obtain ⟨hpend, htb, -, hland, hrem⟩ := ht
    exact ⟨hpend, htb, hland, _, cameOf s.tb pkt u.idx harvested flags (s.dev.inc R.BRX_RX_PKTS), hrem, rfl, rfl, rfl, rfl⟩
  · obtain ⟨data, harvested, flags, harr⟩ := textDataArrives_used (tb := s.tb) hu hcut hkind hit hall hmine hy hgot
    refine (replyLands rfl ((brxReceive_of_takes htakes (textDataArrives pkt)).trans harr) hu htag hcut hwork hi hnew rfl).imp fun t ht => ?_
    obtain ⟨hpend, htb, -, hland, hrem⟩ := ht
    exact ⟨hpend, htb, hland, _, cameOf s.tb pkt it harvested flags (s.dev.inc R.BRX_RX_PKTS), hrem, rfl, rfl, rfl, rfl⟩
  · obtain ⟨data, harvested, flags, harr⟩ := gatherDataArrives_used (tb := s.tb) hu hcut hkind hone hit hmine hy hgot
    refine (replyLands rfl ((brxReceive_of_takes htakes (gatherDataArrives pkt)).trans harr) hu htag hcut hwork hi hnew rfl).imp fun t ht => ?_
    obtain ⟨hpend, htb, hregs, hland, hrem⟩ := ht
    refine ⟨hpend, htb, ?_, hland, _, cameOf s.tb pkt it harvested flags (s.dev.inc R.BRX_RX_PKTS), hrem, rfl, rfl, rfl, rfl⟩
    rw [hregs _ (by decide), reg_incBy_self,
      (work_landItem (s.dev.inc R.BRX_RX_PKTS) h.id it data).only.regs R.GATH_ROWS_REMOTE (by decide) (by decide),
      Device.inc, reg_incBy_ne _ _ (by decide)]

/-! ### The later sending (R283) -/

/-- What a sending to other modules changes. -/
theorem only_sendAsk (tb : Timebase) (h : Handoff) (r : Remote) (plane : Nat) (us : List RemoteUnit) (d : Device) :
    Device.Only [.brx, .plots] [R.BRX_FALLBACKS, R.BRX_TX_PKTS] d (sendAsk tb h r plane us d) := by
  have hsend (cls dst tag : Nat) (pl : List Byte) (e : Device) :
      Device.Only [.brx, .plots] [R.BRX_FALLBACKS, R.BRX_TX_PKTS] e (brxSend tb cls dst tag pl e) :=
    (only_brxSend ..).mono (by simp) (by simp)
  unfold sendAsk
  split
  · exact .refl d
  · split
    · exact hsend ..
    · refine .foldl (fun e u => ?_) _ (.refl d)
      dsimp only
      refine .foldl (fun e part => ?_) _ (.refl e)
      split
      · exact hsend ..
      · exact hsend ..

/-- The other plane of a unit that is wanted and was asked in one. -/
def otherPlane (d : Device) (want : RemoteUnit → Bool) (u : RemoteUnit) : Option Nat :=
  match u.planes with
  | [p] => if want u && !d.isExcluded (identityOf (1 - p) u.idx) then some (1 - p) else none
  | _ => none

theorem otherPlane_some {want : RemoteUnit → Bool} {q : Nat} (hq : otherPlane d want u = some q) :
    ∃ p, u.planes = [p] ∧ q = 1 - p ∧ want u = true := by
  unfold otherPlane at hq
  split at hq
  · next p hp =>
    split at hq
    · next hw => exact ⟨p, hp, (Option.some.inj hq).symm, (Bool.and_eq_true_iff.mp hw).1⟩
    · cases hq
  · cases hq

/-- A unit once it was asked in the other plane, where it was. -/
def askedAgain (d : Device) (want : RemoteUnit → Bool) (u : RemoteUnit) : RemoteUnit :=
  match otherPlane d want u with
  | some p => { u with planes := u.planes ++ [p] }
  | none => u

/-- What a later sending changes: the units that are asked, and two counters. -/
theorem laterSending_spec (tb : Timebase) (h : Handoff) (r : Remote) (want : RemoteUnit → Bool) (d : Device) :
    Device.Only [.brx, .plots] [R.BRX_FALLBACKS, R.BRX_TX_PKTS] d (laterSending tb h r want d).1 ∧
    (laterSending tb h r want d).2.fell = r.fell ∧
    ((laterSending tb h r want d).2.units = r.units ∨ (laterSending tb h r want d).2.units = r.units.map (askedAgain d want)) := by
  unfold laterSending
  dsimp only
  split
  · exact ⟨.refl d, rfl, .inl rfl⟩
  · refine ⟨Device.Only.incBy ?_ _ (by simp), rfl, .inr rfl⟩
    exact (only_sendAsk ..).trans (only_sendAsk ..)

theorem fallbackSending_of {hid : Nat} (hh : d.handoff? hid = some h) (hr : d.remote? hid = some r) (hcls : r.cls ≠ 0) (hfb : r.fallback ≠ 0)
    (hfell : r.fell = false) (hstart : r.started = true) (hnum : tb.number = furAdd h.issue r.fallback) (hst : tb.st ≠ .unlocked)
    (hfen : d.selfFenced = false) : fallbackSending hid tb d =
      (laterSending tb h { r with fell := true } (fun u => !u.replied && u.nacks.isEmpty) d).1.putRemote hid
        (laterSending tb h { r with fell := true } (fun u => !u.replied && u.nacks.isEmpty) d).2 := by
  unfold fallbackSending
  rw [hh, hr]
  dsimp only
  rw [if_neg (by simp [hcls, hfb, hfell, hstart, hnum, hst, hfen])]

theorem fallbacksSent (s : State) (hid : Nat) (h : Handoff) (r : Remote) (hh : s.dev.handoff? hid = some h) (hr : s.dev.remote? hid = some r)
    (hcls : r.cls ≠ 0) (hfb : r.fallback ≠ 0) (hfell : r.fell = false) (hstart : r.started = true)
    (hnum : s.tb.number = furAdd h.issue r.fallback) (hst : s.tb.st ≠ .unlocked) (hfen : s.dev.selfFenced = false) :
    Ends (.fallbackSending hid) s (fun t => t.pending = s.pending ∧ t.tb = s.tb ∧ t.dev.mem = s.dev.mem ∧
      s.regsBut [R.BRX_FALLBACKS, R.BRX_TX_PKTS] t ∧
      ∃ r', t.dev.remote? hid = some r' ∧ r'.fell = true ∧ ∀ u', u' ∈ r'.units → ∃ u, u ∈ r.units ∧ u'.idx = u.idx ∧
        (u' = u ∨ ∃ p, u.planes = [p] ∧ u'.planes = [p, 1 - p] ∧ u.replied = false ∧ u.nacks = [])) := by
  have heff := fallbackSending_of hh hr hcls hfb hfell hstart hnum hst hfen
  obtain ⟨honly, hf, hunits⟩ := laterSending_spec s.tb h { r with fell := true } (fun u => !u.replied && u.nacks.isEmpty) s.dev
  generalize laterSending s.tb h { r with fell := true } (fun u => !u.replied && u.nacks.isEmpty) s.dev = w at heff honly hf hunits
  refine ends_onDev rfl heff (honly.trans (.of_regs [.brx, .plots] rfl (by simp) rfl)) fun t ht hfr => ?_
  obtain ⟨htb, hpend, hregs, hparts⟩ := hfr
  refine ⟨hpend, htb, hparts .mem (by simp) (by simp) (by simp), hregs, w.2, ?_, hf, fun u' hu' => ?_⟩
  · unfold Device.remote?
    rw [ht, Device.flush_brx]
    exact Tbl.get?_set_self ..
  · rcases hunits with hunits | hunits
    · exact ⟨u', hunits ▸ hu', rfl, .inl rfl⟩
    · rw [hunits] at hu'
      obtain ⟨u, hu, rfl⟩ := List.mem_map.mp hu'
      refine ⟨u, hu, ?_, ?_⟩
      · unfold askedAgain
        split <;> rfl
      · unfold askedAgain
        split
        · next q hq =>
          obtain ⟨p, hp, hqp, hwant⟩ := otherPlane_some hq
          simp only [Bool.and_eq_true, Bool.not_eq_true', List.isEmpty_iff] at hwant
          exact .inr ⟨p, hp, by rw [hp, hqp]; rfl, hwant.1, hwant.2⟩
        · exact .inl rfl

end

end

/-- Settles O49: requests of other modules are refused or taken, replies land once, a NACK is noted, and the later sending asks
each unit once more. -/
theorem fabricAndGatherWork : Obligations.FabricAndGatherWork :=
  ⟨requestsRefused, queriesTaken, textsTaken, gathersTaken, rowsServed, localRowsRead, repliesArrive, fallbacksSent⟩

end Sys2Proof.Machine
end

section
/-! PROOFS of the accesses of the host (R377, R439 to R443). -/
namespace Sys2Proof.Machine

/-! ### The form of an access -/

section
variable {s : State} {P : State → Prop} {e : Device} {a : Nat} {data : List Byte}

/-- R439: an access while the link is DOWN is lost. -/
theorem hwrs_lost (h : s.dev.linkUp = false) : Ends (.hwr a data) s (fun t => t = s) := fun hl =>
  ⟨s, congrArg Host.Outcome.next ((s.live_of _ hl).trans (if_neg (by simp [h]))), rfl⟩

theorem hrds_lost (tag n : Nat) (err : Bool) (h : s.dev.linkUp = false) : Ends (.hrd tag a n err) s (fun t => t = s) := fun hl =>
  ⟨s, congrArg Host.Outcome.next ((s.live_of _ hl).trans (if_neg (by simp [h]))), rfl⟩

/-- A write of the host whose effect is on the device. -/
theorem exec_hwr (hl : s.dev.power.porst = true) (hlink : s.dev.linkUp = true) (hw : hostWrite a data s = { s with dev := e }) :
    exec (.hwr a data) s = .next { s with dev := e.flush s.tb } := by
  refine congrArg Host.Outcome.next ((s.live_of _ hl).trans ((if_pos hlink).trans ?_))
  rw [hw]
  rfl

theorem ends_hwr (hlink : s.dev.linkUp = true) (hw : hostWrite a data s = { s with dev := e })
    (h : ∀ t : State, t.dev = e.flush s.tb → t.pending = s.pending → t.tb = s.tb → P t) : Ends (.hwr a data) s P := by
  exact fun hl => ⟨_, exec_hwr hl hlink hw, h _ rfl rfl rfl⟩

/-- A read of the host. -/
theorem ends_hrd {tag n : Nat} {err : Bool} (hlink : s.dev.linkUp = true) (hw : hostRead tag a n err s = { s with dev := e })
    (h : ∀ t : State, t.dev = e.flush s.tb → t.pending = s.pending → t.tb = s.tb → P t) : Ends (.hrd tag a n err) s P := by
  intro hl
  refine ⟨{ s with dev := e.flush s.tb }, congrArg Host.Outcome.next ((s.live_of _ hl).trans ((if_pos hlink).trans ?_)), h _ rfl rfl rfl⟩
  rw [hw]
  rfl

/-- The frame of an effect on the device. -/
theorem frame_of_only {ps : List DevPart} {ks : List Nat} {t : State} (h : Device.Only ps ks s.dev e) (ht : t.dev = e.flush s.tb)
    (hpend : t.pending = s.pending) (htb : t.tb = s.tb) : s.frame ps ks t := by
  have hf := h.flush s.tb
  rw [← ht] at hf
  exact ⟨htb, hpend, hf.regs, hf.parts⟩

/-- R441: a refused access. -/
theorem only_accessRefused (ps : List DevPart) (type a : Nat) (d : Device) :
    Device.Only ps [R.HOST_REFUSED, R.HOST_LAST_REFUSED_LO, R.HOST_LAST_REFUSED_LO + 4] d (accessRefused type a d) := by
  unfold accessRefused Device.setReg64
  exact ((((Device.Only.refl d).inc (by simp)).setReg _ (by simp)).setReg _ (by simp)).raise _ _

theorem reg_accessRefused (type a : Nat) (d : Device) :
    (accessRefused type a d).reg R.HOST_REFUSED = min (d.reg R.HOST_REFUSED + 1) 0xFFFFFFFF := by
  have h : (((d.inc R.HOST_REFUSED).setReg R.HOST_LAST_REFUSED_LO (a % 2 ^ 44)).setReg (R.HOST_LAST_REFUSED_LO + 4) (a % 2 ^ 44 / 2 ^ 32)).reg
      R.HOST_REFUSED = min (d.reg R.HOST_REFUSED + 1) 0xFFFFFFFF := by
    rw [reg_setReg_ne _ _ (by decide), reg_setReg_ne _ _ (by decide)]
    exact reg_incBy_self d _ 1
  exact h

/-- A 64-bit value that fits reads back. -/
theorem reg64_setReg64 (d : Device) (k v : Nat) (h : v < 2 ^ 64) : (d.setReg64 k v).reg64 k = v := by
  unfold Device.reg64 Device.setReg64
  rw [reg_setReg_ne _ _ (by omega), reg_setReg_self, reg_setReg_self]
  omega

/-! ### Writes -/

/-- A write of a register is its register's command. -/
theorem hwrs_register (hlink : s.dev.linkUp = true) (hreach : reach a data.length = .register) :
    Ends (.hwr a data) s (fun t => exec (.regWrite a (ofLe data)) s = .next t) := by
  intro hl
  refine ⟨(regWritePart a (ofLe data) s).flushed, congrArg Host.Outcome.next ((s.live_of _ hl).trans ((if_pos hlink).trans ?_)),
    congrArg Host.Outcome.next (regWrite_of a (ofLe data) hl)⟩
  unfold hostWrite
  rw [hreach]

/-- The doorbell pages. -/
theorem reach_doorbell {q k : Nat} (hq : q < 4096) (hk : k < 1024) : reach (0x4000000 + 4096 * q + 4 * k) 4 = .doorbell := by
  unfold reach
  rw [if_neg (by omega), if_pos (by omega), if_pos (by simp; omega)]

theorem hostWrite_doorbell {q k : Nat} (hq : q < 4096) (hk : k < 1024) (hlen : data.length = 4) :
    hostWrite (0x4000000 + 4096 * q + 4 * k) data s = { s with dev := doorbellWrite (0x4000000 + 4096 * q + 4 * k) (ofLe data) s.tb s.dev } := by
  unfold hostWrite
  rw [hlen, reach_doorbell hq hk]
  rfl

theorem doorbellWrite_of {q k : Nat} (hk : k < 1024) (v : Nat) (tb : Timebase) (d : Device) :
    doorbellWrite (0x4000000 + 4096 * q + 4 * k) v tb d = if k = 0 then sqDoorbell q v tb d else if k = 1 then cqDoorbell q v tb d else d := by
  have hpage : (0x4000000 + 4096 * q + 4 * k - 0x4000000) / 4096 = q := by omega
  have hoff : (0x4000000 + 4096 * q + 4 * k) % 4096 = 4 * k := by omega
  unfold doorbellWrite
  rw [hpage, hoff]
  by_cases h0 : k = 0
  · simp [h0]
  · by_cases h1 : k = 1
    · simp [h1]
    · rw [if_neg (by simp; omega), if_neg (by simp; omega), if_neg h0, if_neg h1]

theorem hwrs_doorbell {q : Nat} (hlink : s.dev.linkUp = true) (hset : s.settled) (ha : a = 0x4000000 + 4096 * q) (hq : q < 4096)
    (hlen : data.length = 4) : Ends (.hwr a data) s (fun t => exec (.doorbellSqTail q (ofLe data)) s = .next t) ∧
      Ends (.hwr (a + 4) data) s (fun t => exec (.doorbellCqHead q (ofLe data)) s = .next t) ∧
      ∀ k, 2 ≤ k → k < 1024 → Ends (.hwr (a + 4 * k) data) s (fun t => t = s) := by
  have hall (k : Nat) (hk : k < 1024) : hostWrite (a + 4 * k) data s = { s with
      dev := if k = 0 then sqDoorbell q (ofLe data) s.tb s.dev else if k = 1 then cqDoorbell q (ofLe data) s.tb s.dev else s.dev } := by
    rw [ha, hostWrite_doorbell hq hk hlen, doorbellWrite_of hk]
  refine ⟨fun hl => ⟨_, exec_hwr hl hlink (hall 0 (by decide)), ?_⟩, fun hl => ⟨_, exec_hwr hl hlink (hall 1 (by decide)), ?_⟩,
    fun k hk hk' hl => ⟨s, (exec_hwr hl hlink (hall k hk')).trans ?_, rfl⟩⟩
  · exact congrArg Host.Outcome.next (s.onDev_of _ hl)
  · exact congrArg Host.Outcome.next (s.onDev_of _ hl)
  · rw [if_neg (by omega), if_neg (by omega), flush_of_settled s.tb s.dev hset]

/-- R140: a write to the Central Store. -/
theorem hwrs_central {d : Device} (hlink : s.dev.linkUp = true) (hd : d = s.dev.catchUp s.tb.offset none)
    (hreach : reach a data.length = .central) :
    (isShare (d.page (pageOf a)) = true → d.inImage none a data.length = false →
        (∀ p, p ∈ d.plots.handoffs → overlaps a data.length p.2.addr p.2.len = false) → Ends (.hwr a data) s (fun t =>
          t.tb = s.tb ∧ t.pending = s.pending ∧ t.dev.mem = d.mem.writeBytes a data ∧ t.dev.store = d.store)) ∧
      (d.ev.raised = [] → isShare (d.page (pageOf a)) = false → Ends (.hwr a data) s (fun t =>
        t.tb = s.tb ∧ t.pending = s.pending ∧ t.dev.mem = d.mem ∧
        State.raised ⟨0x0303, 4, none, []⟩ { s with dev := d } t)) := by
  have hw : hostWrite a data s = { s with dev := centralWrite a data d } := by
    unfold hostWrite
    rw [hreach, hd]
    rfl
  constructor
  · intro hshare himg hfree
    have hforeign : bgForeign d none a data = false := by
      unfold bgForeign
      rw [himg, Bool.false_or]
      exact List.any_eq_false.mpr fun p hp => by simp [hfree p hp]
    have heff : centralWrite a data d = { d with mem := d.mem.writeBytes a data } := by
      unfold centralWrite
      rw [if_pos hshare, bgWrite_of hforeign]
    rw [heff] at hw
    refine ends_hwr hlink hw fun t ht hpend htb => ⟨htb, hpend, ?_, ?_⟩
    · rw [ht, Device.flush_mem]
    · rw [ht, Device.flush_store]
  · intro hset hshare
    have heff : centralWrite a data d = d.raise 0x0303 [] := if_neg (ne_true_of_eq_false hshare)
    rw [heff] at hw
    refine ends_hwr hlink hw fun t ht hpend htb => ⟨htb, hpend, ?_, ?_⟩
    · rw [ht, Device.flush_mem]
      rfl
    · exact raised_of_one (s := { s with dev := d }) _ d rfl hset ht

/-! ### LPDDR5X (R150, R155, R442) -/

theorem takesWrite_of {d : Device} {n id : Nat} {o : Obj} (ho : d.objAt a = some (id, o)) (ht : o.tier = 2) (hst : o.st = .building)
    (hin : within a n o.base o.span = true) (hb : d.batchTarget id = false) : d.takesWrite a n = some (id, o) := by
  unfold Device.takesWrite
  rw [ho]
  exact if_pos (by simp [ht, hst, hin, hb])

theorem takesWrite_none {d : Device} {n : Nat} (h : ∀ id o, d.objAt a = some (id, o) → o.tier ≠ 2 ∨ o.st ≠ .building) :
    d.takesWrite a n = none := by
  unfold Device.takesWrite
  split
  · next id o ho =>
    rcases h id o ho with h | h <;> simp [h]
  · rfl

/-- A write that no object takes. -/
theorem lpddrWrite_refused {tb : Timebase} {d : Device} (h : d.takesWrite a data.length = none) :
    lpddrWrite a data tb d = d.raise 0x0304 [] := by
  unfold lpddrWrite lpddrPut
  rw [h]
  rfl

theorem hwrs_unplaced (hlink : s.dev.linkUp = true) (hset : s.settled) (hreach : reach a data.length = .lpddr)
    (h : s.dev.takesWrite a data.length = none) :
    Ends (.hwr a data) s (fun t => s.frame [] [] t ∧ s.raised ⟨0x0304, 4, none, []⟩ t) := by
  have hw : hostWrite a data s = { s with dev := s.dev.raise 0x0304 [] } := by
    rw [← lpddrWrite_refused (tb := s.tb) h]
    unfold hostWrite
    rw [hreach]
    rfl
  exact ends_hwr hlink hw fun t ht hpend htb =>
    ⟨frame_of_only ((Device.Only.refl _).raise _ _) ht hpend htb, raised_of_one _ s.dev rfl hset ht⟩

/-- R150: a write of an object in BUILDING, at once or when its channel has room (R442). -/
theorem hwrs_placed {id : Nat} {o : Obj} (hlink : s.dev.linkUp = true) (hreach : reach a data.length = .lpddr)
    (h : s.dev.takesWrite a data.length = some (id, o)) :
    (s.dev.lpFree s.tb a data.length = true → Ends (.hwr a data) s (fun t => s.frame [.mem, .store] [] t ∧
          t.dev.mem = s.dev.mem.writeBytes a data ∧ t.dev.store.bgUnits = s.dev.store.bgUnits.set (lpChannel a)
            (s.dev.store.bgUnits.getD (lpChannel a) 0 + data.length / 64))) ∧
        (s.dev.lpFree s.tb a data.length = false → Ends (.hwr a data) s (fun t => s.frame [.host] [] t ∧
          t.dev.host = { s.dev.host with lpWait := s.dev.host.lpWait ++ [.write a data] })) := by
  have hpart : hostWrite a data s = { s with dev := lpddrWrite a data s.tb s.dev } := by
    unfold hostWrite
    rw [hreach]
    rfl
  constructor
  · intro hfree
    have heff : lpddrWrite a data s.tb s.dev =
        { (s.dev.lpServe a data.length).updObj id (fun o' => o'.mark (a - o.base) data.length) with
          mem := s.dev.mem.writeBytes a data } := by
      unfold lpddrWrite lpddrPut
      rw [h, if_neg (by simp [hfree])]
      rfl
    have honly : Device.Only [.mem, .store] [] s.dev (lpddrWrite a data s.tb s.dev) := heff ▸ .of_regs [.mem, .store] rfl (by simp) rfl
    rw [heff] at hpart honly
    refine ends_hwr hlink hpart fun t ht hpend htb => ⟨frame_of_only honly ht hpend htb, ?_, ?_⟩
    · rw [ht, Device.flush_mem]
    · rw [ht, Device.flush_store]
      rfl
  · intro hfree
    have heff : lpddrWrite a data s.tb s.dev = s.dev.lpDefer (.write a data) := by
      unfold lpddrWrite
      exact if_pos (by simp [h, hfree])
    have honly : Device.Only [.host] [] s.dev (s.dev.lpDefer (.write a data)) := .of_regs [.host] rfl (by simp) rfl
    rw [heff] at hpart
    refine ends_hwr hlink hpart fun t ht hpend htb => ⟨frame_of_only honly ht hpend htb, ?_⟩
    rw [ht, Device.flush_host]
    rfl

/-- R441: a write that reaches nothing. -/
theorem hwrs_refused (hlink : s.dev.linkUp = true) (hset : s.settled) (hreach : reach a data.length = .refused) :
    Ends (.hwr a data) s (fun t =>
      s.frame [] [R.HOST_REFUSED, R.HOST_LAST_REFUSED_LO, R.HOST_LAST_REFUSED_LO + 4] t ∧
      t.dev.reg R.HOST_REFUSED = min (s.dev.reg R.HOST_REFUSED + 1) 0xFFFFFFFF ∧
      t.dev.reg64 R.HOST_LAST_REFUSED_LO = a % 2 ^ 44 ∧ s.raised ⟨0x0D06, 4, none, [(8, a % 2 ^ 44), (1, 1)]⟩ t) := by
  have hw : hostWrite a data s = { s with dev := accessRefused 1 a s.dev } := by
    unfold hostWrite
    rw [hreach]
    rfl
  refine ends_hwr hlink hw fun t ht hpend htb => ⟨frame_of_only (only_accessRefused _ 1 a s.dev) ht hpend htb, ?_, ?_, ?_⟩
  · rw [ht, reg_flush _ _ (by decide), reg_accessRefused]
  · have h64 := reg64_setReg64 (s.dev.inc R.HOST_REFUSED) R.HOST_LAST_REFUSED_LO (a % 2 ^ 44)
      (Nat.lt_trans (Nat.mod_lt a (by decide)) (by decide))
    refine Eq.trans ?_ h64
    unfold Device.reg64
    rw [ht, reg_flush _ _ (by decide), reg_flush _ _ (by decide)]
    rfl
  · exact raised_of_one _ ((s.dev.inc R.HOST_REFUSED).setReg64 R.HOST_LAST_REFUSED_LO (a % 2 ^ 44)) rfl hset ht

/-- What the host writes reaches. -/
theorem hostWrites (s : State) (a : Nat) (data : List Byte) (d : Device) (hlink : s.dev.linkUp = true) (hset : s.settled)
    (hd : d = s.dev.catchUp s.tb.offset none) :
    (reach a data.length = .register → Ends (.hwr a data) s (fun t => exec (.regWrite a (ofLe data)) s = .next t)) ∧
    (∀ q, a = 0x4000000 + 4096 * q → q < 4096 → data.length = 4 →
      Ends (.hwr a data) s (fun t => exec (.doorbellSqTail q (ofLe data)) s = .next t) ∧
      Ends (.hwr (a + 4) data) s (fun t => exec (.doorbellCqHead q (ofLe data)) s = .next t) ∧
      ∀ k, 2 ≤ k → k < 1024 → Ends (.hwr (a + 4 * k) data) s (fun t => t = s)) ∧
    (reach a data.length = .central →
      (isShare (d.page (pageOf a)) = true → d.inImage none a data.length = false →
        (∀ p, p ∈ d.plots.handoffs → overlaps a data.length p.2.addr p.2.len = false) → Ends (.hwr a data) s (fun t =>
          t.tb = s.tb ∧ t.pending = s.pending ∧ t.dev.mem = d.mem.writeBytes a data ∧ t.dev.store = d.store)) ∧
      (d.ev.raised = [] → isShare (d.page (pageOf a)) = false → Ends (.hwr a data) s (fun t =>
        t.tb = s.tb ∧ t.pending = s.pending ∧ t.dev.mem = d.mem ∧
        State.raised ⟨0x0303, 4, none, []⟩ { s with dev := d } t))) ∧
    (reach a data.length = .lpddr →
      (∀ id o, s.dev.objAt a = some (id, o) → o.tier = 2 → o.st = .building → within a data.length o.base o.span = true →
        s.dev.batchTarget id = false →
        (s.dev.lpFree s.tb a data.length = true → Ends (.hwr a data) s (fun t => s.frame [.mem, .store] [] t ∧
          t.dev.mem = s.dev.mem.writeBytes a data ∧ t.dev.store.bgUnits = s.dev.store.bgUnits.set (lpChannel a)
            (s.dev.store.bgUnits.getD (lpChannel a) 0 + data.length / 64))) ∧
        (s.dev.lpFree s.tb a data.length = false → Ends (.hwr a data) s (fun t => s.frame [.host] [] t ∧
          t.dev.host = { s.dev.host with lpWait := s.dev.host.lpWait ++ [.write a data] }))) ∧
      (s.dev.objAt a = none → Ends (.hwr a data) s (fun t => s.frame [] [] t ∧ s.raised ⟨0x0304, 4, none, []⟩ t)) ∧
      (∀ id o, s.dev.objAt a = some (id, o) → o.tier ≠ 2 ∨ o.st ≠ .building → Ends (.hwr a data) s (fun t =>
        s.frame [] [] t ∧ s.raised ⟨0x0304, 4, none, []⟩ t))) ∧
    (reach a data.length = .refused → Ends (.hwr a data) s (fun t =>
      s.frame [] [R.HOST_REFUSED, R.HOST_LAST_REFUSED_LO, R.HOST_LAST_REFUSED_LO + 4] t ∧
      t.dev.reg R.HOST_REFUSED = min (s.dev.reg R.HOST_REFUSED + 1) 0xFFFFFFFF ∧
      t.dev.reg64 R.HOST_LAST_REFUSED_LO = a % 2 ^ 44 ∧ s.raised ⟨0x0D06, 4, none, [(8, a % 2 ^ 44), (1, 1)]⟩ t)) := by
  refine ⟨hwrs_register hlink, fun q ha hq hlen => hwrs_doorbell hlink hset ha hq hlen, hwrs_central hlink hd, fun hreach => ⟨?_, ?_, ?_⟩,
    hwrs_refused hlink hset⟩
  · exact fun id o ho htier hst hin hb => hwrs_placed hlink hreach (takesWrite_of ho htier hst hin hb)
  · exact fun hnone => hwrs_unplaced hlink hset hreach (takesWrite_none fun id o ho => by simp [hnone] at ho)
  · intro id o ho hbad
    refine hwrs_unplaced hlink hset hreach (takesWrite_none fun id' o' ho' => ?_)
    obtain ⟨-, rfl⟩ : id = id' ∧ o = o' := by simpa using ho.symm.trans ho'
    exact hbad

end

end Sys2Proof.Machine
end

section
/-! PROOFS of the reads of the host (R439 to R443). -/
namespace Sys2Proof.Machine

section
variable {s : State} {a tag n : Nat} {err : Bool} {d : Device}

/-- A read of a register that is none of a pair. -/
theorem regReadPart_plain {r : RegDesc} (hd : regDesc a = some r) (hlo : isLo a = false) (hhi : isHi a = false)
    (hseq : a ≠ R.SEQ_AST_DATA0) (hresp : s.dev.responds a = true) :
    regReadPart a s = { s with dev := s.dev.dropPend.setRdata (currentAt s.tb s.dev a) } := by
  have hr : s.dev.dropPend.responds a = true := hresp
  have hfur : (a == R.FUR_COUNT_LO) = false := beq_eq_false_iff_ne.mpr (by rintro rfl; simp [isLo_furCount] at hlo)
  have hcur : current s.tb s.dev.dropPend r a = currentAt s.tb s.dev a := by rw [← currentAt_dropPend, currentAt, hd]
  unfold regReadPart
  simp only [hr, hd, hfur, Bool.not_true, Bool.false_eq_true, if_false]
  unfold State.onPart readReg
  simp only [beq_eq_false_iff_ne.mpr hseq, hlo, hhi, hcur, Bool.false_eq_true, if_false]

theorem hrds_register {r : RegDesc} (hlink : s.dev.linkUp = true) (hreach : reach a n = .register) (hd : regDesc a = some r)
    (hlo : isLo a = false) (hhi : isHi a = false) (hseq : a ≠ R.SEQ_AST_DATA0) (hresp : s.dev.responds a = true) :
    Ends (.hrd tag a n err) s (fun t => s.frame [.port, .out] [] t ∧
        t.dev.out = s.dev.out ++ [.hcpl tag 0 (leBytes 4 (currentAt s.tb s.dev a % 2 ^ 32))]) := by
  have hw : hostRead tag a n err s = { s with
      dev := complHost tag 0 (leBytes 4 (currentAt s.tb s.dev a % 2 ^ 32)) (s.dev.dropPend.setRdata (currentAt s.tb s.dev a)) } := by
    unfold hostRead
    rw [hreach]
    exact congrArg (State.onPart · _) (regReadPart_plain hd hlo hhi hseq hresp)
  have honly : Device.Only [.port, .out] [] s.dev
      (complHost tag 0 (leBytes 4 (currentAt s.tb s.dev a % 2 ^ 32)) (s.dev.dropPend.setRdata (currentAt s.tb s.dev a))) :=
    .of_regs [.port, .out] rfl (by simp) rfl
  refine ends_hrd hlink hw fun t ht hpend htb => ⟨frame_of_only honly ht hpend htb, ?_⟩
  rw [ht, Device.flush_out]
  rfl

theorem hrds_doorbell (hlink : s.dev.linkUp = true) (hreach : reach a n = .doorbell) :
    Ends (.hrd tag a n err) s (fun t => s.frame [.out] [] t ∧ t.dev.out = s.dev.out ++ [.hcpl tag 0 [0, 0, 0, 0]]) := by
  have hw : hostRead tag a n err s = { s with dev := complHost tag 0 [0, 0, 0, 0] s.dev } := by
    unfold hostRead
    rw [hreach]
    rfl
  have honly : Device.Only [.out] [] s.dev (complHost tag 0 [0, 0, 0, 0] s.dev) := .of_regs [.out] rfl (by simp) rfl
  refine ends_hrd hlink hw fun t ht hpend htb => ⟨frame_of_only honly ht hpend htb, ?_⟩
  rw [ht, Device.flush_out]
  rfl

theorem hrds_central (hlink : s.dev.linkUp = true) (hd : d = s.dev.catchUp s.tb.offset none) (hreach : reach a n = .central)
    (herr : err = false) : Ends (.hrd tag a n err) s (fun t => t.tb = s.tb ∧ t.pending = s.pending ∧
      t.dev.mem = d.mem ∧ t.dev.out = d.out ++ [.hcpl tag 0 (d.mem.readBytes a n)]) := by
  have hw : hostRead tag a n err s = { s with dev := complHost tag 0 (d.mem.readBytes a n) d } := by
    unfold hostRead
    rw [hreach, hd, herr]
    rfl
  refine ends_hrd hlink hw fun t ht hpend htb => ⟨htb, hpend, ?_, ?_⟩
  · rw [ht, Device.flush_mem]
    rfl
  · rw [ht, Device.flush_out]
    rfl

/-! ### LPDDR5X (R442) -/

theorem hostRead_lpddr (hreach : reach a n = .lpddr) :
    hostRead tag a n err s = { s with dev := lpddrRead tag a n err s.tb s.dev } := by
  unfold hostRead
  rw [hreach]
  rfl

theorem hrds_deferred (hlink : s.dev.linkUp = true) (hreach : reach a n = .lpddr) (hfree : s.dev.lpFree s.tb a n = false) :
    Ends (.hrd tag a n err) s (fun t => s.frame [.host] [] t ∧
      t.dev.host = { s.dev.host with lpWait := s.dev.host.lpWait ++ [.read tag a n err] }) := by
  have hw := hostRead_lpddr (s := s) (tag := tag) (err := err) hreach
  have heff : lpddrRead tag a n err s.tb s.dev = s.dev.lpDefer (.read tag a n err) := if_neg (ne_true_of_eq_false hfree)
  have honly : Device.Only [.host] [] s.dev (s.dev.lpDefer (.read tag a n err)) := .of_regs [.host] rfl (by simp) rfl
  rw [heff] at hw
  refine ends_hrd hlink hw fun t ht hpend htb => ⟨frame_of_only honly ht hpend htb, ?_⟩
  rw [ht, Device.flush_host]
  rfl

/-- R443: an error met by a read of LPDDR5X. -/
theorem only_lpServe (d : Device) : Device.Only [.out, .store] [R.MEMC_ECC_UNCORR, R.HOST_DATA_ERR] d (d.lpServe a n) :=
  .of_regs [.store] rfl (by simp) rfl

theorem only_complHost (status : Nat) (data : List Byte) (d : Device) :
    Device.Only [.out, .store] [R.MEMC_ECC_UNCORR, R.HOST_DATA_ERR] d (complHost tag status data d) := .of_regs [.out] rfl (by simp) rfl

theorem only_lpddrGet (d : Device) : Device.Only [.out, .store] [R.MEMC_ECC_UNCORR, R.HOST_DATA_ERR] d (lpddrGet tag a n err d) := by
  refine (only_lpServe (a := a) (n := n) d).trans ?_
  unfold lpddrGet memoryRead
  refine Device.Only.trans ?_ (only_complHost _ _ _)
  cases err with
  | false => exact Device.Only.refl _
  | true => exact (((Device.Only.refl _).inc (by simp)).raise _ _).inc (by simp)

theorem hrds_lpddr (hlink : s.dev.linkUp = true) (hset : s.settled) (hreach : reach a n = .lpddr) (hfree : s.dev.lpFree s.tb a n = true) :
    Ends (.hrd tag a n err) s (fun t => s.frame [.out, .store] [R.MEMC_ECC_UNCORR, R.HOST_DATA_ERR] t ∧
      t.dev.store = { s.dev.store with
        bgUnits := s.dev.store.bgUnits.set (lpChannel a) (s.dev.store.bgUnits.getD (lpChannel a) 0 + n / 64) } ∧
      t.dev.out = s.dev.out ++ [.hcpl tag (if err then 2 else 0) (s.dev.mem.readBytes a n)] ∧
      (err = true → t.dev.reg R.HOST_DATA_ERR = min (s.dev.reg R.HOST_DATA_ERR + 1) 0xFFFFFFFF ∧
        s.raised ⟨0x0308, 4, none, [(1, lpChannel a)]⟩ t)) := by
  have hw := hostRead_lpddr (s := s) (tag := tag) (err := err) hreach
  have heff : lpddrRead tag a n err s.tb s.dev = lpddrGet tag a n err s.dev := if_pos hfree
  rw [heff] at hw
  refine ends_hrd hlink hw fun t ht hpend htb => ⟨frame_of_only (only_lpddrGet s.dev) ht hpend htb, ?_, ?_, fun herr => ⟨?_, ?_⟩⟩
  · rw [ht, Device.flush_store]
    cases err <;> rfl
  · rw [ht, Device.flush_out]
    cases err <;> rfl
  · subst herr
    rw [ht, reg_flush _ _ (by decide)]
    refine (reg_incBy_self ((s.dev.lpServe a n).lpEcc (lpChannel a)) R.HOST_DATA_ERR 1).trans ?_
    congr 2
    exact reg_incBy_ne (s.dev.lpServe a n) 1 (by decide)
  · subst herr
    have hev : (lpddrGet tag a n true s.dev).ev = (s.dev.raise 0x0308 [(1, lpChannel a)]).ev := rfl
    exact raised_of_ev hev hset ht

/-- R441: a read that reaches nothing. -/
theorem hrds_refused (hlink : s.dev.linkUp = true) (hset : s.settled) (hreach : reach a n = .refused) :
    Ends (.hrd tag a n err) s (fun t =>
      s.frame [.out] [R.HOST_REFUSED, R.HOST_LAST_REFUSED_LO, R.HOST_LAST_REFUSED_LO + 4] t ∧
      t.dev.out = s.dev.out ++ [.hcpl tag 1 []] ∧ s.raised ⟨0x0D06, 4, none, [(8, a % 2 ^ 44), (1, 2)]⟩ t) := by
  have hw : hostRead tag a n err s = { s with dev := complHost tag 1 [] (accessRefused 2 a s.dev) } := by
    unfold hostRead
    rw [hreach]
    rfl
  have honly : Device.Only [.out] [R.HOST_REFUSED, R.HOST_LAST_REFUSED_LO, R.HOST_LAST_REFUSED_LO + 4] s.dev
      (complHost tag 1 [] (accessRefused 2 a s.dev)) :=
    (only_accessRefused [.out] 2 a s.dev).trans (.of_regs [.out] rfl (by simp) rfl)
  refine ends_hrd hlink hw fun t ht hpend htb => ⟨frame_of_only honly ht hpend htb, ?_, ?_⟩
  · rw [ht, Device.flush_out]
    rfl
  · exact raised_of_one _ (complHost tag 1 [] ((s.dev.inc R.HOST_REFUSED).setReg64 R.HOST_LAST_REFUSED_LO (a % 2 ^ 44))) rfl hset ht

end

/-- What the host reads. -/
theorem hostReads (s : State) (a tag n : Nat) (err : Bool) (d : Device) (hlink : s.dev.linkUp = true) (hset : s.settled)
    (hd : d = s.dev.catchUp s.tb.offset none) :
    (∀ r, reach a n = .register → regDesc a = some r → isLo a = false → isHi a = false → a ≠ R.SEQ_AST_DATA0 →
      s.dev.responds a = true → Ends (.hrd tag a n err) s (fun t => s.frame [.port, .out] [] t ∧
        t.dev.out = s.dev.out ++ [.hcpl tag 0 (leBytes 4 (currentAt s.tb s.dev a % 2 ^ 32))])) ∧
    (reach a n = .doorbell → Ends (.hrd tag a n err) s (fun t => s.frame [.out] [] t ∧
      t.dev.out = s.dev.out ++ [.hcpl tag 0 [0, 0, 0, 0]])) ∧
    (reach a n = .central → err = false → Ends (.hrd tag a n err) s (fun t => t.tb = s.tb ∧ t.pending = s.pending ∧
      t.dev.mem = d.mem ∧ t.dev.out = d.out ++ [.hcpl tag 0 (d.mem.readBytes a n)])) ∧
    (reach a n = .lpddr → s.dev.lpFree s.tb a n = false → Ends (.hrd tag a n err) s (fun t => s.frame [.host] [] t ∧
      t.dev.host = { s.dev.host with lpWait := s.dev.host.lpWait ++ [.read tag a n err] })) ∧
    (reach a n = .lpddr → s.dev.lpFree s.tb a n = true →
      Ends (.hrd tag a n err) s (fun t => s.frame [.out, .store] [R.MEMC_ECC_UNCORR, R.HOST_DATA_ERR] t ∧
      t.dev.store = { s.dev.store with
        bgUnits := s.dev.store.bgUnits.set (lpChannel a) (s.dev.store.bgUnits.getD (lpChannel a) 0 + n / 64) } ∧
      t.dev.out = s.dev.out ++ [.hcpl tag (if err then 2 else 0) (s.dev.mem.readBytes a n)] ∧
      (err = true → t.dev.reg R.HOST_DATA_ERR = min (s.dev.reg R.HOST_DATA_ERR + 1) 0xFFFFFFFF ∧
        s.raised ⟨0x0308, 4, none, [(1, lpChannel a)]⟩ t))) ∧
    (reach a n = .refused → Ends (.hrd tag a n err) s (fun t =>
      s.frame [.out] [R.HOST_REFUSED, R.HOST_LAST_REFUSED_LO, R.HOST_LAST_REFUSED_LO + 4] t ∧
      t.dev.out = s.dev.out ++ [.hcpl tag 1 []] ∧ s.raised ⟨0x0D06, 4, none, [(8, a % 2 ^ 44), (1, 2)]⟩ t)) :=
  ⟨fun _ hreach hr hlo hhi hseq hresp => hrds_register hlink hreach hr hlo hhi hseq hresp, hrds_doorbell hlink,
    hrds_central hlink hd, hrds_deferred hlink, hrds_lpddr hlink hset, hrds_refused hlink hset⟩

end Sys2Proof.Machine
end

section
/-! PROOFS of the answers of the host to what the module asks of host memory (R378, R381, R398, R439, R440). -/
namespace Sys2Proof.Machine

/-! ### What asking for the next descriptor leaves (R378) -/

/-- Only which descriptors were asked for differs of the queue pairs; no event, and no CANCEL. -/
structure Device.Asked (a b : Device) : Prop where
  only : Device.Only [.qm, .host, .out] [] a b
  ev : b.ev = a.ev
  cancels : b.qm.cancels = a.qm.cancels
  qps : ∀ j, b.qp j = { a.qp j with requested := (b.qp j).requested }

theorem Device.Asked.refl (a : Device) : Device.Asked a a := ⟨.refl a, rfl, rfl, fun _ => rfl⟩

theorem Device.Asked.trans {a b c : Device} (h : Device.Asked a b) (g : Device.Asked b c) : Device.Asked a c where
  only := h.only.trans g.only
  ev := g.ev.trans h.ev
  cancels := g.cancels.trans h.cancels
  qps j := (g.qps j).trans (congrArg (fun x : QueuePair => { x with requested := (c.qp j).requested }) (h.qps j))

theorem asked_fetchNext (d : Device) (q : Nat) : Device.Asked d (fetchNext q d) := by
  obtain ⟨hev, hcancels⟩ : (fetchNext q d).ev = d.ev ∧ (fetchNext q d).qm.cancels = d.qm.cancels := by
    obtain ⟨r, h, o, he | he⟩ := fetchNext_eq d q
    · rw [he]
      exact ⟨rfl, rfl⟩
    · rw [he]
      exact ⟨rfl, rfl⟩
  refine ⟨only_fetchNext d q, hev, hcancels, fun j => ?_⟩
  by_cases hj : j = q
  · subst hj
    obtain ⟨r, hr⟩ := qp_fetchNext d j
    rw [hr]
  · rw [qp_fetchNext_ne d hj]

theorem asked_foldl (l : List Nat) (d : Device) : Device.Asked d (l.foldl (fun d q => fetchNext q d) d) := by
  induction l generalizing d with
  | nil => exact .refl d
  | cons q l ih => exact (asked_fetchNext d q).trans (ih _)

theorem asked_fetchFreed (n : Nat) (d : Device) : Device.Asked d (fetchFreed n d) := by
  unfold fetchFreed
  split
  · exact .refl d
  · exact asked_foldl _ d

/-- R440: with a read to spare no other queue pair asks. -/
theorem fetchFreed_of_lt {n : Nat} (h : n < 512) (d : Device) : fetchFreed n d = d := if_pos h

/-! ### The descriptor that comes in (R378, R385, R398) -/

/-- A CANCEL of a queue pair waits with its target, which it took. -/
structure CancelPut (q : Nat) (bytes : List Byte) (a b : Device) : Prop where
  only : Device.Only [.qm] [] a b
  head : (b.qp q).sqHead = (a.qp q).sqHead
  others : ∀ j, j ≠ q → b.qp j = a.qp j
  job : ∃ k, b.qm.cancels = a.qm.cancels ++ [k] ∧ k.qp = q ∧ k.bytes = bytes ∧ ((b.qp q).fetched = (a.qp q).fetched ∨
    ∃ f, f ∈ (a.qp q).fetched ∧ k.target = .fetched f.bytes ∧ (b.qp q).fetched = (a.qp q).fetched.erase f)

theorem qp_cancelReq_ite (d : Device) (rid : Nat) (on : Bool) (q : Nat) : (if on then d.cancelReq rid 0 else d).qp q = d.qp q := by
  cases on <;> rfl

theorem cancels_cancelReq_ite (d : Device) (rid : Nat) (on : Bool) :
    (if on then d.cancelReq rid 0 else d).qm.cancels = d.qm.cancels := by
  cases on <;> rfl

theorem cancelPut_cancelIn (q : Nat) (bytes : List Byte) (d : Device) : CancelPut q bytes d (cancelIn q bytes d) := by
  unfold cancelIn
  dsimp only
  split
  · next rid _ =>
    have hq := qp_cancelReq_ite d rid (d.entered rid)
    exact {
      only := (only_cancelReq_ite (by simp) d rid (d.entered rid)).trans (only_putCancel (by simp) _ ⟨q, bytes, .admitted rid⟩)
      head := congrArg QueuePair.sqHead (hq q)
      others := fun j _ => hq j
      job := ⟨⟨q, bytes, .admitted rid⟩, congrArg (· ++ [_]) (cancels_cancelReq_ite d rid _), rfl, rfl,
        .inl (congrArg QueuePair.fetched (hq q))⟩ }
  · split
    · next f hf =>
      have hself := qp_setQp_self d q { d.qp q with fetched := (d.qp q).fetched.erase f }
      exact {
        only := (only_setQp d (by simp) q _).trans (only_putCancel (by simp) _ ⟨q, bytes, .fetched f.bytes⟩)
        head := (congrArg QueuePair.sqHead hself :)
        others := fun j hj => qp_setQp_ne d hj _
        job := ⟨⟨q, bytes, .fetched f.bytes⟩, rfl, rfl, rfl,
          .inr ⟨f, List.mem_of_find?_eq_some hf, rfl, (congrArg QueuePair.fetched hself :)⟩⟩ }
    · exact {
        only := only_putCancel (by simp) d ⟨q, bytes, .none⟩
        head := rfl
        others := fun _ _ => rfl
        job := ⟨⟨q, bytes, .none⟩, rfl, rfl, rfl, .inl rfl⟩ }

/-- A descriptor that is no CANCEL waits for its admission. -/
structure DescPut (q : Nat) (bytes : List Byte) (a b : Device) : Prop where
  cancels : b.qm.cancels = a.qm.cancels
  desc : ∃ e : Desc, (b.qp q).fetched = (a.qp q).fetched ++ [e] ∧ e.bytes = bytes

/-- R378: a descriptor that was asked for, under a doorbell that covers it. -/
structure CopiedIn (q : Nat) (bytes : List Byte) (a b : Device) : Prop where
  only : Device.Only [.qm] [] a b
  head : (b.qp q).sqHead = ((a.qp q).sqHead + 1) % 65536
  others : ∀ j, j ≠ q → b.qp j = a.qp j
  cancel : fieldLe bytes 0 1 = 3 → ∃ k, b.qm.cancels = a.qm.cancels ++ [k] ∧ k.qp = q ∧ k.bytes = bytes ∧
    ((b.qp q).fetched = (a.qp q).fetched ∨
      ∃ f, f ∈ (a.qp q).fetched ∧ k.target = .fetched f.bytes ∧ (b.qp q).fetched = (a.qp q).fetched.erase f)
  other : fieldLe bytes 0 1 ≠ 3 → DescPut q bytes a b

theorem copiedIn_copyIn {q : Nat} (bytes : List Byte) {d : Device} (h : bellsFrom (2 ^ d.sqLog q) (d.qp q).sqHead (d.qp q).bells ≠ []) :
    CopiedIn q bytes d (copyIn q bytes d) := by
  unfold copyIn
  dsimp only
  split
  · next hnil => exact absurd hnil h
  · next b rest _ =>
    generalize hbells : (if b.1 = ((d.qp q).sqHead + 1) % 65536 then rest else b :: rest) = bells
    simp only [beq_iff_eq, hbells]
    have hself (l) := qp_setQp_self d q { d.qp q with
      sqHead := ((d.qp q).sqHead + 1) % 65536
      requested := ((d.qp q).sqHead + 1) % 65536
      bells := bells
      fetched := l }
    split
    · next hc =>
      have hself := hself (d.qp q).fetched
      have hcancel := cancelPut_cancelIn q bytes (d.setQp q { d.qp q with
        sqHead := ((d.qp q).sqHead + 1) % 65536
        requested := ((d.qp q).sqHead + 1) % 65536
        bells := bells })
      exact {
        only := (only_setQp d (by simp) q _).trans hcancel.only
        head := hcancel.head.trans (congrArg QueuePair.sqHead hself :)
        others := fun j hj => (hcancel.others j hj).trans (qp_setQp_ne d hj _)
        cancel := fun _ => by
          have hjob := hcancel.job
          rw [congrArg QueuePair.fetched hself] at hjob
          exact hjob
        other := fun hne => absurd hc hne }
    · next hc =>
      have hself := hself ((d.qp q).fetched ++ [⟨bytes, b.2.1, b.2.2⟩])
      exact {
        only := only_setQp d (by simp) q _
        head := (congrArg QueuePair.sqHead hself :)
        others := fun j hj => qp_setQp_ne d hj _
        cancel := fun h => absurd h hc
        other := fun _ => ⟨rfl, _, congrArg QueuePair.fetched hself, rfl⟩ }

/-! ### An answer (R440) -/

/-- The device once an answer has made room. -/
def Device.answered (d : Device) (tag : Nat) : Device := { d with host := { d.host with drds := d.host.drds.del tag } }

theorem only_answered (tag : Nat) (ks : List Nat) (d : Device) : Device.Only [.qm, .host, .out] ks d (d.answered tag) :=
  .of_regs [.host] rfl (by simp) rfl

section
variable {s : State} {tag status q i : Nat} {data : List Byte}

theorem dcpl_of (hlink : s.dev.linkUp = true) (hget : s.dev.host.drds.get? tag = some (q, i)) (hq : q < 4096) :
    dcpl tag status data s.dev = fetchFreed s.dev.host.drds.length (if status = 0 then
      fetchNext q (copyIn q (sliceBytes data 0 256) (s.dev.answered tag)) else devFail q 2 (s.dev.answered tag)) := by
  unfold dcpl
  rw [hget]
  dsimp only
  rw [hlink, if_neg (by simp), if_neg (by omega)]
  by_cases h : status = 0
  · simp only [h, bne_self_eq_false, Bool.false_eq_true, if_false, if_true]
    rfl
  · simp only [bne_iff_ne, ne_eq, h, not_false_eq_true, if_true, if_false]
    rfl

theorem dcpl_data (hlink : s.dev.linkUp = true) (hget : s.dev.host.drds.get? tag = some (q, i)) (hq : q < 4096)
    (hstatus : status = 0) (hbells : bellsFrom (2 ^ s.dev.sqLog q) (s.dev.qp q).sqHead (s.dev.qp q).bells ≠ []) :
    Ends (.dcpl tag status data) s (fun t => s.frame [.qm, .host, .out] [] t ∧
        (t.dev.qp q).sqHead = ((s.dev.qp q).sqHead + 1) % 65536 ∧
        (∀ j, j ≠ q → t.dev.qp j = { s.dev.qp j with requested := (t.dev.qp j).requested } ∧
          (s.dev.host.drds.length < 512 → t.dev.qp j = s.dev.qp j)) ∧
        (fieldLe (sliceBytes data 0 256) 0 1 = 3 → ∃ j, t.dev.qm.cancels = s.dev.qm.cancels ++ [j] ∧ j.qp = q ∧
          j.bytes = sliceBytes data 0 256 ∧ ((t.dev.qp q).fetched = (s.dev.qp q).fetched ∨
            ∃ f, f ∈ (s.dev.qp q).fetched ∧ j.target = .fetched f.bytes ∧
              (t.dev.qp q).fetched = (s.dev.qp q).fetched.erase f)) ∧
        (fieldLe (sliceBytes data 0 256) 0 1 ≠ 3 → t.dev.qm.cancels = s.dev.qm.cancels ∧
          ∃ e, (t.dev.qp q).fetched = (s.dev.qp q).fetched ++ [e] ∧ e.bytes = sliceBytes data 0 256)) := by
  have hcopied : CopiedIn q (sliceBytes data 0 256) (s.dev.answered tag) _ := copiedIn_copyIn (sliceBytes data 0 256) hbells
  generalize hb : sliceBytes data 0 256 = b at *
  have hnext := asked_fetchNext (copyIn q b (s.dev.answered tag)) q
  have hother (j) (hj : j ≠ q) := qp_fetchNext_ne (copyIn q b (s.dev.answered tag)) hj
  have heff := dcpl_of (status := status) (data := data) hlink hget hq
  rw [if_pos hstatus, hb] at heff
  generalize copyIn q b (s.dev.answered tag) = c at *
  generalize fetchNext q c = x at *
  have hfreed := asked_fetchFreed s.dev.host.drds.length x
  have hasked := hnext.trans hfreed
  refine ends_onDev (f := fun _ d => dcpl tag status data d) rfl heff
    (((only_answered tag _ s.dev).trans (hcopied.only.mono (by simp) (by simp))).trans hasked.only) fun t ht hfr => ?_
  have hqp (j) : t.dev.qp j = (fetchFreed s.dev.host.drds.length x).qp j := by rw [ht, qp_flush]
  have hfetched : (t.dev.qp q).fetched = (c.qp q).fetched := by rw [hqp, hasked.qps]
  have hcancels : t.dev.qm.cancels = c.qm.cancels := by rw [ht, Device.flush_qm, hasked.cancels]
  refine ⟨hfr, ?_, fun j hj => ⟨?_, fun hroom => ?_⟩, fun h3 => ?_, fun h3 => ?_⟩
  · rw [hqp, hasked.qps]
    exact hcopied.head
  · rw [hqp, hasked.qps, hcopied.others j hj]
    rfl
  · rw [hqp, fetchFreed_of_lt hroom, hother j hj]
    exact hcopied.others j hj
  · rw [hfetched, hcancels]
    exact hcopied.cancel h3
  · rw [hfetched, hcancels]
    exact ⟨(hcopied.other h3).cancels, (hcopied.other h3).desc⟩

end

/-! ### An access that fails (R381, R439) -/

/-- R381: what an access that fails leaves. -/
structure DevFailed (q err : Nat) (a b : Device) : Prop where
  only : Device.Only [.qm, .host, .out] [R.HOST_DEV_FAIL] a b
  count : b.reg R.HOST_DEV_FAIL = min (a.reg R.HOST_DEV_FAIL + 1) 0xFFFFFFFF
  raised : a.ev.raised = [] → b.ev.counts = a.ev.counts ∧ b.ev.buffer = a.ev.buffer ∧
    (⟨0x0D08, 4, none, [(2, q)]⟩ : EventReq) ∈ b.ev.raised ∧ raisesOf 0x0D08 b.ev.raised = 1 ∧ b.ev.raised.length ≤ 2
  ring : 4096 ≤ q → b.qm = a.qm ∧ b.host = a.host
  error : q < 4096 → (a.qp q).st = .active → (b.qp q).st = .error ∧ (b.qp q).lastErr = err

theorem only_qpError (q err : Nat) (d : Device) : Device.Only [.qm, .host, .out] [R.HOST_DEV_FAIL] d (qpError q err d) :=
  ((only_setQp d (by simp) q _).trans (only_deadReads _ (by simp) q)).raiseCtx _ _ _

/-- A failed access is counted and raised. -/
def Device.failCounted (d : Device) (q : Nat) : Device := (d.inc R.HOST_DEV_FAIL).raise 0x0D08 [(2, q)]

theorem only_failCounted (q : Nat) (d : Device) : Device.Only [.qm, .host, .out] [R.HOST_DEV_FAIL] d (d.failCounted q) :=
  ((Device.Only.refl d).inc (by simp)).raise _ _

theorem reg_failCounted (q : Nat) (d : Device) : (d.failCounted q).reg R.HOST_DEV_FAIL = min (d.reg R.HOST_DEV_FAIL + 1) 0xFFFFFFFF :=
  reg_incBy_self d _ 1

theorem devFailed_devFail (q err : Nat) (d : Device) : DevFailed q err d (devFail q err d) := by
  have hcond : (((d.inc R.HOST_DEV_FAIL).raise 0x0D08 [(2, q)]).qp q).st = (d.qp q).st := rfl
  unfold devFail
  dsimp only
  change DevFailed q err d (if _ then qpError q err (d.failCounted q) else d.failCounted q)
  split
  · next h =>
    have hq : q < 4096 := by simp only [Bool.and_eq_true, decide_eq_true_eq] at h; exact h.1
    exact {
      only := (only_failCounted q d).trans (only_qpError q err _)
      count := reg_failCounted q d
      raised := fun h0 => by
        refine ⟨rfl, rfl, ?_, ?_, ?_⟩
        · exact List.mem_cons_of_mem _ List.mem_cons_self
        · exact congrArg (fun l => raisesOf 0x0D08 (_ :: _ :: l)) h0
        · exact Nat.le_of_eq (congrArg (fun l => (_ :: _ :: l : List EventReq).length) h0)
      ring := fun hge => absurd hq (by omega)
      error := fun _ _ =>
        have hself := qp_setQp_self (d.failCounted q) q { (d.failCounted q).qp q with
          st := .error
          lastErr := err
          bells := []
          requested := ((d.failCounted q).qp q).sqHead }
        ⟨congrArg QueuePair.st hself, congrArg QueuePair.lastErr hself⟩ }
  · next h =>
    exact {
      only := only_failCounted q d
      count := reg_failCounted q d
      raised := fun h0 => by
        refine ⟨rfl, rfl, List.mem_cons_self, ?_, ?_⟩
        · exact congrArg (fun l => raisesOf 0x0D08 (_ :: l)) h0
        · exact Nat.le_trans (Nat.le_of_eq (congrArg (fun l => (_ :: l : List EventReq).length) h0)) (Nat.le_succ 1)
      ring := fun _ => ⟨rfl, rfl⟩
      error := fun hq hst => absurd (show _ = true by simp [hq, hcond, hst]) h }

/-- The queue pairs that ask anew take nothing back of it. -/
theorem DevFailed.asked {q err : Nat} {a b c : Device} (h : DevFailed q err a b) (g : Device.Asked b c) (hq : q < 4096) : DevFailed q err a c where
  only := h.only.trans (g.only.mono (List.Subset.refl _) (by simp))
  count := (g.only.regs _ (by simp) (by decide)).trans h.count
  raised h0 := by
    rw [g.ev]
    exact h.raised h0
  ring hge := absurd hq (by omega)
  error hlt hst := by
    rw [g.qps]
    exact h.error hlt hst

/-- A failed access, as a command. -/
theorem ends_devFailed {s : State} {c : Instr} {f : Timebase → Device → Device} {e d : Device} {q err : Nat} {P : State → Prop}
    (hc : exec c s = .next (s.onDev f)) (hf : f s.tb s.dev = e) (hset : s.settled) (hd : Device.Only [.qm, .host, .out] [R.HOST_DEV_FAIL] s.dev d)
    (hreg : d.reg R.HOST_DEV_FAIL = s.dev.reg R.HOST_DEV_FAIL) (hev : d.ev = s.dev.ev) (h : DevFailed q err d e)
    (hP : ∀ t : State, t.dev = e.flush s.tb → s.frame [.qm, .host, .out] [R.HOST_DEV_FAIL] t →
      t.dev.reg R.HOST_DEV_FAIL = min (s.dev.reg R.HOST_DEV_FAIL + 1) 0xFFFFFFFF → s.raised ⟨0x0D08, 4, none, [(2, q)]⟩ t → P t) :
    Ends c s P := by
  refine ends_onDev hc hf (hd.trans h.only) fun t ht hfr => hP t ht hfr ?_ ?_
  · rw [ht, reg_flush _ _ (by decide), h.count, hreg]
  · obtain ⟨hcounts, hbuffer, hmem, hone, hlen⟩ := h.raised ((congrArg EventUnit.raised hev).trans hset)
    rw [hev] at hcounts hbuffer
    exact raised_of_pair hcounts hbuffer hmem hone hlen ht

section
variable {s : State} {tag status q i : Nat} {data : List Byte}

theorem dcpl_failed (hset : s.settled) (hlink : s.dev.linkUp = true) (hget : s.dev.host.drds.get? tag = some (q, i)) (hq : q < 4096)
    (hstatus : status ≠ 0) (hst : (s.dev.qp q).st = .active) : Ends (.dcpl tag status data) s (fun t =>
      s.frame [.qm, .host, .out] [R.HOST_DEV_FAIL] t ∧ (t.dev.qp q).st = .error ∧ (t.dev.qp q).lastErr = 2 ∧
      t.dev.reg R.HOST_DEV_FAIL = min (s.dev.reg R.HOST_DEV_FAIL + 1) 0xFFFFFFFF ∧
      s.raised ⟨0x0D08, 4, none, [(2, q)]⟩ t) := by
  have heff := dcpl_of (status := status) (data := data) hlink hget hq
  rw [if_neg hstatus] at heff
  have hfail := (devFailed_devFail q 2 (s.dev.answered tag)).asked (asked_fetchFreed s.dev.host.drds.length _) hq
  refine ends_devFailed (f := fun _ d => dcpl tag status data d) rfl heff hset (only_answered tag _ s.dev) rfl rfl hfail
    fun t ht hfr hreg hraised => ?_
  obtain ⟨herr, hlast⟩ := hfail.error hq hst
  refine ⟨hfr, ?_, ?_, hreg, hraised⟩
  · rw [ht, qp_flush, herr]
  · rw [ht, qp_flush, hlast]

/-! ### An access that waited too long (R439) -/

/-- The device once the access that failed waits no more. -/
def Device.unwaited (d : Device) (i : Nat) : Device := { d with host := { d.host with waiting := d.host.waiting.eraseIdx i } }

theorem only_unwaited (i : Nat) (ks : List Nat) (d : Device) : Device.Only [.qm, .host, .out] ks d (d.unwaited i) :=
  .of_regs [.host] rfl (by simp) rfl

/-- The error that an access leaves: 2 for a read, 3 for a write. -/
def HostTxn.devErr : HostTxn → Nat
  | .drd _ _ _ => 2
  | _ => 3

/-- What of the device the access that fails finds: a read is no longer asked for. -/
def Device.timedOut (d : Device) (i : Nat) : HostTxn → Device
  | .drd tag _ _ => (d.unwaited i).answered tag
  | _ => d.unwaited i

theorem only_timedOut (i : Nat) (ks : List Nat) (x : HostTxn) (d : Device) : Device.Only [.qm, .host, .out] ks d (d.timedOut i x) := by
  cases x with
  | drd tag addr len => exact (only_unwaited i ks d).trans (only_answered tag ks _)
  | _ => exact only_unwaited i ks d

theorem devFailed_devTimeout {x : HostTxn} (hget : s.dev.host.waiting[i]? = some (q, x)) :
    DevFailed q x.devErr (s.dev.timedOut i x) (devTimeout i s.dev) := by
  unfold devTimeout
  rw [hget]
  have hfail := devFailed_devFail q x.devErr (s.dev.timedOut i x)
  cases x with
  | drd tag addr len =>
    dsimp only
    by_cases hq : q < 4096
    · rw [if_pos hq]
      exact hfail.asked (asked_fetchFreed _ _) hq
    · rw [if_neg hq, fetchFreed_of_lt (by decide)]
      exact hfail
  | _ => exact hfail

theorem devAccessTimeouts (x : HostTxn) (hset : s.settled) : s.dev.host.waiting[i]? = some (q, x) →
    Ends (.devAccessTimeout i) s (fun t => s.frame [.qm, .host, .out] [R.HOST_DEV_FAIL] t ∧
      t.dev.reg R.HOST_DEV_FAIL = min (s.dev.reg R.HOST_DEV_FAIL + 1) 0xFFFFFFFF ∧
      s.raised ⟨0x0D08, 4, none, [(2, q)]⟩ t ∧
      (4096 ≤ q → t.dev.qm = s.dev.qm ∧ t.dev.host.waiting = s.dev.host.waiting.eraseIdx i) ∧
      (q < 4096 → (s.dev.qp q).st = .active → (t.dev.qp q).st = .error ∧
        (t.dev.qp q).lastErr = (match x with | .drd _ _ _ => 2 | _ => 3))) := by
  intro hget
  have hfail := devFailed_devTimeout hget
  have hreg : (s.dev.timedOut i x).reg R.HOST_DEV_FAIL = s.dev.reg R.HOST_DEV_FAIL := by cases x <;> rfl
  have hev : (s.dev.timedOut i x).ev = s.dev.ev := by cases x <;> rfl
  refine ends_devFailed (f := fun _ d => devTimeout i d) rfl rfl hset (only_timedOut i _ x s.dev) hreg hev hfail
    fun t ht hfr hcount hraised => ⟨hfr, hcount, hraised, fun hge => ⟨?_, ?_⟩, fun hq hst => ?_⟩
  · rw [ht, Device.flush_qm, (hfail.ring hge).1]
    cases x <;> rfl
  · rw [ht, Device.flush_host, (hfail.ring hge).2]
    cases x <;> rfl
  · have hst' : ((s.dev.timedOut i x).qp q).st = .active := by cases x <;> exact hst
    rw [ht, qp_flush]
    obtain ⟨herr, hlast⟩ := hfail.error hq hst'
    exact ⟨herr, hlast.trans (by cases x <;> rfl)⟩

end

end Sys2Proof.Machine
end

section
/-! PROOFS of the link of the host port (R436 to R439, R452, R502). -/
namespace Sys2Proof.Machine

/-! ### The modules -/

section
variable (d : Device)

theorem module_setModule (m j : Nat) (x : HostModule) : (d.setModule m x).module j = if m = j then x else d.module j := Tbl.getD_set ..

theorem module_setModule_self (m : Nat) (x : HostModule) : (d.setModule m x).module m = x := (module_setModule d m m x).trans (if_pos rfl)

theorem module_setModule_ne {m j : Nat} (h : j ≠ m) (x : HostModule) : (d.setModule m x).module j = d.module j :=
  (module_setModule d m j x).trans (if_neg h.symm)

theorem module_flush (tb : Timebase) (m : Nat) : (d.flush tb).module m = d.module m := by
  unfold Device.module
  rw [Device.flush_host]

theorem linkUp_flush (tb : Timebase) : (d.flush tb).linkUp = d.linkUp := by
  unfold Device.linkUp
  rw [Device.flush_host]

variable {d}

theorem module_of_mods {e : Device} (h : e.host.mods = d.host.mods) (m : Nat) : e.module m = d.module m :=
  congrArg (Tbl.getD · m freshModule) h

theorem fld_of_regs {e : Device} (h : e.regs = d.regs) (k hi lo : Nat) : e.fld k hi lo = d.fld k hi lo := by
  unfold Device.fld Device.reg
  rw [h]

theorem linkUp_of_mods {e : Device} (h : e.host.mods = d.host.mods) : e.linkUp = d.linkUp :=
  congrArg (List.any · _) h

/-- R439: a module that is UP keeps the link UP. -/
theorem linkUp_of_module {m : Nat} (h : (d.module m).st = .up) : d.linkUp = true := by
  unfold Device.module Tbl.getD at h
  cases hg : d.host.mods.get? m with
  | none =>
    rw [hg] at h
    exact absurd h (by simp [freshModule])
  | some x =>
    rw [hg] at h
    exact List.any_eq_true.mpr ⟨(m, x), Tbl.mem_of_get? hg, beq_iff_eq.mpr h⟩

end

/-! ### The MSGs of a link that returns (R502) -/

/-- MSGs leave: vectors are disarmed, and no event, no register and nothing of the link changes. -/
structure Device.Messaged (a b : Device) : Prop where
  only : Device.Only [.host, .out, .qm] [] a b
  regs : b.regs = a.regs
  host : b.host = a.host
  counts : b.ev.counts = a.ev.counts
  raised : b.ev.raised = a.ev.raised

theorem Device.Messaged.refl (a : Device) : Device.Messaged a a := ⟨.refl a, rfl, rfl, rfl, rfl⟩

theorem Device.Messaged.trans {a b c : Device} (h : Device.Messaged a b) (g : Device.Messaged b c) : Device.Messaged a c :=
  ⟨h.only.trans g.only, g.regs.trans h.regs, g.host.trans h.host, g.counts.trans h.counts, g.raised.trans h.raised⟩

theorem messaged_msg0 (d : Device) : Device.Messaged d d.msg0 := by
  unfold Device.msg0
  split
  · exact ⟨.of_regs [.out] rfl (by simp) rfl, rfl, rfl, rfl, rfl⟩
  · exact .refl d

theorem messaged_announce (d : Device) (q : Nat) : Device.Messaged d (d.announce q) := by
  unfold Device.announce
  dsimp only
  split
  · exact ⟨.of_regs [.out, .qm] rfl (by simp) rfl, rfl, rfl, rfl, rfl⟩
  · exact .refl d

/-- The vectors of the queue pairs, whichever of them hold entries. -/
theorem messaged_foldl {p : Device → Nat → Prop} [∀ d q, Decidable (p d q)] (l : List Nat) (d : Device) :
    Device.Messaged d (l.foldl (fun d q => if p d q then d else d.announce q) d) := by
  induction l generalizing d with
  | nil => exact .refl d
  | cons q l ih =>
    refine Device.Messaged.trans ?_ (ih _)
    dsimp only
    split
    · exact .refl d
    · exact messaged_announce d q

theorem messaged_linkReturnMsgs (d : Device) : Device.Messaged d (linkReturnMsgs d) := by
  unfold linkReturnMsgs
  dsimp only
  refine Device.Messaged.trans ?_ (messaged_foldl _ _)
  split
  · exact .refl d
  · exact messaged_msg0 d

/-! ### The link goes UP or DOWN (R436, R439) -/

theorem only_linkLost {ps : List DevPart} {ks : List Nat} (hp : .host ∈ ps) (d : Device) : Device.Only ps ks d (linkLost d) := by
  have hhost : Device.Only ps ks d { d with host := (linkLost d).host } := .of_regs [.host] rfl (by simpa using hp) rfl
  exact hhost.raise 0x0D02 []

theorem mods_linkLost (d : Device) : (linkLost d).host.mods = d.host.mods := rfl

/-- R439: what waited for the link is sent. -/
def Device.waitedSent (d : Device) : Device := { d with
  host := { d.host with waiting := [] }
  out := d.out ++ d.host.waiting.map (·.2) }

/-- R436: EPOCH as the link returns. -/
def Device.nextEpoch (d : Device) : Nat := (d.fld R.HOST_STATUS 15 0 + 1) % 65536

theorem linkBack_eq (d : Device) : linkBack d =
    linkReturnMsgs ((d.setFld R.HOST_STATUS 15 0 d.nextEpoch).raise 0x0D01 [(2, d.nextEpoch)]).waitedSent := rfl

/-- R436, R439: what the return of the link leaves. -/
structure LinkReturned (a b : Device) : Prop where
  only : Device.Only [.host, .out, .qm] [R.HOST_STATUS] a b
  mods : b.host.mods = a.host.mods
  counts : b.ev.counts = a.ev.counts
  raises : raisesOf 0x0D01 b.ev.raised = raisesOf 0x0D01 a.ev.raised + 1
  waiting : b.host.waiting = []
  epoch : b.fld R.HOST_STATUS 15 0 = (a.fld R.HOST_STATUS 15 0 + 1) % 65536

theorem linkReturned_linkBack (d : Device) : LinkReturned d (linkBack d) := by
  have hlt : d.nextEpoch < 65536 := Nat.mod_lt _ (by decide)
  have hfld := fld_setFld d R.HOST_STATUS (hi := 15) (lo := 0) (by decide) (by decide) d.nextEpoch
  have hmsg := messaged_linkReturnMsgs ((d.setFld R.HOST_STATUS 15 0 d.nextEpoch).raise 0x0D01 [(2, d.nextEpoch)]).waitedSent
  have honly : Device.Only [.host, .out, .qm] [R.HOST_STATUS] d
      ((d.setFld R.HOST_STATUS 15 0 d.nextEpoch).raise 0x0D01 [(2, d.nextEpoch)]).waitedSent :=
    (((Device.Only.refl d).setFld _ _ _ (by simp)).raise 0x0D01 [(2, d.nextEpoch)]).trans (.of_regs [.host, .out] rfl (by simp) rfl)
  rw [linkBack_eq]
  refine ⟨honly.trans (hmsg.only.mono (List.Subset.refl _) (by simp)), ?_, hmsg.counts, ?_, ?_, ?_⟩
  · exact (congrArg HostUnit.mods hmsg.host :)
  · exact (congrArg (raisesOf 0x0D01) hmsg.raised).trans List.countP_cons
  · exact (congrArg HostUnit.waiting hmsg.host :)
  · rw [fld_of_regs hmsg.regs]
    exact hfld.trans (Nat.mod_eq_of_lt hlt)

theorem linkChange_up (d : Device) (h : d.linkUp = true) : linkChange false d = linkBack d := by
  unfold linkChange
  rw [if_neg (by simp), if_pos (by simp [h])]

theorem linkChange_cases (was : Bool) (d : Device) : linkChange was d = linkLost d ∨ linkChange was d = linkBack d ∧ was = false ∨
    linkChange was d = d := by
  unfold linkChange
  split
  · exact .inl rfl
  · split
    · next h =>
      simp only [Bool.and_eq_true, Bool.not_eq_true'] at h
      exact .inr (.inl ⟨rfl, h.1⟩)
    · exact .inr (.inr rfl)

theorem only_linkChange (was : Bool) (d : Device) : Device.Only [.host, .out, .qm] [R.HOST_STATUS] d (linkChange was d) := by
  rcases linkChange_cases was d with h | ⟨h, -⟩ | h
  · rw [h]
    exact only_linkLost (by simp) d
  · rw [h]
    exact (linkReturned_linkBack d).only
  · rw [h]
    exact .refl d

theorem mods_linkChange (was : Bool) (d : Device) : (linkChange was d).host.mods = d.host.mods := by
  rcases linkChange_cases was d with h | ⟨h, -⟩ | h
  · rw [h]
    exact mods_linkLost d
  · rw [h]
    exact (linkReturned_linkBack d).mods
  · rw [h]

/-! ### Training (R436, R437) -/

/-- Modules train: nothing but their states changes, and no event of the link itself is raised. -/
structure Device.Trained (a b : Device) : Prop where
  only : Device.Only [.host] [] a b
  regs : b.regs = a.regs
  counts : b.ev.counts = a.ev.counts
  raises : raisesOf 0x0D01 b.ev.raised = raisesOf 0x0D01 a.ev.raised

theorem Device.Trained.refl (a : Device) : Device.Trained a a := ⟨.refl a, rfl, rfl, rfl⟩

theorem Device.Trained.trans {a b c : Device} (h : Device.Trained a b) (g : Device.Trained b c) : Device.Trained a c :=
  ⟨h.only.trans g.only, g.regs.trans h.regs, g.counts.trans h.counts, g.raises.trans h.raises⟩

theorem trained_setModule (d : Device) (m : Nat) (x : HostModule) : Device.Trained d (d.setModule m x) :=
  ⟨.of_regs [.host] rfl (by simp) rfl, rfl, rfl, rfl⟩

theorem trained_raise {code : Nat} (h : code ≠ 0x0D01) (pay : List (Nat × Nat)) (d : Device) : Device.Trained d (d.raise code pay) :=
  ⟨(Device.Only.refl d).raise _ _, rfl, rfl, List.countP_cons_of_neg (by simpa using h)⟩

/-- The lanes that a module repaired. -/
theorem lanesRepaired (m : Nat) (l : List Nat) (d : Device) :
    Device.Trained d (l.foldl (fun d l => d.raise 0x0D05 [(1, m), (1, l)]) d) ∧
      (l.foldl (fun d l => d.raise 0x0D05 [(1, m), (1, l)]) d).host = d.host := by
  induction l generalizing d with
  | nil => exact ⟨.refl d, rfl⟩
  | cons x l ih =>
    obtain ⟨htr, hhost⟩ := ih (d.raise 0x0D05 [(1, m), (1, x)])
    exact ⟨(trained_raise (by decide) _ d).trans htr, hhost⟩

theorem trained_moduleUp (m spares : Nat) (lanes : List Nat) (d : Device) : Device.Trained d (moduleUp m spares lanes d) :=
  (trained_setModule d m _).trans (lanesRepaired m lanes _).1

theorem module_moduleUp (m spares : Nat) (lanes : List Nat) (d : Device) (j : Nat) :
    (moduleUp m spares lanes d).module j = if m = j then ⟨.up, lanes, spares⟩ else d.module j :=
  (module_of_mods (congrArg HostUnit.mods (lanesRepaired m lanes (d.setModule m ⟨.up, lanes, spares⟩)).2) j).trans (module_setModule ..)

theorem trained_moduleExcluded (m : Nat) (d : Device) : Device.Trained d (moduleExcluded m d) :=
  (trained_setModule d m _).trans (trained_raise (by decide) _ _)

theorem module_moduleExcluded (m : Nat) (d : Device) (j : Nat) :
    (moduleExcluded m d).module j = if m = j then ⟨.excluded, [], 0⟩ else d.module j := module_setModule ..

section
variable (trained : Nat) (repairs : List (Nat × Nat)) (spares : List Nat)

/-- The training of one module ends. -/
def trainModule (d : Device) (m : Nat) : Device :=
  if bit m trained then moduleUp m (spares.getD m 0) ((repairs.filter (fun r => r.1 == m)).map (·.2)) d else moduleExcluded m d

/-- What a module is then. -/
def trainedModule (m : Nat) : HostModule :=
  if bit m trained then ⟨.up, (repairs.filter (fun r => r.1 == m)).map (·.2), spares.getD m 0⟩ else ⟨.excluded, [], 0⟩

theorem trained_trainModule (d : Device) (m : Nat) : Device.Trained d (trainModule trained repairs spares d m) := by
  unfold trainModule
  split
  · exact trained_moduleUp ..
  · exact trained_moduleExcluded ..

theorem module_trainModule (d : Device) (m j : Nat) : (trainModule trained repairs spares d m).module j =
    if m = j then trainedModule trained repairs spares m else d.module j := by
  unfold trainModule trainedModule
  split
  · exact module_moduleUp ..
  · exact module_moduleExcluded ..

theorem trained_trainModules (l : List Nat) (d : Device) : Device.Trained d (l.foldl (trainModule trained repairs spares) d) := by
  induction l generalizing d with
  | nil => exact .refl d
  | cons m l ih => exact (trained_trainModule ..).trans (ih _)

theorem module_trainModules (l : List Nat) (d : Device) (j : Nat) : (l.foldl (trainModule trained repairs spares) d).module j =
    if j ∈ l then trainedModule trained repairs spares j else d.module j := by
  induction l generalizing d with
  | nil => simp
  | cons m l ih =>
    rw [List.foldl_cons, ih, module_trainModule]
    by_cases hj : j ∈ l
    · simp [hj]
    · by_cases hm : m = j
      · simp [hm]
      · simp [hj, hm, Ne.symm hm]

/-- The modules that train. -/
def Device.trainees (d : Device) : List Nat := (List.range 4).filter (fun m => (d.module m).st == .training && !d.modDisabled m)

theorem mem_trainees {d : Device} {m : Nat} : m ∈ d.trainees ↔ m < 4 ∧ (d.module m).st = .training ∧ d.modDisabled m = false := by
  simp [Device.trainees]

theorem linkTrained_of {d : Device} (h : d.domOn 17 = true) : linkTrained trained repairs spares d =
    linkChange d.linkUp (d.trainees.foldl (trainModule trained repairs spares) d) := by
  unfold linkTrained
  exact if_neg (by simp [h])

/-- What a change of the modules does to the link, as a command. -/
theorem link_returns {s t : State} {x : Device} (hset : s.settled) (hx : Device.Trained s.dev x) (hdown : s.dev.linkUp = false)
    (ht : t.dev = (linkChange s.dev.linkUp x).flush s.tb) (hup : x.linkUp = true) : s.counted 0x0D01 t ∧ t.dev.host.waiting = [] ∧
        t.dev.fld R.HOST_STATUS 15 0 = (s.dev.fld R.HOST_STATUS 15 0 + 1) % 65536 := by
  rw [hdown, linkChange_up x hup] at ht
  have hback := linkReturned_linkBack x
  refine ⟨counted_of (hback.counts.trans hx.counts) ?_ ht, ?_, ?_⟩
  · rw [hback.raises, hx.raises, show s.dev.ev.raised = [] from hset]
    rfl
  · rw [ht, Device.flush_host, hback.waiting]
  · rw [ht, fld_flush _ _ (by decide), hback.epoch, fld_of_regs hx.regs]

theorem linkTrainings (s : State) (hset : s.settled) (hon : s.dev.domOn 17 = true) :
    Ends (.linkTrainingDone trained repairs spares) s (fun t => s.frame [.host, .out, .qm] [R.HOST_STATUS] t ∧
      (∀ m, t.dev.module m =
        if m < 4 ∧ (s.dev.module m).st = .training ∧ s.dev.modDisabled m = false then
          (if bit m trained then ⟨.up, (repairs.filter (fun r => r.1 == m)).map (·.2), spares.getD m 0⟩
            else ⟨.excluded, [], 0⟩)
        else s.dev.module m) ∧
      (s.dev.linkUp = false → t.dev.linkUp = true → s.counted 0x0D01 t ∧ t.dev.host.waiting = [] ∧
        t.dev.fld R.HOST_STATUS 15 0 = (s.dev.fld R.HOST_STATUS 15 0 + 1) % 65536)) := by
  have heff := linkTrained_of trained repairs spares hon
  have hmod := module_trainModules trained repairs spares s.dev.trainees s.dev
  have htr := trained_trainModules trained repairs spares s.dev.trainees s.dev
  generalize s.dev.trainees.foldl (trainModule trained repairs spares) s.dev = x at *
  refine ends_onDev (f := fun _ d => linkTrained trained repairs spares d) rfl heff
    ((htr.only.mono (by simp) (by simp)).trans (only_linkChange _ x)) fun t ht hfr => ⟨hfr, fun m => ?_, fun hdown hup => ?_⟩
  · rw [ht, module_flush, module_of_mods (mods_linkChange _ x), hmod]
    simp only [mem_trainees]
    rfl
  · rw [ht, linkUp_flush, linkUp_of_mods (mods_linkChange _ x)] at hup
    exact link_returns hset htr hdown ht hup

end

/-! ### Retraining (R438) -/

/-- R438: what an UP module that leaves UP leaves of the device. -/
structure Retrained (m : Nat) (a b : Device) : Prop where
  only : Device.Only [.host] [inst R.HOST_MOD_RETRAINS m] a b
  count : b.reg (inst R.HOST_MOD_RETRAINS m) = min (a.reg (inst R.HOST_MOD_RETRAINS m) + 1) 0xFFFFFFFF
  counts : b.ev.counts = a.ev.counts
  raises : raisesOf 0x0D04 b.ev.raised = raisesOf 0x0D04 a.ev.raised + 1
  self : b.module m = { a.module m with st := .retraining }
  others : ∀ j, j ≠ m → b.module j = a.module j

/-- The device once a module has left UP. -/
def Device.leftUp (d : Device) (m cause : Nat) : Device :=
  ((beginTraining m (d.setModule m { d.module m with st := .retraining })).inc (modReg R.HOST_MOD_RETRAINS m)).raise 0x0D04
    [(1, m), (1, Config.retrainCause cause)]

theorem retrained_leftUp (d : Device) (m cause : Nat) : Retrained m d (d.leftUp m cause) := by
  have hbegin : Device.Only [.host] [inst R.HOST_MOD_RETRAINS m] d
      (beginTraining m (d.setModule m { d.module m with st := .retraining })) := .of_regs [.host] rfl (by simp) rfl
  exact {
    only := (hbegin.inc (by simp [modReg])).raise _ _
    count := reg_incBy_self (beginTraining m (d.setModule m { d.module m with st := .retraining })) _ 1
    counts := rfl
    raises := List.countP_cons
    self := module_setModule_self d m _
    others := fun j hj => module_setModule_ne d hj _ }

/-- The link may be lost with it. -/
theorem Retrained.linkChange {m : Nat} {a b : Device} (h : Retrained m a b) : Retrained m a (linkChange true b) := by
  rcases linkChange_cases true b with hc | ⟨-, hc⟩ | hc
  · rw [hc]
    exact {
      only := h.only.trans (only_linkLost (by simp) b)
      count := h.count
      counts := h.counts
      raises := (List.countP_cons_of_neg (by simp)).trans h.raises
      self := h.self
      others := h.others }
  · exact absurd hc (by simp)
  · rw [hc]
    exact h

theorem retrained_retrain {d : Device} {m : Nat} (h : (d.module m).st = .up) (cause : Nat) : Retrained m d (retrain m cause d) := by
  have heff : retrain m cause d = linkChange d.linkUp (d.leftUp m cause) := by
    unfold retrain
    exact if_neg (by simp [h])
  rw [heff, linkUp_of_module h]
  exact (retrained_leftUp d m cause).linkChange

theorem Retrained.counted {s t : State} {m : Nat} {d e : Device} (h : Retrained m d e) (hset : s.settled) (hev : d.ev = s.dev.ev)
    (ht : t.dev = e.flush s.tb) : s.counted 0x0D04 t := by
  refine counted_of (h.counts.trans (congrArg EventUnit.counts hev)) ?_ ht
  rw [h.raises, hev, show s.dev.ev.raised = [] from hset]
  rfl

theorem modReg_ne {a b : Nat} (m : Nat) (h : a ≠ b) : inst a m ≠ inst b m := fun he => h (Nat.add_right_cancel he)

theorem retrains_notEvent (m : Nat) : inst R.HOST_MOD_RETRAINS m ∉ eventRegs := inst_notEvent (by decide) m
theorem retries_notEvent (m : Nat) : inst R.HOST_MOD_RETRIES m ∉ eventRegs := inst_notEvent (by decide) m
theorem crcErrors_notEvent (m : Nat) : inst R.HOST_MOD_CRC_ERR m ∉ eventRegs := inst_notEvent (by decide) m

/-- The retries and the CRC errors of a module are counted. -/
def Device.adapterCounted (d : Device) (m retries crc : Nat) : Device :=
  (d.incBy (modReg R.HOST_MOD_RETRIES m) retries).incBy (modReg R.HOST_MOD_CRC_ERR m) crc

theorem only_adapterCounted (d : Device) (m retries crc : Nat) : Device.Only [.host]
    [inst R.HOST_MOD_RETRIES m, inst R.HOST_MOD_CRC_ERR m, inst R.HOST_MOD_RETRAINS m] d (d.adapterCounted m retries crc) :=
  ((Device.Only.refl d).incBy _ (by simp [modReg])).incBy _ (by simp [modReg])

theorem reg_adapterCounted (d : Device) (m retries crc : Nat) :
    (d.adapterCounted m retries crc).reg (inst R.HOST_MOD_RETRIES m) = min (d.reg (inst R.HOST_MOD_RETRIES m) + retries) 0xFFFFFFFF ∧
    (d.adapterCounted m retries crc).reg (inst R.HOST_MOD_CRC_ERR m) = min (d.reg (inst R.HOST_MOD_CRC_ERR m) + crc) 0xFFFFFFFF ∧
    (d.adapterCounted m retries crc).reg (inst R.HOST_MOD_RETRAINS m) = d.reg (inst R.HOST_MOD_RETRAINS m) := by
  unfold Device.adapterCounted modReg
  refine ⟨?_, ?_, ?_⟩
  · rw [reg_incBy_ne _ _ (modReg_ne m (by decide)), reg_incBy_self]
  · rw [reg_incBy_self, reg_incBy_ne _ _ (modReg_ne m (by decide))]
  · rw [reg_incBy_ne _ _ (modReg_ne m (by decide)), reg_incBy_ne _ _ (modReg_ne m (by decide))]

theorem adapterRetries_of {d : Device} {m : Nat} (h : (d.module m).st = .up) (retries crc : Nat) : adapterRetries m retries crc d =
    if 16 < retries then retrain m 0 (d.adapterCounted m retries crc) else d.adapterCounted m retries crc := by
  unfold adapterRetries
  exact if_neg (by simp [h])

section
variable {s : State} {m : Nat}

theorem adapterLimits (hset : s.settled) (h : (s.dev.module m).st = .up) (retries crc : Nat) :
    Ends (.adapterRetryLimit m retries crc) s (fun t =>
        s.frame [.host] [inst R.HOST_MOD_RETRIES m, inst R.HOST_MOD_CRC_ERR m, inst R.HOST_MOD_RETRAINS m] t ∧
        t.dev.reg (inst R.HOST_MOD_RETRIES m) = min (s.dev.reg (inst R.HOST_MOD_RETRIES m) + retries) 0xFFFFFFFF ∧
        t.dev.reg (inst R.HOST_MOD_CRC_ERR m) = min (s.dev.reg (inst R.HOST_MOD_CRC_ERR m) + crc) 0xFFFFFFFF ∧
        (retries ≤ 16 → t.dev.host = s.dev.host) ∧
        (16 < retries → s.counted 0x0D04 t ∧ t.dev.module m = { s.dev.module m with st := .retraining } ∧
          t.dev.reg (inst R.HOST_MOD_RETRAINS m) = min (s.dev.reg (inst R.HOST_MOD_RETRAINS m) + 1) 0xFFFFFFFF)) := by
  have heff := adapterRetries_of h retries crc
  have honly := only_adapterCounted s.dev m retries crc
  have hup : ((s.dev.adapterCounted m retries crc).module m).st = .up := h
  have hhost : (s.dev.adapterCounted m retries crc).host = s.dev.host := rfl
  have hev : (s.dev.adapterCounted m retries crc).ev = s.dev.ev := rfl
  have hself : (s.dev.adapterCounted m retries crc).module m = s.dev.module m := rfl
  obtain ⟨hretries, hcrc, hretrains⟩ := reg_adapterCounted s.dev m retries crc
  generalize s.dev.adapterCounted m retries crc = d at *
  by_cases hr : 16 < retries
  · rw [if_pos hr] at heff
    have hre := retrained_retrain hup 0
    have hsame (k : Nat) (hk : k ≠ inst R.HOST_MOD_RETRAINS m) (he : k ∉ eventRegs) := hre.only.regs k (by simpa using hk) he
    refine ends_onDev (f := fun _ d => adapterRetries m retries crc d) rfl heff (honly.trans (hre.only.mono (List.Subset.refl _) (by simp)))
      fun t ht hfr => ⟨hfr, ?_, ?_, fun hle => absurd hr (by omega), fun _ => ⟨hre.counted hset hev ht, ?_, ?_⟩⟩
    · rw [ht, reg_flush _ _ (retries_notEvent m), hsame _ (modReg_ne m (by decide)) (retries_notEvent m), hretries]
    · rw [ht, reg_flush _ _ (crcErrors_notEvent m), hsame _ (modReg_ne m (by decide)) (crcErrors_notEvent m), hcrc]
    · rw [ht, module_flush, hre.self, hself]
    · rw [ht, reg_flush _ _ (retrains_notEvent m), hre.count, hretrains]
  · rw [if_neg hr] at heff
    refine ends_onDev (f := fun _ d => adapterRetries m retries crc d) rfl heff honly
      fun t ht hfr => ⟨hfr, ?_, ?_, fun _ => ?_, fun hgt => absurd hgt hr⟩
    · rw [ht, reg_flush _ _ (retries_notEvent m), hretries]
    · rw [ht, reg_flush _ _ (crcErrors_notEvent m), hcrc]
    · rw [ht, Device.flush_host, hhost]

/-- R438: what an UP module that leaves UP leaves, whichever command takes it out. -/
theorem Retrained.leaves {t : State} {d e : Device} (hre : Retrained m d e) (hset : s.settled) (hd : d = s.dev ∨ d = s.dev.dropPend)
    (ht : t.dev = e.flush s.tb) : s.counted 0x0D04 t ∧
      t.dev.module m = { s.dev.module m with st := .retraining } ∧ (∀ j, j ≠ m → t.dev.module j = s.dev.module j) ∧
      t.dev.reg (inst R.HOST_MOD_RETRAINS m) = min (s.dev.reg (inst R.HOST_MOD_RETRAINS m) + 1) 0xFFFFFFFF := by
  have hev : d.ev = s.dev.ev := by rcases hd with rfl | rfl <;> rfl
  have hmod (j) : d.module j = s.dev.module j := by rcases hd with rfl | rfl <;> rfl
  have hreg (k) : d.reg k = s.dev.reg k := by rcases hd with rfl | rfl <;> rfl
  refine ⟨hre.counted hset hev ht, ?_, fun j hj => ?_, ?_⟩
  · rw [ht, module_flush, hre.self, hmod]
  · rw [ht, module_flush, hre.others j hj, hmod]
  · rw [ht, reg_flush _ _ (retrains_notEvent m), hre.count, hreg]

theorem retrainWrite_up {d : Device} (h : (d.module m).st = .up) : retrainWrite m d = retrain m 2 d := by
  unfold retrainWrite
  exact if_neg (by simp [h])

theorem moduleRetrains (hset : s.settled) (hm : m < 4) (h : (s.dev.module m).st = .up) (c : Instr)
    (hc : c ∈ [Instr.laneCheckFail m, .hostRetrain m]) : Ends c s (fun t =>
      s.frame [.host, .port] [inst R.HOST_MOD_RETRAINS m] t ∧ s.counted 0x0D04 t ∧
      t.dev.module m = { s.dev.module m with st := .retraining } ∧ (∀ j, j ≠ m → t.dev.module j = s.dev.module j) ∧
      t.dev.reg (inst R.HOST_MOD_RETRAINS m) = min (s.dev.reg (inst R.HOST_MOD_RETRAINS m) + 1) 0xFFFFFFFF) := by
  simp only [List.mem_cons, List.not_mem_nil, or_false] at hc
  rcases hc with rfl | rfl
  · have hre := retrained_retrain h 1
    exact ends_onDev (f := fun _ d => retrain m 1 d) rfl rfl (hre.only.mono (by simp) (List.Subset.refl _))
      fun t ht hfr => ⟨hfr, hre.leaves hset (.inl rfl) ht⟩
  · have hup : (s.dev.dropPend.module m).st = .up := h
    have hre := retrained_retrain hup 2
    have heff : retrainWrite (m % 4) s.dev.dropPend = retrain m 2 s.dev.dropPend := by
      rw [Nat.mod_eq_of_lt hm]
      exact retrainWrite_up hup
    exact ends_onAon (f := fun _ d => retrainWrite (m % 4) d) rfl (by simp) heff (hre.only.mono (by simp) (List.Subset.refl _))
      fun t ht hfr => ⟨hfr, hre.leaves hset (.inr rfl) ht⟩

theorem moduleTrainsAgain (hm : m < 4) (h : (s.dev.module m).st = .excluded) : Ends (.hostRetrain m) s (fun t =>
      s.frame [.host, .port] [] t ∧ t.dev.module m = ⟨.training, [], 0⟩ ∧ ∀ j, j ≠ m → t.dev.module j = s.dev.module j) := by
  have hex : (s.dev.dropPend.module m).st = .excluded := h
  have heff : retrainWrite (m % 4) s.dev.dropPend = beginTraining m (s.dev.dropPend.setModule m ⟨.training, [], 0⟩) := by
    rw [Nat.mod_eq_of_lt hm]
    unfold retrainWrite
    exact if_pos (by simp [hex])
  refine ends_onAon (f := fun _ d => retrainWrite (m % 4) d) rfl (by simp) heff (.of_regs [.host] rfl (by simp) rfl)
    fun t ht hfr => ⟨hfr, ?_, fun j hj => ?_⟩
  · rw [ht, module_flush]
    exact module_setModule_self ..
  · rw [ht, module_flush]
    exact module_setModule_ne _ hj _

theorem retraining_of (h : (s.dev.module m).st = .retraining ∨ (s.dev.module m).st = .training) : (s.dev.module m).retraining = true := by
  unfold HostModule.retraining
  rcases h with h | h <;> rw [h] <;> rfl

theorem moduleRetrained (hset : s.settled) (hm : m < 4) (h : (s.dev.module m).retraining = true) (hon : s.dev.domOn 17 = true)
    (lanes : List Nat) (spares : Nat) (hdis : s.dev.modDisabled m = false) : Ends (.retrainDone m lanes spares) s (fun t =>
        s.frame [.host, .out, .qm] [R.HOST_STATUS] t ∧ t.dev.module m = ⟨.up, lanes, spares⟩ ∧
        (∀ j, j ≠ m → t.dev.module j = s.dev.module j) ∧
        (s.dev.linkUp = false → s.counted 0x0D01 t ∧ t.dev.host.waiting = [] ∧
          t.dev.fld R.HOST_STATUS 15 0 = (s.dev.fld R.HOST_STATUS 15 0 + 1) % 65536)) := by
  have heff : retrainDone m spares lanes s.dev = linkChange s.dev.linkUp (moduleUp m spares lanes s.dev) := by
    unfold retrainDone
    exact if_neg (by simp [h, hdis, hon]; omega)
  have hmod := module_moduleUp m spares lanes s.dev
  have htr := trained_moduleUp m spares lanes s.dev
  generalize moduleUp m spares lanes s.dev = x at *
  have hself := (hmod m).trans (if_pos rfl)
  refine ends_onDev (f := fun _ d => retrainDone m spares lanes d) rfl heff
    ((htr.only.mono (by simp) (by simp)).trans (only_linkChange _ x)) fun t ht hfr => ⟨hfr, ?_, fun j hj => ?_, fun hdown => ?_⟩
  · rw [ht, module_flush, module_of_mods (mods_linkChange _ x), hself]
  · rw [ht, module_flush, module_of_mods (mods_linkChange _ x), hmod, if_neg (Ne.symm hj)]
  · exact link_returns hset htr hdown ht (linkUp_of_module (m := m) (by rw [hself]))

theorem moduleTimesOut (hset : s.settled) (hm : m < 4) (h : (s.dev.module m).retraining = true) (hon : s.dev.domOn 17 = true) :
    Ends (.retrainTimeout m) s (fun t => s.frame [.host] [] t ∧ s.raised ⟨0x0D03, 4, none, [(1, m)]⟩ t ∧
        t.dev.module m = ⟨.excluded, [], 0⟩ ∧ ∀ j, j ≠ m → t.dev.module j = s.dev.module j) := by
  have heff : retrainTimeout m s.dev = moduleExcluded m s.dev := by
    unfold retrainTimeout
    exact if_neg (by simp [h, hon]; omega)
  refine ends_onDev (f := fun _ d => retrainTimeout m d) rfl heff (trained_moduleExcluded m s.dev).only
    fun t ht hfr => ⟨hfr, raised_of_one _ (s.dev.setModule m ⟨.excluded, [], 0⟩) rfl hset ht, ?_, fun j hj => ?_⟩
  · rw [ht, module_flush, module_moduleExcluded, if_pos rfl]
  · rw [ht, module_flush, module_moduleExcluded, if_neg (Ne.symm hj)]

end

end Sys2Proof.Machine
end

section
/-! PROOFS of the event ring and vector 0 (R496, R497, R500, R502), and what settles the statement of the host port. -/
namespace Sys2Proof.Machine

/-! ### Vector 0 (R502) -/

/-- Vector 0 is armed or disarmed, and its MSG may leave: the ring and the registers stand. -/
structure Device.SameRing (a b : Device) : Prop where
  only : Device.Only [.out] [] a b
  regs : b.regs = a.regs
  buffer : b.ev.buffer = a.ev.buffer
  ringFams : b.ev.ringFams = a.ev.ringFams
  raised : b.ev.raised = a.ev.raised

theorem Device.SameRing.trans {a b c : Device} (h : Device.SameRing a b) (g : Device.SameRing b c) : Device.SameRing a c :=
  ⟨h.only.trans g.only, g.regs.trans h.regs, g.buffer.trans h.buffer, g.ringFams.trans h.ringFams, g.raised.trans h.raised⟩

theorem Device.SameRing.refl (a : Device) : Device.SameRing a a := ⟨.refl a, rfl, rfl, rfl, rfl⟩

theorem sameRing_msg0 (d : Device) : Device.SameRing d d.msg0 := by
  unfold Device.msg0
  split
  · exact ⟨.of_regs [.out] rfl (by simp) rfl, rfl, rfl, rfl, rfl⟩
  · exact .refl d

/-- The MSG leaves where vector 0 is armed and the link is UP. -/
theorem out_msg0 {d : Device} (h : d.linkUp = true) : d.msg0.out = d.out ++ (if d.ev.armed0 = true then [.msg 0] else []) := by
  unfold Device.msg0
  rw [h, Bool.and_true]
  cases d.ev.armed0 with
  | true => rfl
  | false => exact (List.append_nil _).symm

/-- Vector 0 as it is armed or disarmed. -/
def Device.vector0 (d : Device) (on : Bool) : Device := { d with ev := { d.ev with armed0 := on } }

theorem sameRing_vector0 (d : Device) (on : Bool) : Device.SameRing d (d.vector0 on) :=
  ⟨.of_regs [] rfl (by simp) rfl, rfl, rfl, rfl, rfl⟩

theorem arm0_eq (d : Device) : arm0 d = if d.ev.ringFams.any d.famIrq then (d.vector0 true).msg0 else d.vector0 true := rfl

theorem sameRing_arm0 (d : Device) : Device.SameRing d (arm0 d) := by
  rw [arm0_eq]
  split
  · exact (sameRing_vector0 d true).trans (sameRing_msg0 _)
  · exact sameRing_vector0 d true

theorem msg0_armed (d : Device) : (d.vector0 true).msg0 = if d.linkUp = true then (d.vector0 false).send (.msg 0) else d.vector0 true := by
  unfold Device.msg0
  rfl

/-- R502: a qualifying record in the ring sends the MSG of the vector that is armed at once. -/
theorem arm0_sends (d : Device) : if d.ev.ringFams.any d.famIrq = true ∧ d.linkUp = true
    then (arm0 d).ev.armed0 = false ∧ (arm0 d).out = d.out ++ [.msg 0] else (arm0 d).ev.armed0 = true ∧ (arm0 d).out = d.out := by
  rw [arm0_eq, msg0_armed]
  by_cases hq : d.ev.ringFams.any d.famIrq = true
  · by_cases hl : d.linkUp = true
    · rw [if_pos ⟨hq, hl⟩, if_pos hq, if_pos hl]
      exact ⟨rfl, rfl⟩
    · rw [if_neg fun h => hl h.2, if_pos hq, if_neg hl]
      exact ⟨rfl, rfl⟩
  · rw [if_neg fun h => hq h.1, if_neg hq]
    exact ⟨rfl, rfl⟩

/-! ### The ring (R496, R497) -/

/-- The oldest record has left the buffer for the ring. -/
def Device.recorded (d : Device) (r : EventRec) (rest : List EventRec) : Device :=
  { d with
    ev := { d.ev with
      buffer := rest
      ringFams := d.ev.ringFams ++ [r.req.code / 256] }
    out := d.out ++ [HostTxn.dwr (d.reg64 R.EVT_RING_BASE_LO + 64 * (d.reg R.EVT_RING_TAIL % d.ringSize))
      (r.encode (if d.reg R.EVT_RING_TAIL / d.ringSize % 2 = 0 then 1 else 0))] }.setReg R.EVT_RING_TAIL (d.reg R.EVT_RING_TAIL + 1)

theorem only_recorded (d : Device) (r : EventRec) (rest : List EventRec) : Device.Only [.out] [R.EVT_RING_TAIL] d (d.recorded r rest) :=
  .of_merge [.out] rfl (List.Subset.refl _) fun _ hk _ => reg_setReg_ne _ _ (Ne.symm (List.ne_of_not_mem_cons hk))

theorem famIrq_of_ctrl {a b : Device} (h : b.reg R.EVT_CTRL = a.reg R.EVT_CTRL) : b.famIrq = a.famIrq := by
  funext f
  unfold Device.famIrq Device.fld
  rw [h]

theorem eventRecordWrite_of {d : Device} {r : EventRec} {rest : List EventRec} (hbuf : d.ev.buffer = r :: rest)
    (hen : d.evtEnabled = true) (hlink : d.linkUp = true) (hroom : d.ringHeld < d.ringSize) :
    eventRecordWrite d = if d.famIrq (r.req.code / 256) = true then (d.recorded r rest).msg0 else d.recorded r rest := by
  have hirq : (d.recorded r rest).famIrq = d.famIrq := famIrq_of_ctrl (reg_setReg_ne _ _ (by decide))
  have haccess : ∀ x, d.access 4096 x = d.send x := fun x => if_pos hlink
  unfold eventRecordWrite
  rw [hbuf]
  dsimp only
  rw [if_neg (by simp [hen, hlink]; omega), haccess, ← hirq]
  simp only [beq_iff_eq]
  rfl

theorem eventRecordWrites (s : State) (r : EventRec) (rest : List EventRec) (hset : s.settled) (hbuf : s.dev.ev.buffer = r :: rest)
    (hen : s.dev.evtEnabled = true) (hlink : s.dev.linkUp = true) (hroom : s.dev.ringHeld < s.dev.ringSize) :
    Ends .eventRecordWrite s (fun t => s.frame [.out] [R.EVT_RING_TAIL] t ∧ t.dev.ev.buffer = rest ∧
      t.dev.reg R.EVT_RING_TAIL = (s.dev.reg R.EVT_RING_TAIL + 1) % 2 ^ 32 ∧
      t.dev.out = s.dev.out ++ [.dwr (s.dev.reg64 R.EVT_RING_BASE_LO + 64 * (s.dev.reg R.EVT_RING_TAIL % s.dev.ringSize))
          (r.encode (if s.dev.reg R.EVT_RING_TAIL / s.dev.ringSize % 2 = 0 then 1 else 0))]
        ++ (if s.dev.famIrq (r.req.code / 256) = true ∧ s.dev.ev.armed0 = true then [.msg 0] else [])) := by
  have heff := eventRecordWrite_of hbuf hen hlink hroom
  have honly := only_recorded s.dev r rest
  have htail : (s.dev.recorded r rest).reg R.EVT_RING_TAIL = (s.dev.reg R.EVT_RING_TAIL + 1) % 2 ^ 32 := reg_setReg_self ..
  have hup : (s.dev.recorded r rest).linkUp = true := hlink
  have hmsg := sameRing_msg0 (s.dev.recorded r rest)
  have hraised : (s.dev.recorded r rest).ev.raised = [] := hset
  by_cases hirq : s.dev.famIrq (r.req.code / 256) = true
  · rw [if_pos hirq] at heff
    refine ends_onDev (f := fun _ d => eventRecordWrite d) rfl heff (honly.trans (hmsg.only.mono (List.Subset.refl _) (by simp)))
      fun t ht hfr => ?_
    rw [flush_of_settled _ _ (hmsg.raised.trans hraised)] at ht
    refine ⟨hfr, ?_, ?_, ?_⟩
    · rw [ht, hmsg.buffer]
      rfl
    · rw [← htail, ht]
      unfold Device.reg
      rw [hmsg.regs]
    · rw [ht, out_msg0 hup]
      simp only [hirq, true_and]
      rfl
  · rw [if_neg hirq] at heff
    refine ends_onDev (f := fun _ d => eventRecordWrite d) rfl heff honly fun t ht hfr => ?_
    rw [flush_of_settled _ _ hraised] at ht
    refine ⟨hfr, ?_, ?_, ?_⟩
    · rw [ht]
      rfl
    · rw [ht, htail]
    · rw [ht, if_neg (show ¬ (s.dev.famIrq (r.req.code / 256) = true ∧ s.dev.ev.armed0 = true) from fun h => hirq h.1), List.append_nil]
      rfl

/-- Records that the host has consumed leave the ring. -/
def Device.consumed (d : Device) (v n : Nat) : Device :=
  { d with ev := { d.ev with ringFams := d.ev.ringFams.drop n } }.setReg R.EVT_RING_HEAD v

theorem only_consumed (d : Device) (v n : Nat) : Device.Only [.out] [R.EVT_RING_HEAD] d (d.consumed v n) :=
  .of_merge [] rfl (List.nil_subset _) fun _ hk _ => reg_setReg_ne _ _ (Ne.symm (List.ne_of_not_mem_cons hk))

theorem evtHeadWrite_taken {d : Device} {v : Nat} (h : (v + 2 ^ 32 - d.reg R.EVT_RING_HEAD) % 2 ^ 32 ≤ d.ringHeld) :
    Device.SameRing (d.consumed v ((v + 2 ^ 32 - d.reg R.EVT_RING_HEAD) % 2 ^ 32)) (evtHeadWrite v d) := by
  unfold evtHeadWrite
  dsimp only
  rw [if_neg (Nat.not_lt.mpr h)]
  split
  · exact sameRing_arm0 _
  · exact .refl _

theorem ringHeld_dropPend (d : Device) : d.dropPend.ringHeld = d.ringHeld := by
  unfold Device.ringHeld
  rw [reg_dropPend, reg_dropPend]

section
variable (s : State) (v : Nat)

/-- What a head that is taken leaves, whatever of vector 0 follows it. -/
theorem ends_consumed {n : Nat} {e : Device} (heff : evtHeadWrite v s.dev.dropPend = e) (hset : s.settled) (hv : v < 2 ^ 32)
    (htaken : Device.SameRing (s.dev.dropPend.consumed v n) e) :
    Ends (.evtRingHeadWrite v) s (fun t => s.frame [.port, .out] [R.EVT_RING_HEAD] t ∧ t.dev.reg R.EVT_RING_HEAD = v ∧
        t.dev.ev.buffer = s.dev.ev.buffer ∧ t.dev.ev.ringFams = s.dev.ev.ringFams.drop n) := by
  have hreg : (s.dev.dropPend.consumed v n).reg R.EVT_RING_HEAD = v := (reg_setReg_self ..).trans (Nat.mod_eq_of_lt hv)
  refine ends_onAon (ps := [.port, .out]) (ks := [R.EVT_RING_HEAD]) (f := fun _ d => evtHeadWrite v d) rfl (by simp) heff
    (((only_consumed s.dev.dropPend v n).trans (htaken.only.mono (List.Subset.refl _) (by simp))).mono (by simp) (List.Subset.refl _))
    fun t ht hfr => ?_
  rw [flush_of_settled _ _ (htaken.raised.trans hset)] at ht
  refine ⟨hfr, ?_, ?_, ?_⟩
  · refine Eq.trans ?_ hreg
    rw [ht]
    unfold Device.reg
    rw [htaken.regs]
  · rw [ht, htaken.buffer]
    rfl
  · rw [ht, htaken.ringFams]
    rfl

theorem ringHeadWrites (hset : s.settled) (hv : v < 2 ^ 32) (h : (v + 2 ^ 32 - s.dev.reg R.EVT_RING_HEAD) % 2 ^ 32 ≤ s.dev.ringHeld) :
    Ends (.evtRingHeadWrite v) s (fun t => s.frame [.port, .out] [R.EVT_RING_HEAD] t ∧ t.dev.reg R.EVT_RING_HEAD = v ∧
        t.dev.ev.buffer = s.dev.ev.buffer ∧
        t.dev.ev.ringFams = s.dev.ev.ringFams.drop ((v + 2 ^ 32 - s.dev.reg R.EVT_RING_HEAD) % 2 ^ 32)) := by
  have htaken := evtHeadWrite_taken (d := s.dev.dropPend) (v := v)
  rw [reg_dropPend, ringHeld_dropPend] at htaken
  exact ends_consumed s v rfl hset hv (htaken h)

theorem ringHeadDiscarded (hset : s.settled) (h : s.dev.ringHeld < (v + 2 ^ 32 - s.dev.reg R.EVT_RING_HEAD) % 2 ^ 32) :
    Ends (.evtRingHeadWrite v) s (fun t => s.frame [.port] [] t ∧ t.dev.ev = s.dev.ev) := by
  have heff : evtHeadWrite v s.dev.dropPend = s.dev.dropPend := by
    unfold evtHeadWrite
    dsimp only
    rw [reg_dropPend, ringHeld_dropPend, if_pos h]
  refine ends_onAon (ps := [.port]) (ks := []) (f := fun _ d => evtHeadWrite v d) rfl (by simp) heff (.refl _) fun t ht hfr => ⟨hfr, ?_⟩
  rw [ht, flush_of_settled _ _ (show s.dev.dropPend.ev.raised = [] from hset)]
  rfl

theorem enableWrites (hset : s.settled) :
    Ends (.evtEnableWrite v) s (fun t => s.frame [.port] [R.EVT_CTRL] t ∧ t.dev.fld R.EVT_CTRL 31 31 = v % 2 ∧
      ∀ hi lo, hi < 31 → lo ≤ hi → t.dev.fld R.EVT_CTRL hi lo = s.dev.fld R.EVT_CTRL hi lo) := by
  refine ends_onAon (ps := [.port]) (ks := [R.EVT_CTRL]) (f := fun _ d => evtEnableWrite v d) rfl (by simp) rfl
    ((Device.Only.refl _).setFld _ _ _ (by simp)) fun t ht hfr => ?_
  rw [flush_of_settled _ _ (show (evtEnableWrite v s.dev.dropPend).ev.raised = [] from hset)] at ht
  refine ⟨hfr, ?_, fun hi lo hhi hlo => ?_⟩
  · rw [ht]
    exact fld_setFld _ _ (by decide) (by decide) v
  · rw [ht]
    exact fld_setFld_other _ (by decide) (by decide) v hlo (regRst_lt _) (.inl hhi)

/-- The IRQ_FAMILY bits stand beside IRQ. -/
theorem famIrq_irq (d : Device) (v : Nat) : (d.setFld R.EVT_CTRL 30 30 v).famIrq = d.famIrq := by
  funext f
  unfold Device.famIrq
  rw [fld_setFld_other d (by decide) (by decide) v (by decide) (regRst_lt _) (.inl (by decide))]

theorem evtIrqWrite_eq (d : Device) : evtIrqWrite v d =
    if v % 2 = 1 then arm0 (d.setFld R.EVT_CTRL 30 30 v) else (d.setFld R.EVT_CTRL 30 30 v).vector0 false := by
  unfold evtIrqWrite
  simp only [beq_iff_eq]
  rfl

theorem sameRing_evtIrqWrite (d : Device) : Device.SameRing (d.setFld R.EVT_CTRL 30 30 v) (evtIrqWrite v d) := by
  rw [evtIrqWrite_eq]
  split
  · exact sameRing_arm0 _
  · exact sameRing_vector0 _ false

theorem irqWrites (hset : s.settled) :
    Ends (.evtIrqWrite v) s (fun t => s.frame [.port, .out] [R.EVT_CTRL] t ∧ t.dev.fld R.EVT_CTRL 30 30 = v % 2 ∧
      (v % 2 = 0 → t.dev.ev.armed0 = false ∧ t.dev.out = s.dev.out) ∧
      (v % 2 = 1 → if s.dev.ev.ringFams.any s.dev.famIrq = true ∧ s.dev.linkUp = true
        then t.dev.ev.armed0 = false ∧ t.dev.out = s.dev.out ++ [.msg 0]
        else t.dev.ev.armed0 = true ∧ t.dev.out = s.dev.out)) := by
  have hfld := fld_setFld s.dev.dropPend R.EVT_CTRL (hi := 30) (lo := 30) (by decide) (by decide) v
  have honly : Device.Only [.out] [R.EVT_CTRL] s.dev.dropPend (s.dev.dropPend.setFld R.EVT_CTRL 30 30 v) :=
    (Device.Only.refl _).setFld _ _ _ (by simp)
  have hring := sameRing_evtIrqWrite v s.dev.dropPend
  refine ends_onAon (ps := [.port, .out]) (ks := [R.EVT_CTRL]) (f := fun _ d => evtIrqWrite v d) rfl (by simp) rfl
    ((honly.trans (hring.only.mono (List.Subset.refl _) (by simp))).mono (by simp) (List.Subset.refl _)) fun t ht hfr => ?_
  rw [flush_of_settled _ _ (hring.raised.trans hset)] at ht
  refine ⟨hfr, ?_, fun h0 => ?_, fun h1 => ?_⟩
  · rw [ht, fld_of_regs hring.regs]
    exact hfld
  · rw [ht, evtIrqWrite_eq, if_neg (by omega)]
    exact ⟨rfl, rfl⟩
  · have hsends := arm0_sends (s.dev.dropPend.setFld R.EVT_CTRL 30 30 v)
    rw [famIrq_irq] at hsends
    rw [ht, evtIrqWrite_eq, if_pos h1]
    exact hsends

end

/-- Settles O58: an access reaches what its address names, and the link, the ring and vector 0 follow their rules. -/
theorem hostPortAndEventRing : Obligations.HostPortAndEventRing :=
  ⟨fun _ _ _ tag n err h => ⟨hwrs_lost h, hrds_lost tag n err h⟩,
    hostWrites,
    hostReads,
    fun _ _ _ _ _ _ hset hlink hget hq => ⟨dcpl_data hlink hget hq, dcpl_failed hset hlink hget hq⟩,
    fun _ _ _ x hset => devAccessTimeouts x hset,
    fun s trained repairs spares hset hon => linkTrainings trained repairs spares s hset hon,
    fun _ _ hset hm => ⟨adapterLimits hset, moduleRetrains hset hm, moduleTrainsAgain hm, fun h hon =>
      ⟨moduleRetrained hset hm (retraining_of h) hon, moduleTimesOut hset hm (retraining_of h) hon⟩⟩,
    eventRecordWrites,
    fun s v hset => ⟨ringHeadWrites s v hset, ringHeadDiscarded s v hset, enableWrites s v hset, irqWrites s v hset⟩⟩

end Sys2Proof.Machine
end
